-- ==== Sys2Proof/Word.lean ====
section
/-! DEFINITION. The word types of the D64: a word is 16 bits, a pair 32, a quad 64 (R5); and the operands of some events,
which a command of the table carries as one. -/

namespace Sys2Proof

/-- A byte. -/
abbrev Byte := BitVec 8

/-- A word: 16 bits (R5). -/
abbrev Word := BitVec 16

/-- A list of numbered values in one canonical form: keys strictly rising, and no entry
equal to the value an unlisted key has. -/
abbrev KMap (α : Type) := List (Nat × α)

/-- The BAR of a host access, and its width: BAR2 also takes a QWORD (R404, R413). -/
inductive Bar where
  | bar0 | bar2 | bar2Quad
  deriving DecidableEq, Repr

/-- A write of a function's controls in configuration space (R404, R408): the Command register (bit 1 Memory Space
Enable, bit 2 Bus Master Enable), Device Control (bit 1 the reporting of non-fatal errors, bits 7 to 5 Max Payload Size,
bit 8 Extended Tags, bits 14 to 12 Max Read Request Size), the AER control (bit 6 ECRC generation, bit 8 ECRC checking),
or the AER status, whose bits a 1 clears. (PRESUMED, log 136) -/
inductive FnControl where
  | command (word : Nat)
  | device (word : Nat)
  | aerControl (word : Nat)
  | aerStatus (word : Nat)
  deriving DecidableEq, Repr

/-- What the comparators see at supply good (R458, R495): whether VBAT_TM kept the tamper domain alive, each rail in mV
(VDD_L0 to VDD_L3, VDD_C, VDD_NV, VDD_PHY, VDD_IO, VDD_AUX, and VBAT_TM where it is fitted), and HU_SENSE in mV with the
microseconds for which it has stood there. -/
structure SupplyIn where
  kept : Bool
  rails : List (Option Int)
  huSense : Nat
  huUs : Nat
  deriving DecidableEq, Repr

/-- What the Clocks phase finds: the anchor cells that a power collapse tore (R85), and the reference's deviation from
100 MHz in ppm (R450). -/
structure ClocksIn where
  torn : List Nat
  ppm : Int
  deriving DecidableEq, Repr

/-- A high or low phase of a monitored clock in 0.01 % of its nominal length: at any time, or within 1 µs before
power-fail detection (R431). -/
inductive ClockPhase where
  | usual (len : Int)
  | failing (len : Int)
  deriving DecidableEq, Repr

/-- A regulator's answers over PMBus: its VOUT_MODE byte and its READ_VOUT word (R456). -/
structure Regulator where
  mode : Nat
  vout : Nat
  deriving DecidableEq, Repr

/-- What holds the part in device reset: RESET_N or PERST_N low, or TEST_EN high, which acts as RESET_N low (R459,
R490). -/
inductive ResetLine where
  | resetN | perstN | testEn
  deriving DecidableEq, Repr

end Sys2Proof
end

