-- ==== Sys2Proof/Syntax.lean ====
section
/-! DEFINITION. The commands and events of the D64: one constructor for each row of the opcode table, in the
table's order. The operands are what a command names, and what the environment gives at an event: a frame that
arrives, a value that a sensor measures, and, where an event comes about by lapse of time, the microseconds `dt`
that pass before it. -/

namespace Sys2Proof


inductive Instr where
  /-- ECHO (R175). -/
  | echo (cmd : Nat)
  /-- GET_CAPABILITY (R139). -/
  | getCapability (cmd : Nat)
  /-- LEDGER_RESERVE (R31). -/
  | ledgerReserve (cmd : Nat)
  /-- LEDGER_CONFIRM (R31). -/
  | ledgerConfirm (cmd : Nat)
  /-- LEDGER_VOID (R31). -/
  | ledgerVoid (cmd : Nat)
  /-- LEDGER_READ (R166). -/
  | ledgerRead (cmd : Nat)
  /-- LEDGER_GATHER (R167). -/
  | ledgerGather (cmd : Nat)
  /-- LEDGER_RELEASE (R31). -/
  | ledgerRelease (cmd : Nat)
  /-- REALM_REBASE (R42). -/
  | realmRebase (cmd : Nat)
  /-- TXN_QUERY (R96). -/
  | txnQuery (cmd : Nat)
  /-- ISSUE (R170). -/
  | issue (cmd : Nat)
  /-- VALIDATE (R35). -/
  | validate (cmd : Nat)
  /-- VALIDATE_CONSUME (R35). -/
  | validateConsume (cmd : Nat)
  /-- REVALIDATE (R169). -/
  | revalidate (cmd : Nat)
  /-- MAC_GENERATE (R171). -/
  | macGenerate (cmd : Nat)
  /-- MAC_VERIFY (R171). -/
  | macVerify (cmd : Nat)
  /-- CIPHER (R171). -/
  | cipher (cmd : Nat)
  /-- SIGN (R171). -/
  | sign (cmd : Nat)
  /-- SIG_VERIFY (R171). -/
  | sigVerify (cmd : Nat)
  /-- DIGEST (R171). -/
  | digest (cmd : Nat)
  /-- ASSIGN (R306). -/
  | assign (cmd : Nat)
  /-- INSTALL (R306). -/
  | install (cmd : Nat)
  /-- PROMOTE (R306). -/
  | promote (cmd : Nat)
  /-- ATTRS (R306). -/
  | attrs (cmd : Nat)
  /-- KEY_INFO (R307). -/
  | keyInfo (cmd : Nat)
  /-- ATTEST (R318). -/
  | attest (cmd : Nat)
  /-- KEY_RETIRE (R307). -/
  | keyRetire (cmd : Nat)
  /-- APPLET_LOAD (R268). -/
  | appletLoad (cmd : Nat)
  /-- APPLET_BANK_WRITE (R269). -/
  | appletBankWrite (cmd : Nat)
  /-- APPLET_ACTIVATE (R271). -/
  | appletActivate (cmd : Nat)
  /-- APPLET_INFO (R172). -/
  | appletInfo (cmd : Nat)
  /-- MODE_ARM (R275). -/
  | modeArm (cmd : Nat)
  /-- MODE_FLIP (R275). -/
  | modeFlip (cmd : Nat)
  /-- MODE_FLIP_DEADLINE (R276). -/
  | modeFlipDeadline (dt : Nat) (cmd : Nat)
  /-- LANE_OPEN (R379). -/
  | laneOpen (cmd : Nat)
  /-- LANE_SEND (R173). -/
  | laneSend (cmd : Nat)
  /-- LANE_STATUS (R173). -/
  | laneStatus (cmd : Nat)
  /-- LANE_CLOSE (R379). -/
  | laneClose (cmd : Nat)
  /-- LANE_CLOSE_ABORT (R379). -/
  | laneCloseAbort (cmd : Nat)
  /-- CARD_ENUMERATE (R396). -/
  | cardEnumerate (cmd : Nat)
  /-- ENROL (R395). -/
  | enrol (cmd : Nat)
  /-- KEK_LOAD (R395). -/
  | kekLoad (cmd : Nat)
  /-- PROVISION (R20). -/
  | provision (cmd : Nat)
  /-- DECOMMISSION (R317). -/
  | decommission (cmd : Nat)
  /-- RETIRE_SLOT (R395). -/
  | retireSlot (cmd : Nat)
  /-- DRAW (R395). -/
  | draw (cmd : Nat)
  /-- SCUTTLE_POLICY (R440). -/
  | scuttlePolicy (cmd : Nat)
  /-- CARD_ADD (R395). -/
  | cardAdd (cmd : Nat)
  /-- CARD_REVOKE (R395). -/
  | cardRevoke (cmd : Nat)
  /-- SET_THRESHOLD (R395). -/
  | setThreshold (cmd : Nat)
  /-- SET_CUSTODY (R397). -/
  | setCustody (cmd : Nat)
  /-- QUOTA (R46). -/
  | quota (cmd : Nat)
  /-- SHARE (R122). -/
  | share (cmd : Nat)
  /-- LANE_BIND (R15). -/
  | laneBind (cmd : Nat)
  /-- HEDDLE_GRANT (R273). -/
  | heddleGrant (cmd : Nat)
  /-- FLUSH (R176). -/
  | flush (cmd : Nat)
  /-- FIRMWARE_STAGE (R465). -/
  | firmwareStage (cmd : Nat)
  /-- FIRMWARE_ACTIVATE (R464). -/
  | firmwareActivate (cmd : Nat)
  /-- FIRMWARE_RESTART (R464). -/
  | firmwareRestart
  /-- QUIESCE (R22). -/
  | quiesce (cmd : Nat)
  /-- RESUME (R22). -/
  | resume (cmd : Nat)
  /-- LOG_READ (R484). -/
  | logRead (cmd : Nat)
  /-- COUNTERS_READ (R480). -/
  | countersRead (cmd : Nat)
  /-- COMPACT_NOW (R92). -/
  | compactNow (cmd : Nat)
  /-- SQ_TAIL_DOORBELL (R147). -/
  | sqTailDoorbell (fn : Nat) (pair : Nat) (value : Nat)
  /-- CQ_HEAD_DOORBELL (R147). -/
  | cqHeadDoorbell (fn : Nat) (pair : Nat) (value : Nat)
  /-- QP_ENABLE (R154). -/
  | qpEnable (fn : Nat) (pair : Nat) (word : Nat)
  /-- QP_DISABLE (R176). -/
  | qpDisable (fn : Nat) (pair : Nat) (word : Nat)
  /-- WIN_ENABLE (R161). -/
  | winEnable (fn : Nat) (win : Nat) (word : Nat)
  /-- WIN_DISABLE (R160). -/
  | winDisable (fn : Nat) (win : Nat) (word : Nat)
  /-- PACKET_FETCH_DONE (R148). -/
  | packetFetchDone (fn : Nat) (pair : Nat) (words : Option (List Word))
  /-- DMA_READ_DEADLINE (R406). -/
  | dmaReadDeadline (dt : Nat) (fn : Nat) (pair : Nat) (cmd : Nat) (fetch : Bool)
  /-- ADMISSION_DECISION (R115). -/
  | admissionDecision (fn : Nat) (pair : Nat)
  /-- HEAD_DECISION_RELEASE (R164). -/
  | headDecisionRelease (dt : Nat) (fn : Nat) (pair : Nat)
  /-- DESCRIPTOR_READ_DONE (R159). -/
  | descriptorReadDone (cmd : Nat) (k : Nat) (data : Option (List Byte))
  /-- LOOKUP_RELEASE (R446). -/
  | lookupRelease (dt : Nat) (cmd : Nat) (failed : List Nat)
  /-- LEDGER_APPLY (R511). -/
  | ledgerApply (cmd : Nat)
  /-- NONCOMMIT_REPLY_RELEASE (R446). -/
  | noncommitReplyRelease (dt : Nat)
  /-- REPLY_WRITE (R149). -/
  | replyWrite
  /-- JOURNAL_TICK (R80). -/
  | journalTick (dt : Nat)
  /-- FRAME_SEAL (R81). -/
  | frameSeal
  /-- FRAME_PROGRAM (R81). -/
  | frameProgram
  /-- FRAME_ANCHOR (R82). -/
  | frameAnchor
  /-- REALM_TABLE_COPY_WRITE (R91). -/
  | realmTableCopyWrite
  /-- DIRECTORY_COPY_WRITE (R315). -/
  | directoryCopyWrite
  /-- BATCH_OPEN (R87). -/
  | batchOpen (failed : List Nat)
  /-- BATCH_STAGE_WRITE (R87). -/
  | batchStageWrite
  /-- BATCH_COMMIT (R87). -/
  | batchCommit
  /-- BATCH_COPY_BACK (R87). -/
  | batchCopyBack
  /-- BATCH_DONE (R87). -/
  | batchDone
  /-- HOLD_TIMER_EXPIRY (R38). -/
  | holdTimerExpiry (dt : Nat) (slot : Nat)
  /-- EXPIRY_SWEEP (R45). -/
  | expirySweep (dt : Nat) (pageFailed : Bool)
  /-- FREE_POOL_PREFETCH (R47). -/
  | freePoolPrefetch (pageFailed : Bool)
  /-- CAP_PUBLISH (R141). -/
  | capPublish (dt : Nat)
  /-- JOB_START (R255). -/
  | jobStart (heddle : Nat) (shuttle : Nat)
  /-- CYCLE_BUDGET_EXHAUSTED (R232). -/
  | cycleBudgetExhausted (sh : Nat)
  /-- STEWARD_INTERRUPT (R232). -/
  | stewardInterrupt (sh : Nat) (source : Nat)
  /-- LOCK_GRANT (R282). -/
  | lockGrant (heddle : Nat) (realm : Nat) (k : Nat)
  /-- LR_READ_DONE (R253). -/
  | lrReadDone (sh : Nat)
  /-- ENGINE_BLOCK_DONE (R323). -/
  | engineBlockDone (unit : Nat) (isCipher : Bool)
  /-- ENGINE_OP_DONE (R333). -/
  | engineOpDone (unit : Nat) (isCipher : Bool) (ch : Nat)
  /-- SIGNATURE_OP_DONE (R343). -/
  | signatureOpDone (sg : Nat)
  /-- KEY_DELIVERY (R310). -/
  | keyDelivery
  /-- ENGINE_CLEAR (R345). -/
  | engineClear (kind : Nat) (unit : Nat) (ch : Nat)
  /-- REMASK_STEP (R309). -/
  | remaskStep (dt : Nat)
  /-- DRBG_HEALTH_FAILURE (R297). -/
  | drbgHealthFailure
  /-- REENROL (R293). -/
  | reenrol (dt : Nat) (cells : List Byte)
  /-- NOP (R243). -/
  | nop (sh : Nat) (wait : Nat)
  /-- MOV (R243). -/
  | mov (sh : Nat) (wait : Nat)
  /-- CLR (R243). -/
  | clr (sh : Nat) (wait : Nat)
  /-- TAGOF (R243). -/
  | tagof (sh : Nat) (wait : Nat)
  /-- ADD (R244). -/
  | add (sh : Nat) (wait : Nat)
  /-- ADC (R244). -/
  | adc (sh : Nat) (wait : Nat)
  /-- SUB (R244). -/
  | sub (sh : Nat) (wait : Nat)
  /-- SBC (R244). -/
  | sbc (sh : Nat) (wait : Nat)
  /-- NEG (R244). -/
  | neg (sh : Nat) (wait : Nat)
  /-- MUL (R244). -/
  | mul (sh : Nat) (wait : Nat)
  /-- MULHU (R244). -/
  | mulhu (sh : Nat) (wait : Nat)
  /-- MULHS (R244). -/
  | mulhs (sh : Nat) (wait : Nat)
  /-- DIVU (R244). -/
  | divu (sh : Nat) (wait : Nat)
  /-- DIVS (R244). -/
  | divs (sh : Nat) (wait : Nat)
  /-- REMU (R244). -/
  | remu (sh : Nat) (wait : Nat)
  /-- REMS (R244). -/
  | rems (sh : Nat) (wait : Nat)
  /-- AND (R245). -/
  | and (sh : Nat) (wait : Nat)
  /-- OR (R245). -/
  | or (sh : Nat) (wait : Nat)
  /-- XOR (R245). -/
  | xor (sh : Nat) (wait : Nat)
  /-- ANDN (R245). -/
  | andn (sh : Nat) (wait : Nat)
  /-- NOT (R245). -/
  | not (sh : Nat) (wait : Nat)
  /-- LSL (R245). -/
  | lsl (sh : Nat) (wait : Nat)
  /-- LSR (R245). -/
  | lsr (sh : Nat) (wait : Nat)
  /-- ASR (R245). -/
  | asr (sh : Nat) (wait : Nat)
  /-- ROL (R245). -/
  | rol (sh : Nat) (wait : Nat)
  /-- ROR (R245). -/
  | ror (sh : Nat) (wait : Nat)
  /-- BFEXT (R246). -/
  | bfext (sh : Nat) (wait : Nat)
  /-- BFINS (R246). -/
  | bfins (sh : Nat) (wait : Nat)
  /-- CLZ (R246). -/
  | clz (sh : Nat) (wait : Nat)
  /-- BPERM (R246). -/
  | bperm (sh : Nat) (wait : Nat)
  /-- GATHER (R247). -/
  | gather (sh : Nat) (wait : Nat)
  /-- CMP (R249). -/
  | cmp (sh : Nat) (wait : Nat)
  /-- TST (R249). -/
  | tst (sh : Nat) (wait : Nat)
  /-- BR (R250). -/
  | br (sh : Nat) (wait : Nat)
  /-- CALL (R249). -/
  | call (sh : Nat) (wait : Nat)
  /-- RET (R249). -/
  | ret (sh : Nat) (wait : Nat)
  /-- LOOP (R223). -/
  | loop (sh : Nat) (wait : Nat)
  /-- RPT (R226). -/
  | rpt (sh : Nat) (wait : Nat)
  /-- TRAP (R251). -/
  | trap (sh : Nat) (wait : Nat)
  /-- TRET (R231). -/
  | tret (sh : Nat) (wait : Nat)
  /-- ESUB (R252). -/
  | esub (sh : Nat) (wait : Nat)
  /-- EWAIT (R252). -/
  | ewait (sh : Nat) (wait : Nat)
  /-- LRD (R254). -/
  | lrd (sh : Nat) (wait : Nat)
  /-- TOUT (R475). -/
  | tout (sh : Nat) (wait : Nat)
  /-- RESERVED_OPCODE (R237). -/
  | reservedOpcode (sh : Nat) (wait : Nat)
  /-- SUPPLY_GOOD (R460). -/
  | supplyGood (dt : Nat) (supply : SupplyIn) (envBad : Bool)
  /-- START_FUSES (R460). -/
  | startFuses (dt : Nat)
  /-- START_CLOCKS (R460). -/
  | startClocks (dt : Nat) (found : ClocksIn)
  /-- START_REGISTERS (R460). -/
  | startRegisters (dt : Nat)
  /-- START_BALLAST (R99). -/
  | startBallast (dt : Nat) (step : Nat) (drop : Nat) (trip : Nat) (least : Nat)
  /-- START_PLAN (R466). -/
  | startPlan (dt : Nat) (v0 : List Nat) (deltas : List Nat) (eol30 : List Nat) (vout : List (Option Regulator)) (forecast : Nat)
  /-- ENTROPY (R316). -/
  | entropy (dt : Nat) (good : Bool)
  /-- PUF_READ (R316). -/
  | pufRead (dt : Nat) (cells : List Byte)
  /-- EXTRACT (R292). -/
  | extract (dt : Nat)
  /-- DERIVE (R316). -/
  | derive (dt : Nat) (lost : List Nat)
  /-- START_FIRMWARE (R464). -/
  | startFirmware (dt : Nat) (damaged : List Nat)
  /-- RECOVERY_ANCHOR (R85). -/
  | recoveryAnchor (dt : Nat) (torn : List Nat)
  /-- RECOVERY_CHAIN (R104). -/
  | recoveryChain (dt : Nat) (lost : List Nat)
  /-- RECOVERY_TREE (R104). -/
  | recoveryTree (dt : Nat) (lost : List Nat)
  /-- RECOVERY_REPLAY (R104). -/
  | recoveryReplay (dt : Nat) (lost : List Nat)
  /-- RECOVERY_OUTCOMES (R104). -/
  | recoveryOutcomes (dt : Nat)
  /-- RECOVERY_WRITES (R104). -/
  | recoveryWrites (dt : Nat)
  /-- SLOTS (R315). -/
  | slots (dt : Nat) (damaged : List Nat)
  /-- RELEASE (R316). -/
  | release (dt : Nat)
  /-- START_STEWARD (R461). -/
  | startSteward (dt : Nat) (failed : List Nat)
  /-- START_SELF_TEST (R460). -/
  | startSelfTest (dt : Nat) (failed : List (Nat × Nat))
  /-- START_APPLETS (R460). -/
  | startApplets (dt : Nat) (lost : List Nat)
  /-- START_READY (R460). -/
  | startReady (dt : Nat)
  /-- POWER_FAIL_DETECT (R97). -/
  | powerFailDetect
  /-- SEAL_DRAIN_DONE (R97). -/
  | sealDrainDone
  /-- DEVICE_RESET (R459). -/
  | deviceReset (line : ResetLine)
  /-- HOT_RESET (R459). -/
  | hotReset
  /-- FLR (R408). -/
  | flr (fn : Nat)
  /-- BUS_MASTER_DISABLE (R408). -/
  | busMasterDisable (fn : Nat) (write : FnControl)
  /-- D3HOT_ENTRY (R408). -/
  | d3hotEntry (fn : Nat)
  /-- D0_RETURN (R408). -/
  | d0Return (fn : Nat)
  /-- VF_ENABLE_WRITE (R405). -/
  | vfEnableWrite (enable : Bool) (num : Nat)
  /-- MSIX_UNMASK (R408). -/
  | msixUnmask (fn : Nat) (vec : Option Nat) (word : Nat)
  /-- RESERVED_LOCATION_ACCESS (R414). -/
  | reservedLocationAccess (fn : Nat) (bar : Bar) (addr : Nat) (kind : Nat) (malformed : Bool)
  /-- MULTIWORD_MSW_READ (R419). -/
  | multiwordMswRead (fn : Nat) (bar : Bar) (addr : Nat)
  /-- IND_DATA (R422). -/
  | indData (write : Option Nat)
  /-- REGISTER_WRITE (R420). -/
  | registerWrite (fn : Nat) (bar : Bar) (addr : Nat) (value : Nat)
  /-- CFG_COMMIT (R424). -/
  | cfgCommit (value : Nat)
  /-- CFG_WALK (R424). -/
  | cfgWalk
  /-- IC_EOI (R426). -/
  | icEoi (value : Nat)
  /-- IC_MASK_SET (R428). -/
  | icMaskSet (value : Nat)
  /-- IC_MASK_CLR (R428). -/
  | icMaskClr (value : Nat)
  /-- IC_PEND_SET (R428). -/
  | icPendSet (value : Nat)
  /-- IC_PEND_CLR (R428). -/
  | icPendClr (value : Nat)
  /-- CP_CAL_APPLY (R455). -/
  | cpCalApply (value : Nat)
  /-- CAL_SLEW_END (R455). -/
  | calSlewEnd (dt : Nat)
  /-- SSC_ENABLE (R452). -/
  | sscEnable (word : Nat)
  /-- SSC_DISABLE (R452). -/
  | sscDisable (word : Nat)
  /-- LANE_PHY_DISABLE (R381). -/
  | lanePhyDisable (lane : Nat) (word : Nat)
  /-- CC_DISABLE (R403). -/
  | ccDisable (word : Nat)
  /-- PM_ENABLE (R505). -/
  | pmEnable
  /-- SVC_PARK_END (R505). -/
  | svcParkEnd
  /-- OB_LOG_SEL_LO (R484). -/
  | obLogSelLo (value : Nat)
  /-- OB_CNT_EVENT (R478). -/
  | obCntEvent (value : Nat)
  /-- TRACE_SYNC (R474). -/
  | traceSync
  /-- TRACE_LOST (R476). -/
  | traceLost
  /-- SMBUS_READ_WORD (R456). -/
  | smbusReadWord (addr : Nat) (cmd : Nat)
  /-- MARGIN_REPLAN (R466). -/
  | marginReplan (dt : Nat) (v0 : List Nat) (deltas : List Nat) (eol30 : List Nat) (vout : List (Option Regulator)) (forecast : Nat)
  /-- AGEING_TICK (R468). -/
  | ageingTick (dt : Nat)
  /-- CALENDAR_RETAIN_WRITE (R454). -/
  | calendarRetainWrite (dt : Nat)
  /-- ERA_WRAP (R453). -/
  | eraWrap (dt : Nat)
  /-- ENVELOPE_COMPARE (R432). -/
  | envelopeCompare (nets : List Nat)
  /-- CLOCK_WINDOW (R433). -/
  | clockWindow (region : Nat) (dev : Int) (osc : Int)
  /-- GLITCH_ISLAND (R431). -/
  | glitchIsland (island : Nat) (mv : Int) (failing : Bool)
  /-- SUPPLY_RANGE (R431). -/
  | supplyRange (rail : Nat) (mv : Int)
  /-- CLOCK_GLITCH (R431). -/
  | clockGlitch (region : Nat) (seen : ClockPhase)
  /-- LIGHT (R431). -/
  | light (uw : Nat)
  /-- TEMP_TRIP (R431). -/
  | tempTrip (n : Nat) (temp : Int)
  /-- TEMP_RATE (R431). -/
  | tempRate (n : Nat) (rate : Int)
  /-- TEMP_RANGE (R431). -/
  | tempRange (n : Nat) (temp : Int)
  /-- NEIGHBOUR (R457). -/
  | neighbour (mv : List Nat) (temp : List Int)
  /-- BALLAST_LOW (R431). -/
  | ballastLow (mv : Nat) (isOpen : Bool)
  /-- CFG_MISMATCH (R431). -/
  | cfgMismatch (dt : Nat)
  /-- L1_END (R435). -/
  | l1End (dt : Nat)
  /-- LOCKDOWN_ZEROISE_CORE (R437). -/
  | lockdownZeroiseCore
  /-- SCUTTLE_HELPER_FUSES (R439). -/
  | scuttleHelperFuses
  /-- SCUTTLE_ANCHOR_WIPE (R439). -/
  | scuttleAnchorWipe
  /-- SCUTTLE_COPY_WIPE (R439). -/
  | scuttleCopyWipe
  /-- LANE_PLACE_ENTRY (R186). -/
  | lanePlaceEntry (cmd : Nat)
  /-- WAKE_REQUEST (R353). -/
  | wakeRequest (lane : Nat)
  /-- LANE_RX_LOCK (R355). -/
  | laneRxLock (lane : Nat)
  /-- HELLO_S (R356). -/
  | helloS (lane : Nat) (frame : List Byte)
  /-- READY_S (R357). -/
  | readyS (lane : Nat) (frame : List Byte)
  /-- TIME_ECHO (R371). -/
  | timeEcho (lane : Nat) (rNs : Nat) (frame : List Byte)
  /-- ACK (R363). -/
  | ack (lane : Nat) (frame : List Byte)
  /-- SLEEP (R374). -/
  | sleep (lane : Nat) (frame : List Byte)
  /-- REPORT (R192). -/
  | report (lane : Nat) (frame : List Byte)
  /-- LATE_FAIL (R369). -/
  | lateFail (lane : Nat) (frame : List Byte)
  /-- CLOSE (R358). -/
  | close (lane : Nat) (frame : List Byte)
  /-- TIME_TICK (R371). -/
  | timeTick (dt : Nat) (lane : Nat)
  /-- LANE_RETX_TIMEOUT (R362). -/
  | laneRetxTimeout (dt : Nat) (lane : Nat)
  /-- LINK_LOSS (R358). -/
  | linkLoss (lane : Nat)
  /-- NO_FRAME_TIMEOUT (R358). -/
  | noFrameTimeout (dt : Nat) (lane : Nat)
  /-- BRINGUP_TIMEOUT (R355). -/
  | bringupTimeout (dt : Nat) (lane : Nat)
  /-- BRINGUP_RETRY (R355). -/
  | bringupRetry (dt : Nat) (lane : Nat)
  /-- DRIFT_WAKE (R375). -/
  | driftWake (dt : Nat) (lane : Nat)
  /-- SLEEP_IDLE_WAKE (R374). -/
  | sleepIdleWake (dt : Nat) (lane : Nat)
  /-- TIMED_WITHDRAW (R366). -/
  | timedWithdraw (dt : Nat) (lane : Nat)
  /-- FAIL_ENTRY_EXPIRY (R369). -/
  | failEntryExpiry (dt : Nat) (lane : Nat)
  /-- LANE_CLOSE_TIMEOUT (R379). -/
  | laneCloseTimeout (dt : Nat) (lane : Nat)
  /-- CARD_INSERTION (R393). -/
  | cardInsertion
  /-- CARD_REMOVAL_ALL (R393). -/
  | cardRemovalAll
  /-- ROLL_CALL_ROUND (R389). -/
  | rollCallRound (dt : Nat) (frames : List (Nat × List Byte × List Byte))
  /-- CARD_POLL (R393). -/
  | cardPoll (dt : Nat) (answers : List (Nat × List Byte))
  /-- CARD_BLOCK_TRANSFER (R390). -/
  | cardBlockTransfer (addr : Nat) (kind : Nat) (answer : List Byte) (data : List Byte)
  /-- CARD_HOLD_END (R390). -/
  | cardHoldEnd
  /-- CARD_DEBIT (R400). -/
  | cardDebit (cmd : Nat)
  /-- CARD_FINISH (R400). -/
  | cardFinish
  /-- CARD_RESOLVE (R402). -/
  | cardResolve (index : Nat)
  /-- APPROVAL_EXPIRY (R396). -/
  | approvalExpiry (dt : Nat)
  /-- IDCODE (R510). -/
  | idcode
  /-- SAMPLE (R510). -/
  | sample (cells : Nat)
  /-- PRELOAD (R510). -/
  | preload (cells : Nat)
  /-- EXTEST (R510). -/
  | extest
  /-- CLAMP (R510). -/
  | clamp
  /-- HIGHZ (R510). -/
  | highz
  /-- BYPASS (R510). -/
  | bypass
  /-- RESET_RELEASE (R459). -/
  | resetRelease (dt : Nat) (envBad : Bool)
  /-- POWER_DOWN (R442). -/
  | powerDown (vbat : Bool)
  /-- PCIE_LINK_UP (R138). -/
  | pcieLinkUp (dt : Nat) (width : Nat) (gen : Nat)
  /-- KEY_UPDATE_REPLY_RELEASE (R447). -/
  | keyUpdateReplyRelease (dt : Nat)
  /-- ALARM_PULSE_END (R449). -/
  | alarmPulseEnd (dt : Nat)
  /-- TEST_LOGIC_RESET (R510). -/
  | testLogicReset (dt : Nat) (envBad : Bool)
  /-- SCRUBBER_ERROR (R214). -/
  | scrubberError (kind : Nat) (n : Nat) (addr : Nat)
  /-- TEMP_WARN (R448). -/
  | tempWarn (n : Nat) (temp : Int)
  /-- LANE_BAD_FRAME (R361). -/
  | laneBadFrame (lane : Nat) (symbols : List Nat)
  deriving DecidableEq, Repr

end Sys2Proof
end

