-- ==== Sys2Proof/WellFormed.lean ====
section
/-! DEFINITION. Which commands name things that the D64 has: functions, pairs, lanes, shuttles and the rest. A command that
is not well formed has a meaning all the same: it changes nothing where it names nothing. -/

namespace Sys2Proof

/-- A function or a realm (R13). -/
def fnOk (n : Nat) : Bool := decide (n < 32)

/-- A queue pair of a function (R146). -/
def pairOk (n : Nat) : Bool := decide (n < 9)

/-- A host window (R158). -/
def winOk (n : Nat) : Bool := decide (n < 16)

/-- A 16-bit register value (R413). -/
def wordOk (n : Nat) : Bool := decide (n < 65536)

/-- A device heddle (R7). -/
def heddleOk (n : Nat) : Bool := decide (n < 24)

/-- A shuttle of a heddle (R8). -/
def ofShuttles (n : Nat) : Bool := decide (n < 8)

/-- A shuttle of the device (R8). -/
def shuttleOk (n : Nat) : Bool := decide (n < 192)

/-- An engine: 24 of the heddles, four steward channels (R325). -/
def unitOk (n : Nat) : Bool := decide (n < 28)

/-- A signature engine (R324). -/
def sgOk (n : Nat) : Bool := decide (n < 8)

/-- A lane (R351). -/
def laneOk (n : Nat) : Bool := decide (n < 64)

/-- A reading of the PUF array: 64 Kibit (R290). -/
def arrayOk (l : List Byte) : Bool := decide (l.length = 8192)

/-- A ledger slot (R26). -/
def slotOk (n : Nat) : Bool := decide (n < 33554432)

/-- An interrupt source (R427). -/
def sourceOk (n : Nat) : Bool := decide (n < 512)

/-- An entry of the custody table (R394). -/
def indexOk (n : Nat) : Bool := decide (n < 16)

/-- NumVFs (R405). -/
def numOk (n : Nat) : Bool := decide (n ≤ 31)

/-- A voltage island. -/
def islandOk (n : Nat) : Bool := decide (n < 5)

/-- A supply rail (R431). -/
def railOk (n : Nat) : Bool := decide (n < 10)

/-- A temperature sensor (R431). -/
def sensorOk (n : Nat) : Bool := decide (n < 20)

/-- A card address (R389). -/
def cardOk (n : Nat) : Bool := decide (1 ≤ n ∧ n ≤ 8)

/-- A region code (R430). -/
def regionOk (n : Nat) : Bool := decide (n < 256)

/-- A PCIe generation (R404). -/
def genOk (n : Nat) : Bool := decide (1 ≤ n ∧ n ≤ 5)

/-- A value that a write to a BAR carries: a DWORD, or a QWORD (R413). -/
def barOk (b : Bar) (v : Nat) : Bool := decide (v < if b = .bar2Quad then 2 ^ 64 else 2 ^ 32)

/-- A control write of a function: a 32-bit word. -/
def controlOk : FnControl → Bool
  | .command w => wordOk w
  | .device w => wordOk w
  | .aerControl w => decide (w < 2 ^ 32)
  | .aerStatus w => decide (w < 2 ^ 32)

/-- A link width (R404). -/
def widthOk (n : Nat) : Bool := n == 1 || n == 2 || n == 4 || n == 8

/-- An MSI-X vector of a function, or its Function Mask (R404). -/
def vectorOk (fn : Nat) (v : Option Nat) : Bool := fnOk fn && v.all (fun n => decide (n < if fn = 0 then 64 else 4))

/-- A value for IND_DATA, where it is written. -/
def dataOk (v : Option Nat) : Bool := v.all wordOk

/-- A packet of 32 words (R155). -/
def packetOk (w : Option (List Word)) : Bool := w.all (fun l => l.length == 32)

/-- A command names only what the D64 has. -/
def Instr.wellFormed (i : Instr) : Bool :=
  match i with
  | .sqTailDoorbell fn pair value => fnOk fn && pairOk pair && wordOk value
  | .cqHeadDoorbell fn pair value => fnOk fn && pairOk pair && wordOk value
  | .qpEnable fn pair word => fnOk fn && pairOk pair && wordOk word
  | .qpDisable fn pair word => fnOk fn && pairOk pair && wordOk word
  | .winEnable fn win word => fnOk fn && winOk win && wordOk word
  | .winDisable fn win word => fnOk fn && winOk win && wordOk word
  | .packetFetchDone fn pair words => fnOk fn && pairOk pair && packetOk words
  | .dmaReadDeadline _ fn pair _ _ => fnOk fn && pairOk pair
  | .admissionDecision fn pair => fnOk fn && pairOk pair
  | .headDecisionRelease _ fn pair => fnOk fn && pairOk pair
  | .holdTimerExpiry _ slot => slotOk slot
  | .jobStart heddle shuttle => heddleOk heddle && ofShuttles shuttle
  | .cycleBudgetExhausted sh => shuttleOk sh
  | .stewardInterrupt sh source => shuttleOk sh && sourceOk source
  | .lockGrant heddle realm _ => heddleOk heddle && fnOk realm
  | .lrReadDone sh => shuttleOk sh
  | .engineBlockDone unit _ => unitOk unit
  | .engineOpDone unit _ _ => unitOk unit
  | .signatureOpDone sg => sgOk sg
  | .engineClear _ unit _ => unitOk unit
  | .nop sh _ => shuttleOk sh
  | .mov sh _ => shuttleOk sh
  | .clr sh _ => shuttleOk sh
  | .tagof sh _ => shuttleOk sh
  | .add sh _ => shuttleOk sh
  | .adc sh _ => shuttleOk sh
  | .sub sh _ => shuttleOk sh
  | .sbc sh _ => shuttleOk sh
  | .neg sh _ => shuttleOk sh
  | .mul sh _ => shuttleOk sh
  | .mulhu sh _ => shuttleOk sh
  | .mulhs sh _ => shuttleOk sh
  | .divu sh _ => shuttleOk sh
  | .divs sh _ => shuttleOk sh
  | .remu sh _ => shuttleOk sh
  | .rems sh _ => shuttleOk sh
  | .and sh _ => shuttleOk sh
  | .or sh _ => shuttleOk sh
  | .xor sh _ => shuttleOk sh
  | .andn sh _ => shuttleOk sh
  | .not sh _ => shuttleOk sh
  | .lsl sh _ => shuttleOk sh
  | .lsr sh _ => shuttleOk sh
  | .asr sh _ => shuttleOk sh
  | .rol sh _ => shuttleOk sh
  | .ror sh _ => shuttleOk sh
  | .bfext sh _ => shuttleOk sh
  | .bfins sh _ => shuttleOk sh
  | .clz sh _ => shuttleOk sh
  | .bperm sh _ => shuttleOk sh
  | .gather sh _ => shuttleOk sh
  | .cmp sh _ => shuttleOk sh
  | .tst sh _ => shuttleOk sh
  | .br sh _ => shuttleOk sh
  | .call sh _ => shuttleOk sh
  | .ret sh _ => shuttleOk sh
  | .loop sh _ => shuttleOk sh
  | .rpt sh _ => shuttleOk sh
  | .trap sh _ => shuttleOk sh
  | .tret sh _ => shuttleOk sh
  | .esub sh _ => shuttleOk sh
  | .ewait sh _ => shuttleOk sh
  | .lrd sh _ => shuttleOk sh
  | .tout sh _ => shuttleOk sh
  | .reservedOpcode sh _ => shuttleOk sh
  | .flr fn => fnOk fn
  | .busMasterDisable fn w => fnOk fn && controlOk w
  | .d3hotEntry fn => fnOk fn
  | .d0Return fn => fnOk fn
  | .vfEnableWrite _ num => numOk num
  | .msixUnmask fn vec w => vectorOk fn vec && decide (w < 2 ^ 32)
  | .reservedLocationAccess fn _ _ _ _ => fnOk fn
  | .multiwordMswRead fn _ _ => fnOk fn
  | .indData write => dataOk write
  | .registerWrite fn bar _ v => fnOk fn && barOk bar v
  | .cfgCommit value => wordOk value
  | .icEoi value => wordOk value
  | .icMaskSet value => wordOk value
  | .icMaskClr value => wordOk value
  | .icPendSet value => wordOk value
  | .icPendClr value => wordOk value
  | .cpCalApply value => wordOk value
  | .sscEnable word => wordOk word
  | .sscDisable word => wordOk word
  | .lanePhyDisable lane word => laneOk lane && wordOk word
  | .ccDisable word => wordOk word
  | .obLogSelLo value => wordOk value
  | .obCntEvent value => wordOk value
  | .clockWindow region _ _ => regionOk region
  | .glitchIsland island _ _ => islandOk island
  | .supplyRange rail _ => railOk rail
  | .clockGlitch region _ => regionOk region
  | .tempTrip n _ => sensorOk n
  | .tempRate n _ => sensorOk n
  | .tempRange n _ => sensorOk n
  | .wakeRequest lane => laneOk lane
  | .laneRxLock lane => laneOk lane
  | .helloS lane _ => laneOk lane
  | .readyS lane _ => laneOk lane
  | .timeEcho lane _ _ => laneOk lane
  | .ack lane _ => laneOk lane
  | .sleep lane _ => laneOk lane
  | .report lane _ => laneOk lane
  | .lateFail lane _ => laneOk lane
  | .close lane _ => laneOk lane
  | .timeTick _ lane => laneOk lane
  | .laneRetxTimeout _ lane => laneOk lane
  | .linkLoss lane => laneOk lane
  | .noFrameTimeout _ lane => laneOk lane
  | .bringupTimeout _ lane => laneOk lane
  | .bringupRetry _ lane => laneOk lane
  | .driftWake _ lane => laneOk lane
  | .sleepIdleWake _ lane => laneOk lane
  | .timedWithdraw _ lane => laneOk lane
  | .failEntryExpiry _ lane => laneOk lane
  | .laneCloseTimeout _ lane => laneOk lane
  | .cardBlockTransfer addr _ _ _ => cardOk addr
  | .cardResolve index => indexOk index
  | .pcieLinkUp _ width gen => widthOk width && genOk gen
  | .tempWarn n _ => sensorOk n
  | .laneBadFrame lane _ => laneOk lane
  | .echo _ => true
  | .getCapability _ => true
  | .ledgerReserve _ => true
  | .ledgerConfirm _ => true
  | .ledgerVoid _ => true
  | .ledgerRead _ => true
  | .ledgerGather _ => true
  | .ledgerRelease _ => true
  | .realmRebase _ => true
  | .txnQuery _ => true
  | .issue _ => true
  | .validate _ => true
  | .validateConsume _ => true
  | .revalidate _ => true
  | .macGenerate _ => true
  | .macVerify _ => true
  | .cipher _ => true
  | .sign _ => true
  | .sigVerify _ => true
  | .digest _ => true
  | .assign _ => true
  | .install _ => true
  | .promote _ => true
  | .attrs _ => true
  | .keyInfo _ => true
  | .attest _ => true
  | .keyRetire _ => true
  | .appletLoad _ => true
  | .appletBankWrite _ => true
  | .appletActivate _ => true
  | .appletInfo _ => true
  | .modeArm _ => true
  | .modeFlip _ => true
  | .modeFlipDeadline _ _ => true
  | .laneOpen _ => true
  | .laneSend _ => true
  | .laneStatus _ => true
  | .laneClose _ => true
  | .laneCloseAbort _ => true
  | .cardEnumerate _ => true
  | .enrol _ => true
  | .kekLoad _ => true
  | .provision _ => true
  | .decommission _ => true
  | .retireSlot _ => true
  | .draw _ => true
  | .scuttlePolicy _ => true
  | .cardAdd _ => true
  | .cardRevoke _ => true
  | .setThreshold _ => true
  | .setCustody _ => true
  | .quota _ => true
  | .share _ => true
  | .laneBind _ => true
  | .heddleGrant _ => true
  | .flush _ => true
  | .firmwareStage _ => true
  | .firmwareActivate _ => true
  | .firmwareRestart => true
  | .quiesce _ => true
  | .resume _ => true
  | .logRead _ => true
  | .countersRead _ => true
  | .compactNow _ => true
  | .descriptorReadDone _ _ _ => true
  | .lookupRelease _ _ _ => true
  | .ledgerApply _ => true
  | .noncommitReplyRelease _ => true
  | .replyWrite => true
  | .journalTick _ => true
  | .frameSeal => true
  | .frameProgram => true
  | .frameAnchor => true
  | .realmTableCopyWrite => true
  | .directoryCopyWrite => true
  | .batchOpen _ => true
  | .batchStageWrite => true
  | .batchCommit => true
  | .batchCopyBack => true
  | .batchDone => true
  | .expirySweep _ _ => true
  | .freePoolPrefetch _ => true
  | .capPublish _ => true
  | .keyDelivery => true
  | .remaskStep _ => true
  | .drbgHealthFailure => true
  | .reenrol _ cells => arrayOk cells
  | .supplyGood _ _ _ => true
  | .startFuses _ => true
  | .startClocks _ _ => true
  | .startRegisters _ => true
  | .startBallast _ _ _ _ _ => true
  | .startPlan _ _ _ _ _ _ => true
  | .entropy _ _ => true
  | .pufRead _ cells => arrayOk cells
  | .extract _ => true
  | .derive _ _ => true
  | .startFirmware _ _ => true
  | .recoveryAnchor _ _ => true
  | .recoveryChain _ _ => true
  | .recoveryTree _ _ => true
  | .recoveryReplay _ _ => true
  | .recoveryOutcomes _ => true
  | .recoveryWrites _ => true
  | .slots _ _ => true
  | .release _ => true
  | .startSteward _ _ => true
  | .startSelfTest _ _ => true
  | .startApplets _ _ => true
  | .startReady _ => true
  | .powerFailDetect => true
  | .sealDrainDone => true
  | .deviceReset _ => true
  | .hotReset => true
  | .cfgWalk => true
  | .calSlewEnd _ => true
  | .pmEnable => true
  | .svcParkEnd => true
  | .traceSync => true
  | .traceLost => true
  | .smbusReadWord _ _ => true
  | .marginReplan _ _ _ _ _ _ => true
  | .ageingTick _ => true
  | .calendarRetainWrite _ => true
  | .eraWrap _ => true
  | .envelopeCompare _ => true
  | .light _ => true
  | .neighbour _ _ => true
  | .ballastLow _ _ => true
  | .cfgMismatch _ => true
  | .l1End _ => true
  | .lockdownZeroiseCore => true
  | .scuttleHelperFuses => true
  | .scuttleAnchorWipe => true
  | .scuttleCopyWipe => true
  | .lanePlaceEntry _ => true
  | .cardInsertion => true
  | .cardRemovalAll => true
  | .rollCallRound _ _ => true
  | .cardPoll _ _ => true
  | .cardHoldEnd => true
  | .cardDebit _ => true
  | .cardFinish => true
  | .approvalExpiry _ => true
  | .idcode => true
  | .sample _ => true
  | .preload _ => true
  | .extest => true
  | .clamp => true
  | .highz => true
  | .bypass => true
  | .resetRelease _ _ => true
  | .powerDown _ => true
  | .keyUpdateReplyRelease _ => true
  | .alarmPulseEnd _ => true
  | .testLogicReset _ _ => true
  | .scrubberError _ _ _ => true

end Sys2Proof
end

