-- ==== Sys2Proof/Decode.lean ====
section
/-! DEFINITION. The D64 takes commands, not words: no row of the opcode table carries bits, so no word spells a
command. -/

namespace Sys2Proof

/-- The command that a word spells by the bits of the opcode table: none, since no row has any. -/
def decodeTableWord (_nbits _w : Nat) : Option Instr := none

end Sys2Proof
end

