-- ==== Sys2Proof/Config.lean ====
section
/-! DEFINITION. What one device fixes for good (its fuses and what Chesevia wrote at
enrolment) and the free values of the model. The opaque ones have no body, so
nothing can be proved of their values; the others only gather their bytes in order (DESIGN CHOICE, log 9, 10). -/

namespace Sys2Proof

/-- A free value: what the spec leaves open after an operation that goes on, and every output
of the DRBG (R297). The first argument names the use, the second counts the draws. -/
opaque Config.freeValue : Nat → Nat → Nat

/-- The bytes of DEVICE_ID, fuses (R289). -/
opaque Config.deviceIdByte : Nat → Byte

/-- DEVICE_ID, 16 bytes. -/
def Config.deviceId : List Byte := (List.range 16).map Config.deviceIdByte

/-- GLB_STEP.STEP, the silicon step fuse (R415). -/
opaque Config.siliconStep : Byte

/-- The bytes of the firmware public key, fuses (R289). -/
opaque Config.firmwareKeyByte : Nat → Byte

/-- The firmware public key, 32 bytes. -/
def Config.firmwareKey : List Byte := (List.range 32).map Config.firmwareKeyByte

/-- The bytes of the root secret that a good PUF and helper copy regenerate (R290). -/
opaque Config.rootSecretByte : Nat → Byte

/-- The root secret, 32 bytes. -/
def Config.rootSecret : List Byte := (List.range 32).map Config.rootSecretByte

/-- The bytes of the ledger key that Chesevia wrapped at enrolment (R296). -/
opaque Config.ledgerKeyByte : Nat → Byte

/-- The ledger key, 32 bytes. -/
def Config.ledgerKey : List Byte := (List.range 32).map Config.ledgerKeyByte

/-- The bytes of the helper key, fuses (R289). -/
opaque Config.helperKeyByte : Nat → Byte

/-- The helper key, 32 bytes. -/
def Config.helperKey : List Byte := (List.range 32).map Config.helperKeyByte

/-- The concatenated repetition and BCH code of R290, whose parameters the spec does not give: the code word of a secret,
of a number of bits, and the secret of the nearest code word. -/
opaque Config.encodeSecret : List Byte → Nat → List Bool
opaque Config.decodeSecret : List Bool → List Byte

/-- The bytes of the map of stable cells that Chesevia wrote at enrolment, and of the array's reading then. -/
opaque Config.enrolMapByte : Nat → Byte
opaque Config.enrolCellByte : Nat → Byte

/-- The WRITE_COUNT of a node of the integrity tree as shipped: the spec states none. -/
opaque Config.shippedCount : Nat → Nat → Nat

/-- The shipped firmware: its version word, the length of its steward code, and the code words. The spec
gives none of them. -/
opaque Config.fwVersion : Nat
opaque Config.fwCodeLen : Nat
opaque Config.fwCode : Nat → Nat

/-- The levels at which the board drives the service balls at an instant: an input that nothing here fixes (R504). -/
opaque Config.boardLevels : Nat → BitVec 64

end Sys2Proof
end

