-- ==== Sys2Proof/Machine/Hash.lean ====
section
/-! DEFINITION. SHA-256, SHA-384, SHA-512 (FIPS 180-4), HMAC (FIPS 198-1), on byte lists (R6). PRESUMED (log 11): the algorithms are those of the
standards the spec names. -/

namespace Sys2Proof.Machine

/-- A number as `n` bytes, most significant first. -/
def beBytes : Nat → Nat → List Byte
  | 0, _ => []
  | n + 1, v => BitVec.ofNat 8 (v / 256 ^ n) :: beBytes n v

/-- A number as `n` bytes, least significant first. -/
def leBytes : Nat → Nat → List Byte
  | 0, _ => []
  | n + 1, v => BitVec.ofNat 8 v :: leBytes n (v / 256)

/-- The number that bytes spell, most significant first. -/
def beNat (bs : List Byte) : Nat := bs.foldl (fun a b => a * 256 + b.toNat) 0

/-- The number that bytes spell, least significant first. -/
def leNat (bs : List Byte) : Nat := bs.foldr (fun b a => a * 256 + b.toNat) 0

/-- A list cut into pieces of `n` elements, with the number of pieces as fuel. -/
def chunksN {α : Type} (n : Nat) : Nat → List α → List (List α)
  | 0, _ => []
  | f + 1, l => if l.isEmpty then [] else l.take n :: chunksN n f (l.drop n)

/-- A list cut into pieces of `n` elements. -/
def chunks {α : Type} (n : Nat) (l : List α) : List (List α) := chunksN n (l.length + 1) l

/-- The least multiple of a that is at least n. -/
def ceilTo (a n : Nat) : Nat := (n + a - 1) / a * a

/-- A row of a constant table as its four 64-bit constants, the first in the highest bits. -/
def shaRow (v : Nat) : List Nat := [v / 2 ^ 192, v / 2 ^ 128, v / 2 ^ 64, v].map (fun q => q % 2 ^ 64)

/-- The first 64 bits of the fractional parts of the cube roots of the first 80 primes: the round constants of SHA-384
and SHA-512, whose upper halves are those of SHA-256. -/
def shaCubes : List Nat :=
  ([0x428a2f98d728ae227137449123ef65cdb5c0fbcfec4d3b2fe9b5dba58189dbbc,
    0x3956c25bf348b53859f111f1b605d019923f82a4af194f9bab1c5ed5da6d8118,
    0xd807aa98a303024212835b0145706fbe243185be4ee4b28c550c7dc3d5ffb4e2,
    0x72be5d74f27b896f80deb1fe3b1696b19bdc06a725c71235c19bf174cf692694,
    0xe49b69c19ef14ad2efbe4786384f25e30fc19dc68b8cd5b5240ca1cc77ac9c65,
    0x2de92c6f592b02754a7484aa6ea6e4835cb0a9dcbd41fbd476f988da831153b5,
    0x983e5152ee66dfaba831c66d2db43210b00327c898fb213fbf597fc7beef0ee4,
    0xc6e00bf33da88fc2d5a79147930aa72506ca6351e003826f142929670a0e6e70,
    0x27b70a8546d22ffc2e1b21385c26c9264d2c6dfc5ac42aed53380d139d95b3df,
    0x650a73548baf63de766a0abb3c77b2a881c2c92e47edaee692722c851482353b] ++
   [0xa2bfe8a14cf10364a81a664bbc423001c24b8b70d0f89791c76c51a30654be30,
    0xd192e819d6ef5218d69906245565a910f40e35855771202a106aa07032bbd1b8,
    0x19a4c116b8d2d0c81e376c085141ab532748774cdf8eeb9934b0bcb5e19b48a8,
    0x391c0cb3c5c95a634ed8aa4ae3418acb5b9cca4f7763e373682e6ff3d6b2b8a3,
    0x748f82ee5defb2fc78a5636f43172f6084c87814a1f0ab728cc702081a6439ec,
    0x90befffa23631e28a4506cebde82bde9bef9a3f7b2c67915c67178f2e372532b,
    0xca273eceea26619cd186b8c721c0c207eada7dd6cde0eb1ef57d4f7fee6ed178,
    0x06f067aa72176fba0a637dc5a2c898a6113f9804bef90dae1b710b35131c471b,
    0x28db77f523047d8432caab7b40c724933c9ebe0a15c9bebc431d67c49c100d4c,
    0x4cc5d4becb3e42b6597f299cfc657e2a5fcb6fab3ad6faec6c44198c4a475817]).flatMap shaRow

/-- The first 64 bits of the fractional parts of the square roots of primes 1 to 8, and of primes 9 to 16. -/
def shaRoots : List Nat := [0x6a09e667f3bcc908bb67ae8584caa73b3c6ef372fe94f82ba54ff53a5f1d36f1,
   0x510e527fade682d19b05688c2b3e6c1f1f83d9abfb41bd6b5be0cd19137e2179].flatMap shaRow
def shaRoots9 : List Nat := [0xcbbb9d5dc1059ed8629a292a367cd5079159015a3070dd17152fecd8f70e5939,
   0x67332667ffc00b318eb44a8768581511db0c2e0d64f98fa747b5481dbefa4fa4].flatMap shaRow

/-- What the two word sizes of SHA-2 differ in: bytes of a word, rounds, the rotations of the four sigma functions
(two and a third, which for the small ones is a shift), the part of a 64-bit constant that is taken. -/
structure ShaSize (w : Nat) where
  bytes : Nat
  rounds : Nat
  big1 : Nat × Nat × Nat
  big0 : Nat × Nat × Nat
  small1 : Nat × Nat × Nat
  small0 : Nat × Nat × Nat
  drop : Nat

def shaSize32 : ShaSize 32 :=
  { bytes := 4, rounds := 64, drop := 32
    big0 := (2, 13, 22), big1 := (6, 11, 25), small0 := (7, 18, 3), small1 := (17, 19, 10) }

def shaSize64 : ShaSize 64 :=
  { bytes := 8, rounds := 80, drop := 0
    big0 := (28, 34, 39), big1 := (14, 18, 41), small0 := (1, 8, 7), small1 := (19, 61, 6) }

variable {w : Nat}

/-- A constant cut to the word size. -/
def ShaSize.cut (z : ShaSize w) (v : Nat) : BitVec w := BitVec.ofNat w (v / 2 ^ z.drop)

/-- A sigma function: three rotations, or two rotations and a shift. -/
def sigmaBig (r : Nat × Nat × Nat) (x : BitVec w) : BitVec w := x.rotateRight r.2.2 ^^^ (x.rotateRight r.2.1 ^^^ x.rotateRight r.1)
def sigmaSmall (r : Nat × Nat × Nat) (x : BitVec w) : BitVec w := (x >>> r.2.2) ^^^ (x.rotateRight r.2.1 ^^^ x.rotateRight r.1)

/-- The next n words of a schedule from its last sixteen, the newest first. -/
def shaNext (z : ShaSize w) : Nat → List (BitVec w) → List (BitVec w)
  | 0, _ => []
  | n + 1, l =>
    let x := sigmaSmall z.small1 (l.getD 1 0) + l.getD 6 0 + (sigmaSmall z.small0 (l.getD 14 0) + l.getD 15 0)
    x :: shaNext z n (x :: l.take 15)

/-- The eight working variables, of which a round moves six on and makes two. -/
structure ShaVars (w : Nat) where
  abc : BitVec w × BitVec w × BitVec w
  d : BitVec w
  efg : BitVec w × BitVec w × BitVec w
  h : BitVec w

/-- One round, with the sum of its constant and its schedule word: `ch` picks f where e is 1 and g where it is 0, `maj`
is 1 where at least two of a, b, c are. -/
def shaRound (z : ShaSize w) (v : ShaVars w) (k : BitVec w) : ShaVars w :=
  match v with
  | ⟨(a, b, c), d, (e, f, g), h⟩ =>
    let ch := g ^^^ (e &&& (f ^^^ g))
    let maj := (a &&& (b ||| c)) ||| (b &&& c)
    let x := k + h + ch + sigmaBig z.big1 e
    ⟨(x + maj + sigmaBig z.big0 a, a, b), c, (d + x, e, f), g⟩

/-- The next hash value from a block. -/
def shaBlock (z : ShaSize w) (hash : List (BitVec w)) (block : List Byte) : List (BitVec w) :=
  let m := (chunks z.bytes block).map (fun c => BitVec.ofNat w (beNat c))
  let sched := m ++ shaNext z (z.rounds - 16) m.reverse
  let x := fun i => hash.getD i 0
  let start : ShaVars w := ⟨(x 0, x 1, x 2), x 3, (x 4, x 5, x 6), x 7⟩
  match ((shaCubes.take z.rounds).zip sched).foldl (fun v p => shaRound z v (z.cut p.1 + p.2)) start with
  | ⟨(a, b, c), d, (e, f, g), h⟩ => [x 0 + a, x 1 + b, x 2 + c, x 3 + d, x 4 + e, x 5 + f, x 6 + g, x 7 + h]

/-- The message in blocks of sixteen words: it ends with a 1 bit, the fewest 0 bits, and its length in bits in two
words. -/
def shaBlocks (z : ShaSize w) (m : List Byte) : List (List Byte) :=
  let used := m.length + 1 + 2 * z.bytes
  let fill := ceilTo (16 * z.bytes) used - used
  chunks (16 * z.bytes) (m ++ 0x80 :: List.replicate fill 0 ++ beBytes (2 * z.bytes) (8 * m.length))

/-- A hash: the words of the last hash value in order. -/
def shaOver (z : ShaSize w) (start : List Nat) (m : List Byte) : List Byte :=
  ((shaBlocks z m).foldl (shaBlock z) (start.map z.cut)).flatMap (fun x => beBytes z.bytes x.toNat)

/-- SHA-256 of a message. (PRESUMED, log 11) -/
def sha256 (m : List Byte) : List Byte := shaOver shaSize32 shaRoots m

/-- SHA-512 of a message. -/
def sha512 (m : List Byte) : List Byte := shaOver shaSize64 shaRoots m

/-- SHA-384 of a message: six of the eight words. -/
def sha384 (m : List Byte) : List Byte := (shaOver shaSize64 shaRoots9 m).take 48

/-- HMAC over a hash with block size `blk`. -/
def hmacWith (hash : List Byte → List Byte) (blk : Nat) (key m : List Byte) : List Byte :=
  let k0 := if blk < key.length then hash key else key
  let k := k0 ++ List.replicate (blk - k0.length) 0
  hash (k.map (fun b => b ^^^ 0x5C) ++ hash (k.map (fun b => b ^^^ 0x36) ++ m))

/-- HMAC-SHA-256. -/
def hmac256 (key m : List Byte) : List Byte := hmacWith sha256 64 key m

end Sys2Proof.Machine
end

