-- ==== Sys2Proof/Machine/Aes.lean ====
section
/-! DEFINITION. AES-128 and AES-256 (FIPS 197), the modes of SP 800-38A the part offers, CMAC
(SP 800-38B) and AES Key Wrap (RFC 3394), on byte lists (R6). PRESUMED (log 11): the algorithms are those of
the standards the spec names. -/

namespace Sys2Proof.Machine

/-- Multiplication by x in the field of AES. -/
def xtime (b : Byte) : Byte := (b <<< 1) ^^^ (if b.msb then 0x1B else 0)

/-- Multiplication in the field of AES, by the bits of the left factor. -/
def gmulN : Nat → Byte → Byte → Byte
  | 0, _, _ => 0
  | n + 1, a, b => (if a.getLsbD 0 then b else 0) ^^^ gmulN n (a >>> 1) (xtime b)

/-- Multiplication in the field of AES. -/
def gmul (a b : Byte) : Byte := gmulN 8 a b

/-- The inverse in the field of AES, 0 of 0: the 254th power. -/
def ginv (a : Byte) : Byte :=
  let a2 := gmul a a
  let a4 := gmul a2 a2
  let a8 := gmul a4 a4
  let a16 := gmul a8 a8
  let a32 := gmul a16 a16
  let a64 := gmul a32 a32
  let a128 := gmul a64 a64
  gmul a128 (gmul a64 (gmul a32 (gmul a16 (gmul a8 (gmul a4 a2)))))

/-- The S-box as its formula. -/
def sboxOf (a : Byte) : Byte :=
  let b := ginv a
  b ^^^ b.rotateLeft 1 ^^^ b.rotateLeft 2 ^^^ b.rotateLeft 3 ^^^ b.rotateLeft 4 ^^^ 0x63

/-- The S-box as a table. -/
def sboxTable : Array Byte := ((List.range 256).map (fun i => sboxOf (BitVec.ofNat 8 i))).toArray

/-- The S-box. -/
def sbox (b : Byte) : Byte := sboxTable.getD b.toNat 0

/-- The inverse S-box as a table. -/
def invSboxTable : Array Byte :=
  ((List.range 256).foldl (fun t i => t.setIfInBounds (sbox (BitVec.ofNat 8 i)).toNat (BitVec.ofNat 8 i))
    (Array.replicate 256 0))

/-- The inverse S-box. -/
def invSbox (b : Byte) : Byte := invSboxTable.getD b.toNat 0

/-- Bytewise XOR of two lists, as long as the shorter. -/
def xorBytes (a b : List Byte) : List Byte := List.zipWith (fun x y => x ^^^ y) a b

/-- The expanded key's four-byte words, newest first: `n` further words after `i`. -/
def expandKey (nk : Nat) : Nat → Nat → Byte → List (List Byte) → List (List Byte)
  | 0, _, _, ws => ws
  | n + 1, i, rc, ws =>
    let prev := ws.getD 0 []
    let back := ws.getD (nk - 1) []
    if i % nk = 0 then
      let t := match prev.map sbox with
        | a :: r => r ++ [a]
        | [] => []
      let t := match t with
        | a :: r => (a ^^^ rc) :: r
        | [] => []
      expandKey nk n (i + 1) (xtime rc) (xorBytes back t :: ws)
    else if nk = 8 ∧ i % 8 = 4 then
      expandKey nk n (i + 1) rc (xorBytes back (prev.map sbox) :: ws)
    else
      expandKey nk n (i + 1) rc (xorBytes back prev :: ws)

/-- The round keys, 16 bytes each, first round first. -/
def roundKeys (key : List Byte) : List (List Byte) :=
  let nk := key.length / 4
  let nr := nk + 6
  let ws := expandKey nk (4 * (nr + 1) - nk) nk 1 (chunks 4 key).reverse
  (chunks 4 ws.reverse).map List.flatten

/-- The rows shifted: byte i of the result is byte 5i mod 16. -/
def shiftRows (s : List Byte) : List Byte := (List.range 16).map (fun i => s.getD (5 * i % 16) 0)

/-- The rows shifted back. -/
def invShiftRows (s : List Byte) : List Byte := (List.range 16).map (fun i => s.getD (13 * i % 16) 0)

/-- A byte times one of the factors of MixColumns and its inverse. -/
def mulBy (k : Nat) (b : Byte) : Byte :=
  match k with
  | 1 => b
  | 2 => xtime b
  | 3 => xtime b ^^^ b
  | 9 => xtime (xtime (xtime b)) ^^^ b
  | 11 => xtime (xtime (xtime b) ^^^ b) ^^^ b
  | 13 => xtime (xtime (xtime b ^^^ b)) ^^^ b
  | _ => xtime (xtime (xtime b ^^^ b) ^^^ b)

/-- One column times the matrix whose first row is given: FIPS 197. -/
def mixWith (m : List Nat) (c : List Byte) : List Byte :=
  match m, c with
  | [p, q, r, t], [a, b, d, e] =>
    [mulBy p a ^^^ mulBy q b ^^^ mulBy r d ^^^ mulBy t e, mulBy t a ^^^ mulBy p b ^^^ mulBy q d ^^^ mulBy r e,
     mulBy r a ^^^ mulBy t b ^^^ mulBy p d ^^^ mulBy q e, mulBy q a ^^^ mulBy r b ^^^ mulBy t d ^^^ mulBy p e]
  | _, _ => c

/-- Every column mixed. -/
def mixColumns (m : List Nat) (s : List Byte) : List Byte := (chunks 4 s).flatMap (mixWith m)

/-- The rounds after the first key addition; the last round mixes no column. -/
def encRounds : List (List Byte) → List Byte → List Byte
  | [], s => s
  | [k], s => xorBytes k (shiftRows (s.map sbox))
  | k :: ks, s => encRounds ks (xorBytes k (mixColumns [2, 3, 1, 1] (shiftRows (s.map sbox))))

/-- AES encryption of a block under round keys. -/
def aesWith (rk : List (List Byte)) (blk : List Byte) : List Byte :=
  match rk with
  | [] => blk
  | k :: ks => encRounds ks (xorBytes k blk)

/-- One block enciphered. -/
def aesEnc (key blk : List Byte) : List Byte := aesWith (roundKeys key) blk

/-- The inverse rounds, with the round keys last first. -/
def decRounds : List (List Byte) → List Byte → List Byte
  | [], s => s
  | [k], s => xorBytes k ((invShiftRows s).map invSbox)
  | k :: ks, s =>
    decRounds ks (mixColumns [14, 11, 13, 9] (xorBytes k ((invShiftRows s).map invSbox)))

/-- One block deciphered. -/
def aesDec (key blk : List Byte) : List Byte :=
  match (roundKeys key).reverse with
  | [] => blk
  | k :: ks => decRounds ks (xorBytes k blk)

/-- CTR mode: the keystream for `n` blocks from a counter block whose last `w` bytes count. -/
def ctrStream (rk : List (List Byte)) (pre : List Byte) (w : Nat) : Nat → Nat → List Byte
  | 0, _ => []
  | n + 1, c => aesWith rk (pre ++ beBytes w c) ++ ctrStream rk pre w n (c + 1)

/-- CTR mode with a fixed prefix and a counter of `w` bytes that starts at `c`. -/
def ctr (key pre : List Byte) (w c : Nat) (m : List Byte) : List Byte :=
  xorBytes m (ctrStream (roundKeys key) pre w ((m.length + 15) / 16) c)

/-- CBC encryption. -/
def cbcEnc (key : List Byte) : List Byte → List (List Byte) → List Byte
  | _, [] => []
  | iv, b :: bs => let c := aesEnc key (xorBytes iv b); c ++ cbcEnc key c bs

/-- CBC decryption. -/
def cbcDec (key : List Byte) : List Byte → List (List Byte) → List Byte
  | _, [] => []
  | iv, c :: cs => xorBytes iv (aesDec key c) ++ cbcDec key c cs

/-- CFB-128 encryption. -/
def cfbEnc (key : List Byte) : List Byte → List (List Byte) → List Byte
  | _, [] => []
  | iv, b :: bs => let c := xorBytes b (aesEnc key iv); c ++ cfbEnc key c bs

/-- CFB-128 decryption. -/
def cfbDec (key : List Byte) : List Byte → List (List Byte) → List Byte
  | _, [] => []
  | iv, c :: cs => xorBytes c (aesEnc key iv) ++ cfbDec key c cs

/-- OFB: the keystream is the cipher's own output fed back. -/
def ofb (key : List Byte) : List Byte → List (List Byte) → List Byte
  | _, [] => []
  | iv, b :: bs => let o := aesEnc key iv; xorBytes b o ++ ofb key o bs

/-- Doubling in the field of CMAC. -/
def cmacDbl (b : List Byte) : List Byte :=
  let v := beNat b * 2
  if v < 2 ^ 128 then beBytes 16 v else xorBytes (beBytes 16 v) (beBytes 16 0x87)

/-- The CBC chain of CMAC. -/
def cmacChain (key : List Byte) : List Byte → List (List Byte) → List Byte
  | x, [] => x
  | x, b :: bs => cmacChain key (aesEnc key (xorBytes x b)) bs

/-- AES-CMAC of a message. -/
def cmac (key m : List Byte) : List Byte :=
  let k1 := cmacDbl (aesEnc key (List.replicate 16 0))
  let n := if m.isEmpty then 0 else (m.length - 1) / 16
  let last := m.drop (16 * n)
  let lastB := if last.length = 16 then xorBytes last k1
    else xorBytes (last ++ [0x80] ++ List.replicate (15 - last.length) 0) (cmacDbl k1)
  cmacChain key (List.replicate 16 0) (chunks 16 (m.take (16 * n)) ++ [lastB])

/-- One pass of the wrap over the registers: steps `t` up from `t0`. -/
def kwPass (key : List Byte) : Nat → List Byte → List (List Byte) → List Byte × List (List Byte)
  | _, a, [] => (a, [])
  | t, a, r :: rs =>
    let b := aesEnc key (a ++ r)
    let (a', rs') := kwPass key (t + 1) (xorBytes (b.take 8) (beBytes 8 t)) rs
    (a', b.drop 8 :: rs')

/-- The six passes of the wrap. -/
def kwPasses (key : List Byte) (n : Nat) : Nat → Nat → List Byte → List (List Byte) → List Byte × List (List Byte)
  | 0, _, a, rs => (a, rs)
  | j + 1, t, a, rs =>
    let (a', rs') := kwPass key t a rs
    kwPasses key n j (t + n) a' rs'

/-- AES Key Wrap of whole 8-byte registers. -/
def keyWrap (key m : List Byte) : List Byte :=
  let rs := chunks 8 m
  let (a, rs') := kwPasses key rs.length 6 1 (List.replicate 8 0xA6) rs
  a ++ rs'.flatten

/-- One pass of the unwrap, registers last first: steps `t` down. -/
def kuPass (key : List Byte) : Nat → List Byte → List (List Byte) → List Byte × List (List Byte)
  | _, a, [] => (a, [])
  | t, a, r :: rs =>
    let b := aesDec key (xorBytes a (beBytes 8 t) ++ r)
    let (a', rs') := kuPass key (t - 1) (b.take 8) rs
    (a', b.drop 8 :: rs')

/-- The six passes of the unwrap, registers last first. -/
def kuPasses (key : List Byte) (n : Nat) : Nat → Nat → List Byte → List (List Byte) → List Byte × List (List Byte)
  | 0, _, a, rs => (a, rs)
  | j + 1, t, a, rs =>
    let (a', rs') := kuPass key t a rs
    kuPasses key n j (t - n) a' rs'

/-- AES Key Unwrap: the plaintext, or none where the integrity value fails. -/
def keyUnwrap (key c : List Byte) : Option (List Byte) :=
  if c.length % 8 ≠ 0 ∨ c.length < 24 then none else
  let rs := chunks 8 (c.drop 8)
  let (a, rs') := kuPasses key rs.length 6 (6 * rs.length) (c.take 8) rs.reverse
  if a = List.replicate 8 (0xA6 : Byte) then some rs'.reverse.flatten else none

/-- The blocks of the SP 800-108 counter-mode KDF with CMAC over AES-256 (R294). -/
def kdfBlocks (key label context : List Byte) (bits : Nat) : Nat → Nat → List Byte
  | 0, _ => []
  | n + 1, i =>
    cmac key (beBytes 1 i ++ label ++ [0] ++ context ++ beBytes 2 bits)
      ++ kdfBlocks key label context bits n (i + 1)

/-- KDF(K, label, context, L) with a whole number of bytes in L (R294). -/
def kdf (key label context : List Byte) (bits : Nat) : List Byte :=
  (kdfBlocks key label context bits ((bits + 127) / 128) 1).take (bits / 8)

end Sys2Proof.Machine
end

