-- ==== Sys2Proof/Machine/Codec.lean ====
section
/-! DEFINITION. Words, bytes and CRCs (R5, R27, R84), the fields of a ledger record (R26 to R30)
and the layouts of journal entries (R75 to R79). -/

namespace Sys2Proof.Machine

/-! ### Words and bytes -/

/-- Bits hi to lo of a number. -/
def bits (v hi lo : Nat) : Nat := v / 2 ^ lo % 2 ^ (hi + 1 - lo)

/-- Bit i of a number. -/
def bit (v i : Nat) : Bool := v.testBit i

/-- A Bool as 0 or 1. -/
def b2n (b : Bool) : Nat := if b then 1 else 0

/-- Word i of a list as a number; 0 beyond its end. -/
def wd (l : List Word) (i : Nat) : Nat := (l.getD i 0).toNat

/-- A number as a word. -/
def ofW (n : Nat) : Word := BitVec.ofNat 16 n

/-- The pair at words i and i + 1, least significant word first (R5). -/
def pairAt (l : List Word) (i : Nat) : Nat := wd l i + 65536 * wd l (i + 1)

/-- The quad at words i to i + 3. -/
def quadAt (l : List Word) (i : Nat) : Nat := pairAt l i + 4294967296 * pairAt l (i + 2)

/-- A list with word i replaced. -/
def setW (l : List Word) (i v : Nat) : List Word := l.set i (ofW v)

/-- A list with the pair at i replaced. -/
def setPair (l : List Word) (i v : Nat) : List Word := setW (setW l i v) (i + 1) (v / 65536)

/-- A number as n words, least significant first. -/
def leWords : Nat → Nat → List Word
  | 0, _ => []
  | n + 1, v => ofW v :: leWords n (v / 65536)

/-- A number as n words, given as numbers. -/
def leNats : Nat → Nat → List Nat
  | 0, _ => []
  | n + 1, v => v % 65536 :: leNats n (v / 65536)

/-- Words in storage order as bytes: byte 0 of a word is bits 7 to 0 (R5). -/
def wordBytes (l : List Word) : List Byte := l.flatMap (fun w => leBytes 2 w.toNat)

/-- Bytes as words; an odd last byte has 0 above it. -/
def bytesWords (l : List Byte) : List Word := (chunks 2 l).map (fun c => ofW (leNat c))

/-- A list cut or filled to n elements. -/
def padTo {α : Type} (n : Nat) (d : α) (l : List α) : List α := l.take n ++ List.replicate (n - l.length) d

/-- Saturating increment. -/
def satInc (v top : Nat) : Nat := if v < top then v + 1 else v

/-- The smallest integer not below a / b. -/
def ceilDiv (a b : Nat) : Nat := (a + b - 1) / b

/-! ### Checks -/

/-- One bit of the CRC-16 shift. -/
def crc16Bit (c : BitVec 16) : BitVec 16 := if c.msb then (c <<< 1) ^^^ 0x1021 else c <<< 1

/-- One byte into the CRC-16. -/
def crc16Byte (c : BitVec 16) (b : Byte) : BitVec 16 :=
  let x := c ^^^ (b.setWidth 16 <<< 8)
  crc16Bit (crc16Bit (crc16Bit (crc16Bit (crc16Bit (crc16Bit (crc16Bit (crc16Bit x)))))))

/-- CRC-16/CCITT: polynomial 0x1021, initial 0xFFFF, no reflection, no final XOR (R27). -/
def crc16 (bs : List Byte) : BitVec 16 := bs.foldl crc16Byte 0xFFFF

/-- One bit of the reflected CRC-32 shift. -/
def crc32Bit (c : BitVec 32) : BitVec 32 := if c.getLsbD 0 then (c >>> 1) ^^^ 0xEDB88320 else c >>> 1

/-- One byte into the CRC-32. -/
def crc32Byte (c : BitVec 32) (b : Byte) : BitVec 32 :=
  let x := c ^^^ b.setWidth 32
  crc32Bit (crc32Bit (crc32Bit (crc32Bit (crc32Bit (crc32Bit (crc32Bit (crc32Bit x)))))))

/-- CRC-32: IEEE 802.3 polynomial, reflected, initial and final XOR all ones (R84). -/
def crc32 (bs : List Byte) : BitVec 32 := ~~~ (bs.foldl crc32Byte 0xFFFFFFFF)

/-! ### Ledger records (R26) -/

/-- Number of slots (R17). -/
def slotCount : Nat := 33554432

/-- The record states of R30. -/
def stFree : Nat := 0
def stReserved : Nat := 1
def stUnconfirmed : Nat := 2
def stIssued : Nat := 3
def stActive : Nat := 4
def stExhausted : Nat := 5
def stVoid : Nat := 6
def stExpired : Nat := 7
def stRetired : Nat := 8

def rGen (r : List Word) : Nat := wd r 0
def rState (r : List Word) : Nat := bits (wd r 1) 15 12
def rUse (r : List Word) : Nat := bits (wd r 1) 11 0
def rEpoch (r : List Word) : Nat := bits (wd r 2) 15 14
def rWindow (r : List Word) : Bool := bit (wd r 2) 13
def rTag (r : List Word) : Bool := bit (wd r 2) 12
def rLimit (r : List Word) : Nat := bits (wd r 2) 11 0
def rRealm (r : List Word) : Nat := bits (wd r 3) 15 8
def rPolicy (r : List Word) : Nat := bits (wd r 3) 7 0
def rFrom (r : List Word) : Nat := wd r 4
def rTo (r : List Word) : Nat := wd r 5
def rStart (r : List Word) : Nat := wd r 6
def rEnd (r : List Word) : Nat := wd r 7
def rTime (r : List Word) : Nat := pairAt r 8
def rSource (r : List Word) : Nat := wd r 10
def rIssueSource (r : List Word) : Nat := wd r 11
def rKeyGen (r : List Word) : Nat := bits (wd r 12) 15 8
def rAppGen (r : List Word) : Nat := bits (wd r 12) 7 0
def rAppData (r : List Word) : Nat := pairAt r 13

/-- RECORD_CHECK over W0 to W14 (R27). -/
def recCheck (r : List Word) : Word := crc16 (wordBytes (r.take 15))

/-- Whether RECORD_CHECK matches. -/
def checkOk (r : List Word) : Bool := decide (r.getD 15 0 = recCheck r)

/-- A record with its RECORD_CHECK written. -/
def fixCheck (r : List Word) : List Word := r.set 15 (recCheck r)

/-- A record as shipped: zeros with a matching check (R85). -/
def shippedRec : List Word := fixCheck (List.replicate 16 0)

/-- The poison image of R107: W0 to W14 all ones, W15 the complement of their CRC. -/
def poisonRec : List Word :=
  let r : List Word := List.replicate 16 0xFFFF
  r.set 15 (~~~ recCheck r)

/-- STATE and USE_COUNT written. -/
def setState (r : List Word) (st : Nat) : List Word := setW r 1 (st * 4096 + rUse r)

/-- USE_COUNT written. -/
def setUse (r : List Word) (u : Nat) : List Word := setW r 1 (rState r * 4096 + u % 4096)

/-- A source word of R28 that the field tables call corrupt. -/
def sourceBad (v : Nat) : Bool :=
  let kind := bits v 15 14
  let queue := bits v 13 11
  let num := bits v 5 0
  decide (kind = 3) || decide (bits v 10 6 ≠ 0) ||
  (decide (kind = 1 ∨ kind = 2) && decide (queue ≠ 0)) ||
  (decide (kind = 0) && decide (32 ≤ num)) || (decide (kind = 2) && decide (3 ≤ num))

/-- A field of the record holds a value that R26 or R28 marks as corrupt. -/
def fieldBad (r : List Word) : Bool :=
  decide (9 ≤ rState r) || decide (32 ≤ rRealm r) ||
  (if rWindow r then decide (1440 ≤ rStart r) || decide (1440 ≤ rEnd r)
   else decide (rStart r ≠ 0) || decide (rEnd r ≠ 0)) ||
  sourceBad (rSource r) || sourceBad (rIssueSource r)

/-- Corrupt under R29. -/
def corrupt (r : List Word) : Bool := !checkOk r || fieldBad r

/-- States that count against a quota (R30). -/
def counted (r : List Word) : Bool := decide (1 ≤ rState r ∧ rState r ≤ 7)

/-! ### Sources and origins (R28, R76) -/

/-- Where a change comes from. -/
inductive Origin where
  /-- A command: function, pair, tag, opcode. -/
  | host (fn pair tag opcode : Nat)
  | lane (l : Nat)
  /-- 0 the expiry sweep, 1 the hold timer, 2 the lock breaker. -/
  | internal (n : Nat)
  deriving DecidableEq, Repr

/-- The source word of R28. -/
def sourceWord : Origin → Nat
  | .host fn pair _ _ => (pair % 8) * 2048 + fn
  | .lane l => 0x4000 + l
  | .internal n => 0x8000 + n

/-- Words W10 to W15 of an entry that carries an origin (R76), with the reply status. -/
def originWords (o : Origin) (status : Nat) : List Word :=
  match o with
  | .host fn pair tag op =>
    [ofW (pair * 1024 + fn)] ++ leWords 2 tag ++ [ofW status, ofW (op * 256), 0]
  | .lane l => [ofW (0x4000 + l), 0, 0, ofW status, 0, 0]
  | .internal n => [ofW (0x8000 + n), 0, 0, ofW status, 0, 0]

/-! ### Journal entries (R75 to R79) -/

/-- KIND of an entry. -/
def eKind (e : List Word) : Nat := bits (wd e 0) 15 12

/-- The slot words W0 and W1 of a record entry. -/
def slotWords (kind slot : Nat) : List Word := [ofW (kind * 4096 + slot / 65536), ofW slot]

/-- The slot that a DELTA, IMAGE_HEAD or IMAGE_TAIL names. -/
def eSlot (e : List Word) : Nat := bits (wd e 0) 8 0 * 65536 + wd e 1

/-- A DELTA entry of a slot's new image (R77). -/
def deltaEntry (slot : Nat) (r : List Word) (o : Origin) (status : Nat) : List Word :=
  slotWords 1 slot ++ [r.getD 0 0, r.getD 1 0, r.getD 8 0, r.getD 9 0, r.getD 10 0, r.getD 13 0,
    r.getD 14 0, r.getD 15 0] ++ originWords o status

/-- An IMAGE_HEAD entry (R77). -/
def headEntry (slot : Nat) (r : List Word) (o : Origin) (status : Nat) : List Word :=
  slotWords 2 slot ++ r.take 8 ++ originWords o status

/-- An IMAGE_TAIL entry (R77). -/
def tailEntry (slot : Nat) (r : List Word) : List Word :=
  slotWords 3 slot ++ (r.drop 8).take 7 ++ [r.getD 15 0] ++ List.replicate 6 0

/-- A record with the fields of a DELTA entry written (R77). -/
def applyDelta (r e : List Word) : List Word :=
  (((((((r.set 0 (e.getD 2 0)).set 1 (e.getD 3 0)).set 8 (e.getD 4 0)).set 9 (e.getD 5 0)).set 10
    (e.getD 6 0)).set 13 (e.getD 7 0)).set 14 (e.getD 8 0)).set 15 (e.getD 9 0)

/-- The record that an IMAGE_HEAD and IMAGE_TAIL pair spells (R77). -/
def imageOf (h t : List Word) : List Word := (h.drop 2).take 8 ++ (t.drop 2).take 7 ++ [t.getD 9 0]

/-- A REALM entry: item, realm, value words W1 to W9, origin (R78). -/
def realmEntry (item realm : Nat) (vals : List Nat) (o : Origin) (status : Nat) : List Word :=
  ofW (0x4000 + item * 256 + realm) :: padTo 9 0 (vals.map ofW) ++ originWords o status

/-- A KEY entry (R314) from its words W0 to W9. -/
def keyEntry (ws : List Word) (o : Origin) (status : Nat) : List Word :=
  padTo 10 0 ws ++ originWords o status

/-- A CARD entry (R399): phase, index, realm, value words W1 to W9, origin. -/
def cardEntry (phase index realm : Nat) (vals : List Nat) (o : Origin) (status : Nat) : List Word :=
  ofW (0x6000 + phase * 512 + index * 32 + realm) :: padTo 9 0 (vals.map ofW) ++ originWords o status

/-- A SWITCH entry (R79): page, groups as a bitmap, shadow, new WRITE_COUNT, batch. -/
def switchEntry (page groups shadow count batch : Nat) : List Word :=
  [ofW (0x7000 + groups * 16 + page / 65536), ofW page] ++ leWords 2 shadow ++ leWords 3 count ++
    leWords 3 batch ++ List.replicate 6 0

/-- A BATCH entry (R79): action 1 OPEN, 2 COMMIT, 3 DONE. -/
def batchEntry (action batch pages first count : Nat) : List Word :=
  ofW (0x8000 + action * 256) :: leWords 3 batch ++ [ofW pages] ++ leWords 2 first ++
    ofW count :: List.replicate 8 0

/-- Whether the origin words of an entry are legal (R76). -/
def originOk (e : List Word) : Bool :=
  let w := wd e 10
  let kind := bits w 15 14
  let queue := bits w 13 10
  let num := bits w 5 0
  decide (kind ≠ 3) && decide (bits w 9 6 = 0) && decide (wd e 15 = 0) &&
  decide (bits (wd e 14) 7 0 = 0) &&
  (if kind = 0 then decide (queue ≤ 8) && decide (num < 32)
   else decide (queue = 0) && (kind = 1 || decide (num < 3)))

/-- Whether words a to b of an entry are 0. -/
def zeroWords (e : List Word) (a b : Nat) : Bool := ((e.drop a).take (b + 1 - a)).all (fun w => w == 0)

/-- Whether a REALM entry's items and reserved bits are legal (R78, R123, R270, R398, R441). -/
def realmEntryOk (e : List Word) : Bool :=
  let item := bits (wd e 0) 11 8
  decide (bits (wd e 0) 7 5 = 0) &&
  match item with
  | 1 => decide (wd e 2 < 1024) && zeroWords e 3 9
  | 2 => decide (wd e 1 < 4) && zeroWords e 4 9
  | 4 => decide (wd e 1 < 10) && decide (wd e 2 ≤ 4096) && zeroWords e 3 9
  | 5 => decide (wd e 1 < 2) && decide (wd e 2 < 256) && zeroWords e 7 9
  | 6 => decide (wd e 1 < 2) && decide (wd e 2 < 256) && zeroWords e 3 9
  | 7 => decide (wd e 1 < 2) && zeroWords e 4 9
  | 8 => decide (bits (wd e 1) 15 9 = 0) && decide (bits (wd e 1) 7 5 = 0) && zeroWords e 2 9
  | 9 => decide (wd e 1 < 64) && decide (wd e 2 < 32) && zeroWords e 3 9
  | 10 => zeroWords e 4 9
  | _ => false

/-- Whether an entry inside COUNT is legal on its own (R75 to R79, R314, R399). -/
def entryOk (e : List Word) : Bool :=
  match eKind e with
  | 1 => decide (bits (wd e 0) 11 9 = 0) && originOk e
  | 2 => decide (bits (wd e 0) 11 9 = 0) && originOk e
  | 3 => decide (bits (wd e 0) 11 9 = 0) && zeroWords e 10 15
  | 4 => realmEntryOk e && originOk e
  | 5 => decide (bits (wd e 0) 11 10 = 0) && decide (1 ≤ bits (wd e 1) 15 12 ∧ bits (wd e 1) 15 12 ≤ 6) &&
      decide (bits (wd e 1) 11 1 = 0) && originOk e
  | 6 => decide (1 ≤ bits (wd e 0) 11 9 ∧ bits (wd e 0) 11 9 ≤ 3) &&
      (decide (bits (wd e 0) 11 9 = 3) || decide (bits (wd e 8) 15 10 = 0)) && originOk e
  | 7 => decide (bits (wd e 0) 3 2 = 0) && decide (wd e 3 < 2) && zeroWords e 10 15
  | 8 => decide (1 ≤ bits (wd e 0) 11 8 ∧ bits (wd e 0) 11 8 ≤ 3) && decide (bits (wd e 0) 7 0 = 0) &&
      decide (wd e 6 < 2) && zeroWords e 8 15
  | _ => false

/-- Whether every IMAGE_HEAD is followed at once by its IMAGE_TAIL (R77). -/
def pairsOk : List (List Word) → Bool
  | [] => true
  | e :: es =>
    (if eKind e = 2 then
      match es with
      | t :: _ => decide (eKind t = 3) && decide (eSlot t = eSlot e)
      | [] => false
     else true) && pairsOk es

end Sys2Proof.Machine
end

