-- ==== Sys2Proof/Machine/Maps.lean ====
section
/-! DEFINITION. The one map the model uses for everything that is numbered: slots, realms,
lanes, shuttles, memories. An unlisted key has the default value, so equal maps are equal
lists. -/

namespace Sys2Proof.Machine

/-- The value of key `k`: `d` where the map lists none. -/
def mget {α : Type} (d : α) : KMap α → Nat → α
  | [], _ => d
  | (k', v) :: m, k => if k' = k then v else if k < k' then d else mget d m k

/-- The value listed at key `k`, if any. -/
def mfind {α : Type} : KMap α → Nat → Option α
  | [], _ => none
  | (k', v) :: m, k => if k' = k then some v else if k < k' then none else mfind m k

/-- Remove key `k`, and any later entry of a key not above it, of which a map in canonical form has none. -/
def mdel {α : Type} : KMap α → Nat → KMap α
  | [], _ => []
  | (k', v) :: m, k => if k' = k then m.dropWhile (fun p => decide (p.1 ≤ k)) else if k < k' then (k', v) :: m else (k', v) :: mdel m k

/-- List value `v` at key `k`. -/
def mput {α : Type} : KMap α → Nat → α → KMap α
  | [], k, v => [(k, v)]
  | (k', v') :: m, k, v =>
    if k' = k then (k, v) :: m
    else if k < k' then (k, v) :: (k', v') :: m
    else (k', v') :: mput m k v

/-- Give key `k` the value `v`; the default value is never listed. -/
def mset {α : Type} [DecidableEq α] (d : α) (m : KMap α) (k : Nat) (v : α) : KMap α :=
  if v = d then mdel m k else mput m k v

/-- Give every listed key a new value; the default value is never listed. -/
def mmap {α : Type} [DecidableEq α] (d : α) (f : Nat → α → α) (m : KMap α) : KMap α :=
  (m.map (fun p => (p.1, f p.1 p.2))).filter (fun p => !decide (p.2 = d))

/-- Every listed key with its value. -/
def mkeys {α : Type} (m : KMap α) : List Nat := m.map Prod.fst

/-- The keys rise strictly from a bound on. -/
def msorted {α : Type} : Nat → KMap α → Bool
  | _, [] => true
  | b, (k, _) :: m => decide (b ≤ k) && msorted (k + 1) m

/-- The canonical form: keys rise strictly and no entry equals the default. -/
def mwf {α : Type} [DecidableEq α] (d : α) (m : KMap α) : Bool :=
  msorted 0 m && m.all (fun p => !decide (p.2 = d))

end Sys2Proof.Machine
end

