-- ==== Sys2Proof/Machine/State.lean ====
section
/-! DEFINITION. The whole state of the D64 as plain data: one structure per chapter of the spec,
gathered in `State`. Every numbered thing (function, pair, realm, slot, lane, shuttle) stands in a
`KMap`, whose unlisted keys have the default value named beside it. -/

namespace Sys2Proof.Machine

/-- Why the machine stops. No meaning of this model raises one: every event of the D64 has an
effect or none (safe: an event that is not due changes nothing). -/
inductive Fault where
  /-- Kept for the host's interface; raised by no meaning (safe). -/
  | unreachable
  deriving DecidableEq, Repr

/-- Why a command has no meaning. -/
inductive Refusal where
  /-- Raised by the dispatcher for a row that has no meaning yet (safe). -/
  | notModelled (mnemonic : String)
  deriving DecidableEq, Repr

/-- What leaves the part: the model's own record of its outputs, newest first. -/
inductive Output where
  /-- A posted write of bytes to host memory for a function (R407). -/
  | hostWrite (fn addr : Nat) (bytes : List Byte)
  /-- An MSI-X message of a function's vector (R408). -/
  | msix (fn vec : Nat)
  /-- The completion of a host register read (R416). -/
  | readValue (fn : Nat) (value : Nat)
  /-- A read completed with Completer Abort (R414). -/
  | completerAbort (fn : Nat)
  /-- A write dropped and logged in AER: true for a poisoned one (R414). -/
  | aer (fn : Nat) (poisoned : Bool)
  /-- The ERR_NONFATAL message of a function (R414). -/
  | errNonfatal (fn : Nat)
  /-- A read completed as an Unsupported Request: of a BAR that is not open (R408). -/
  | unsupported (fn : Nat)
  /-- An Unexpected Completion logged in AER (R406). -/
  | unexpectedCompletion (fn : Nat)
  /-- A DMA read request of a function (R148, R159). -/
  | dmaRead (fn addr len : Nat)
  /-- The words of a trace message (R474). -/
  | trace (words : List Nat)
  /-- A frame sent on a lane: preceded by a MARK or not, and its bytes from header to CRC (R354, R359). -/
  | laneFrame (lane : Nat) (mark : Bool) (bytes : List Byte)
  /-- The same frame as the 10-bit symbols that the lane carries, bit a in the highest place (R354). -/
  | laneSymbols (lane : Nat) (symbols : List Nat)
  /-- An ABORT in the place of what had not left of the frame on a lane: the symbols that had left, and its own (R381). -/
  | laneAbort (lane left symbol : Nat)
  /-- A pulse on LANE_WAKE_N (R353). -/
  | wakePulse (lane : Nat)
  /-- The six bytes of a call on the custody bus, CHK the last (R386). -/
  | cardCall (frame : List Byte)
  /-- A block stored to a card: the bytes of each data line, its CRC the last two (R390). -/
  | cardBlock (addr : Nat) (lines : List (List Byte))
  /-- An SMBus answer word, or none for a NACK (R456). -/
  | smbus (value : Option Nat)
  /-- The bytes of a PMBus exchange with a regulator: its address, the command, and what is written with its PEC, or the
  address again for a read (R456). -/
  | pmbus (bytes : List Byte)
  /-- A TAP instruction register's new selection, and what the data register that it selects holds (R510). -/
  | tap (code data : Nat)
  deriving DecidableEq, Repr

/-! ### Ledger and journal (chapters "The Credential Ledger" and "Journal, Compaction and
Power Loss") -/

/-- A node of the integrity tree (R57): eight child tags of seven bytes, its WRITE_COUNT,
byte 62 (the level; in level-2 nodes also the page's FORMAT), and byte 63. -/
structure Node where
  tags : List (List Byte)
  count : Nat
  level : Nat
  rest : Nat := 0
  deriving DecidableEq, Repr

/-- An overlay entry (R53): the slot's newest image, the JSN of the entry that last changed it, and the JSNs of
every change that no page holds yet, ascending. -/
structure OvEntry where
  img : List Word
  jsn : Nat
  since : List Nat
  deriving DecidableEq, Repr

/-- A quarantined slot (R29, R48): whether its RECORD_CHECK matches, the owner in W3.REALM, and
whether it stays counted in that realm's HELD. -/
structure QEntry where
  slot : Nat
  checkOk : Bool
  realm : Nat
  held : Bool
  deriving DecidableEq, Repr

/-- The ledger unit's state (R26 to R70). Warp stack areas are those of R17 and R56. -/
structure Led where
  /-- Home pages as ciphertext; an unlisted page is as shipped (R85). -/
  pages : KMap (List Byte) := []
  /-- Home level-1 and level-2 nodes; unlisted ones are as shipped. -/
  l1 : KMap Node := []
  l2 : KMap Node := []
  /-- Levels 3 to 7 on die, keyed level * 2^32 + index, and their copy in the Warp stack. -/
  upper : KMap Node := []
  upperCopy : KMap Node := []
  /-- The root in registers; none until it differs from the shipped root. -/
  root : Option Node := none
  /-- The shadow pool (R56): pages, their level-1 nodes in group order, their level-2 node. -/
  shadowPages : KMap (List Byte) := []
  shadowL1 : KMap (List Node) := []
  shadowL2 : KMap (Option Node) := []
  /-- Staging pages by shadow index, 4,096 bytes of ciphertext each (R88). -/
  staging : KMap (List Byte) := []
  /-- The next shadow index to take (R87). -/
  shadowNext : Nat := 0
  overlay : KMap (Option OvEntry) := []
  quarantine : List QEntry := []
  /-- Entries that a retirement took from the list, with the frame that makes it durable (R31, R48). -/
  retiring : List (Nat × QEntry) := []
  /-- Level-1 groups of pages that failed authentication in service, each until it is rewritten (R107). -/
  badGroups : List Nat := []
  /-- The level-1 and level-2 nodes in the on-die cache, keyed as `upper`, the latest authenticated first (R60). -/
  cache : List (Nat × Node) := []
  /-- The free pool (R47): the lowest slot never taken, released slots in order of release, and
  never-taken slots that quarantine removed. -/
  virgin : Nat := 0
  released : List Nat := []
  removed : List Nat := []
  /-- Slots near the head read ahead and found good, in the pool's order (R47). -/
  prefetched : List Nat := []
  /-- Lookups taken from the internal reserve, and the instant at which they were (R127). -/
  reserveUsed : Nat := 0
  reserveAt : Nat := 0
  /-- Slots in RESERVED or UNCONFIRMED that the hold timer watches (R38), ascending. -/
  hold : List Nat := []
  sweep : Nat := 0
  free : Nat := 33554432
  retired : Nat := 0
  /-- HELD of each realm, and counts by realm and APPLET_GEN, KEY_GEN and EPOCH (R43, R46). -/
  held : KMap Nat := []
  agCount : KMap Nat := []
  kgCount : KMap Nat := []
  epCount : KMap Nat := []
  deriving DecidableEq, Repr

/-- How far a closed frame has come (R81). -/
inductive FrameStage where
  | closed | sealed | programmed
  deriving DecidableEq, Repr

/-- A closed frame in flight (R73, R80). -/
structure Frame where
  no : Nat
  entries : List (List Word)
  start : Bool
  sealing : Bool
  time : Nat
  era : Nat
  cal : Nat
  stage : FrameStage
  /-- The 2,048 bytes once sealed (R74). -/
  bytes : List Byte
  deriving DecidableEq, Repr

/-- What an anchor cell says (R84). -/
structure Anchor where
  cellNo : Nat
  frameNo : Nat
  mac : List Byte
  tail : Nat
  out : Nat
  /-- ROOT; none is the shipped root. -/
  root : Option Node
  nextBatch : Nat
  pendFirst : Nat
  pendCount : Nat
  outNextPage : Nat
  sealed : Bool
  deriving DecidableEq, Repr

/-- The step of R87 that a compaction batch has reached. -/
inductive BatchStep where
  /-- OPEN and SWITCH appended (B2). -/
  | opened
  /-- Shadows, nodes and staged upper nodes written (B3). -/
  | staged
  /-- COMMIT appended (B4). -/
  | committing
  /-- The COMMIT anchor is written: committed. -/
  | committed
  /-- Copied to the home addresses (B5). -/
  | copied
  /-- DONE appended (B6). -/
  | closing
  deriving DecidableEq, Repr

/-- One page of a batch (R79, R87). -/
structure BatchPage where
  page : Nat
  groups : List Nat
  shadow : Nat
  count : Nat
  /-- The merged overlay slots with the JSN noted in B1. -/
  noted : List (Nat × Nat)
  plain : List Byte
  deriving DecidableEq, Repr

/-- A compaction batch between OPEN and DONE (R87). -/
structure Batch where
  no : Nat
  pages : List BatchPage
  stageFirst : Nat
  stageCount : Nat
  openFrame : Nat
  /-- SWITCH entries of B2 that the internal reserve has not yet taken (R127). -/
  unsent : List (List Word) := []
  /-- The frame of the newest entry that this step waits for. -/
  waitFrame : Nat
  step : BatchStep
  /-- The staged upper nodes, key as in `Led.upper`, and the root this batch makes. -/
  staged : List (Nat × Node)
  newRoot : Option Node
  deriving DecidableEq, Repr

/-- A page of an abandoned batch (R90): the WRITE_COUNT that its SWITCH named, the frame of its OPEN, and the number of
the batch that takes it again. -/
structure AbPage where
  page : Nat
  count : Nat
  openFrame : Nat
  again : Option Nat := none
  deriving DecidableEq, Repr

/-- A record of the open outcome page (R93): function, tag, JSN and status. -/
structure OutRec where
  fn : Nat
  tag : Nat
  jsn : Nat
  status : Nat
  deriving DecidableEq, Repr

/-- Work that would append an entry of lane or internal origin, held to a tick that takes it (R128). -/
inductive HeldWork where
  /-- The lock breaker's VOID of a record: slot and generation (R284). -/
  | breaker (slot gen : Nat)
  /-- A station's REPORT: lane and frame (R192). -/
  | report (lane : Nat) (frame : List Byte)
  deriving DecidableEq, Repr

/-- The journal unit's state (R71 to R110). -/
structure Jn where
  /-- Entries of the open frame, oldest first, and its number. -/
  openEntries : List (List Word) := []
  openNo : Nat := 5
  /-- The next frame is the first after a start (R105). -/
  first : Bool := true
  /-- Closed frames, oldest first. -/
  flight : List Frame := []
  /-- FRAME_MAC of the newest sealed frame, which the next frame carries as PREV_MAC. -/
  lastMac : List Byte := List.replicate 32 0
  durable : Nat := 0
  durableMac : List Byte := List.replicate 32 0
  /-- The ring: frames by FRAME_NO mod 524,288. -/
  ring : KMap (List Byte) := []
  /-- The 64 anchor cells, 1,024 bytes each (R84); one that was torn holds none of them, and an unlisted one has not
been written since the part was shipped. -/
  anchors : KMap (Option (List Byte)) := []
  /-- The anchor ring stands overwritten with zeros (R439). -/
  anchorsWiped : Bool := false
  /-- The anchor that the start in progress selected (R85). -/
  anchorSel : Option Anchor := none
  cellNo : Nat := 0
  /-- SEALED of the cell last written. -/
  cellSealed : Bool := false
  outFrame : Nat := 1
  nextBatch : Nat := 1
  outNextPage : Nat := 0
  /-- Entries of each durable frame in the replay span (R86). -/
  spanFrames : KMap Nat := []
  /-- Frames holding REALM, CARD and KEY entries not yet applied to their areas (R91). -/
  realmFrames : List Nat := []
  keyFrames : List Nat := []
  /-- Realms whose QUOTA falls by one when a frame is durable (R46). -/
  cuts : List (Nat × Nat) := []
  batches : List Batch := []
  /-- Pages of abandoned batches, until they are staged again (R90). -/
  abandoned : List AbPage := []
  compacting : Bool := false
  /-- COMPACT_NOW asked for compaction until the thresholds are met (R92). -/
  compactNow : Bool := false
  outOpen : List OutRec := []
  /-- Written outcome pages: BASE_FRAME and the stored bytes (R93). -/
  outPages : KMap (Nat × List Byte) := []
  lastSealed : Bool := false
  replayDone : Bool := false
  replayUs : Nat := 0
  replayed : Nat := 0
  holdupUs : Nat := 0
  /-- The reserve's capacitance in nF and series resistance in milliohm, as the Ballast test measured them (R99). -/
  reserveNf : Nat := 0
  reserveMohm : Nat := 0
  /-- The reserve's voltage in mV at which the regulators drop out, as the Ballast test took it (R498). -/
  reserveLeast : Nat := 0
  /-- Admission, fetch and append have stopped for a seal (R97, R437). -/
  stopped : Bool := false
  /-- The seal has begun: its frame, if any, is to be anchored with SEALED 1. -/
  sealing : Bool := false
  /-- Program operations already started have completed (R97 Drain). -/
  drained : Bool := false
  inhibit : Bool := false
  /-- The instant of the last tick (R80), and the entries of lane and internal origin appended since (R127, R128). -/
  tickAt : Nat := 0
  tickOther : Nat := 0
  heldWork : List HeldWork := []
  /-- The last entry of the newest durable frame of this start: R94's first entry of a command may stand there. -/
  lastEntry : Option (List Word) := none
  deriving DecidableEq, Repr

/-- One of a realm's two applet banks, as its newest BANK entry gives it (R270). -/
structure BankEntry where
  gen : Nat
  hash : List Byte
  deriving DecidableEq, Repr

/-- A realm's rows of the realm table (R37 to R46, R78, R122, R270, R275, R397). -/
structure RealmRow where
  quota : Nat := 0
  bases : KMap Nat := []
  epoch : Nat := 0
  shares : KMap Nat := []
  /-- CUR_GEN of families 0 to 14 (R301). -/
  curGen : KMap Nat := []
  bankA : Option BankEntry := none
  bankB : Option BankEntry := none
  active : Option Nat := none
  modeGen : Nat := 0
  mode : Nat := 0
  armed : Option (Nat × Nat) := none
  approveMask : Nat := 1
  debit : Bool := false
  deriving DecidableEq, Repr

/-- A card's pending transaction (R399). -/
structure CardTxn where
  seq : Nat
  pre : Nat
  post : Nat
  quotaPre : Nat
  realm : Nat
  committed : Bool
  deriving DecidableEq, Repr

/-- An entry of the custody table (R394). -/
structure CardEntry where
  cardId : Nat
  key : List Byte
  txn : Option CardTxn
  deriving DecidableEq, Repr

/-- The realm table: everything that REALM and CARD entries change, and custody (R78, R91, R394). -/
structure RealmTable where
  rows : KMap RealmRow := []
  /-- Realm of each device heddle granted for placement (R273). -/
  grants : KMap (Option Nat) := []
  /-- Realm each lane is bound to; 0 none (R15). -/
  lanes : KMap Nat := []
  policy : Nat := 0
  policyCount : Nat := 0
  policyWindow : Nat := 0
  threshold : Nat := 0
  cards : KMap (Option CardEntry) := []
  deriving DecidableEq, Repr

/-- A page as the Warp stack holds it: ciphertext, and its MAC (R18). -/
structure StoredPage where
  data : List Byte
  mac : List Byte
  deriving DecidableEq, Repr

/-- Pages that were written together, with the count of the area's writes. -/
structure StoredArea where
  count : Nat
  pages : List StoredPage
  deriving DecidableEq, Repr

/-- A stored copy of the realm table, stamped with a frame (R91). -/
structure RealmCopy where
  stamp : Nat
  seq : Nat
  pages : StoredArea
  deriving DecidableEq, Repr

/-- The realm table with its durable image and its two stored copies. -/
structure Realms where
  live : RealmTable := {}
  durable : RealmTable := {}
  copyA : Option RealmCopy := none
  copyB : Option RealmCopy := none
  deriving DecidableEq, Repr

/-! ### Admission, commands and replies (chapters "Admission and the Service Promise" and "Command
Packets and Queues") -/

/-- A budget's level, in units times 4096, and the instant in ns of its last change (R124). -/
structure Budget where
  level : Nat := 0
  lastNs : Nat := 0
  deriving DecidableEq, Repr

/-- The device part of the published capability record (R139). -/
structure CapRecord where
  planTime : Nat := 0
  linkWidth : Nat := 0
  linkGen : Nat := 0
  looms : Nat := 0
  heddlesIn : Nat := 0
  lifeUsed : Nat := 0
  /-- CAP of resources 0 to 9, in units per ms. -/
  caps : List Nat := []
  granted : Nat := 0
  deriving DecidableEq, Repr

/-- The admission controller (R112 to R144). START_NO is retained. -/
structure Adm where
  /-- Budgets keyed realm * 16 + resource. -/
  budgets : KMap Budget := []
  /-- Budgets of granted cells, keyed TARGET * 2 + pool (R129). -/
  cells : KMap Budget := []
  startNo : Nat := 0
  change : Nat := 0
  published : CapRecord := {}
  /-- Heddles revoked and not yet back in the pools, with the realm that held the grant (R273). -/
  revoked : KMap (Option Nat) := []
  /-- Packet fetch is open (R461). -/
  opened : Bool := false
  refused : KMap Nat := []
  late : Nat := 0
  redispatch : Nat := 0
  abort2 : Nat := 0
  peakAdmit : Nat := 0
  peaks : KMap Nat := []
  deriving DecidableEq, Repr

/-- The authenticator, cipher or signature work of an admitted command (R171, R198). -/
inductive EngWork where
  /-- None asked for yet. -/
  | idle
  /-- On an engine, until its operation completes. -/
  | running
  /-- Complete: denied by the key store, whether a check passed, and the bytes made. -/
  | done (denied ok : Bool) (bytes : List Byte)
  deriving DecidableEq, Repr

/-- What an applet job of a command ended with (R182, R197, R232, R235). -/
inductive JobEnd where
  | block (words : List Nat)
  | trap
  | timeout
  | lockBroken
  deriving DecidableEq, Repr

/-- The applet stage of a command (R255). -/
inductive JobStage where
  /-- No entry runs for the command, or it is not yet known. -/
  | idle
  /-- In a queue of cells: bank and entry address. -/
  | queued (bank entry : Nat)
  /-- On a shuttle. -/
  | running (bank entry sh : Nat)
  | ended (e : JobEnd)
  deriving DecidableEq, Repr

/-- An admitted command that is not yet answered (R112). -/
structure Cmd where
  id : Nat
  fn : Nat
  pair : Nat
  /-- The 32 packet words (R155). -/
  words : List Word
  cls : Nat
  admitAt : Nat
  deadline : Nat
  /-- Calendar seconds at admission (R206). -/
  cal : Nat := 0
  /-- The active bank and its policy table at admission (R272). -/
  bank : Option Nat := none
  appGen : Nat := 0
  table : List (List Word) := []
  /-- Data of the IN descriptors read so far (R159), by descriptor index. -/
  inData : KMap (Option (List Byte)) := []
  /-- The instant at which the ledger unit began the lookup (R446), and its release. -/
  lookupAt : Option Nat := none
  lookupDone : Bool := false
  work : EngWork := .idle
  job : JobStage := .idle
  /-- Stages re-dispatched so far (R131). -/
  redispatched : Nat := 0
  /-- The engine on which a stage of it was cleared, where there was one (R346). -/
  avoid : Option Nat := none
  /-- JSN of the first entry the command appended (R72). -/
  jsn : Option Nat := none
  /-- Frame that must be durable before the reply (R49, R82). -/
  needFrame : Nat := 0
  /-- A lane place reserved at admission (R115 step 6). -/
  lane : Option Nat := none
  /-- The instant at which the command's steward job started. -/
  stewardAt : Option Nat := none
  /-- Step of a command that takes several events (a draw with a debit, a bank load, a flip). -/
  step : Nat := 0
  /-- What the command holds between its steps. -/
  held : List Nat := []
  /-- Indices of the IN descriptors whose reads were requested (R159). -/
  reads : List Nat := []
  /-- Its function has been reset: its reply is not written (R176). -/
  mute : Bool := false
  /-- Time in µs since its admission in which the link carried no writes (R138). -/
  away : Nat := 0
  deriving DecidableEq, Repr

/-- A reply that is formed and not yet written (R162). -/
structure Reply where
  /-- The command's id; none for a packet that was not admitted. -/
  id : Option Nat
  fn : Nat
  pair : Nat
  status : Nat
  opcode : Nat
  /-- HEAD: decided at the head of the queue. -/
  head : Bool
  tag : Nat
  jsn : Nat
  /-- W8 to W14. -/
  results : List Nat
  cls : Nat
  admitAt : Nat
  deadline : Nat
  silentOk : Bool
  /-- OUT data written before the reply (R159). -/
  outs : List (Nat × List Byte)
  /-- The frame that must be durable first; 0 none. -/
  needFrame : Nat
  /-- Waits for step 3 of R446: true until released. -/
  held : Bool
  /-- The instant at which a held reply is released, once its frame has closed. -/
  relAt : Option Nat
  /-- The function has been reset since: never written (R176). -/
  mute : Bool := false
  /-- The ranges of its command's descriptors, which hold their windows until it is answered (R160). -/
  bufs : List (Nat × Nat) := []
  /-- Time in µs since its command's admission in which the link carried no writes (R138). -/
  away : Nat := 0
  deriving DecidableEq, Repr

/-- Commands and replies in the part. -/
structure Cmds where
  admitted : List Cmd := []
  nextId : Nat := 0
  replies : List Reply := []
  /-- Reads of IN descriptors that outlive their commands: command, descriptor and function (R406). -/
  lateReads : List (Nat × Nat × Nat) := []
  /-- A QUIESCE is admitted: ids of the earlier commands still to be answered (R22). -/
  quiesceWait : List Nat := []
  deriving DecidableEq, Repr

/-! ### Cells and applets (chapters "Karef Programming Model" and "Cells, Applets, Locks and
Protection") -/

/-- A tagged word (R214): 0 INT, 1 BYTES, 2 SECRET, 3 HANDLE, 4 LREF, 5 CODE, 7 POISON. -/
structure TW where
  tag : Nat := 0
  val : Nat := 0
  deriving DecidableEq, Repr

/-- A bank's image as it is loaded (R262, R263): words in storage order, and its hash. -/
structure BankStore where
  words : List Word
  hash : List Byte
  deriving DecidableEq, Repr

/-- A protection region (R278): VBASE, LEN, R, W and the physical shared blocks of its segment. -/
structure Region where
  vbase : Nat
  len : Nat
  r : Bool
  w : Bool
  blocks : List Nat
  deriving DecidableEq, Repr

/-- The job that a shuttle runs (R206, R234, R278). -/
structure Job where
  /-- The command. -/
  cmd : Nat
  /-- JOB_KIND: 1 COMPOSE, 2 VALIDATE, 3 on steward shuttles. -/
  kind : Nat
  realm : Nat
  bank : Nat
  entry : Nat
  deadline : Nat
  /-- The record that RECORD_REF names. -/
  slot : Nat
  gen : Nat
  /-- The realm's mode word and generation when the job started (R276). -/
  mode : Nat
  modeGen : Nat
  codeLen : Nat
  /-- The image's program blocks, its LOCK_COUNT and its key slots by HANDLE value. -/
  blocks : List Nat
  locks : Nat
  keys : List (Option Nat)
  regions : List Region
  /-- The mailbox input, keyed by address; an unlisted IN word is BYTES 0. -/
  mbox : KMap TW
  deriving DecidableEq, Repr

/-- A shuttle (R211, R212): its registers, private memory and mailbox output, and the job it runs. -/
structure Shuttle where
  job : Option Job := none
  /-- INCARNATION (R283). -/
  inc : Nat := 0
  priv : KMap TW := []
  outMb : KMap TW := []
  pc : Nat := 0
  z : Bool := false
  n : Bool := false
  c : Bool := false
  v : Bool := false
  trapping : Bool := false
  ldepth : Nat := 0
  rpta : Bool := false
  bp : KMap Nat := []
  ls : KMap Nat := []
  le : KMap Nat := []
  lc : KMap Nat := []
  rptc : Nat := 0
  /-- The address of the RPT prefix of the repeat in progress. -/
  rptPc : Nat := 0
  gidx : Nat := 0
  /-- A GATHER between two elements: the addresses D, T and X of its operand stage (R247, R248). -/
  gath : Option (Nat × Nat × Nat) := none
  tcause : Nat := 0
  tinfo : Nat := 0
  rpti : Bool := false
  /-- CYCLES_LEFT, and the cycles since the job started. -/
  left : Nat := 0
  cyc : Nat := 0
  /-- The ledger-read ports (R253): an LREF has been written in the job; the read is in progress; the
  words of the most recent read. -/
  lrUsed : Bool := false
  lrBusy : Bool := false
  lr : List Word := []
  /-- The lock that the job holds, the one it waits for, and the order of waiting (R282). -/
  lock : Option Nat := none
  lockWait : Option Nat := none
  waitNo : Nat := 0
  /-- What the held lock records of its owner: INCARNATION, and the slot and generation of its RECORD_REF (R283). -/
  lockInc : Nat := 0
  lockSlot : Nat := 0
  lockGen : Nat := 0
  /-- The instant at which the shuttle became free (R255). -/
  freeAt : Nat := 0
  /-- An operation is outstanding on the digest and on the cipher engine (R252). -/
  dgOut : Bool := false
  ciOut : Bool := false
  deriving DecidableEq, Repr

/-- The counts of a heddle (R288). -/
structure Heddle where
  traps : Nat := 0
  timeouts : Nat := 0
  jobs : Nat := 0
  deriving DecidableEq, Repr

/-- Cells, banks, mode words and locks (R255 to R288). -/
structure Cells where
  /-- The banks' images in use, keyed realm * 2 + bank; unlisted: empty. -/
  store : KMap (Option BankStore) := []
  /-- The applet store in the Warp stack, keyed alike. -/
  warp : KMap (Option StoredArea) := []
  /-- Banks to which no job is routed while a load is under way (R269). -/
  closed : List Nat := []
  /-- Program blocks of each bank, and the shared blocks of each of its segments (R260, R278). -/
  progBlocks : KMap (List Nat) := []
  segBlocks : KMap (List (List Nat)) := []
  /-- Program memory as every heddle holds it, and words that a steward wrote into one heddle alone,
  keyed heddle * 32768 + address. -/
  prog : KMap Nat := []
  progOwn : KMap (Option Nat) := []
  /-- Heddle shared memory by physical word, keyed heddle * 24576 + word. -/
  shared : KMap TW := []
  shuttles : KMap Shuttle := []
  heddles : KMap Heddle := []
  /-- Steward port words, keyed shuttle * 2048 + port (R259). -/
  ports : KMap Nat := []
  waitNo : Nat := 0
  /-- Looms, device heddles and shuttles that are out of service (R286). -/
  loomsOut : BitVec 4 := 0
  heddlesOut : BitVec 24 := 0
  shuttlesOut : BitVec 192 := 0
  deriving DecidableEq, Repr

/-! ### Key store (chapter "Key Store and Device Identity") -/

/-- A key slot (R298). The material is `share` XOR `mask`, 64 bytes each while LIVE (R309). -/
structure KeySlot where
  /-- 0 EMPTY, 1 ASSIGNED, 2 LIVE, 3 RETIRED, 4 SATURATED, 5 CORRUPT. -/
  state : Nat := 0
  family : Nat := 0
  kind : Nat := 0
  realm : Nat := 0
  attr : Nat := 0
  keyGen : Nat := 0
  counter : Nat := 0
  keyBits : Nat := 0
  share : List Byte := []
  mask : List Byte := []
  /-- The current position of its image (R312). -/
  pos : Nat := 0
  deriving DecidableEq, Repr

/-- A slot change that is appended and not yet durable (R310, R314). -/
structure KeyPend where
  frame : Nat
  slot : Nat
  now : KeySlot
  deriving DecidableEq, Repr

/-- A request on the key bus (R310). -/
structure KeyReq where
  /-- 0 digest, 1 cipher, 2 signature engine. -/
  eng : Nat
  unit : Nat
  ch : Nat
  slot : Option Nat
  realm : Nat
  /-- The attribute bits and the KINDs that the operation requires (R308). -/
  attrs : Nat
  kinds : List Nat
  deriving DecidableEq, Repr

/-- The key store and core crypto's key registers (R289 to R322). -/
structure Keys where
  slots : KMap KeySlot := []
  pend : List KeyPend := []
  /-- Slot images in the Warp stack, keyed 2 * slot + position, 128 bytes (R312); an unlisted one is as
  shipped: EMPTY with COUNTER 0. -/
  images : KMap (List Byte) := []
  /-- The directory copies as stored (R312): none until the first is written. -/
  dirA : Option (List Byte) := none
  dirB : Option (List Byte) := none
  /-- The image area and the directories stand overwritten with zeros (R317). -/
  wiped : Bool := false
  /-- The wrapped copies of the ledger key, 128 bytes each (R296; DEDUCED, log 60): none as Chesevia wrote it. -/
  ledgerA : Option (List Byte) := none
  ledgerB : Option (List Byte) := none
  /-- The helper data copies, as stored (R291; DESIGN CHOICE, log 59): none as Chesevia wrote it. -/
  helperA : Option (List Byte) := none
  helperB : Option (List Byte) := none
  /-- The helper-key fuses still hold the key (R439). -/
  helperFuses : Bool := true
  helperUsed : Nat := 0
  /-- The newer copy is to be written over the other one at the next start that uses it (R293 step 6). -/
  copyDue : Bool := false
  rootOk : Bool := false
  drbgOk : Bool := false
  /-- A health test has failed since the start (R297). -/
  drbgFailed : Bool := false
  rootIn : Bool := false
  /-- The state in which the array's cells settled at this start (R290). -/
  pufCells : List Byte := []
  ledgerIn : Bool := false
  deviceIn : Bool := false
  attestIn : Bool := false
  busOpen : Bool := false
  reqs : List KeyReq := []
  /-- Context keys of the realms, drawn at Release (R337). -/
  ctxKeys : KMap (List Byte) := []
  remaskNext : Nat := 0
  remaskAt : Nat := 0
  remaskUs : Nat := 0
  ber : Nat := 0
  reenrolCount : Nat := 0
  /-- An attempt of R293 was abandoned; it is tried again at the next replan. -/
  reenrolHeld : Bool := false
  /-- The readings that a running attempt of R293 has taken, newest first, and the instant of the newest. -/
  reenrolReads : List (List Byte) := []
  reenrolAt : Nat := 0
  helperOkA : Bool := false
  helperOkB : Bool := false
  denied : Nat := 0
  deriving DecidableEq, Repr

/-! ### Engines (chapter "Digest, Cipher and Signature Engines") -/

/-- What a dispatcher operation computes. -/
inductive DispOp where
  /-- HMAC or hash by the channel's command word; a MAC is cut to n bytes. -/
  | mac (n : Nat)
  /-- VERIFY against expected bytes. -/
  | verify (expect : List Byte)
  /-- The cipher operation of the command word. -/
  | cipher
  /-- K_d of a fixed input context (R185), sent to the digest engine for the operation that follows. -/
  | derive (context : List Byte)
  deriving DecidableEq, Repr

/-- A channel of a digest or cipher engine (R323, R330 to R342). -/
structure Chan where
  /-- Holds an operation. -/
  busy : Bool := false
  cmd : Nat := 0
  /-- The dispatcher's command and operation; none for a shuttle. -/
  host : Option Nat := none
  disp : DispOp := .cipher
  realm : Nat := 0
  deadline : Nat := 0
  /-- A break of the order of writes or a reserved command word: EWAIT raises ENGINE_FAULT. -/
  fault : Bool := false
  /-- The state has been cleared (R345). -/
  cleared : Bool := false
  /-- The key has been named; its delivery is awaited; it was denied (R310). -/
  keyed : Bool := false
  keyWait : Bool := false
  denied : Bool := false
  key : List Byte := []
  /-- Slot, KEY_GEN and COUNTER of the delivered key (R337). -/
  keySlot : Nat := 0
  keyGen : Nat := 0
  keyCtr : Nat := 0
  ctxIn : List Nat := []
  data : List Byte := []
  /-- Tags of the data words. -/
  tags : List Nat := []
  fin : Bool := false
  exps : KMap (Option TW) := []
  iv : KMap (Option TW) := []
  /-- Blocks that the core has finished; of those that are ready for it, each one's place in the order in which they
  became ready (R323). -/
  blocks : Nat := 0
  ready : List Nat := []
  /-- The core has completed the operation. -/
  done : Bool := false
  /-- What EWAIT writes, and the results that stand until the next ESUB. -/
  status : Nat := 0
  res : List TW := []
  ctxOut : List Nat := []
  ivOut : List TW := []
  outAt : Nat := 0
  cnt : Nat := 0
  poison : Bool := false
  deriving DecidableEq, Repr

/-- A digest or cipher engine: its channels and counters (R348, R349). -/
structure Eng where
  chans : KMap Chan := []
  ops : Nat := 0
  blocks : Nat := 0
  clears : Nat := 0
  denied : Nat := 0
  /-- DG_MISMATCH or CI_KD. -/
  extra : Nat := 0
  /-- The order in which blocks become ready (R323). -/
  readySeq : Nat := 0
  deriving DecidableEq, Repr

/-- A signature operation (R343). -/
structure SigJob where
  cmd : Nat
  verify : Bool
  /-- 2 ECDSA P-256, 3 Ed25519. -/
  alg : Nat
  /-- The message is a 32-byte digest (R171 ALG 1). -/
  prehashed : Bool
  slot : Option Nat
  realm : Nat
  /-- The attributes that the slot must carry (R308). -/
  attrs : Nat
  msg : List Byte
  sig : List Byte
  deadline : Nat
  /-- The only KIND that the key may have; 0 where the operation itself fixes it (R267). -/
  fixedKind : Nat := 0
  /-- The key is the fused firmware public key (R325). -/
  fused : Bool := false
  deriving DecidableEq, Repr

/-- A signature engine (R324, R350). -/
structure SigEng where
  queue : List SigJob := []
  cur : Option SigJob := none
  /-- The instant at which the operation in the engine started. -/
  curAt : Nat := 0
  keyWait : Bool := false
  denied : Bool := false
  key : List Byte := []
  keyKind : Nat := 0
  signs : Nat := 0
  verifies : Nat := 0
  rejects : Nat := 0
  clears : Nat := 0
  denials : Nat := 0
  deriving DecidableEq, Repr

/-- The engines. Digest and cipher units 0 to 23 are the heddles'; 24 to 27 are the steward channels
of core crypto, one per loom (R325). -/
structure Engs where
  dg : KMap Eng := []
  ci : KMap Eng := []
  sg : KMap SigEng := []
  deriving DecidableEq, Repr

/-! ### Tether lanes (chapter "Tether Lanes and Stations") -/

/-- A sequenced frame in a lane place (R186, R362). -/
structure Place where
  seq : Nat
  /-- Frame TYPE: 0x10 IMAGE, 0x11 DATA, 0x12 WITHDRAWN (R360). -/
  type : Nat
  payload : List Byte
  /-- The frame of the journal whose durability it waits for (R83); 0 none. -/
  needFrame : Nat
  /-- AT of a timed DATA frame (R366). -/
  time : Option Nat
  /-- The instant at which it was last sent. -/
  sentAt : Option Nat
  deriving DecidableEq, Repr

/-- A frame on its way out of a lane: the instant in ns of its first symbol, the disparity before it, and its symbols. -/
structure LineFrame where
  start : Nat
  rd : Bool
  symbols : List Nat
  deriving DecidableEq, Repr

/-- An entry of the failure list (R369). -/
structure LFail where
  seq : Nat
  since : Nat
  deriving DecidableEq, Repr

/-- A station frame whose disposition waits for a durable change (R193, R364). -/
structure LAckDue where
  seq : Nat
  disp : Nat
  needFrame : Nat
  deriving DecidableEq, Repr

/-- Where a link stands (R355). -/
inductive LinkPhase where
  /-- Electrical idle. -/
  | off
  /-- IDLE is sent; the station is to lock. -/
  | wake
  /-- HELLO_D is sent. -/
  | hello
  /-- HELLO_S is accepted and READY_D sent. -/
  | ready
  /-- Both READY frames are accepted; the first TIME is out. -/
  | first
  /-- LINKED. -/
  | up
  deriving DecidableEq, Repr

/-- One lane (R351 to R383). Its STATE follows from the flags and `link`. -/
structure Lane where
  /-- LN_STATUS.STATE: 0 CLOSED, 1 WAITING, 2 TRAINING, 3 LINKED, 4 ASLEEP, 5 CLOSING. -/
  state : Nat := 0
  permit : Nat := 0
  version : Nat := 0
  phyEnable : Bool := true
  txSwing : Nat := 2
  txDeemph : Nat := 1
  rxEq : Nat := 0
  ign : Nat := 0
  lock : Bool := false
  link : LinkPhase := .off
  /-- The bring-up in progress was started by LANE_OPEN; its start; failures in a row; the next try. -/
  opening : Bool := false
  /-- That bring-up waits for the end of an L1's hold (R435). -/
  deferred : Bool := false
  startAt : Nat := 0
  tries : Nat := 0
  retryAt : Option Nat := none
  /-- HELLO payloads of the bring-up (R356). -/
  helloD : List Byte := []
  helloS : List Byte := []
  /-- Session keys of each direction (R320). -/
  keyD : List Byte := []
  keyS : List Byte := []
  fcntTx : Nat := 0
  fcntRx : Nat := 0
  /-- A station frame has been accepted on this link, so ACK and WIN are known (R362). -/
  rxAny : Bool := false
  lastRx : Nat := 0
  places : List Place := []
  /-- Places charged by admitted commands whose frame has not yet entered. -/
  reserved : Nat := 0
  nextSeq : Nat := 0
  ackSeq : Nat := 0
  /-- WIN of the last accepted station frame. -/
  win : Nat := 0
  /-- The SEQ that is sent next, and the highest one sent. -/
  sendSeq : Nat := 0
  sentMax : Nat := 0
  /-- Acknowledged DATA frames of this LANE_OPEN, and the timed ones with their AT. -/
  dataAcked : List Nat := []
  timedAcked : List (Nat × Nat) := []
  fails : List LFail := []
  dropped : Nat := 0
  /-- The running disparity of the transmitter, true for positive, and the frames that have not wholly left it (R354). -/
  rdTx : Bool := false
  line : List LineFrame := []
  /-- Version of the current or last link since LANE_OPEN; 0 for none (R382). -/
  linkVer : Nat := 0
  /-- SEQs of the station's reports that are not answered (R193, R374). -/
  unanswered : List Nat := []
  /-- Reports whose change is not yet durable. -/
  acksDue : List LAckDue := []
  /-- TIME frames sent on the link, the instant of the last, its T_MARK, and t_sync (R371, R375). -/
  times : Nat := 0
  timeAt : Nat := 0
  tMark : Nat := 0
  tSync : Option Nat := none
  echoDue : Bool := false
  /-- CHANGE as CAP last showed it on this link (R380). -/
  capShown : Option Nat := none
  /-- The instant of ACCEPT, and WAKE_AT (R374). -/
  sleepAt : Nat := 0
  wakeAt : Nat := 0
  /-- The instant at which CLOSING began. -/
  closeAt : Nat := 0
  crcErr : Nat := 0
  macErr : Nat := 0
  retx : Nat := 0
  linkups : Nat := 0
  stationId : List Byte := []
  /-- PPM of the link's HELLO_S, and of the last HELLO_S as LN_KEYGEN shows it (R375, R383). -/
  ppm : Nat := 0
  ppmSeen : Nat := 0
  keyGen : Nat := 0
  delayNs : Nat := 0
  deriving DecidableEq, Repr

/-! ### Custody cards (chapter "Custody Card Bus") -/

/-- An approval in force (R396): its ID, the operation, the argument words and its end in ready µs. -/
structure Approval where
  id : Nat
  op : Nat
  args : List Nat
  expires : Nat
  deriving DecidableEq, Repr

/-- A named card (R389, R393). -/
structure NamedCard where
  /-- CARD_ID. -/
  id : Nat
  /-- Calls in a row without an answer. -/
  miss : Nat := 0
  /-- The card state word of its last answer (R388). -/
  word : Nat := 0
  /-- Blocks fetched by the operation in progress, by kind. -/
  blocks : KMap (List Byte) := []
  /-- The receipt of the last stored block was good. -/
  receipt : Bool := false
  /-- The pairing key that PAIR carries. -/
  newKey : List Byte := []
  deriving DecidableEq, Repr

/-- What uses the bus (R396, R400, R402). -/
inductive CardUse where
  | idle
  /-- An admitted custody command. -/
  | cmd (id : Nat)
  /-- FINISH of a committed draw: custody-table index, and the COMMIT's frame. -/
  | finish (index frame : Nat)
  /-- Resolution of an entry: 1 its STATE is being read, 2 RESTORE and 3 FINISH are stored. -/
  | resolve (index stage : Nat)
  deriving DecidableEq, Repr

/-- What a card's STATE showed when it was last read (R396). -/
structure CardRead where
  allot : Nat := 0
  seq : Nat := 0
  dev : List Byte := []
  deriving DecidableEq, Repr

/-- A card that ENROL or CARD_ADD enrols: its index, CARD_ID and pairing key. -/
structure NewCard where
  index : Nat
  id : Nat
  key : List Byte
  deriving DecidableEq, Repr

/-- Enrolment that waits for its entry's frame: the threshold to set (0 leaves it) and the cards. -/
structure Enrolment where
  frame : Nat
  m : Nat
  cards : List NewCard
  deriving DecidableEq, Repr

/-- TXN_SEQ, PRE and POST of a transaction. -/
structure TxnNums where
  seq : Nat := 0
  pre : Nat := 0
  post : Nat := 0
  deriving DecidableEq, Repr

/-- The custody bus (R384 to R403). -/
structure Card where
  approvals : List Approval := []
  clkDiv : Nat := 0x0E
  enable : Bool := true
  ign : Nat := 0
  fault : Nat := 0
  /-- CC_PRES_N is low. -/
  pres : Bool := false
  /-- Named cards by address 1 to 8. -/
  named : KMap (Option NamedCard) := []
  /-- PRESENT as source 467 last saw it. -/
  presSeen : Nat := 0
  crcErr : Nat := 0
  timeouts : Nat := 0
  removals : Nat := 0
  resolved : Nat := 0
  /-- A round is due at once: after an insertion, or until a round passes idle. -/
  rollDue : Bool := false
  rounds : Nat := 0
  rollAt : Nat := 0
  pollAt : Nat := 0
  use : CardUse := .idle
  /-- NONCE, OPERATION and ARGUMENT of the CHALLENGE in use (R391). -/
  nonce : List Byte := []
  op : Nat := 0
  args : List Nat := []
  /-- TXN_SEQ, PRE and POST of the DEBIT, FINISH or RESTORE in use. -/
  txn : TxnNums := {}
  /-- Exchanges still to be made, in order: address and block kind. -/
  todo : List (Nat × Nat) := []
  /-- The block at the head has failed once and is fetched again (R390). -/
  retried : Bool := false
  /-- A card holds CC_DAT3 after a stored block. -/
  hold : Option Nat := none
  /-- Cards that ENROL or CARD_ADD enrols when its entry is durable. -/
  enrol : Option Enrolment := none
  /-- ALLOT, TXN_SEQ and LAST_DEV of each CARD_ID as last read. -/
  lastRead : KMap CardRead := []
  deriving DecidableEq, Repr

/-! ### Host interface and interrupts (chapter "Host Interface and Register Conventions") -/

/-- The interrupt controller's host and steward sides (R426, R428). The bitmaps number the
512 sources. -/
structure Ic where
  enable : Bool := false
  ign : Nat := 0
  group : Nat := 0
  routeSel : Nat := 0
  /-- Mask bits; a set bit holds delivery back. Bits of EVENT and LEVEL sources reset to 1. -/
  mask : BitVec 512 := BitVec.allOnes 512
  pend : BitVec 512 := 0
  insvc : BitVec 512 := 0
  pendSteward : BitVec 512 := 0
  insvcSteward : BitVec 512 := 0
  /-- The conditions of the LEVEL sources as last sampled (R426). -/
  raw : BitVec 512 := 0
  /-- IC_ROUTE of each source: HOST bit 15, STEWARD bit 14, VECTOR bits 5 to 0; default 0x4000. -/
  routes : KMap Nat := []
  deriving DecidableEq, Repr

/-- A queue pair of a function (R147 to R154). -/
structure QPair where
  sqBase : Nat := 0
  cqBase : Nat := 0
  sqSize : Nat := 0
  cqSize : Nat := 0
  vector : Nat := 0
  enable : Bool := false
  ign : Nat := 0
  fault : Nat := 0
  live : Bool := false
  sqHead : Nat := 0
  sqTail : Nat := 0
  cqHead : Nat := 0
  cqTail : Nat := 0
  phase : Bool := true
  /-- Completion entries written and not yet consumed (R147). -/
  unconsumed : Nat := 0
  /-- Packets whose fetch has been requested, oldest first: the SQ index of each, with its
  request instant (R148, R406). -/
  fetching : List (Nat × Nat) := []
  /-- Packets fetched and not yet decided, oldest first, 32 words each (R148). -/
  fetched : List (List Word) := []
  /-- The instant at which the oldest fetched packet reached the head (R114); none before. -/
  headAt : Option Nat := none
  /-- The status and results with which the packet at the head ends unadmitted (R156, R164). -/
  decided : Option (Nat × List Nat) := none
  /-- Packets still to end with FLUSHED, counted from the head (R176). -/
  flushLeft : Nat := 0
  deriving DecidableEq, Repr

/-- A host window (R158 to R161). -/
structure Window where
  base : Nat := 0
  pages : Nat := 0
  read : Bool := false
  write : Bool := false
  enable : Bool := false
  ign : Nat := 0
  fault : Nat := 0
  live : Bool := false
  deriving DecidableEq, Repr

/-- One PCIe function: configuration-space controls, MSI-X table bits and its BAR0 registers
(R404 to R411). -/
structure Fn where
  memEn : Bool := true
  busEn : Bool := true
  msixEn : Bool := true
  /-- Device Control and the AER control (R404, R414): the codes of Max Payload Size (128 bytes) and Max Read Request Size
  (512 bytes), Extended Tags, the reporting of non-fatal errors, ECRC generation and checking. -/
  maxPayload : Nat := 0
  maxReadReq : Nat := 2
  extTags : Bool := true
  errReport : Bool := false
  ecrcGen : Bool := false
  ecrcCheck : Bool := false
  /-- The AER log: the bits of the uncorrectable errors recorded and not cleared (R404, R406, R414). -/
  aer : BitVec 32 := 0
  fnMask : Bool := false
  /-- The mask bit of each vector; set at reset. -/
  vecMask : BitVec 64 := BitVec.allOnes 64
  /-- Address and data DWORDs of the MSI-X table, keyed 4 * vector + DWORD. -/
  msix : KMap Nat := []
  pba : BitVec 64 := 0
  d3 : Bool := false
  evtCapVec : Nat := 0
  evtLaneVec : Nat := 0
  evtEnable : Bool := false
  evtIgn : Nat := 0
  hostErrCnt : Nat := 0
  pairs : KMap QPair := []
  windows : KMap Window := []
  /-- Latched words of multi-word values: register address to word (R419); an indirect address
  stands at 0x1000000 plus the address. -/
  latches : KMap Nat := []
  deriving DecidableEq, Repr

/-- The host interface as a whole (R405, R415, R421 to R425). -/
structure HostIf where
  fns : KMap Fn := []
  numVfs : Nat := 0
  vfEnable : Bool := false
  linkUp : Bool := false
  linkWidth : Nat := 0
  linkGen : Nat := 0
  indAddr : Nat := 0
  autoInc : Bool := true
  errKind : Nat := 0
  errIndirect : Bool := false
  errFn : Nat := 0
  errBar : Nat := 0
  errAddr : Nat := 0
  errCnt : Nat := 0
  /-- References of the configuration groups that differ from the CRC of their reset values. -/
  cfgRef : KMap (Option Nat) := []
  /-- CRC of the last completed walk of each group; none before the first. -/
  cfgCur : KMap (Option Nat) := []
  cfgMismatch : BitVec 16 := 0
  /-- The instant from which each set bit of CFG_MISMATCH stands. -/
  cfgSince : KMap (Option Nat) := []
  cfgSel : Nat := 0
  cfgPass : Nat := 0
  /-- The group that the walker walks next. -/
  cfgWalk : Nat := 0
  deriving DecidableEq, Repr

/-! ### Tamper system (chapter "Tamper Sensing and Alarm Response") -/

/-- An L1 that stands: its sensor, its region, and the instant from which its cause has gone. -/
structure L1 where
  sensor : Nat
  region : Nat
  goneAt : Option Nat
  deriving DecidableEq, Repr

/-- An alarm raised by a unit and not yet answered by the tamper system: sensor, region, level and
measured value (R431). -/
structure Raise where
  sensor : Nat
  region : Nat
  level : Nat
  value : Int
  deriving DecidableEq, Repr

/-- An entry of the lockdown history (R438). -/
structure L3Entry where
  sensor : Nat
  region : Nat
  calendar : Nat
  deriving DecidableEq, Repr

/-- The tamper domain (R430 to R449). History, policy, BREACH latch and check pattern stand in
retained cells. -/
structure Tm where
  outPulse : Nat := 0
  enable : Bool := true
  outSel : Nat := 0x18
  warn : Nat := 0x5F
  ign : Nat := 0
  fault : Nat := 0
  /-- Alarms raised within the present command, oldest first. -/
  raised : List Raise := []
  active : List L1 := []
  watchGap : Bool := false
  watchGapNoted : Bool := false
  envOk : Bool := false
  oscOk : Bool := false
  lastSensor : Nat := 0
  lastLevel : Nat := 0
  lastRegion : Nat := 0
  l1Count : Nat := 0
  l2Count : Nat := 0
  /-- The sensors' readings in 0.125 °C, sensors 0 to 19, four per loom and then four central (R431). -/
  temps : KMap Int := []
  /-- The hottest reading since the start; none before the first. -/
  tempMax : Option Int := none
  /-- An L3 or L4 has tripped at this start, and when. -/
  tripped : Bool := false
  tripAt : Nat := 0
  /-- Rails out of their range as last measured: islands 0 to 4, then VDD_NV, VDD_PHY, VDD_IO, VDD_AUX. -/
  railsOut : BitVec 10 := 0
  /-- Bit 8 l + p: pair p is over a limit with loom l affected (R457). -/
  nbr : BitVec 32 := 0
  envMismatch : Nat := 0
  glitches : Nat := 0
  laneMac : Nat := 0
  engineFaults : Nat := 0
  history : List L3Entry := []
  policy : Nat := 0
  policyCount : Nat := 0
  policyWindow : Nat := 0
  breach : Bool := false
  checkPattern : Bool := false
  /-- ALARM_N is asserted (R444). -/
  alarmN : Bool := false
  /-- The levels that stand at the service-ball alarm outputs, and the end of a pulse (R449). -/
  outLevels : BitVec 5 := 0
  pulseEnd : Option Nat := none
  /-- Recent alarms that count towards an escalation: kind, region, instant (R434). -/
  recent : List (Nat × Nat × Nat) := []
  /-- Consecutive mismatches of each Envelope net (R432). -/
  netRuns : KMap Nat := []
  /-- Steps S2 to S5 of a scuttle that are done (R439): 0 none begun. -/
  scuttleStep : Nat := 0
  /-- A lockdown's Zeroise core crypto phase is still to come (R437). -/
  zeroiseDue : Bool := false
  /-- The instant until which a lane's next bring-up waits after an L1 (R435). -/
  laneHold : KMap Nat := []
  deriving DecidableEq, Repr

/-! ### Clocks, supplies, start-up and ageing (chapter "Clocks, Power, Start-up and Ageing") -/

/-- The CP_ block, time of service and calendar time (R450 to R459, R471). -/
structure Clk where
  running : Bool := false
  sscDepth : Nat := 2
  sscEnable : Bool := true
  ign : Nat := 0
  fault : Nat := 0
  sscActive : Nat := 0
  refOk : Bool := false
  pllLock : Bool := false
  smbFault : Bool := false
  throttlePlan : BitVec 4 := 0
  tempOver : BitVec 8 := 0
  voltOver : BitVec 8 := 0
  vset : KMap Nat := []
  vmeas : KMap Nat := []
  tos : Nat := 0
  era : Nat := 0
  /-- Calendar seconds and nanoseconds of the second (R454). -/
  cal : Nat := 0
  calNs : Nat := 0
  /-- While slewing: the target count, seconds and nanoseconds (R455). -/
  slew : Option (Nat × Nat) := none
  calSet : Nat := 0
  everSet : Bool := false
  /-- Time spent in service state READY since the start (R396, R466). -/
  readyUs : Nat := 0
  calLast : Nat := 0
  calSource : Nat := 2
  calSteps : Nat := 0
  /-- The retained calendar value (R454). -/
  calRetained : Nat := 0
  /-- The instant at which the retained value is next written. -/
  retainAt : Nat := 0
  resetCause : Nat := 1
  startMs : Nat := 0
  /-- The instant of supply good of this start. -/
  startAt : Nat := 0
  pfCount : Nat := 0
  smbAddr : KMap Nat := []
  smbTarget : Nat := 0x4C
  /-- Lines that hold the device in reset: RESET_N, PERST_N and the power-fail hold (R459). -/
  resetN : Bool := false
  perstN : Bool := false
  /-- TEST_EN stands high, which acts as RESET_N low (R490). -/
  testEn : Bool := false
  powerFailHold : Bool := false
  /-- What CP_RESET_CAUSE shows after the next start. -/
  nextCause : Nat := 1
  /-- VBAT_TM kept the tamper domain alive through the last off period. -/
  kept : Bool := false
  /-- The main supplies are good. -/
  supply : Bool := false
  deriving DecidableEq, Repr

/-- The AG_ block (R466 to R469, R472). -/
structure Ag where
  warnPermil : Nat := 0x384
  enable : Bool := true
  ign : Nat := 0
  centralEol : Bool := false
  centralNow : Bool := false
  planning : Bool := false
  countedOut : BitVec 4 := 0
  lifeUsed : Nat := 0
  /-- Equivalent microseconds of each island; the retained copy beside them (R468). -/
  sums : KMap Nat := []
  sumsRetained : KMap Nat := []
  /-- The instant of the last accumulation, and accumulations since the sums were retained (R468). -/
  tickAt : Nat := 0
  ticks : Nat := 0
  planTime : Nat := 0
  planCount : Nat := 0
  /-- The instant of the last plan (R466). -/
  planAt : Nat := 0
  monSel : Nat := 0
  deltas : KMap Nat := []
  eolMv : KMap Nat := []
  pufForecast : Nat := 0
  dNowMax : Nat := 0
  lastPlanMs : Nat := 0
  deriving DecidableEq, Repr

/-- Where a phase of start-up stands (R460). -/
inductive Phase where
  | tamper | fuses | clocks | registers | ballast | plan
  | entropy | pufRead | extract | derive
  | firmware | recAnchor | recChain | recTree | recReplay | recOutcomes | recWrites
  | slots | release | steward | selfTest | applets | ready
  deriving DecidableEq, Repr

/-- The start in progress: the phases that have ended, and whether the start is stopped. -/
structure Start where
  done : List Phase := []
  /-- The instant at which each phase ended; phases that run side by side end at their own (R460). -/
  ends : List (Phase × Nat) := []
  stopped : Bool := false
  deriving DecidableEq, Repr

/-- One firmware slot (R464, R465): ACT_SEQ of its header and its image. -/
structure FwSlot where
  /-- The image that Chesevia shipped; its bytes are not known. -/
  shipped : Bool := false
  actSeq : Nat := 0
  /-- The slot header as stored (R465): none as Chesevia wrote it. -/
  head : Option (List Byte) := none
  /-- The image as stored, by part of 4 MiB, and the parts written into the slot so far. -/
  parts : KMap StoredArea := []
  writes : Nat := 0
  version : Nat := 0
  readFormats : Nat := 0
  writeFormat : Nat := 0
  codeLen : Nat := 0
  dataLen : Nat := 0
  /-- The whole image is held and its header and signature pass (IMAGE_VALID). -/
  valid : Bool := false
  deriving DecidableEq, Repr

/-- Both firmware slots and the running one (R464). Slot 0 unlisted is as shipped. -/
structure Fws where
  slots : KMap FwSlot := []
  running : Option Nat := none
  /-- Parts staged into the slot that is not running since it last changed. -/
  staged : List Nat := []
  /-- FIRMWARE_ACTIVATE has written ACT_SEQ; the stewards restart next. -/
  restartDue : Option Nat := none
  deriving DecidableEq, Repr

/-! ### Observation (chapter "Trace, Counters and Event Log") -/

/-- One event counter (R478). -/
structure Counter where
  count : Nat := 0
  event : Nat := 0
  deriving DecidableEq, Repr

/-- Trace, counters and event log (R473 to R487). -/
structure Ob where
  traceTypes : Nat := 0xFF
  traceEnable : Bool := false
  traceIgn : Nat := 0
  traceLost : Nat := 0
  /-- Messages that wait in the trace intake, oldest first (R476). -/
  intake : List (List Nat) := []
  /-- Messages dropped since the previous LOST (R474). -/
  pendingLost : Nat := 0
  counters : KMap Counter := []
  cntEnable : Bool := true
  cntIgn : Nat := 0
  cntFault : Nat := 0
  cntSel : Nat := 0
  /-- The entries held, newest first, sixteen words each (R481). -/
  log : List (List Nat) := []
  logNext : Nat := 0
  logDropped : Nat := 0
  /-- An entry was dropped since the last one written (R482). -/
  logGap : Bool := false
  /-- The intake: words W2 to W15 of the entries of this instant that are not yet written (R482). -/
  logIntake : List (List Nat) := []
  mark : Nat := 0
  sel : Nat := 0
  win : List Nat := []
  winHeld : Bool := false
  deriving DecidableEq, Repr

/-! ### Service balls and boundary scan (chapter "Package, Balls and Electrical Characteristics") -/

/-- The PM_ block (R504 to R507). A PM_SVC register's reset value is 0x0041. -/
structure Pm where
  enable : Bool := true
  ign : Nat := 0
  fault : Nat := 0
  faultBall : Nat := 0
  miscSlew : Nat := 0
  ccDrive : Nat := 1
  ccSlew : Nat := 0
  gpioOut : BitVec 64 := 0
  /-- The levels at which the board drives the service balls (R504). -/
  levels : BitVec 64 := 0
  svc : KMap Nat := []
  /-- The settings in force at the balls. -/
  inForce : KMap Nat := []
  /-- Balls parked. -/
  parked : BitVec 64 := 0
  /-- Every ball is parked with a pull-down until the Registers phase (R505). -/
  allParked : Bool := true
  deriving DecidableEq, Repr

/-- The TAP (R510). -/
structure Tap where
  instr : Nat := 0x01
  heldReset : Bool := false
  boundary : BitVec 453 := 0
  deriving DecidableEq, Repr

/-- The device's global state (R19 to R25, R415). -/
structure Glb where
  lifecycle : Nat := 0x03
  service : Nat := 1
  holdupOk : Bool := false
  loomIn : BitVec 4 := 0
  fwVer : Nat := 0
  deriving DecidableEq, Repr

/-- The state of the D64. `pending`, `now`, `free` and `out` are the model's own: the queue of
waiting commands, the instant in µs, the number of free values drawn, and what has left the part (DESIGN CHOICE,
log 1, 5, 8, 9). -/
structure State where
  pending : List Instr := []
  now : Nat := 0
  free : Nat := 0
  out : List Output := []
  glb : Glb := {}
  host : HostIf := {}
  cmds : Cmds := {}
  adm : Adm := {}
  led : Led := {}
  jn : Jn := {}
  realms : Realms := {}
  cells : Cells := {}
  keys : Keys := {}
  engs : Engs := {}
  /-- The 64 lanes (R351 to R383). -/
  lanes : KMap Lane := []
  card : Card := {}
  ic : Ic := {}
  tm : Tm := {}
  clk : Clk := {}
  ag : Ag := {}
  ob : Ob := {}
  pm : Pm := {}
  tap : Tap := {}
  start : Start := {}
  fws : Fws := {}
  deriving DecidableEq, Repr

/-- The D64 as shipped, before its first supply good (R19, R85): every field at the value its
structure names (DESIGN CHOICE where the spec states none, log 12, 13; PRESUMED for the functions' enables, log 14). -/
def State.reset : State := {}

end Sys2Proof.Machine
end

