-- ==== Sys2Proof/Machine/Ops.lean ====
section
/-! DEFINITION. The operations every unit shares: free values, outputs, the event log, counters and
trace (R473 to R487), interrupt sources (R426 to R429) and the passing of time (R453 to R455). -/

namespace Sys2Proof.Machine

/-! ### Free values and outputs -/

/-- Draw a free value for a use: the value and the state that has counted the draw. (DESIGN CHOICE, log 9) -/
def draw (use : Nat) (s : State) : Nat × State :=
  (Config.freeValue use s.free, { s with free := s.free + 1 })

/-- Draw n free bytes. -/
def drawBytes (use n : Nat) (s : State) : List Byte × State :=
  let d := draw use s
  (beBytes n d.1, d.2)

/-- Record an output. (DESIGN CHOICE, log 8) -/
def emit (o : Output) (s : State) : State := { s with out := o :: s.out }

/-! ### Functions and MSI-X (R408) -/

/-- Function n's state. -/
def getFn (s : State) (n : Nat) : Fn := mget {} s.host.fns n

/-- Function n's state replaced. -/
def setFn (n : Nat) (f : Fn) (s : State) : State :=
  { s with host := { s.host with fns := mset {} s.host.fns n f } }

/-- An uncorrectable error recorded in a function's AER log, by its bit there (R404, R414). (PRESUMED, log 136) -/
def aerLog (n b : Nat) (s : State) : State :=
  let f := getFn s n
  setFn n { f with aer := f.aer ||| (1#32 <<< b) } s

/-- The ERR_NONFATAL message of a function, where it reports errors (R414). -/
def reportErr (n : Nat) (s : State) : State := if (getFn s n).errReport then emit (.errNonfatal n) s else s

/-- A function sends messages: MSI-X is on, and it may issue requests (R408). -/
def msixOn (f : Fn) : Bool := f.msixEn && f.busEn && !f.d3

/-- An MSI-X message of a function: held in the PBA while masked; there is none while MSI-X is off or the function may
issue no request (R408). (DEDUCED, log 136) -/
def msixSend (n vec : Nat) (s : State) : State :=
  let f := getFn s n
  if !msixOn f then s
  else if f.fnMask || f.vecMask.getLsbD vec then
    setFn n { f with pba := f.pba ||| (1#64 <<< vec) } s
  else emit (.msix n vec) s

/-! ### Interrupt sources (R426, R427) -/

/-- The kinds of R426. -/
inductive SrcKind where
  | queue | event | level | reserved
  deriving DecidableEq, Repr

/-- The kind of each source (R427, R448, R470, R486). -/
def srcKind (n : Nat) : SrcKind :=
  if n < 288 then .queue
  else if n < 380 then .level
  else if n ∈ [382, 384, 387, 388, 417, 418, 419, 422, 449, 464, 465, 466, 468] then .level
  else if n ∈ [380, 381, 383, 385, 386, 389, 390, 391, 392, 416, 420, 421, 448, 450, 451, 467, 469, 470]
    then .event
  else .reserved

/-- The bitmap with bit n alone. -/
def srcBit (n : Nat) : BitVec 512 := 1#512 <<< n

/-- An event, or a rise of RAW: PEND is set on the host and on the steward side (R426). -/
def icRaise (n : Nat) (s : State) : State :=
  { s with ic := { s.ic with pend := s.ic.pend ||| srcBit n, pendSteward := s.ic.pendSteward ||| srcBit n } }

/-- IC_ROUTE of a source. -/
def icRoute (s : State) (n : Nat) : Nat := mget 0x4000 s.ic.routes n

/-- Whether a source is delivered to the host now (R426). -/
def icDue (s : State) (n : Nat) : Bool :=
  s.ic.enable && s.ic.pend.getLsbD n && !s.ic.mask.getLsbD n && !s.ic.insvc.getLsbD n &&
    bit (icRoute s n) 15 && (srcKind n == .event || srcKind n == .level)

/-- One delivery: PEND becomes 0 and INSVC 1. -/
def icTake (s : State) (n : Nat) : State :=
  { s with ic := { s.ic with pend := s.ic.pend &&& ~~~ srcBit n, insvc := s.ic.insvc ||| srcBit n } }

/-- The message on CAP_VEC to each VF that takes events, due each time source 380 is raised (R429). -/
def capMessages (s : State) : State :=
  (mkeys s.host.fns).foldl (fun t n =>
    if n ≠ 0 ∧ (getFn t n).evtEnable then msixSend n (getFn t n).evtCapVec t else t) s

/-- Source 380: the record's START_NO or CHANGE advanced; each VF with VF_EVT_CTRL.ENABLE gets a message (R427,
R429). -/
def capChanged (s : State) : State := capMessages (icRaise 380 s)

/-- The delivery pass: every due source is taken, and each vector gets one message (R426). -/
def icDeliver (s : State) : State :=
  if !s.ic.enable || s.ic.pend &&& ~~~ s.ic.mask == 0 then s else
  let due := (List.range 512).filter (icDue s)
  let vecs := (due.map (fun n => bits (icRoute s n) 5 0)).eraseDups
  vecs.foldl (fun t v => msixSend 0 v t) (due.foldl icTake s)

/-! ### Counters and trace (R474 to R479) -/

/-- Whether a counter's selection takes an event. -/
def cntMatch (evt qual sel : Nat) : Bool :=
  sel == evt * 256 + qual || sel == evt * 256 + 0xFF

/-- The largest count (R478). -/
def cntMax : Nat := 2 ^ 48 - 1

/-- Count n occurrences of an event; source 451 is raised when a counter reaches its end (R478). The counters are
frozen once an L3 or L4 has tripped (R485). -/
def countN (evt qual n : Nat) (s : State) : State :=
  if !s.ob.cntEnable || s.tm.tripped then s else
  let hit := fun (c : Counter) => cntMatch evt qual c.event
  let sat := s.ob.counters.any (fun p => hit p.2 && decide (p.2.count < cntMax) && decide (cntMax ≤ p.2.count + n))
  let s' := { s with ob := { s.ob with counters := s.ob.counters.map (fun p =>
    if hit p.2 then (p.1, { p.2 with count := min cntMax (p.2.count + n) }) else p) } }
  if sat then icRaise 451 s' else s'

/-- Count one occurrence. -/
def count (evt qual : Nat) (s : State) : State := countN evt qual 1 s

/-- Put a message into the trace intake; one that does not fit whole is dropped and counted
(R476). -/
def traceMsg (words : List Nat) (s : State) : State :=
  let used := (s.ob.intake.map List.length).foldl (fun a b => a + b) 0
  if used + words.length ≤ 2048 then { s with ob := { s.ob with intake := s.ob.intake ++ [words] } }
  else { s with ob := { s.ob with
    traceLost := satInc s.ob.traceLost 0xFFFFFFFF
    pendingLost := satInc s.ob.pendingLost 0xFFFFFFFF } }

/-- A trace message of a type that is enabled; the trace stops at an L3 or L4 (R474, R485, R487). -/
def trace (type hdr : Nat) (words : List Nat) (s : State) : State :=
  if s.ob.traceEnable && !s.tm.tripped && bit s.ob.traceTypes (type - 2) then traceMsg ((type * 4096 + hdr) :: words) s
  else s

/-- The FUNC of a service ball's setting in force. -/
def ballFunc (s : State) (n : Nat) : Nat := bits (mget 0x0041 s.pm.inForce n) 5 3

/-- Send messages from the intake for a number of trace words. -/
def drainTrace : Nat → List (List Nat) → List (List Nat) × List (List Nat)
  | _, [] => ([], [])
  | budget, m :: ms =>
    if m.length ≤ budget then
      let (sent, left) := drainTrace (budget - m.length) ms
      (m :: sent, left)
    else ([], m :: ms)

/-! ### Event log (R481 to R483) -/

/-- The larger of 0 and NEXT − 4,096 (R481). -/
def logOldest (s : State) : Nat := s.ob.logNext - 4096

/-- An entry, with a group, an event code and W7 on, enters the intake as its words W2 to W15. One that finds the intake of
64 full is dropped and counted (R482). Source 448 is raised as R486 gives. (DEDUCED, log 99) -/
def logEvent (group event : Nat) (args : List Nat) (s : State) : State :=
  if 64 ≤ s.ob.logIntake.length then
    { s with ob := { s.ob with logDropped := satInc s.ob.logDropped 0xFFFF, logGap := true } }
  else
    let e := leNats 3 s.clk.tos ++ [s.clk.era * 256 + b2n s.ob.logGap, group * 256 + event] ++ padTo 9 0 args
    let s' := { s with ob := { s.ob with logGap := false, logIntake := s.ob.logIntake ++ [e] } }
    if group = 2 ∨ (group = 1 ∧ 256 ≤ args.headD 0) then icRaise 448 s' else s'

/-- An entry of the intake is written with the next INDEX (R481). -/
def writeEntry (o : Ob) (e : List Nat) : Ob :=
  { o with log := ((leNats 2 o.logNext ++ e) :: o.log).take 4096, logNext := (o.logNext + 1) % 2 ^ 32 }

/-- Entries of one instant in the order in which they are written: the tamper system's first, then the others in ascending
GROUP (R482, R483). -/
def logOrder (es : List (List Nat)) : List (List Nat) :=
  (List.range 10).flatMap (fun g => es.filter (fun e => e.getD 4 0 / 256 == g))

/-- The entries of the intake are written, one in each CK_PERIPH cycle (R482). -/
def writeLog (s : State) : State :=
  if s.ob.logIntake.isEmpty then s
  else { s with ob := { (logOrder s.ob.logIntake).foldl writeEntry s.ob with logIntake := [] } }

/-- The entry with an index, where it is held. -/
def logFind (s : State) (i : Nat) : Option (List Nat) :=
  s.ob.log.find? (fun e => e.getD 0 0 + 65536 * e.getD 1 0 == i)

/-- A unit raises an alarm; the tamper system answers it when the command ends (R431, R435). -/
def alarm (sensor region level : Nat) (value : Int) (s : State) : State :=
  { s with tm := { s.tm with raised := s.tm.raised ++ [⟨sensor, region, level, value⟩] } }

/-! ### Service state (R22, R427) -/

def svStarting : Nat := 1
def svReady : Nat := 2
def svReadOnly : Nat := 3
def svQuiescing : Nat := 4
def svQuiesced : Nat := 5
def svLockdown : Nat := 6

/-- The lifecycle states of R19. -/
def lcUnprovisioned : Nat := 0x03
def lcProvisioned : Nat := 0x0F
def lcDecommissioned : Nat := 0x3F
def lcScuttled : Nat := 0xFF

/-- A change of GLB_SERVICE.STATE raises source 381 (R427). -/
def setService (v : Nat) (s : State) : State :=
  if s.glb.service = v then s else icRaise 381 { s with glb := { s.glb with service := v } }

/-- GLB_SERVICE as a word (R25). -/
def serviceWord (s : State) : Nat :=
  b2n s.glb.holdupOk * 256 + s.glb.loomIn.toNat * 16 + s.glb.service

/-- READY, READ_ONLY, QUIESCING or QUIESCED. -/
def inService (s : State) : Bool := decide (svReady ≤ s.glb.service ∧ s.glb.service ≤ svQuiesced)

/-- The device is held in reset: by a line, after a power-fail detection, or by the TAP (R98, R459, R510). -/
def heldReset (s : State) : Bool := s.clk.powerFailHold || s.clk.resetN || s.clk.perstN || s.clk.testEn || s.tap.heldReset

/-- The units run: the clocks do, no L3 or L4 has tripped, and the device is not held in reset. (DEDUCED, log 7) -/
def alive (s : State) : Bool := s.clk.supply && s.clk.running && !s.tm.tripped && !heldReset s

/-! ### Firmware slots (R464, R465) -/

/-- Slot 0 as shipped: it reads and writes page format 1 (R61). (DESIGN CHOICE, log 10) -/
def shippedFw : FwSlot :=
  { shipped := true, actSeq := 1, version := Config.fwVersion % 65536, readFormats := 2, writeFormat := 1
    codeLen := Config.fwCodeLen % 4097, valid := true }

/-- A firmware slot. -/
def fwSlot (s : State) (n : Nat) : FwSlot := (mfind s.fws.slots n).getD (if n = 0 then shippedFw else {})

/-- The running firmware. -/
def fwRunning (s : State) : Option FwSlot := s.fws.running.map (fwSlot s)

/-! ### Time (R453 to R455) -/

/-- Calendar nanoseconds from seconds and nanoseconds. -/
def calJoin (sec ns : Nat) : Nat := sec * 1000000000 + ns

/-- The latest calendar instant, in nanoseconds (R454). -/
def calTop : Nat := calJoin 0xFFFFFFFF 0

/-- The calendar after dt µs: full rate, or 999/1000 of it while slewing towards a count that runs at
full rate; it never passes its end nor, slewing, the count it slews to (R455). -/
def calPass (dt : Nat) (c : Clk) : Clk :=
  let cal := calJoin c.cal c.calNs
  match c.slew with
  | none =>
    let v := min calTop (cal + 1000 * dt)
    { c with cal := v / 1000000000, calNs := v % 1000000000 }
  | some (ts, tns) =>
    let t := min calTop (calJoin ts tns + 1000 * dt)
    let v := max t (min calTop (cal + 999 * dt))
    { c with cal := v / 1000000000, calNs := v % 1000000000, slew := some (t / 1000000000, t % 1000000000) }

/-- Time of service advances; at its wrap ERA advances, the wrap is logged and source 420 raised
(R453). -/
def tosPass (dt : Nat) (s : State) : State :=
  let t := s.clk.tos + dt
  let s' := { s with clk := calPass dt { s.clk with tos := t % 2 ^ 48, era := (s.clk.era + t / 2 ^ 48) % 256 } }
  if 2 ^ 48 ≤ t then icRaise 420 (logEvent 8 1 [s'.clk.era] s') else s'

/-- A service ball is parked: by a change of its setting, and each from a device reset or a loss of supply until the
Registers phase (R505, R506). -/
def svcParked (s : State) (n : Nat) : Bool :=
  s.pm.allParked || s.pm.parked.getLsbD n || heldReset s || !s.clk.supply

/-- The trace port sends: SVC_00 to SVC_16 carry FUNC 2 and none is parked (R504). -/
def tracePortOpen (s : State) : Bool := (List.range 17).all (fun n => ballFunc s n == 2 && !svcParked s n)

/-- The trace port sends for dt µs, at least 746 words in each (R473). -/
def sendTrace (dt : Nat) (s : State) : State :=
  if s.ob.intake.isEmpty || !tracePortOpen s then s else
  let (sent, left) := drainTrace (746 * dt) s.ob.intake
  sent.foldl (fun t m => emit (.trace m) t) { s with ob := { s.ob with intake := left } }

/-- A SYNC message of an instant of service (R474). -/
def syncMsg (tos era : Nat) (s : State) : State := traceMsg ((0x1000 + era % 256) :: leNats 3 (tos % 2 ^ 48)) s

/-- The trace of dt µs that pass up to now: the port sends, and while the trace is enabled each microsecond of time of
service ends in its SYNC (R473, R474). -/
def tracePass (dt : Nat) (s : State) : State :=
  if s.ob.traceEnable && !s.tm.tripped && s.clk.running then
    let at_ := s.clk.era * 2 ^ 48 + s.clk.tos - dt
    (List.range dt).foldl (fun t k => syncMsg (at_ + k + 1) ((at_ + k + 1) / 2 ^ 48) (sendTrace 1 t)) s
  else sendTrace dt s

/-- dt µs pass: the log's intake is written, the model's instant, time of service and calendar go on while their clock runs
(with the supplies off, the calendar that VBAT_TM keeps, R454), event 0x12 counts, the trace port sends, and the service
balls stand as the board then drives them (R504; free values, log 139). -/
def passTime (dt : Nat) (s : State) : State :=
  if dt = 0 then s else
  let s := writeLog s
  let s := { s with
    now := s.now + dt
    pm := { s.pm with levels := Config.boardLevels (s.now + dt) }
    clk := { s.clk with readyUs := s.clk.readyUs + if s.glb.service = svReady then dt else 0 } }
  let s := if s.clk.running then countN 0x12 0 dt (tosPass dt s)
    else if s.clk.kept then { s with clk := calPass dt s.clk } else s
  tracePass dt s

end Sys2Proof.Machine
end

