-- ==== Sys2Proof/Machine/Line.lean ====
section
/-! DEFINITION. The line code of a lane (R354): 8b/10b symbols with running disparity, and a frame as it travels. The
spec names the code and gives no table: this is the one of its name. (PRESUMED, log 107) -/

namespace Sys2Proof.Machine

/-- The 6-bit codes of the low five bits, at negative disparity, bit a first. -/
def code6 : List Nat :=
  [0b100111, 0b011101, 0b101101, 0b110001, 0b110101, 0b101001, 0b011001, 0b111000, 0b111001, 0b100101, 0b010101,
   0b110100, 0b001101, 0b101100, 0b011100, 0b010111] ++
  [0b011011, 0b100011, 0b010011, 0b110010, 0b001011, 0b101010, 0b011010, 0b111010, 0b110011, 0b100110, 0b010110,
   0b110110, 0b001110, 0b101110, 0b011110, 0b101011]

/-- The 4-bit codes of the high three bits, at negative disparity. -/
def code4 : List Nat := [0b1011, 0b1001, 0b0101, 0b1100, 0b1101, 0b1010, 0b0110, 0b1110]

/-- The ones among the low n bits. -/
def onesIn (n v : Nat) : Nat := ((List.range n).filter (fun i => v.testBit i)).length

/-- A half code of n bits at a disparity (true for positive): its complement where it is unbalanced, or the balanced
one that has two forms; and the disparity after it. -/
def halfCode (n v : Nat) (twoForms rd : Bool) : Nat × Bool :=
  let uneven := onesIn n v * 2 != n
  (if rd && (uneven || twoForms) then 2 ^ n - 1 - v else v, rd != uneven)

/-- The symbol of a byte, and the disparity after it. -/
def dataSymbol (rd : Bool) (b : Nat) : Nat × Bool :=
  let x := b % 32
  let y := b / 32
  let (h, r1) := halfCode 6 (code6.getD x 0) (x == 7) rd
  let alt := y == 7 && (if r1 then x == 11 || x == 13 || x == 14 else x == 17 || x == 18 || x == 20)
  let (l, r2) := halfCode 4 (if alt then 0b0111 else code4.getD y 0) (y == 3) r1
  (h * 16 + l, r2)

/-- The symbol of a control character, given at negative disparity. -/
def controlSymbol (rd : Bool) (k : Nat) : Nat × Bool :=
  (if rd then 1023 - k else k, rd != (onesIn 10 k * 2 != 10))

def k28_5 : Nat := 0b0011111010
def k27_7 : Nat := 0b1101101000
def k29_7 : Nat := 0b1011101000
def k28_2 : Nat := 0b0011110101
def k30_7 : Nat := 0b0111101000

/-- What travels: a control character, or a byte. -/
inductive LineChar where
  | control (k : Nat)
  | byte (b : Byte)
  deriving DecidableEq, Repr

/-- A frame with its delimiters, after a MARK or none; one IDLE follows it. (DESIGN CHOICE, log 123) -/
def frameChars (mark : Bool) (bytes : List Byte) : List LineChar :=
  (if mark then [.control k28_2] else []) ++ [.control k27_7] ++ bytes.map LineChar.byte ++
    [.control k29_7, .control k28_5, .byte 0xB5]

/-- Characters as symbols, from a disparity. -/
def lineSymbols (rd : Bool) (cs : List LineChar) : List Nat × Bool :=
  cs.foldl (fun (a : List Nat × Bool) c =>
    let (v, r) := match c with
      | .control k => controlSymbol a.2 k
      | .byte b => dataSymbol a.2 b.toNat
    (a.1 ++ [v], r)) ([], rd)

/-- IDLEs. -/
def idleChars (n : Nat) : List LineChar := (List.replicate n [LineChar.control k28_5, .byte 0xB5]).flatten

/-- The ns that a number of symbols takes at 3.000 Gb/s (R351). (DESIGN CHOICE, log 123) -/
def lineNs (n : Nat) : Nat := ceilDiv (10 * n) 3

/-- The disparity after symbols: one of six ones leaves it positive, one of four negative. -/
def disparity (rd : Bool) (vs : List Nat) : Bool :=
  vs.foldl (fun r v => if onesIn 10 v = 6 then true else if onesIn 10 v = 4 then false else r) rd

/-! ### Receiving (R354) -/

/-- The character of a symbol at a disparity, and the disparity after it: none for an error, a code or a disparity
violation or a control symbol that has no meaning. -/
def rxSymbol (rd : Bool) (v : Nat) : Option (LineChar × Bool) :=
  match [k28_5, k27_7, k29_7, k30_7, k28_2].find? (fun k => (controlSymbol rd k).1 == v) with
  | some k => some (.control k, (controlSymbol rd k).2)
  | none => ((List.range 256).find? (fun b => (dataSymbol rd b).1 == v)).map (fun b => (.byte (BitVec.ofNat 8 b), (dataSymbol rd b).2))

/-- The bytes of a frame after its SOF: none where an error symbol, an ABORT or anything but EOF ends it. -/
def rxBytes : Bool → List Nat → Option (List Byte)
  | _, [] => none
  | rd, v :: vs =>
    match rxSymbol rd v with
    | some (.byte b, r) => (rxBytes r vs).map (fun bs => b :: bs)
    | some (.control k, _) => if k = k29_7 then some [] else none
    | none => none

/-- A frame from its SOF on, or from the MARK before it, at the disparity in which its first symbol stands. -/
def rxLine (vs : List Nat) : Option (List Byte) :=
  [false, true].findSome? (fun rd =>
    match vs with
    | v :: vs =>
      match rxSymbol rd v with
      | some (.control k, r) =>
        if k = k27_7 then rxBytes r vs
        else if k = k28_2 then (match vs with
          | u :: us => if (controlSymbol r k27_7).1 = u then rxBytes (controlSymbol r k27_7).2 us else none
          | [] => none)
        else none
      | _ => none
    | [] => none)

end Sys2Proof.Machine
end

