-- ==== Sys2Proof/Machine/RealmTable.lean ====
section
/-! DEFINITION. The realm table (R39, R46, R78, R122, R270, R394 to R399): reading it, and what each
REALM and CARD entry changes in it. The same functions serve the append, the anchor and replay. -/

namespace Sys2Proof.Machine

/-- A realm's row as shipped: realm 0's shares are those of R122. -/
def shippedRow (r : Nat) : RealmRow :=
  if r = 0 then { shares := [(0, 64), (1, 64), (4, 256), (7, 1024), (8, 256), (9, 1024)] } else {}

/-- A realm's row. -/
def rowOf (t : RealmTable) (r : Nat) : RealmRow := (mfind t.rows r).getD (shippedRow r)

/-- A realm's row replaced. -/
def setRow (r : Nat) (w : RealmRow) (t : RealmTable) : RealmTable := { t with rows := mput t.rows r w }

/-- A realm's row in force. -/
def realmRow (s : State) (r : Nat) : RealmRow := rowOf s.realms.live r

/-- BASE_e of a realm (R39). -/
def baseOf (s : State) (r e : Nat) : Nat := mget 0 (realmRow s r).bases e

/-- A realm's share of a resource (R122). -/
def shareOf (s : State) (r res : Nat) : Nat := mget 0 (realmRow s r).shares res

/-- The realm a device heddle is granted to (R273). -/
def grantOf (s : State) (h : Nat) : Option Nat := mget none s.realms.live.grants h

/-- The realm a lane is bound to, 0 for none (R15). -/
def laneRealm (s : State) (l : Nat) : Nat := mget 0 s.realms.live.lanes l

/-- A bank of a row (R270): 0 for A, 1 for B. -/
def bankOf (w : RealmRow) (b : Nat) : Option BankEntry := if b = 0 then w.bankA else w.bankB

/-- What a REALM entry changes (R78). -/
def applyRealmEntry (e : List Word) (t : RealmTable) : RealmTable :=
  let r := bits (wd e 0) 4 0
  let w := rowOf t r
  match bits (wd e 0) 11 8 with
  | 1 => setRow r { w with quota := pairAt e 1 } t
  | 2 => setRow r { w with epoch := wd e 1 % 4, bases := mset 0 w.bases (wd e 1 % 4) (pairAt e 2) } t
  | 4 => setRow r { w with shares := mset 0 w.shares (wd e 1) (wd e 2) } t
  | 5 =>
    let b : BankEntry := { gen := wd e 2, hash := wordBytes ((e.drop 3).take 4) }
    setRow r (if wd e 1 = 0 then { w with bankA := some b } else { w with bankB := some b }) t
  | 6 => setRow r { w with active := some (wd e 1 % 2) } t
  | 7 => if wd e 1 % 2 = 0 then setRow r { w with armed := some (wd e 2, wd e 3) } t
         else setRow r { w with armed := none, modeGen := wd e 2, mode := wd e 3 } t
  | 8 => { t with grants := mset none t.grants (bits (wd e 1) 4 0)
                              (if bit (wd e 1) 8 then some r else none) }
  | 9 => { t with lanes := mset 0 t.lanes (bits (wd e 1) 5 0) (bits (wd e 2) 4 0) }
  | 10 => { t with policy := wd e 1, policyCount := wd e 2, policyWindow := wd e 3 }
  | _ => t

/-- A custody-table entry (R394). -/
def cardOf (t : RealmTable) (i : Nat) : Option CardEntry := mget none t.cards i

/-- A custody-table entry replaced. -/
def setCard (i : Nat) (c : Option CardEntry) (t : RealmTable) : RealmTable :=
  { t with cards := mset none t.cards i c }

/-- What a CARD PREPARE or COMMIT entry changes (R399): the pending transaction, and at COMMIT the
realm's QUOTA. An APPROVE entry is applied by its operation. -/
def applyCardTxn (e : List Word) (t : RealmTable) : RealmTable :=
  let i := bits (wd e 0) 8 5
  let r := bits (wd e 0) 4 0
  let x : CardTxn := { seq := pairAt e 1, pre := pairAt e 3, post := pairAt e 5, quotaPre := pairAt e 7,
                       realm := r, committed := decide (bits (wd e 0) 11 9 = 2) }
  match cardOf t i with
  | none => t
  | some c =>
    let t := setCard i (some { c with txn := some x }) t
    if x.committed then
      setRow r { rowOf t r with quota := x.quotaPre + x.pre - x.post } t
    else t

/-- What a CARD APPROVE entry itself fixes in the table: the operations whose whole effect its words
spell (R395): CARD_REVOKE, SET_THRESHOLD and SET_CUSTODY. (DEDUCED, log 67) -/
def applyApprove (e : List Word) (t : RealmTable) : RealmTable :=
  match wd e 1 with
  | 0x0009 => setCard (bits (wd e 4) 3 0) none t
  | 0x000A => { t with threshold := bits (wd e 4) 3 0 }
  | 0x000B =>
    let r := bits (wd e 4) 4 0
    setRow r { rowOf t r with approveMask := bits (wd e 5) 3 0, debit := bit (wd e 5) 4 } t
  | _ => t

/-- What a CARD entry changes in the table. -/
def applyCardEntry (e : List Word) (t : RealmTable) : RealmTable :=
  if bits (wd e 0) 11 9 = 3 then applyApprove e t else applyCardTxn e t

/-- Whether an entry changes the realm table: REALM and CARD entries, and a PROMOTE, which sets
CUR_GEN (R301, R314). -/
def tableEntry (e : List Word) : Bool :=
  decide (eKind e = 4) || decide (eKind e = 6) || (decide (eKind e = 5) && decide (bits (wd e 1) 15 12 = 3))

/-- What any entry changes in the realm table. -/
def applyTableEntry (e : List Word) (t : RealmTable) : RealmTable :=
  match eKind e with
  | 4 => applyRealmEntry e t
  | 6 => applyCardEntry e t
  | 5 =>
    if bits (wd e 1) 15 12 = 3 then
      let r := bits (wd e 2) 4 0
      let w := rowOf t r
      setRow r { w with curGen := mset 0 w.curGen (bits (wd e 2) 12 9) (wd e 4) } t
    else t
  | _ => t

end Sys2Proof.Machine
end

