-- ==== Sys2Proof/Machine/Journal.lean ====
section
/-! DEFINITION. The journal: the open frame and its entries, closing, sealing, programming and
anchoring (R71 to R85), the replay span (R86, R91, R92) and the outcome store (R93 to R96). -/

namespace Sys2Proof.Machine

/-- A key derived from the ledger key (R295). -/
def ledgerSub (label : Nat) : List Byte := kdf Config.ledgerKey (beBytes 4 label) (List.replicate 8 0) 256

def treeKey : List Byte := ledgerSub 0x44515452
def pageKey : List Byte := ledgerSub 0x44515047
def journalEncKey : List Byte := ledgerSub 0x44514A45
def journalMacKey : List Byte := ledgerSub 0x44514A4D
def outcomeEncKey : List Byte := ledgerSub 0x44514F45
def outcomeMacKey : List Byte := ledgerSub 0x44514F4D

/-- Frames in the ring (R71). -/
def ringSize : Nat := 524288

/-- The frame of a JSN (R72). -/
def jsnFrame (j : Nat) : Nat := j / 64

/-! ### Closing and appending (R80) -/

/-- Replies that wait for the close of the open frame are released 4.00 µs after it (R446). -/
def closeReplies (now : Nat) (l : List Reply) : List Reply :=
  l.map (fun r => if r.held && r.relAt.isNone then { r with relAt := some (now + 4) } else r)

/-- The open frame closes: its entries and times are fixed (R81 Close). An empty one does not. -/
def closeFrame (sealing : Bool) (s : State) : State :=
  if s.jn.openEntries.isEmpty then s else
  { s with
    cmds := { s.cmds with replies := closeReplies s.now s.cmds.replies }
    jn := { s.jn with
      flight := s.jn.flight ++ [{
      no := s.jn.openNo, entries := s.jn.openEntries, start := s.jn.first, sealing := sealing,
      time := s.clk.tos, era := s.clk.era, cal := s.clk.cal, stage := .closed, bytes := [] }]
      openEntries := []
      openNo := s.jn.openNo + 1
      first := false } }

/-- The JSN that the next entry takes (R72). -/
def nextJsn (s : State) : Nat := s.jn.openNo * 64 + s.jn.openEntries.length

/-- Append one entry to the open frame; the 60th closes it (R80). Every REALM and CARD entry changes
the realm table, and its frame waits for a table copy (R91); a KEY entry's waits for a directory
copy (R315). Event 0x05 is counted (R479). -/
def append (e : List Word) (s : State) : State :=
  let k := eKind e
  let fr := s.jn.openNo
  let s1 := { s with
    realms := { s.realms with live := applyTableEntry e s.realms.live }
    jn := { s.jn with
      openEntries := s.jn.openEntries ++ [e]
      realmFrames := if tableEntry e then s.jn.realmFrames ++ [fr] else s.jn.realmFrames
      keyFrames := if k = 5 then s.jn.keyFrames ++ [fr] else s.jn.keyFrames } }
  let s2 := count 5 k s1
  if 60 ≤ s2.jn.openEntries.length then closeFrame false s2 else s2

/-- Make room for a pair: a frame with 59 entries closes first (R77). -/
def roomForPair (s : State) : State :=
  if 59 ≤ s.jn.openEntries.length then closeFrame false s else s

/-! ### Sealing (R73, R74) -/

/-- Bytes 0 to 2015 of a frame with the PREV_MAC given (R73). -/
def framePlain (f : Frame) (prev : List Byte) : List Byte :=
  let ctrl := b2n f.start * 0x2000 + b2n f.sealing * 0x1000 + 0x0100 + f.entries.length
  padTo 2016 0 (leBytes 8 f.no ++ prev ++ leBytes 2 ctrl ++ leBytes 6 f.time ++ leBytes 2 f.era ++
    leBytes 4 f.cal ++ List.replicate 10 0 ++ f.entries.flatMap wordBytes)

/-- The frame's cipher: CTR with FRAME_NO and 0 before the block index (R74). -/
def frameCipher (no : Nat) (m : List Byte) : List Byte :=
  ctr journalEncKey (beBytes 8 no ++ beBytes 4 0) 4 0 m

/-- FRAME_MAC over FRAME_NO and the ciphertext (R74). -/
def frameMac (no : Nat) (c : List Byte) : List Byte := hmac256 journalMacKey (beBytes 8 no ++ c)

/-- A frame as sealed: 2,016 bytes of ciphertext and its FRAME_MAC. -/
def frameBytes (f : Frame) (prev : List Byte) : List Byte :=
  let c := frameCipher f.no (framePlain f prev)
  c ++ frameMac f.no c

/-- Seal the oldest closed frame among the first four in flight; a fifth waits (R80, R81). -/
def sealOne (prev : List Byte) : Nat → List Frame → List Frame × List Byte
  | 0, fs => (fs, prev)
  | _, [] => ([], prev)
  | n + 1, f :: fs =>
    if f.stage = .closed then
      let b := frameBytes f prev
      ({ f with stage := .sealed, bytes := b } :: fs, b.drop 2016)
    else
      let (fs', m) := sealOne prev n fs
      (f :: fs', m)

/-- Program the oldest sealed frame; the frame of a seal waits for the Drain phase (R81, R97). -/
def programOne (drained : Bool) : List Frame → List Frame × Option Frame
  | [] => ([], none)
  | f :: fs =>
    if f.stage = .sealed then
      if f.sealing && !drained then (f :: fs, none)
      else ({ f with stage := .programmed } :: fs, some f)
    else
      let (fs', r) := programOne drained fs
      (f :: fs', r)

/-! ### The replay span (R86, R91) -/

/-- The smaller of two, as a fold step. -/
def minOf (l : List Nat) (d : Nat) : Nat := l.foldl min d

/-- TAIL_FRAME (R91): an abandoned batch is not DONE, and its OPEN holds the tail until its pages are staged again.
(DEDUCED, log 19) -/
def tailFrame (s : State) : Nat :=
  let ov := s.led.overlay.map (fun p => match p.2 with | some e => jsnFrame (e.since.headD e.jsn) | none => s.jn.durable + 1)
  minOf (ov ++ s.jn.batches.map (fun b => b.openFrame) ++ s.jn.abandoned.map (fun a => a.openFrame) ++ s.jn.realmFrames ++ s.jn.keyFrames)
    (s.jn.durable + 1)

/-- The durable frames of the replay span with their entry counts. -/
def spanList (s : State) : List (Nat × Nat) :=
  let t := tailFrame s
  s.jn.spanFrames.filter (fun p => decide (t ≤ p.1))

/-- Entries and frames in the replay span (R86). -/
def spanEntries (s : State) : Nat := (spanList s).foldl (fun a p => a + p.2) 0
def spanFrameCount (s : State) : Nat := (spanList s).length

/-- The backstop of R92 stands. -/
def backstop (s : State) : Bool :=
  decide (1040384 ≤ spanEntries s) || decide (64512 ≤ spanFrameCount s)

/-- Compaction's start and stop thresholds (R86). -/
def spanHigh (s : State) : Bool := decide (262144 ≤ spanEntries s) || decide (16384 ≤ spanFrameCount s)
def spanLow (s : State) : Bool := decide (spanEntries s < 131072) && decide (spanFrameCount s < 8192)

/-! ### Outcome store (R93 to R96) -/

/-- Whether an entry stands for a host command's commit in the outcome store: the first that it appended. The
policy entry of R441 and the change that a LEDGER_RELEASE makes after the VOID it applied (R38) come after the first. A
card transaction counts with its COMMIT, since a PREPARE alone commits nothing (R401). (DEDUCED, log 22) -/
def firstOfCommand (prev : Option (List Word)) (e : List Word) : Bool :=
  let k := eKind e
  if bits (wd e 10) 15 14 ≠ 0 then false
  else if k = 4 then !decide (bits (wd e 0) 11 8 = 10)
  else if k = 5 then true
  else if k = 6 then !decide (bits (wd e 0) 11 9 = 1)
  else if k = 1 then
    match prev with
    | some p => !(decide (eKind p = 1) && decide (eSlot p = eSlot e) &&
        decide ((p.drop 10).take 3 = (e.drop 10).take 3) && decide (wd p 14 = wd e 14) &&
        decide (bits (wd e 14) 15 8 = 0x15) && decide (bits (wd p 3) 15 12 = 6))
    | none => true
  else decide (k = 2)

/-- The reply status as an outcome record holds it: group and code in four bits each (R93). -/
def packStatus (st : Nat) : Nat := st / 256 * 16 + st % 256

/-- The outcome records of a frame's entries, from index i on. -/
def outcomesOf (no : Nat) : Nat → Option (List Word) → List (List Word) → List OutRec
  | _, _, [] => []
  | i, prev, e :: es =>
    let rest := outcomesOf no (i + 1) (some e) es
    if firstOfCommand prev e then
      { fn := bits (wd e 10) 5 0, tag := pairAt e 11, jsn := no * 64 + i, status := wd e 13 } :: rest
    else rest

/-- One record's four words (R93). -/
def outWords (base : Nat) (r : OutRec) : List Word :=
  leWords 2 r.tag ++ [ofW ((jsnFrame r.jsn - base) * 128 + r.jsn % 64 * 2), ofW (r.fn * 2048 + packStatus r.status)]

/-- An outcome page as stored (R93). -/
def outPageBytes (idx : Nat) (recs : List OutRec) : List Byte :=
  let base := match recs with
    | r :: _ => jsnFrame r.jsn
    | [] => 0
  let plain := padTo 4080 0 (leBytes 8 base ++ leBytes 2 recs.length ++ List.replicate 6 0 ++
    recs.flatMap (fun r => wordBytes (outWords base r)))
  let c := ctr outcomeEncKey (beBytes 4 (0xC0000000 + idx) ++ beBytes 8 base) 4 0 plain
  c ++ (hmac256 outcomeMacKey (beBytes 4 idx ++ c)).take 16

/-- Write the open outcome page (R94); OUT_FRAME becomes the first frame not covered. (DEDUCED, log 20) -/
def writeOutPage (next : Nat) (s : State) : State :=
  if s.jn.outOpen.isEmpty then { s with jn := { s.jn with outFrame := next } } else
  { s with jn := { s.jn with
    outPages := mput s.jn.outPages s.jn.outNextPage
      ((s.jn.outOpen.head?.map (fun r => jsnFrame r.jsn)).getD 0, outPageBytes s.jn.outNextPage s.jn.outOpen)
    outNextPage := (s.jn.outNextPage + 1) % 196608, outOpen := [], outFrame := next } }

/-- Add one record to the open page, which is written first where FRAME_DELTA would exceed 511 and
afterwards where it holds 508; `more` says that the frame has further records. -/
def addOutcome (r : OutRec) (more : Bool) (s : State) : State :=
  let fr := jsnFrame r.jsn
  let s1 := match s.jn.outOpen with
    | f :: _ => if 511 < fr - jsnFrame f.jsn then writeOutPage fr s else s
    | [] => s
  let s2 := { s1 with jn := { s1.jn with outOpen := s1.jn.outOpen ++ [r] } }
  if 508 ≤ s2.jn.outOpen.length then writeOutPage (if more then fr else fr + 1) s2 else s2

/-- Add a frame's records in order. -/
def addOutcomes : List OutRec → State → State
  | [], s => s
  | r :: rs, s => addOutcomes rs (addOutcome r (!rs.isEmpty) s)

/-- The records of a written page, oldest first; none where its PAGE_MAC fails. The page does not
hold BASE_FRAME in clear; its reader knows it beside the page. (DEDUCED, log 21) -/
def outPageRecs (idx base : Nat) (page : List Byte) : List OutRec :=
  let c := page.take 4080
  if page.drop 4080 ≠ (hmac256 outcomeMacKey (beBytes 4 idx ++ c)).take 16 then [] else
  let plain := ctr outcomeEncKey (beBytes 4 (0xC0000000 + idx) ++ beBytes 8 base) 4 0 c
  let n := leNat ((plain.drop 8).take 2)
  (chunks 8 ((plain.drop 16).take (8 * n))).map (fun b =>
    let w := bytesWords b
    { fn := bits (wd w 3) 15 11, tag := pairAt w 0,
      jsn := (base + bits (wd w 2) 15 7) * 64 + bits (wd w 2) 6 1,
      status := bits (wd w 3) 7 4 * 256 + bits (wd w 3) 3 0 })

end Sys2Proof.Machine
end

