-- ==== Sys2Proof/Machine/Store.lean ====
section
/-! DEFINITION. Areas of the Warp stack whose pages the spec gives no layout of their own: the realm-table copies, the
applet store and the firmware images (R17, R18, R295). Every page leaves encrypted, and is authenticated by a MAC of its
own before it is used. (DESIGN CHOICE, log 106) -/

namespace Sys2Proof.Machine

/-! ### Pages -/

/-- The store encryption key and the store MAC key (R295). -/
def storeEncKey : List Byte := ledgerSub 0x44515345
def storeMacKey : List Byte := ledgerSub 0x4451534D

/-- The firmware area's encryption key, then its MAC key (R295). -/
def firmwareAreaKey : List Byte := kdf Config.rootSecret (beBytes 4 0x44514657) (List.replicate 8 0) 512
def firmwareEncKey : List Byte := firmwareAreaKey.take 32
def firmwareMacKey : List Byte := firmwareAreaKey.drop 32

/-- The counter block and the MAC's head of a page: its page number and the count of the area's writes. -/
def storeHead (page count : Nat) : List Byte := beBytes 4 page ++ beBytes 6 count ++ [0, 0]

/-- A page's cipher. -/
def storeCipher (enc : List Byte) (page count : Nat) (m : List Byte) : List Byte := ctr enc (storeHead page count) 4 0 m

/-- A page's MAC over its place, its count and its ciphertext. -/
def storeMac (mac : List Byte) (page count : Nat) (c : List Byte) : List Byte :=
  (hmac256 mac (storeHead page count ++ c)).take 16

/-- A page of 4 KiB as it is stored. -/
def storePage (enc mac : List Byte) (page count : Nat) (m : List Byte) : StoredPage :=
  let c := storeCipher enc page count m
  { data := c, mac := storeMac mac page count c }

/-- What a stored page holds; none where its MAC fails (R18). -/
def openPage (enc mac : List Byte) (page count : Nat) (p : StoredPage) : Option (List Byte) :=
  if p.mac = storeMac mac page count p.data then some (storeCipher enc page count p.data) else none

/-- Bytes as pages from a page number on. -/
def storeArea (enc mac : List Byte) (page count : Nat) (m : List Byte) : StoredArea :=
  { count := count, pages := (chunks 4096 m).zipIdx.map (fun p => storePage enc mac (page + p.2) count p.1) }

/-- What stored pages hold, all of them authentic. -/
def openPages (enc mac : List Byte) (count : Nat) : Nat → List StoredPage → Option (List Byte)
  | _, [] => some []
  | page, p :: ps => do
    let b ← openPage enc mac page count p
    let bs ← openPages enc mac count (page + 1) ps
    pure (b ++ bs)

def openArea (enc mac : List Byte) (page : Nat) (a : StoredArea) : Option (List Byte) :=
  openPages enc mac a.count page a.pages

/-! ### The realm table as numbers of eight bytes -/

def putMap {α : Type} (f : α → List Nat) (m : KMap α) : List Nat := m.length :: m.flatMap (fun p => p.1 :: f p.2)
def putOpt {α : Type} (f : α → List Nat) : Option α → List Nat
  | none => [0]
  | some a => 1 :: f a
def putNat (n : Nat) : List Nat := [n]
def putBytes (b : List Byte) : List Nat := b.length :: b.map BitVec.toNat

def putBank (b : BankEntry) : List Nat := b.gen :: putBytes b.hash

def putRow (w : RealmRow) : List Nat :=
  [w.quota] ++ putMap putNat w.bases ++ [w.epoch] ++ putMap putNat w.shares ++ putMap putNat w.curGen ++ putOpt putBank w.bankA ++
    putOpt putBank w.bankB ++ putOpt putNat w.active ++ [w.modeGen, w.mode] ++
    putOpt (fun p : Nat × Nat => [p.1, p.2]) w.armed ++ [w.approveMask, b2n w.debit]

def putTxn (x : CardTxn) : List Nat := [x.seq, x.pre, x.post, x.quotaPre, x.realm, b2n x.committed]

def putCard (c : CardEntry) : List Nat := [c.cardId] ++ putBytes c.key ++ putOpt putTxn c.txn

def putTable (t : RealmTable) : List Nat :=
  putMap putRow t.rows ++ putMap (putOpt putNat) t.grants ++ putMap putNat t.lanes ++
    [t.policy, t.policyCount, t.policyWindow, t.threshold] ++ putMap (putOpt putCard) t.cards

/-- A reader of numbers: a value and the numbers after it. -/
abbrev Get (α : Type) := List Nat → Option (α × List Nat)

def getNat : Get Nat
  | [] => none
  | n :: r => some (n, r)

def getMany {α : Type} (g : Get α) : Nat → Get (List α)
  | 0, l => some ([], l)
  | n + 1, l => do
    let (a, r) ← g l
    let (as, r) ← getMany g n r
    pure (a :: as, r)

def getList {α : Type} (g : Get α) : Get (List α) := fun l => do
  let (n, r) ← getNat l
  getMany g n r

def getKeyed {α : Type} (g : Get α) : Get (Nat × α) := fun l => do
  let (k, r) ← getNat l
  let (a, r) ← g r
  pure ((k, a), r)

def getMap {α : Type} (g : Get α) : Get (KMap α) := getList (getKeyed g)

def getOpt {α : Type} (g : Get α) : Get (Option α) := fun l => do
  let (n, r) ← getNat l
  if n = 0 then pure (none, r) else do
    let (a, r) ← g r
    pure (some a, r)

def getBytes : Get (List Byte) := fun l => do
  let (ns, r) ← getList getNat l
  pure (ns.map (BitVec.ofNat 8), r)

def getBank : Get BankEntry := fun l => do
  let (gen, r) ← getNat l
  let (hash, r) ← getBytes r
  pure ({ gen := gen, hash := hash }, r)

def getRow : Get RealmRow := fun l => do
  let (quota, r) ← getNat l
  let (bases, r) ← getMap getNat r
  let (epoch, r) ← getNat r
  let (shares, r) ← getMap getNat r
  let (curGen, r) ← getMap getNat r
  let (bankA, r) ← getOpt getBank r
  let (bankB, r) ← getOpt getBank r
  let (active, r) ← getOpt getNat r
  let (modeGen, r) ← getNat r
  let (mode, r) ← getNat r
  let (armed, r) ← getOpt (getKeyed getNat) r
  let (approveMask, r) ← getNat r
  let (debit, r) ← getNat r
  pure ({ quota := quota, bases := bases, epoch := epoch, shares := shares, curGen := curGen, bankA := bankA, bankB := bankB
          active := active, modeGen := modeGen, mode := mode, armed := armed, approveMask := approveMask, debit := debit == 1 }, r)

def getTxn : Get CardTxn := fun l => do
  let (seq, r) ← getNat l
  let (pre, r) ← getNat r
  let (post, r) ← getNat r
  let (quotaPre, r) ← getNat r
  let (realm, r) ← getNat r
  let (committed, r) ← getNat r
  pure ({ seq := seq, pre := pre, post := post, quotaPre := quotaPre, realm := realm, committed := committed == 1 }, r)

def getCard : Get CardEntry := fun l => do
  let (cardId, r) ← getNat l
  let (key, r) ← getBytes r
  let (txn, r) ← getOpt getTxn r
  pure ({ cardId := cardId, key := key, txn := txn }, r)

def getTable : Get RealmTable := fun l => do
  let (rows, r) ← getMap getRow l
  let (grants, r) ← getMap (getOpt getNat) r
  let (lanes, r) ← getMap getNat r
  let (policy, r) ← getNat r
  let (policyCount, r) ← getNat r
  let (policyWindow, r) ← getNat r
  let (threshold, r) ← getNat r
  let (cards, r) ← getMap (getOpt getCard) r
  pure ({ rows := rows, grants := grants, lanes := lanes, policy := policy, policyCount := policyCount
          policyWindow := policyWindow, threshold := threshold, cards := cards }, r)

/-! ### Realm-table copies (R91) -/

/-- The first page of copy A and of copy B (R93). -/
def copyPage (copy : Nat) : Nat := 0xC5000 + 1024 * copy

/-- A copy of a realm table, stamped with a frame: stamp, number and table in its pages. -/
def makeCopy (copy stamp seq : Nat) (t : RealmTable) : RealmCopy :=
  { stamp := stamp, seq := seq
    pages := storeArea storeEncKey storeMacKey (copyPage copy) seq ((stamp :: seq :: putTable t).flatMap (leBytes 8)) }

/-- The table that a copy holds; none where a page fails its MAC, or its stamp or number is not the copy's. -/
def copyTable (copy : Nat) (c : RealmCopy) : Option RealmTable := do
  let b ← openArea storeEncKey storeMacKey (copyPage copy) c.pages
  match (chunks 8 b).map leNat with
  | stamp :: seq :: l =>
    if stamp = c.stamp ∧ seq = c.seq then (getTable l).map Prod.fst else none
  | _ => none

/-! ### The applet store (R269) -/

/-- The first page of a bank, keyed realm * 2 + bank. -/
def bankPage (k : Nat) : Nat := 0xAC000 + 1024 * k

def storeBank (k count : Nat) (image : List Byte) : StoredArea :=
  storeArea storeEncKey storeMacKey (bankPage k) count image

def readBank (k : Nat) (a : StoredArea) : Option (List Byte) := openArea storeEncKey storeMacKey (bankPage k) a

/-! ### The firmware area (R464, R465) -/

/-- The first page of a part of a firmware slot's image, after the slot header. -/
def partPage (n p : Nat) : Nat := 0xBC000 + 16384 * n + 1 + 1024 * p

def storePart (n p count : Nat) (b : List Byte) : StoredArea := storeArea firmwareEncKey firmwareMacKey (partPage n p) count b

/-- A part of a slot's image as it is read back; nothing where a page fails its MAC. -/
def fwPart (n : Nat) (f : FwSlot) (p : Nat) : List Byte :=
  ((mfind f.parts p).bind (openArea firmwareEncKey firmwareMacKey (partPage n p))).getD []

/-- Every part that a slot holds authenticates. -/
def fwPartsOk (n : Nat) (f : FwSlot) : Bool :=
  f.parts.all (fun p => (openArea firmwareEncKey firmwareMacKey (partPage n p.1) p.2).isSome)

/-- Byte i of a slot's image. -/
def fwByte (n : Nat) (f : FwSlot) (i : Nat) : Nat := ((fwPart n f (i / 4194304)).getD (i % 4194304) 0).toNat

/-- Word i of the code, then the data, that follow the header. -/
def fwWord (n : Nat) (f : FwSlot) (i : Nat) : Nat := fwByte n f (64 + 2 * i) + 256 * fwByte n f (65 + 2 * i)

/-- Word i of the steward code that runs. -/
def stewardCode (s : State) (i : Nat) : Nat :=
  match s.fws.running with
  | some n =>
    let f := fwSlot s n
    if i < f.codeLen then (if f.shipped then Config.fwCode i % 16384 else fwWord n f i % 16384) else 0
  | none => 0

end Sys2Proof.Machine
end

