-- ==== Sys2Proof/Machine/Ledger.lean ====
section
/-! DEFINITION. The ledger unit: pages, tree and overlay (R53 to R61), lookups, quarantine and its
counts (R29, R48, R70), policies (R37, R265), time (R38 to R41), and the one operation by which a
record changes (R31, R49, R77). -/

namespace Sys2Proof.Machine

/-! ### Applet images and policy entries (R263 to R266) -/

/-- Sections of an image: their first word index. -/
def imgEntryAt (w : List Word) : Nat := 16 + bits (wd w 8) 2 0
def imgPolicyAt (w : List Word) : Nat := imgEntryAt w + 4 * wd w 7
def imgSegAt (w : List Word) : Nat := imgPolicyAt w + 16 * wd w 6
def imgCodeAt (w : List Word) : Nat := imgSegAt w + 4 * wd w 9
def imgDataAt (w : List Word) : Nat := imgCodeAt w + wd w 5

/-- The policy table of an image: entries of sixteen words (R265). -/
def imgPolicies (w : List Word) : List (List Word) := chunks 16 ((w.drop (imgPolicyAt w)).take (16 * wd w 6))

/-- IN_USE of a policy entry (R265). -/
def polInUse (p : List Word) : Bool := bit (wd p 0) 15
def polDiversify (p : List Word) : Bool := bit (wd p 0) 12
def polFamily (p : List Word) : Nat := bits (wd p 0) 11 8
def polAuth (p : List Word) : Nat := bits (wd p 0) 1 0

/-- A policy by its index, where it is in use: beyond the table an index behaves as not in use. -/
def polAt (t : List (List Word)) (i : Nat) : Option (List Word) :=
  match t[i]? with
  | some p => if polInUse p then some p else none
  | none => none

/-- The image of a realm's bank in use. -/
def bankStore (s : State) (r b : Nat) : Option BankStore := mget none s.cells.store (r * 2 + b)

/-- The active policy table of a realm as it stands (R37). -/
def activeTable (s : State) (r : Nat) : List (List Word) :=
  match (realmRow s r).active with
  | none => []
  | some b => match bankStore s r b with
    | some im => imgPolicies im.words
    | none => []

/-- Word i of the policy entry that a record names; 0 while the index is not in use (R37). -/
def polField (s : State) (r : List Word) (i : Nat) : Nat :=
  match polAt (activeTable s (rRealm r)) (rPolicy r) with
  | some p => wd p i
  | none => 0

/-- A timeout field, where 0 counts as 65,536 (R37, R38). -/
def secsField (v : Nat) : Nat := if v = 0 then 65536 else v

/-! ### Time (R38 to R41) -/

/-- BASE of a record's epoch. -/
def recBase (s : State) (r : List Word) : Nat := baseOf s (rRealm r) (rEpoch r)

/-- secs_e, day_e and minute_e at calendar time t (R39). -/
def secsE (t base : Nat) : Nat := t - base
def dayE (t base : Nat) : Nat := (t - base) / 86400 % 65536
def minuteE (t base : Nat) : Nat := (t - base) % 86400 / 60

/-- ahead(a, b) (R40). -/
def ahead (a b : Nat) : Nat := (a + 65536 - b) % 65536

/-- The record has ended, or begun, on a service day (R40). -/
def ended (r : List Word) (day : Nat) : Bool := decide (32767 < ahead (rTo r) day)
def begun (r : List Word) (day : Nat) : Bool := decide (ahead day (rFrom r) ≤ 32767)

/-- The timeout of a RESERVED or UNCONFIRMED record has elapsed (R38). -/
def timedOut (s : State) (r : List Word) : Bool :=
  let base := recBase s r
  let past := fun v => decide (base ≤ s.clk.cal) && decide (rTime r + secsField v ≤ secsE s.clk.cal base)
  if rState r = stReserved then past (polField s r 2)
  else if rState r = stUnconfirmed then past (polField s r 3)
  else false

/-- The minute window test of R41: 0 inside, 1 NOT_YET_VALID, 2 EXPIRED. -/
def windowTest (r : List Word) (day m : Nat) : Nat :=
  if !rWindow r then 0
  else if rStart r ≤ rEnd r then
    if rStart r ≤ m ∧ m ≤ rEnd r then 0
    else if day = rTo r ∧ rEnd r < m then 2 else 1
  else if rStart r ≤ m ∨ m ≤ rEnd r then 0 else 1

/-! ### Pages and the tree (R55 to R60) -/

/-- A node's 64 bytes (R57). (DESIGN CHOICE, log 28) -/
def nodeBytes (n : Node) : List Byte :=
  padTo 56 0 n.tags.flatten ++ leBytes 6 n.count ++ leBytes 1 n.level ++ leBytes 1 n.rest

/-- The node that 64 bytes hold (R57). -/
def nodeOf (b : List Byte) : Node :=
  { tags := chunks 7 (b.take 56), count := leNat ((b.drop 56).take 6), level := leNat ((b.drop 62).take 1)
    rest := leNat ((b.drop 63).take 1) }

/-- The tag of a leaf over its record pair's bytes (R58). -/
def leafTag (i : Nat) (pair : List Byte) : List Byte :=
  (hmac256 treeKey ([0] ++ beBytes 4 i ++ pair)).take 7

/-- The tag of a node at a level and index (R58). -/
def nodeTag (level i : Nat) (n : Node) : List Byte :=
  (hmac256 treeKey (beBytes 1 level ++ beBytes 4 i ++ nodeBytes n)).take 7

/-- Byte 62 of a node as shipped (R57, R61). -/
def shippedLevel (level : Nat) : Nat := if level = 2 then 0x12 else level

/-- The tag of node i of a level, level 0 being the leaves, in the ledger as shipped (R58, R85): every leaf is a pair of
records as shipped, and every node holds the tags of its children and the device's own WRITE_COUNT. -/
def shippedTag : Nat → Nat → List Byte
  | 0, i => leafTag i (wordBytes shippedRec ++ wordBytes shippedRec)
  | l + 1, i => nodeTag (l + 1) i
      { tags := (List.range 8).map (fun k => shippedTag l (8 * i + k)), count := Config.shippedCount (l + 1) i
        level := shippedLevel (l + 1) }

/-- A node of levels 1 to 8 as shipped. -/
def shippedNode (level i : Nat) : Node :=
  { tags := (List.range 8).map (fun k => shippedTag (level - 1) (8 * i + k)), count := Config.shippedCount level i
    level := shippedLevel level }

/-- The key of an upper node in its map. -/
def upKey (level i : Nat) : Nat := level * 4294967296 + i

/-- The page cipher of R59, from block c of the page on. -/
def pageCipherAt (c page count : Nat) (m : List Byte) : List Byte :=
  ctr pageKey (beBytes 4 page ++ beBytes 6 count ++ [0, 0]) 4 c m

/-- The page cipher of R59 over a whole page. -/
def pageCipher (page count : Nat) (m : List Byte) : List Byte := pageCipherAt 0 page count m

/-- The batch whose pages serve a page until its DONE is durable (R89). -/
def shadowOf (s : State) (page : Nat) : Option Nat :=
  (s.jn.batches.find? (fun b => (b.step == .committed || b.step == .copied || b.step == .closing) &&
    b.pages.any (fun q => q.page == page))).bind
    (fun b => (b.pages.find? (fun q => q.page == page)).map (fun q => q.shadow))

/-- The level-2 node in force for a page. -/
def node2 (s : State) (page : Nat) : Node :=
  match shadowOf s page with
  | some sh => ((mget none s.led.shadowL2 sh).getD (shippedNode 2 page))
  | none => (mfind s.led.l2 page).getD (shippedNode 2 page)

/-- The level-1 node in force: the shadow's while a batch serves its page (R89). -/
def node1 (s : State) (n : Nat) : Node :=
  let home := (mfind s.led.l1 n).getD (shippedNode 1 n)
  match shadowOf s (n / 8) with
  | none => home
  | some sh =>
    let gs := ((s.jn.batches.flatMap Batch.pages).find? (fun q => q.shadow == sh)).elim [] BatchPage.groups
    match gs.findIdx? (fun g => g == n % 8) with
    | some k => (mget [] s.led.shadowL1 sh).getD k home
    | none => home

/-- An upper node of levels 3 to 7, on die. -/
def nodeUp (s : State) (level i : Nat) : Node := (mfind s.led.upper (upKey level i)).getD (shippedNode level i)

/-- The root. -/
def rootNode (s : State) : Node := s.led.root.getD (shippedNode 8 0)

/-- The stored page in force (R89); none for a home page as shipped. -/
def storedPage (s : State) (page : Nat) : Option (List Byte) :=
  match shadowOf s page with
  | some sh => mfind s.led.shadowPages sh
  | none => mfind s.led.pages page

/-- The plaintext of the page in force (R59). -/
def pagePlain (s : State) (page : Nat) : List Byte :=
  match storedPage s page with
  | some b => pageCipher page (node2 s page).count b
  | none => (List.replicate 128 (wordBytes shippedRec)).flatten

/-- The record of a slot in the Warp stack. -/
def homeRec (s : State) (slot : Nat) : List Word :=
  match storedPage s (slot / 128) with
  | some b => bytesWords (pageCipherAt (2 * (slot % 128)) (slot / 128) (node2 s (slot / 128)).count
      ((b.drop (slot % 128 * 32)).take 32))
  | none => shippedRec

/-- The overlay's entry of a slot (R53). -/
def overlayOf (s : State) (slot : Nat) : Option OvEntry := mget none s.led.overlay slot

/-- The newest appended image of a slot (R49, R53). (DESIGN CHOICE, log 15) -/
def imageAt (s : State) (slot : Nat) : List Word :=
  match overlayOf s slot with
  | some e => e.img
  | none => homeRec s slot

/-- The frame of the entry that last changed a slot, where it is not yet durable (R49). -/
def imageFrame (s : State) (slot : Nat) : Nat :=
  match overlayOf s slot with
  | some e => if s.jn.durable < jsnFrame e.jsn then jsnFrame e.jsn else 0
  | none => 0

/-- A slot's quarantine entry (R48). -/
def quarOf (s : State) (slot : Nat) : Option QEntry := s.led.quarantine.find? (fun q => q.slot == slot)

/-- The slot's group of its page has failed authentication and no overlay entry serves it (R107). -/
def pageBad (s : State) (slot : Nat) : Bool :=
  s.led.badGroups.contains (slot / 16) && (overlayOf s slot).isNone

/-- FORMAT of the page in force (R61). -/
def pageFormat (s : State) (page : Nat) : Nat := (node2 s page).level / 16

/-- The running firmware cannot read the page's FORMAT (R61). -/
def formatBad (s : State) (page : Nat) : Bool :=
  match fwRunning s with
  | some f => !bit f.readFormats (pageFormat s page)
  | none => false

/-- Pages of the ledger, and those with a level-2 node of their own in force; every other one is of format 1. -/
def pageCount : Nat := 262144
def listedPages (s : State) : List Nat :=
  let sh := ((s.jn.batches.flatMap Batch.pages).map BatchPage.page).filter (fun p => (shadowOf s p).isSome)
  mkeys s.led.l2 ++ (sh.filter (fun p => (mfind s.led.l2 p).isNone)).eraseDups
def listedFormats (s : State) : List Nat := (listedPages s).map (pageFormat s)

/-- The page formats present (R61). -/
def formatsPresent (s : State) : List Nat :=
  (if (listedFormats s).length < pageCount then [1] else []) ++ listedFormats s

/-- OLDEST_FORMAT (R63). -/
def oldestFormat (s : State) : Nat := (formatsPresent s).foldl min 15

/-- Pages whose FORMAT differs from the one written (R69). -/
def oldPages (s : State) (fmt : Nat) : Nat :=
  ((listedFormats s).filter (fun f => f ≠ fmt)).length + if fmt = 1 then 0 else pageCount - (listedFormats s).length

/-! ### Authentication of a lookup (R57, R58, R60) -/

/-- The nodes that the on-die cache has room for beside levels 3 to 7. -/
def cacheSize : Nat := 28088

/-- A level-1 or level-2 node in the cache. -/
def cached (s : State) (level i : Nat) : Option Node :=
  (s.led.cache.find? (fun p => p.1 == upKey level i)).map Prod.snd

/-- Nodes enter the cache as the latest authenticated; the oldest leave it. -/
def cacheAdd (l : List (Nat × Node)) (m : List (Nat × Node)) : List (Nat × Node) :=
  (l ++ m.filter (fun p => !l.any (fun q => q.1 == p.1))).take cacheSize

/-- A child's tag as its parent holds it. -/
def tagIn (n : Node) (i : Nat) (t : List Byte) : Bool := decide (n.tags.getD (i % 8) [] = t)

/-- A node read from the Warp stack is authentic under its parent: byte 63 is 0 and the parent holds its tag. -/
def nodeGood (level i : Nat) (n parent : Node) : Bool := decide (n.rest = 0) && tagIn parent i (nodeTag level i n)

/-- A lookup's way up the tree from a slot's leaf to the first node on die: whether every tag agrees, and the nodes
authenticated on it. A page that was never written is as shipped, and so are the nodes over it. -/
def climb (s : State) (slot : Nat) : Bool × List (Nat × Node) :=
  let page := slot / 128
  let n2 := (cached s 2 page).getD (node2 s page)
  let n1 := (cached s 1 (slot / 16)).getD (node1 s (slot / 16))
  match storedPage s page with
  | none => (true, [(upKey 1 (slot / 16), n1), (upKey 2 page, n2)])
  | some b =>
    let pair := pageCipherAt (4 * (slot / 2 % 64)) page n2.count ((b.drop (slot / 2 % 64 * 64)).take 64)
    (tagIn n1 (slot / 2) (leafTag (slot / 2) pair) &&
      ((cached s 1 (slot / 16)).isSome || nodeGood 1 (slot / 16) n1 n2) &&
      ((cached s 2 page).isSome || nodeGood 2 page n2 (nodeUp s 3 (page / 8))),
     [(upKey 1 (slot / 16), n1), (upKey 2 page, n2)])

/-- A read of a slot that no overlay entry serves finds its page, or a node over it, not authentic: after three reads
(`failed`, R107), by its FORMAT (R61), or by its tags. -/
def readFails (failed : Bool) (s : State) (slot : Nat) : Bool :=
  failed || formatBad s (slot / 128) || !(climb s slot).1

/-! ### Counts (R43, R46, R70) -/

/-- Add to one count of a map. -/
def addAt (m : KMap Nat) (k n : Nat) : KMap Nat := mset 0 m k (mget 0 m k + n)
def subAt (m : KMap Nat) (k n : Nat) : KMap Nat := mset 0 m k (mget 0 m k - n)

/-- Count a record in, by its state: FREE, RETIRED, or held by its realm with its generations and
epoch. -/
def countIn (r : List Word) (l : Led) : Led :=
  if rState r = stFree then { l with free := l.free + 1 }
  else if rState r = stRetired then { l with retired := l.retired + 1 }
  else { l with
    held := addAt l.held (rRealm r) 1
    agCount := addAt l.agCount (rRealm r * 256 + rAppGen r) 1
    kgCount := addAt l.kgCount (rRealm r * 256 + rKeyGen r) 1
    epCount := addAt l.epCount (rRealm r * 4 + rEpoch r) 1 }

/-- Count a record out. -/
def countOut (r : List Word) (l : Led) : Led :=
  if rState r = stFree then { l with free := l.free - 1 }
  else if rState r = stRetired then { l with retired := l.retired - 1 }
  else { l with
    held := subAt l.held (rRealm r) 1
    agCount := subAt l.agCount (rRealm r * 256 + rAppGen r) 1
    kgCount := subAt l.kgCount (rRealm r * 256 + rKeyGen r) 1
    epCount := subAt l.epCount (rRealm r * 4 + rEpoch r) 1 }

/-- HELD of a realm (R46). -/
def heldOf (s : State) (r : Nat) : Nat := mget 0 s.led.held r

/-- Quarantined slots that R48 counts in no HELD. -/
def quarUncounted (s : State) : Nat := (s.led.quarantine.filter (fun q => !q.held)).length

/-! ### The record change (R31, R49, R53, R77) -/

/-- Insert a slot into an ascending list. -/
def insSorted (n : Nat) : List Nat → List Nat
  | [] => [n]
  | k :: ks => if n < k then n :: k :: ks else if n = k then k :: ks else k :: insSorted n ks

/-- The hold-timer list watches a slot while it is RESERVED or UNCONFIRMED (R38). -/
def watch (slot : Nat) (r : List Word) (l : List Nat) : List Nat :=
  if rState r = stReserved ∨ rState r = stUnconfirmed then insSorted slot l else l.erase slot

/-- A slot's newest image after one more change (R53). -/
def ovAdd (slot : Nat) (new : List Word) (jsn : Nat) (m : KMap (Option OvEntry)) : KMap (Option OvEntry) :=
  mset none m slot (some { img := new, jsn := jsn, since := ((mget none m slot).elim [] OvEntry.since) ++ [jsn] })

/-- Put a slot's new image into the overlay with its JSN, and keep the counts (R53). -/
def putImage (slot : Nat) (old new : List Word) (jsn : Nat) (s : State) : State :=
  let l := countIn new (countOut old s.led)
  { s with led := { l with
    overlay := ovAdd slot new jsn l.overlay
    hold := watch slot new l.hold } }

/-- Lane and internal entries that the present tick still takes: 180 less the 140 places of admitted work (R127, R128).
(DEDUCED, log 101) -/
def otherLeft (s : State) : Nat := 40 - s.jn.tickOther

/-- Entries of lane or internal origin take their places of the tick. -/
def useOther (n : Nat) (s : State) : State := { s with jn := { s.jn with tickOther := s.jn.tickOther + n } }

/-- The internal reserve has a lookup left in this microsecond (R127). -/
def lookupLeft (s : State) : Bool := decide (s.led.reserveAt ≠ s.now ∨ s.led.reserveUsed < 16)

/-- A lookup of the expiry sweep or of the prefetch. -/
def useLookup (s : State) : State :=
  { s with led := { s.led with reserveAt := s.now
                               reserveUsed := if s.led.reserveAt = s.now then s.led.reserveUsed + 1 else 1 } }

/-- Commit one record change with a DELTA entry: the JSN and the state (R77). The new image gets its
RECORD_CHECK here. -/
def commitDelta (slot : Nat) (new : List Word) (o : Origin) (status : Nat) (s : State) : Nat × State :=
  let r := fixCheck new
  let old := imageAt s slot
  let j := nextJsn s
  (j, putImage slot old r j (append (deltaEntry slot r o status) s))

/-- Commit a whole record with an IMAGE_HEAD and IMAGE_TAIL pair in one frame (R77). -/
def commitImage (slot : Nat) (new : List Word) (o : Origin) (status : Nat) (s : State) : Nat × State :=
  let r := fixCheck new
  let old := imageAt s slot
  let s1 := roomForPair s
  let j := nextJsn s1
  (j, putImage slot old r j (append (tailEntry slot r) (append (headEntry slot r o status) s1)))

/-- The record made VOID by a source (R31). -/
def voidRec (r : List Word) (o : Origin) : List Word := setW (setState r stVoid) 10 (sourceWord o)

/-- Apply an elapsed timeout: VOID with LAST_USE_SOURCE naming what applied it (R38). The status is
that of the reply whose command applied it. The entry draws on the internal reserve. -/
def applyTimeout (slot : Nat) (o : Origin) (status : Nat) (s : State) : Nat × State :=
  commitDelta slot (voidRec (imageAt s slot) o) o status (useOther 1 s)

/-! ### Quarantine (R29, R48) -/

/-- Quarantine a slot found corrupt: the counts, the free pool, the log and the interrupt. The alarm
that R29 and R48 raise is added by the caller. A slot whose RECORD_CHECK matches but whose STATE is 9 to 15 leaves the
HELD of W3.REALM. (DESIGN CHOICE, log 102) -/
def quarantineSlot (slot : Nat) (r : List Word) (checkBad : Bool) (cause : Nat) (s : State) : State :=
  if (quarOf s slot).isSome then s else
  let held := !checkBad && counted r && decide (1 ≤ rRealm r)
  let l0 := s.led
  let l := if held then { l0 with hold := l0.hold.erase slot }
    else if checkBad && decide (9 ≤ rState r) then l0
    else { countOut r l0 with hold := l0.hold.erase slot }
  let l := { l with removed := if l.virgin ≤ slot then insSorted slot l.removed else l.removed
                    released := l.released.erase slot, prefetched := l.prefetched.erase slot }
  let s := { s with led := { l with quarantine := l.quarantine ++
    [{ slot := slot, checkOk := !checkBad, realm := rRealm r, held := held }] } }
  icRaise 470 (logEvent 2 1 (leNats 2 slot ++ [cause]) s)

/-- The quarantine list is full (R48). -/
def quarFull (s : State) : Bool := decide (4096 ≤ s.led.quarantine.length)

/-! ### The free pool (R47) -/

/-- The first `n` never-taken slots from k on that are not removed from the pool. -/
def virgins : Nat → Nat → Nat → List Nat → List Nat
  | 0, _, _, _ => []
  | _, 0, _, _ => []
  | f + 1, n + 1, k, rm =>
    if slotCount ≤ k then [] else if rm.contains k then virgins f (n + 1) (k + 1) rm else k :: virgins f n (k + 1) rm

/-- The first `n` slots of the free pool. (DEDUCED, log 17) -/
def poolFirst (n : Nat) (s : State) : List Nat :=
  let v := virgins (n + s.led.removed.length) n s.led.virgin s.led.removed
  v ++ s.led.released.take (n - v.length)

/-- The slot at the head of the free pool. -/
def poolHead (s : State) : Option Nat := (poolFirst 1 s).head?

/-- Removed slots below the lowest slot never taken are forgotten. -/
def virginUp : Nat → Led → Led
  | 0, l => l
  | f + 1, l => if l.removed.contains l.virgin then
      virginUp f { l with virgin := l.virgin + 1, removed := l.removed.erase l.virgin } else l

/-- A slot leaves the pool. -/
def poolTake (slot : Nat) (s : State) : State :=
  let l := { s.led with prefetched := s.led.prefetched.erase slot }
  { s with led := if l.released.contains slot || decide (slot < l.virgin) then { l with released := l.released.erase slot }
      else virginUp (l.removed.length + 1) { l with removed := insSorted slot l.removed } }

/-- A slot joins the tail. -/
def poolAdd (slot : Nat) (s : State) : State := { s with led := { s.led with released := s.led.released ++ [slot] } }

end Sys2Proof.Machine
end

