-- ==== Sys2Proof/Machine/Replies.lean ====
section
/-! DEFINITION. Admitted commands and their replies: packet fields (R155, R157), forming a reply
(R162, R163) and what holds it (R82, R446). -/

namespace Sys2Proof.Machine

/-! ### Status codes (R163) -/

def sOk : Nat := 0x0000
def sOkAlready : Nat := 0x0001
def sRefCapacity : Nat := 0x0101
def sRefQuiescing : Nat := 0x0102
def sRefHoldup : Nat := 0x0103
def sRefNotReady : Nat := 0x0104
def sRefLane : Nat := 0x0105
def sUnknownOp : Nat := 0x0201
def sBadCheck : Nat := 0x0202
def sReservedNz : Nat := 0x0203
def sBadParam : Nat := 0x0204
def sDmaFault : Nat := 0x0205
def sNotPermitted : Nat := 0x0301
def sSlotState : Nat := 0x0401
def sGenMismatch : Nat := 0x0402
def sUsed : Nat := 0x0403
def sExpired : Nat := 0x0404
def sNotYet : Nat := 0x0405
def sMacMismatch : Nat := 0x0406
def sRetired : Nat := 0x0407
def sQuota : Nat := 0x0408
def sFlushed : Nat := 0x0501
def sAbortedReset : Nat := 0x0502
def sRequeue : Nat := 0x0503
def sAppletTrap : Nat := 0x0601
def sAppletTimeout : Nat := 0x0602
def sLockBroken : Nat := 0x0701
def sAbortedAlarm : Nat := 0x0801
def sQuiescedAlarm : Nat := 0x0802

/-! ### Packet fields (R155, R157) -/

def pOpcode (w : List Word) : Nat := bits (wd w 0) 15 8
def pVersion (w : List Word) : Nat := bits (wd w 0) 7 4
def pSilent (w : List Word) : Bool := bit (wd w 0) 1
def pFence (w : List Word) : Bool := bit (wd w 0) 0
def pClass (w : List Word) : Nat := bits (wd w 1) 15 14
def pRealm (w : List Word) : Nat := bits (wd w 1) 7 0
def pTag (w : List Word) : Nat := pairAt w 2
def pParams (w : List Word) : Nat := wd w 4
def pDescs (w : List Word) : Nat := wd w 5
def pTarget (w : List Word) : Nat := wd w 6

/-- Word index, address and length of descriptor k (R157). -/
def descAt (w : List Word) (k : Nat) : Nat := 8 + pParams w + 6 * k
def descAddr (w : List Word) (k : Nat) : Nat := quadAt w (descAt w k)
def descLen (w : List Word) (k : Nat) : Nat := pairAt w (descAt w k + 4) % 2 ^ 23

/-- SLOT and SLOT_GEN of the slot triple (R166). -/
def pSlot (w : List Word) : Nat := pairAt w 8 % 2 ^ 25
def pGen (w : List Word) : Nat := wd w 10

/-- The bound of a class in µs (R112). -/
def classBound (c : Nat) : Nat :=
  if c = 0 then 40 else if c = 1 then 120 else if c = 2 then 2000 else 50000

/-! ### Commands -/

/-- The admitted command with an id. -/
def cmdOf (s : State) (id : Nat) : Option Cmd := s.cmds.admitted.find? (fun c => c.id == id)

/-- The opcode of a command, and the origin of what it commits (R28, R76). -/
def cOp (c : Cmd) : Nat := pOpcode c.words
def cOrigin (c : Cmd) : Origin := .host c.fn c.pair (pTag c.words) (cOp c)

/-- A command replaced by its new self. -/
def setCmd (c : Cmd) (s : State) : State :=
  { s with cmds := { s.cmds with admitted := s.cmds.admitted.map (fun d => if d.id = c.id then c else d) } }

/-- The reads of IN descriptors that a command still has on their way (R406). -/
def unread (c : Cmd) : List (Nat × Nat × Nat) :=
  (c.reads.filter (fun k => (mget none c.inData k).isNone)).map (fun k => (c.id, k, c.fn))

/-- A command leaves the admitted ones. -/
def dropCmd (id : Nat) (s : State) : State :=
  { s with cmds := { s.cmds with
    admitted := s.cmds.admitted.filter (fun d => d.id ≠ id)
    lateReads := s.cmds.lateReads ++ (s.cmds.admitted.filter (fun d => d.id == id)).flatMap unread } }

/-- The IN data of descriptor k, where it has been read. -/
def inData (c : Cmd) (k : Nat) : Option (List Byte) := mget none c.inData k

/-- The command names a slot or carries a credential (R446). -/
def slotOpcode (op : Nat) : Bool :=
  op ∈ [0x11, 0x12, 0x13, 0x14, 0x15, 0x20, 0x21, 0x22, 0x23]

/-- Queue a reply; one of a function that has been reset since is dropped (R176). -/
def pushReply (r : Reply) (s : State) : State :=
  if r.mute then s else { s with cmds := { s.cmds with replies := s.cmds.replies ++ [r] } }

/-- The reply of an admitted command (R162): result words are 0 for NOT_PERMITTED; a committing one
waits for its frame (R82), one that read an image not yet durable for that image's (R49), and one of
a slot or credential that commits nothing for step 3 of R446. -/
def replyOf (c : Cmd) (status : Nat) (results : List Nat) (outs : List (Nat × List Byte)) : Reply :=
  let jf := match c.jsn with
    | some j => jsnFrame j
    | none => 0
  { id := some c.id, fn := c.fn, pair := c.pair, status := status, opcode := cOp c, head := false, tag := pTag c.words
    jsn := c.jsn.getD 0
    results := if status = sNotPermitted then List.replicate 7 0 else padTo 7 0 results
    cls := c.cls, admitAt := c.admitAt, deadline := c.deadline, silentOk := pSilent c.words
    outs := outs, needFrame := max c.needFrame jf
    held := slotOpcode (cOp c) && c.jsn.isNone, relAt := none, mute := c.mute, away := c.away
    bufs := (List.range (pDescs c.words)).map (fun k => (descAddr c.words k, descLen c.words k)) }

/-- A lane place that a command reserved and has not used is free again. -/
def freeLane (c : Cmd) (s : State) : State :=
  match c.lane with
  | some l =>
    let x : Lane := mget {} s.lanes l
    { s with lanes := mset {} s.lanes l { x with reserved := x.reserved - 1 } }
  | none => s

/-- End an admitted command with a reply. -/
def finish (c : Cmd) (status : Nat) (results : List Nat) (outs : List (Nat × List Byte)) (s : State) : State :=
  pushReply (replyOf c status results outs) (dropCmd c.id (freeLane c s))

/-- Record the first entry that a command appended (R72). -/
def withJsn (c : Cmd) (j : Nat) : Cmd := { c with jsn := some (c.jsn.getD j) }

/-- A command that depends on a frame (R49). -/
def needs (c : Cmd) (f : Nat) : Cmd := { c with needFrame := max c.needFrame f }

/-- A class-M command runs as a job on a steward shuttle: it acts once that job has started (R258). -/
def served (c : Cmd) : Bool := c.cls != 3 || c.stewardAt.isSome

/-- A row of an opcode acts on the admitted command `id` of that opcode, where the ledger unit has not stopped for a seal
(R97, R437) and a steward has the command if it is of class M; anything else leaves the state as it is.
(DEDUCED, log 44) -/
def onCmd (op id : Nat) (f : Cmd → State → State) (s : State) : State :=
  match cmdOf s id with
  | some c => if cOp c = op && !s.jn.stopped && served c then f c s else s
  | none => s

/-- As `onCmd`, once the record lookup has been released (R446). -/
def onLooked (op id : Nat) (f : Cmd → State → State) (s : State) : State :=
  onCmd op id (fun c t => if c.lookupDone then f c t else t) s

/-- OUT data of descriptor k. (DEDUCED, log 42) -/
def outTo (c : Cmd) (k : Nat) (bs : List Byte) : List (Nat × List Byte) := [(descAddr c.words k, bs)]

end Sys2Proof.Machine
end

