-- ==== Sys2Proof/Machine/Capacity.lean ====
section
/-! DEFINITION. Cells in service, capacities and budgets (R117 to R129), and the capability record
(R139 to R142). -/

namespace Sys2Proof.Machine

/-! ### Cells (R7, R9, R286) -/

/-- The loom of a device heddle, and the steward shuttle of a loom. -/
def loomOf (h : Nat) : Nat := h / 6
def isSteward (sh : Nat) : Bool := sh % 48 == 0

/-- A loom, heddle or shuttle is in service (R286): no enclosing cell is out. -/
def loomInService (s : State) (l : Nat) : Bool := !s.cells.loomsOut.getLsbD l
def heddleInService (s : State) (h : Nat) : Bool := loomInService s (loomOf h) && !s.cells.heddlesOut.getLsbD h
def shuttleInService (s : State) (sh : Nat) : Bool :=
  heddleInService s (sh / 8) && !s.cells.shuttlesOut.getLsbD sh

/-- An L1 of a loom's region stands (R132, R435). -/
def loomL1 (s : State) (l : Nat) : Bool := s.tm.active.any (fun a => a.region == 0x10 + l)

/-- A loom is throttled out of admitted capacity: by an L1 of its region or by the plan; it takes no new job (R132,
R467). -/
def loomThrottled (s : State) (l : Nat) : Bool := loomL1 s l || s.clk.throttlePlan.getLsbD l

/-- A loom that R121 looks at: in service and not throttled out. One that the plan has counted out is still subtracted
as the largest loom. -/
def loomPresent (s : State) (l : Nat) : Bool := s.glb.loomIn.getLsbD l && loomInService s l && !loomThrottled s l

/-- A loom contributes to the counted capacity (R121, R132, R467). -/
def loomCounted (s : State) (l : Nat) : Bool := loomPresent s l && !s.ag.countedOut.getLsbD l

/-- Servers of a resource in one loom, granted ones counted only when asked (R121): 2 DIGEST,
3 CIPHER, 4 SIGN, 5 APPLET_V, 6 APPLET_IS, 7 STEWARD. -/
def loomServers (s : State) (res l : Nat) (granted : Bool) : Nat :=
  let hs := (List.range 6).map (fun i => 6 * l + i)
  let ok := fun h => heddleInService s h && (granted || (grantOf s h).isNone)
  let pool := fun (lo : Nat) => ((hs.filter ok).map (fun h =>
    ((List.range 4).filter (fun i => shuttleInService s (8 * h + lo + i) && !isSteward (8 * h + lo + i))).length)).sum
  if !loomInService s l then 0
  else if res = 2 ∨ res = 3 then (hs.filter ok).length
  else if res = 4 then 2
  else if res = 5 then pool 0
  else if res = 6 then pool 4
  else if shuttleInService s (48 * l) then 1 else 0

/-- Counted servers: the sum over the counted looms less the largest loom in service (R121). -/
def countedServers (s : State) (res : Nat) : Nat :=
  (((List.range 4).filter (loomCounted s)).map (fun l => loomServers s res l false)).sum -
    (((List.range 4).filter (loomPresent s)).map (fun l => loomServers s res l true)).foldl max 0

/-- Bytes per µs of one PCIe lane of a generation (R120). -/
def linkB (gen : Nat) : Nat :=
  match gen with
  | 1 => 250
  | 2 => 500
  | 3 => 984
  | 4 => 1969
  | 5 => 3938
  | _ => 0

/-- CAP of a resource per ms as the device stands (R117, R120, R121, R467). Until READY no loom is
counted (R461). -/
def capNow (s : State) (res : Nat) : Nat :=
  let link := linkB s.host.linkGen * s.host.linkWidth
  match res with
  | 0 => if s.ag.centralNow then 0 else 64000
  | 1 => if s.ag.centralNow then 0 else 8000
  | 8 => 7 * link / 8 * 1000
  | 9 => link / 8 * 1000
  | _ => countedServers s res * 1000000

/-- W of a resource in µs (R117). -/
def windowOf (res : Nat) : Nat :=
  match res with
  | 0 => 2
  | 1 => 12
  | 2 => 1
  | 3 => 1
  | 4 => 700
  | 5 => 4
  | 6 => 16
  | 7 => 6000
  | 8 => 2
  | _ => 12000

/-- MAX_CHARGE of a resource (R117). -/
def maxCharge (res : Nat) : Nat :=
  match res with
  | 0 => 16
  | 1 => 2
  | 2 => 4000
  | 3 => 4000
  | 4 => 118000
  | 5 => 6969
  | 6 => 29950
  | 7 => 6000000
  | 8 => 2048
  | _ => 4194304

/-- The capacity admission uses: never more than the published record shows (R141). -/
def capUsed (s : State) (res : Nat) : Nat := min (capNow s res) (s.adm.published.caps.getD res 0)

/-- Total depth C × W in units (R117). -/
def depthOf (cap res : Nat) : Nat := cap * windowOf res / 1000

/-! ### Budgets (R124) -/

/-- The instant in ns. (DESIGN CHOICE, log 5) -/
def nowNs (s : State) : Nat := s.now * 1000

/-- The level of a budget after its fall at rate_x per ms (R124). -/
def fallen (rate t : Nat) (b : Budget) : Nat := b.level - rate * (t - b.lastNs) / 1000000

/-- A realm's budget of a resource. -/
def budgetOf (s : State) (r res : Nat) : Budget := mget {} s.adm.budgets (r * 16 + res)

/-- Level, depth (times 4096) and rate (times 4096, per ms) of a realm's budget now. (DEDUCED, log 122) -/
def budgetNow (s : State) (r res : Nat) : Nat × Nat × Nat :=
  let rate := capUsed s res * shareOf s r res
  (fallen rate (nowNs s) (budgetOf s r res), depthOf (capUsed s res) res * shareOf s r res, rate)

/-- The charge fits the realm's budget (R124). -/
def fits (s : State) (r res charge : Nat) : Bool :=
  let (level, depth, _) := budgetNow s r res
  decide (level + charge * 4096 ≤ depth)

/-- Add a charge to a realm's budget. -/
def chargeBudget (r res charge : Nat) (s : State) : State :=
  let (level, _, _) := budgetNow s r res
  { s with adm := { s.adm with
    budgets := mset {} s.adm.budgets (r * 16 + res) ⟨level + charge * 4096, nowNs s⟩ } }

/-- The wait until a charge fits, exactly: what the level must fall by, and its rate per ms; none where it never fits
(R136). -/
def waitOf (level depth rate charge : Nat) : Option (Nat × Nat) :=
  if depth < charge * 4096 ∨ rate = 0 then none else some (level + charge * 4096 - depth, rate)

/-- A wait in ns, rounded up. -/
def waitNs (w : Option (Nat × Nat)) : Option Nat := w.map (fun p => ceilDiv (p.1 * 1000000) p.2)

/-- A wait as a RETRY word (R135). -/
def retryWord (w : Option Nat) : Nat :=
  match w with
  | none => 3 * 16384
  | some ns =>
    let us := max 1 (ceilDiv ns 1000)
    if us ≤ 16383 then us
    else if ceilDiv us 64 ≤ 16383 then 1 * 16384 + ceilDiv us 64
    else if ceilDiv us 4096 ≤ 16383 then 2 * 16384 + ceilDiv us 4096
    else 3 * 16384

/-! ### Placement budgets (R129) -/

/-- The device heddles of a TARGET cell. -/
def cellHeddles (t : Nat) : List Nat :=
  let l := bits t 7 6
  if bits t 15 13 = 1 then (List.range 6).map (fun i => 6 * l + i) else [6 * l + bits t 5 3]

/-- The shuttles of a TARGET cell. -/
def cellShuttles (t : Nat) : List Nat :=
  if bits t 15 13 = 3 then [8 * (6 * bits t 7 6 + bits t 5 3) + bits t 2 0]
  else (cellHeddles t).flatMap (fun h => (List.range 8).map (fun i => 8 * h + i))

/-- In-service servers of a pool (5 or 6) in a TARGET cell. -/
def cellServers (s : State) (t pool : Nat) : Nat :=
  ((cellShuttles t).filter (fun sh => shuttleInService s sh && !isSteward sh &&
    (if pool = 5 then decide (sh % 8 < 4) else decide (4 ≤ sh % 8)))).length

/-- Level, depth and rate of a cell's budget, in units and per ms. -/
def cellNow (s : State) (t pool : Nat) : Nat × Nat × Nat :=
  let rate := cellServers s t pool * 1000000
  (fallen (rate * 4096) (nowNs s) (mget {} s.adm.cells (t * 2 + (pool - 5))), depthOf rate pool * 4096, rate * 4096)

/-- Add a charge to a cell's budget. -/
def chargeCell (t pool charge : Nat) (s : State) : State :=
  let (level, _, _) := cellNow s t pool
  { s with adm := { s.adm with
    cells := mset {} s.adm.cells (t * 2 + (pool - 5)) ⟨level + charge * 4096, nowNs s⟩ } }

/-- The level that a budget has reached, noted before its rate or its depth changes (R125). -/
def noteLevel (rate : Nat) (s : State) (b : Budget) : Budget := ⟨fallen rate (nowNs s) b, nowNs s⟩

/-- Every budget's level is noted: a change of a share or of a capacity is about to take effect (R125). -/
def noteLevels (s : State) : State :=
  { s with adm := { s.adm with
    budgets := mmap {} (fun k b => noteLevel (capUsed s (k % 16) * shareOf s (k / 16) (k % 16)) s b) s.adm.budgets
    cells := mmap {} (fun k b => noteLevel (cellServers s (k / 2) (k % 2 + 5) * 1000000 * 4096) s b) s.adm.cells } }

/-! ### The capability record (R139) -/

/-- A bitmap of the device heddles that satisfy a test. -/
def heddleMap (p : Nat → Bool) : Nat :=
  (List.range 24).foldl (fun a h => a + (if p h then 2 ^ h else 0)) 0

/-- The device part of the record as the device stands. -/
def capRecordNow (s : State) : CapRecord :=
  { planTime := s.ag.planTime, linkWidth := s.host.linkWidth, linkGen := s.host.linkGen
    looms := (List.range 4).foldl (fun a l => a + (if loomCounted s l then 2 ^ l else 0)) 0
    heddlesIn := heddleMap (heddleInService s), lifeUsed := s.ag.lifeUsed
    caps := (List.range 10).map (capNow s), granted := heddleMap (fun h => (grantOf s h).isSome) }

/-- Whether the published record differs from the device as it stands (R141). -/
def capStale (s : State) : Bool := !decide (capRecordNow s = s.adm.published)

/-- The 128 words of the record with a realm's shares (R139). -/
def capWords (s : State) (r : Nat) : List Nat :=
  let p := s.adm.published
  padTo 128 0 ([1, 0] ++ leNats 2 s.adm.startNo ++ leNats 2 s.adm.change ++ leNats 2 p.planTime ++
    [p.linkWidth * 256 + p.linkGen * 16 + p.looms] ++ leNats 2 p.heddlesIn ++ [p.lifeUsed] ++
    leNats 2 8000000 ++ leNats 2 40000 ++ leNats 2 120000 ++ leNats 2 2000000 ++ leNats 2 50000000 ++
    leNats 2 2000 ++
    (List.range 10).flatMap (fun k => leNats 2 (p.caps.getD k 0) ++ leNats 2 (depthOf (p.caps.getD k 0) k) ++
      leNats 2 (maxCharge k)) ++
    leNats 2 p.granted ++ [0, 0, r] ++ (List.range 10).map (shareOf s r))

/-- The record's bytes. -/
def capBytes (s : State) (r : Nat) : List Byte := (capWords s r).flatMap (leBytes 2)

/-- CHANGE advances, and those who asked to hear of it do (R141, R427). -/
def capAdvance (s : State) : State :=
  capChanged { s with adm := { s.adm with change := (s.adm.change + 1) % 4294967296 } }

/-- CAP_HASH (R140). -/
def capHash (s : State) : List Byte := sha256 ((capBytes s 0).take 176)

end Sys2Proof.Machine
end

