-- ==== Sys2Proof/Machine/Keys.lean ====
section
/-! DEFINITION. The key store: slots and their material (R298 to R302, R309), which slot an operation
uses and whether it may (R198, R303, R308), and the key bus (R310). -/

namespace Sys2Proof.Machine

/-! ### Slots -/

def ksEmpty : Nat := 0
def ksAssigned : Nat := 1
def ksLive : Nat := 2
def ksRetired : Nat := 3
def ksSaturated : Nat := 4
def ksCorrupt : Nat := 5

/-- Attribute bits of R299. -/
def aMacg : Nat := 0x0002
def aMacv : Nat := 0x0004
def aEnc : Nat := 0x0008
def aDec : Nat := 0x0010
def aDerive : Nat := 0x0020
def aSign : Nat := 0x0040
def aSigv : Nat := 0x0080
def aWrap : Nat := 0x0100
def aExport : Nat := 0x0200
def aLane : Nat := 0x0400
def aApplet : Nat := 0x0800
def aHost : Nat := 0x1000

/-- A slot as the key bus uses it: its last durable change (R310). -/
def slotBus (s : State) (n : Nat) : KeySlot := mget {} s.keys.slots n

/-- A slot with its newest change, durable or not. -/
def slotNow (s : State) (n : Nat) : KeySlot :=
  match s.keys.pend.find? (fun p => p.slot == n) with
  | some p => p.now
  | none => slotBus s n

/-- A change of the slot is not yet durable. -/
def slotPending (s : State) (n : Nat) : Bool := s.keys.pend.any (fun p => p.slot == n)

/-- The key a slot holds: its two shares combined, KEY_BITS long (R309). -/
def slotKey (k : KeySlot) : List Byte := (xorBytes k.share k.mask).take (k.keyBits / 8)

/-- Whether a slot carries every attribute of a mask. -/
def hasAttrs (k : KeySlot) (m : Nat) : Bool := decide (k.attr &&& m = m)

/-- The descriptor word of a slot (R298). -/
def slotDesc (k : KeySlot) : Nat := k.state * 8192 + k.family * 512 + k.kind * 32 + k.realm

/-- The LIVE slots of a realm that satisfy a test, by ascending number. -/
def liveSlots (s : State) (realm : Nat) (p : KeySlot → Bool) : List (Nat × KeySlot) :=
  (List.range 1024).filterMap (fun n =>
    let k := slotNow s n
    if k.state = ksLive ∧ k.realm = realm ∧ p k then some (n, k) else none)

/-- The same over the slots as the key bus uses them. -/
def busSlots (s : State) (realm : Nat) (p : KeySlot → Bool) : List (Nat × KeySlot) :=
  (List.range 1024).filterMap (fun n =>
    let k := slotBus s n
    if k.state = ksLive ∧ k.realm = realm ∧ p k then some (n, k) else none)

/-- The slot that a credential's family and KEY_GEN select (R198), for a delivery, to which a change applies once it is
durable (R310). -/
def familySlot (s : State) (realm family gen : Nat) : Option Nat :=
  ((busSlots s realm (fun k => k.family == family && k.keyGen % 256 == gen)).head?).map Prod.fst

/-- A realm's KEK: its LIVE WRAP slot with the highest KEY_GEN (R303). -/
def kekOf (s : State) (realm : Nat) : Option Nat :=
  ((liveSlots s realm (fun k => hasAttrs k aWrap)).foldl (fun (a : Option (Nat × KeySlot)) p =>
    match a with
    | some q => if q.2.keyGen < p.2.keyGen then some p else a
    | none => some p) none).map Prod.fst

/-! ### Derived keys (R294, R295) -/

/-- A key under the root secret, of a label. -/
def rootSub (label : Nat) : List Byte := kdf Config.rootSecret (beBytes 4 label) (List.replicate 8 0) 256

def attestKey : List Byte := rootSub 0x44514154
def imageEncKey : List Byte := rootSub 0x44514B45
def imageMacKey : List Byte := rootSub 0x44514B4D
def ledgerWrapKey : List Byte := rootSub 0x44514C57

/-- The 4 KiB header of a firmware slot: ACT_SEQ, TOTAL_LEN, and its MAC (R465). (DESIGN CHOICE, log 106) -/
def fwHeader (act total : Nat) : List Byte :=
  let b := leBytes 4 act ++ leBytes 4 total ++ List.replicate 4056 0
  b ++ hmac256 firmwareMacKey b

/-- A firmware slot's header authenticates (R464, R465). -/
def fwHeadOk (f : FwSlot) : Bool :=
  match f.head with
  | some h => decide (h.length = 4096 ∧ h.drop 4064 = hmac256 firmwareMacKey (h.take 4064) ∧
      leNat (h.take 4) = f.actSeq)
  | none => true

/-- CHECK of a root secret. -/
def checkOf (root : List Byte) : List Byte := kdf root (beBytes 4 0x4451434B) (List.replicate 8 0) 64

/-! ### Helper data (R290, R291) -/

/-- Cells of the array as bits, and packed into bytes: cell 8 n + i stands in bit i of byte n. -/
def cellBits (cells : List Byte) : List Bool := cells.flatMap (fun b => (List.range 8).map b.getLsbD)
def packCells (bs : List Bool) : List Byte :=
  (chunks 8 bs).map (fun c => BitVec.ofNat 8 ((c.zipIdx.map (fun p => b2n p.1 * 2 ^ p.2)).sum))

/-- The cells of a reading that a map marks as stable, in the array's order. -/
def stableBits (cells map : List Byte) : List Bool :=
  ((cellBits cells).zip (cellBits map)).filterMap (fun p => if p.2 then some p.1 else none)

/-- The code-offset construction (R290): the offset is the code word of the secret, exclusive-or the stable cells. -/
def codeOffset (secret cells map : List Byte) : List Byte :=
  let w := stableBits cells map
  packCells (List.zipWith xor (Config.encodeSecret secret w.length) w)

/-- The code word that a reading yields, with the errors of its cells. -/
def noisyWord (cells offset map : List Byte) : List Bool := List.zipWith xor (cellBits offset) (stableBits cells map)

/-- The secret that a reading regenerates, and the bits that its decoding corrected. -/
def regenerate (cells offset map : List Byte) : List Byte := Config.decodeSecret (noisyWord cells offset map)
def correctedBits (cells offset map : List Byte) : Nat :=
  let w := noisyWord cells offset map
  ((List.zipWith xor w (Config.encodeSecret (Config.decodeSecret w) w.length)).filter id).length

/-- What a helper copy holds. -/
structure HelperRead where
  gen : Nat
  offset : List Byte
  stable : List Byte
  check : List Byte
  crcOk : Bool
  deriving DecidableEq, Repr

/-- The value that the helper-key fuses read: every bit is programmed once scuttle has destroyed the key (R289). -/
def helperKeyNow (s : State) : List Byte := if s.keys.helperFuses then Config.helperKey else List.replicate 32 0xFF

/-- A helper copy under its key: `copy` is 0 for A and 1 for B. HELPER_GEN, which its counter block needs, is in clear;
the code offset has the bytes that the 16,448 leave it. (DESIGN CHOICE, log 59) -/
def helperCipher (key : List Byte) (copy gen : Nat) (m : List Byte) : List Byte :=
  ctr key ([0xC5, BitVec.ofNat 8 (0x41 + copy)] ++ beBytes 4 gen ++ List.replicate 6 0) 4 0 m

/-- The bytes of a helper copy. -/
def helperBytes (s : State) (copy gen : Nat) (offset stable check : List Byte) : List Byte :=
  let body := padTo 8240 0 offset ++ padTo 8192 0 stable ++ check
  let g := leBytes 4 gen
  g ++ helperCipher (helperKeyNow s) copy gen (body ++ leBytes 4 (crc32 (g ++ body)).toNat)

/-- A helper copy as read: generation 1 over the enrolled cells as Chesevia wrote it. (DESIGN CHOICE, log 59) -/
def helperRead (s : State) (copy : Nat) : HelperRead :=
  match if copy = 0 then s.keys.helperA else s.keys.helperB with
  | some b =>
    let gen := leNat (b.take 4)
    let p := helperCipher (helperKeyNow s) copy gen (b.drop 4)
    let body := p.take 16440
    { gen := gen, offset := body.take 8240, stable := (body.drop 8240).take 8192, check := body.drop 16432
      crcOk := decide (b.length = 16448 ∧ p.drop 16440 = leBytes 4 (crc32 (b.take 4 ++ body)).toNat) }
  | none =>
    if s.keys.helperFuses then
      let map := (List.range 8192).map Config.enrolMapByte
      { gen := 1, stable := map, check := checkOf Config.rootSecret, crcOk := true
        offset := codeOffset Config.rootSecret ((List.range 8192).map Config.enrolCellByte) map }
    else { gen := 1, stable := [], check := [], crcOk := false, offset := [] }

/-- The copy that R292 tries first. -/
def helperFirst (s : State) : Nat :=
  let a := helperRead s 0
  let b := helperRead s 1
  if a.crcOk && (!b.crcOk || decide (b.gen ≤ a.gen)) then 0 else 1

/-- The set bits of bytes. -/
def popBytes (bs : List Byte) : Nat := bs.foldl (fun n b => n + ((List.range 8).filter (fun i => b.getLsbD i)).length) 0

/-- The measured cell error rate in 0.01 %: corrected bits over the stable cells used (R292). -/
def cellErrors (cells : List Byte) (h : HelperRead) : Nat :=
  min 0xFFFF (10000 * correctedBits cells h.offset h.stable / max 1 (popBytes h.stable))

/-- A reading regenerates the root secret with a helper copy: CHECK is reproduced. Its CRC only ranks the copy (R292). -/
def regenerates (cells : List Byte) (h : HelperRead) : Bool :=
  decide (checkOf (regenerate cells h.offset h.stable) = h.check)

/-! ### The ledger key's copies (R296) -/

/-- The ledger key that a copy unwraps to: 128 bytes, protected as the slot image of the number that its address gives,
the wrapped key in its material. (DEDUCED, log 60) -/
def ledgerCopyKey (p : Nat) (c : Option (List Byte)) : Option (List Byte) :=
  match c with
  | none => some Config.ledgerKey
  | some b =>
    let body := b.take 96
    if b.drop 96 ≠ hmac256 imageMacKey (beBytes 2 1152 ++ beBytes 1 p ++ body) then none else
    let plain := ctr imageEncKey (beBytes 2 1152 ++ beBytes 1 p ++ [0] ++ beBytes 4 0 ++ (body.drop 92)) 4 0 (body.take 92)
    keyUnwrap ledgerWrapKey ((plain.drop 16).take 40)

/-- The first copy that unwraps. -/
def ledgerUnwraps (s : State) : Option (List Byte) :=
  match ledgerCopyKey 0 s.keys.ledgerA with
  | some k => some k
  | none => ledgerCopyKey 1 s.keys.ledgerB

/-! ### Directory copies (R312, R315) -/

/-- What a directory copy holds: each slot's COUNTER and position, and the frame of its stamp. -/
structure DirRead where
  seq : Nat
  stamp : Nat
  entries : KMap (Nat × Nat)
  deriving DecidableEq, Repr

/-- Everything of a directory copy after WRITE_START and before the MAC, under its key. -/
def dirCipher (copy start seq : Nat) (m : List Byte) : List Byte :=
  ctr imageEncKey ([0xC4, 0x04, BitVec.ofNat 8 (0x41 + copy), 0] ++ beBytes 4 start ++ beBytes 4 (seq % 4294967296)) 4 0 m

/-- The bytes of a directory copy. -/
def dirBytes (copy seq start stamp : Nat) (entries : Nat → Nat × Nat) : List Byte :=
  let plain := leBytes 8 stamp ++ List.replicate 48 0 ++ (List.range 1024).flatMap (fun n =>
    beBytes 4 (entries n).1 ++ beBytes 1 (entries n).2 ++ [0, 0, 0])
  let body := leBytes 8 seq ++ leBytes 4 start ++ dirCipher copy start seq plain
  body ++ hmac256 imageMacKey body

/-- A directory copy, where its MAC is good. -/
def dirRead (copy : Nat) (c : Option (List Byte)) : Option DirRead :=
  match c with
  | none => none
  | some b =>
    let body := b.take 8260
    if b.length ≠ 8292 ∨ b.drop 8260 ≠ hmac256 imageMacKey body then none else
    let seq := leNat (body.take 8)
    let p := dirCipher copy (leNat ((body.drop 8).take 4)) seq (body.drop 12)
    some { seq := seq, stamp := leNat (p.take 8)
           entries := ((chunks 8 (p.drop 56)).zipIdx).foldl (fun m e =>
             mset (0, 0) m e.2 (beNat (e.1.take 4), beNat ((e.1.drop 4).take 1) % 2)) [] }

/-- COPY_SEQ of a copy, in clear; 0 for none. -/
def dirSeq (c : Option (List Byte)) : Nat := c.elim 0 (fun b => leNat (b.take 8))

/-- The valid directory copy with the higher COPY_SEQ (R315). -/
def bestDir (s : State) : Option DirRead :=
  match dirRead 0 s.keys.dirA, dirRead 1 s.keys.dirB with
  | some a, some b => if a.seq < b.seq then some b else some a
  | some a, none => some a
  | none, b => b

/-! ### The key bus (R308, R310) -/

/-- A request may use the slot: LIVE, owned by the realm, with every attribute, of an allowed KIND; a KIND 2 slot of a
credential family gives no CMAC under its own key. -/
def keyUsable (s : State) (r : KeyReq) : Bool :=
  match r.slot with
  | none => false
  | some n =>
    let k := slotBus s n
    let plainMac := decide (r.attrs &&& (aMacg + aMacv) ≠ 0 ∧ r.attrs &&& aDerive = 0)
    decide (k.state = ksLive) && decide (k.realm = r.realm) && hasAttrs k r.attrs && r.kinds.contains k.kind &&
      !(k.kind == 2 && decide (k.family < 15) && plainMac)

/-- A request joins the bus. -/
def keyAsk (r : KeyReq) (s : State) : State := { s with keys := { s.keys with reqs := s.keys.reqs ++ [r] } }

/-- Requests of a channel leave the bus. -/
def keyDropReqs (eng unit ch : Nat) (s : State) : State :=
  { s with keys := { s.keys with reqs := s.keys.reqs.filter (fun r => !(r.eng == eng && r.unit == unit && r.ch == ch)) } }

/-- KEY_GEN, COUNTER and KIND of the slot a request names. -/
def reqSlot (s : State) (r : KeyReq) : KeySlot :=
  match r.slot with
  | some n => slotBus s n
  | none => {}

end Sys2Proof.Machine
end

