-- ==== Sys2Proof/Machine/LedgerCmds.lean ====
section
/-! DEFINITION. What the ledger opcodes do (R31, R33, R38, R42, R46, R96, R166, R167), the hold
timer, the expiry sweep and the free-pool prefetch (R38, R45, R47). -/

namespace Sys2Proof.Machine

/-! ### Steps 5 to 8 of R35 -/

/-- Steps 5 to 8 on a slot's newest image, for a caller's realm: none when all pass (R29, R35). -/
def slotChecks (s : State) (realm slot gen : Nat) : Option Nat :=
  let r := imageAt s slot
  let q := quarOf s slot
  let badCheck := match q with
    | some e => !e.checkOk
    | none => pageBad s slot || !checkOk r
  if badCheck then some sNotPermitted
  else if rRealm r ≠ realm then some sNotPermitted
  else if q.isSome || fieldBad r then some sSlotState
  else if rState r = stRetired then some sRetired
  else if rGen r ≠ gen then some sGenMismatch
  else none

/-- W8 and W9 of CONFIRM, VOID and RELEASE: the STATE after and the record's SLOT_GEN (R166). -/
def stateGen (r : List Word) : List Nat := [rState r * 4096, rGen r]

/-- A slot found corrupt: quarantined with an L1; where the list is full, logged with an L3 instead
(R29, R48). -/
def foundCorrupt (slot : Nat) (r : List Word) (checkBad : Bool) (cause : Nat) (s : State) : State :=
  if (quarOf s slot).isSome then s
  else if quarFull s then alarm 0x20 0 3 0 (logEvent 2 4 [] s)
  else alarm 0x20 0 1 0 (quarantineSlot slot r checkBad cause s)

/-- Slots of a page that failed authentication are quarantined where no overlay entry serves them; an
L1 is raised and the page logged (R107). -/
def pageFail (page : Nat) (s : State) : State :=
  let groups := ((List.range 8).map (fun g => 8 * page + g)).filter (fun g => !s.led.badGroups.contains g)
  if groups.isEmpty then s else
  let slots := ((List.range 128).map (fun k => page * 128 + k)).filter (fun n => (overlayOf s n).isNone)
  let s1 := slots.foldl (fun t n => foundCorrupt n (homeRec t n) true 3 t) s
  alarm 0x20 0 1 0 (logEvent 2 2 (leNats 2 page)
    { s1 with led := { s1.led with badGroups := s1.led.badGroups ++ groups } })

/-- A read of a record counts as an overlay hit or as a page read (R479). -/
def countRead (slot : Nat) (s : State) : State := count (if (overlayOf s slot).isNone then 8 else 7) 0 s

/-- The ledger unit reads a slot's record: from the overlay, or from its page, which must authenticate; a corrupt record
is quarantined (R29, R53, R60, R107). `failed` says that the page fails its three reads; each read counts (R479). -/
def readSlot (failed : Bool) (slot : Nat) (s : State) : State :=
  let home := (overlayOf s slot).isNone
  if home && readFails failed s slot then pageFail (slot / 128) (countN 8 0 3 s)
  else
    let s0 := countRead slot s
    let s1 := if home then { s0 with led := { s0.led with cache := cacheAdd (climb s slot).2 s0.led.cache } } else s0
    let r := imageAt s1 slot
    if corrupt r then foundCorrupt slot r (!checkOk r) (if checkOk r then 2 else 1) s1 else s1

/-- What the ledger unit has read of a slot is good. -/
def slotGood (s : State) (slot : Nat) : Bool :=
  (quarOf s slot).isNone && !pageBad s slot && !corrupt (imageAt s slot)

/-! ### LEDGER_RESERVE -/

/-- The first slot of a list that is found good. -/
def firstGood : List Nat → State → Option Nat × State
  | [], s => (none, s)
  | n :: ns, s =>
    let t := readSlot false n s
    if slotGood t n then (some n, t) else firstGood ns t

/-- The slot that a reservation takes: the first of the pool found good, ahead of use or now (R47). -/
def poolPick (s : State) : Option Nat × State :=
  match s.led.prefetched with
  | n :: _ => (some n, s)
  | [] => firstGood (poolFirst 4112 s) s

/-- The record that a reservation writes (R31): SLOT_GEN + 1, W2 to W7 and W13, W14 from the packet,
EPOCH, KEY_GEN and APPLET_GEN of the realm, LAST_USE_TIME now, ISSUE_SOURCE. -/
def reservedRec (s : State) (c : Cmd) (old : List Word) (keyGen : Nat) : List Word :=
  let w := c.words
  let e := (realmRow s c.fn).epoch
  let now := secsE s.clk.cal (baseOf s c.fn e)
  [ofW (rGen old + 1), ofW (stReserved * 4096), ofW (e * 16384 + bits (wd w 8) 13 0),
   ofW (c.fn * 256 + bits (wd w 9) 7 0), w.getD 10 0, w.getD 11 0, w.getD 12 0, w.getD 13 0] ++
  leWords 2 now ++ [0, ofW (sourceWord (cOrigin c)), ofW (keyGen * 256 + c.appGen), w.getD 14 0, w.getD 15 0, 0]

/-- The days of a reservation are refused (R39, R40). -/
def reserveDaysBad (s : State) (c : Cmd) : Bool :=
  let base := baseOf s c.fn (realmRow s c.fn).epoch
  let fr := wd c.words 10
  let till := wd c.words 11
  decide (s.clk.cal < base) || decide (32767 < ahead till fr) ||
    decide (32767 < ahead till (dayE s.clk.cal base))

/-- CUR_GEN of the family that a policy of the command's table names (R301). -/
def reserveCurGen (s : State) (c : Cmd) : Nat :=
  match polAt c.table (bits (wd c.words 9) 7 0) with
  | some p => mget 0 (realmRow s c.fn).curGen (polFamily p)
  | none => 0

/-- LEDGER_RESERVE after admission (R31, R46, R47, R166). -/
def ledgerReserve (c : Cmd) (s : State) : State :=
  if reserveDaysBad s c || reserveCurGen s c == 0 then finish c sBadParam [] [] s
  else if (realmRow s c.fn).quota ≤ heldOf s c.fn then finish c sQuota [] [] s
  else match poolPick s with
    | (none, t) => finish c sQuota [] [] t
    | (some slot, t) =>
      let new := reservedRec t c (imageAt t slot) (reserveCurGen t c % 256)
      let (j, u) := commitImage slot new (cOrigin c) sOk (poolTake slot t)
      finish (withJsn c j) sOk (leNats 2 slot ++ [wd new 0, wd new 2, wd new 12]) [] u

/-! ### LEDGER_CONFIRM, LEDGER_VOID, LEDGER_RELEASE -/

/-- Commit a DELTA for a command and end it (R31). -/
def commitEnd (c : Cmd) (slot : Nat) (new : List Word) (status : Nat) (s : State) : State :=
  let (j, t) := commitDelta slot new (cOrigin c) status s
  finish (withJsn c j) status (stateGen new) [] t

/-- The same for the VOID of an elapsed timeout, which draws on the internal reserve: where the tick takes no more of
those, the command waits for the next one (R38, R127, R128). -/
def timeoutEnd (c : Cmd) (slot : Nat) (new : List Word) (status : Nat) (s : State) : State :=
  if otherLeft s = 0 then s else commitEnd c slot new status (useOther 1 s)

/-- End a slot command that commits nothing: its reply depends on the image it read (R49). -/
def endRead (c : Cmd) (slot status : Nat) (results : List Nat) (s : State) : State :=
  finish (needs c (imageFrame s slot)) status results [] s

/-- LEDGER_CONFIRM (R31, R33, R38). -/
def ledgerConfirm (c : Cmd) (s : State) : State :=
  let slot := pSlot c.words
  let r := imageAt s slot
  match slotChecks s c.fn slot (pGen c.words) with
  | some st => endRead c slot st (stateGen r) s
  | none =>
    if timedOut s r then timeoutEnd c slot (voidRec r (cOrigin c)) sSlotState s
    else if (rState r = stReserved ∧ rTag r = false) ∨ rState r = stUnconfirmed then
      commitEnd c slot (setPair (setState r stIssued) 8 0) sOk s
    else if rState r = stIssued then endRead c slot sOkAlready (stateGen r) s
    else endRead c slot sSlotState (stateGen r) s

/-- LEDGER_VOID (R31, R33, R38). -/
def ledgerVoid (c : Cmd) (s : State) : State :=
  let slot := pSlot c.words
  let r := imageAt s slot
  match slotChecks s c.fn slot (pGen c.words) with
  | some st => endRead c slot st (stateGen r) s
  | none =>
    if timedOut s r then timeoutEnd c slot (voidRec r (cOrigin c)) sOkAlready s
    else if 1 ≤ rState r ∧ rState r ≤ 4 then commitEnd c slot (voidRec r (cOrigin c)) sOk s
    else if rState r = stVoid then endRead c slot sOkAlready (stateGen r) s
    else endRead c slot sSlotState (stateGen r) s

/-- A record counted in a HELD becomes RETIRED: that realm's QUOTA falls by one (R46), a change of the realm table
that its frame carries (R91). (DEDUCED, log 26) -/
def cutQuota (realm frame : Nat) (s : State) : State :=
  let t := s.realms.live
  let w := rowOf t realm
  { s with realms := { s.realms with live := setRow realm { w with quota := w.quota - 1 } t }
           jn := { s.jn with cuts := s.jn.cuts ++ [(frame, realm)], realmFrames := s.jn.realmFrames ++ [frame] } }

/-- Free or retire an ended record: STATE only (R31, R44). -/
def releaseRec (c : Cmd) (slot : Nat) (s : State) : State :=
  let r := imageAt s slot
  if rGen r < 0xFFFF then
    let new := setState r stFree
    let (j, t) := commitDelta slot new (cOrigin c) sOk s
    finish (withJsn c j) sOk (stateGen new) [] (poolAdd slot t)
  else
    let new := setState r stRetired
    let (j, t) := commitDelta slot new (cOrigin c) sOk s
    finish (withJsn c j) sOk (stateGen new) [] (cutQuota (rRealm r) (jsnFrame j) t)

/-- LEDGER_RELEASE from realms 1 to 31 (R31, R33, R38). -/
def ledgerReleaseRealm (c : Cmd) (s : State) : State :=
  let slot := pSlot c.words
  let r := imageAt s slot
  match slotChecks s c.fn slot (pGen c.words) with
  | some st =>
    if st = sRetired ∧ rGen r = pGen c.words then endRead c slot sOkAlready (stateGen r) s
    else endRead c slot st (stateGen r) s
  | none =>
    if timedOut s r then
      if otherLeft s = 0 then s else
      let (j, t) := applyTimeout slot (cOrigin c) sOk s
      releaseRec (withJsn c j) slot t
    else if 5 ≤ rState r ∧ rState r ≤ 7 then releaseRec c slot s
    else if rState r = stFree then endRead c slot sOkAlready (stateGen r) s
    else endRead c slot sSlotState (stateGen r) s

/-- The record of a slot retired from quarantine (R31): SLOT_GEN all ones, STATE RETIRED, W3 kept
where RECORD_CHECK matches. -/
def retiredQuar (r : List Word) (keep : Bool) : List Word :=
  [0xFFFF, 0x8000, 0, if keep then r.getD 3 0 else 0] ++ List.replicate 12 0

/-- The approval of an operation with its argument that is in force under an ID (R396). -/
def approvalFor (s : State) (id op : Nat) (args : List Nat) : Option Approval :=
  s.card.approvals.find? (fun a => a.id == id && a.op == op && a.args == padTo 6 0 args && decide (s.clk.readyUs < a.expires))

/-- An approval is consumed. -/
def dropApproval (id : Nat) (s : State) : State :=
  { s with card := { s.card with approvals := s.card.approvals.filter (fun a => a.id ≠ id) } }

/-- LEDGER_RELEASE from realm 0: quarantine retirement under an approval (R31, R46, R48). The SLOT_GEN that the command
carries is not compared with the corrupt record's. (DESIGN CHOICE, log 103) -/
def ledgerReleaseQuar (c : Cmd) (s : State) : State :=
  let slot := pSlot c.words
  match quarOf s slot, approvalFor s (wd c.words 11) 5 (leNats 2 slot) with
  | some q, some a =>
    let r := imageAt s slot
    let new := fixCheck (retiredQuar r q.checkOk)
    let s1 := roomForPair (dropApproval a.id s)
    let j := nextJsn s1
    let s2 := append (tailEntry slot new) (append (headEntry slot new (cOrigin c) sOk) s1)
    let l0 := { s2.led with quarantine := s2.led.quarantine.filter (fun e => e.slot ≠ slot)
                            retiring := s2.led.retiring ++ [(jsnFrame j, q)] }
    let l1 := if q.held then countOut r l0 else l0
    let l2 := { countIn new l1 with overlay := ovAdd slot new j l1.overlay }
    let s3 := { s2 with led := l2 }
    let s4 := if q.held then cutQuota q.realm (jsnFrame j) s3 else s3
    finish (withJsn c j) sOk (stateGen new) [] s4
  | _, _ => finish c sNotPermitted [] [] s

/-- LEDGER_RELEASE. -/
def ledgerRelease (c : Cmd) (s : State) : State :=
  if c.fn = 0 then ledgerReleaseQuar c s else ledgerReleaseRealm c s

/-! ### LEDGER_READ and LEDGER_GATHER -/

/-- LEDGER_READ (R166). -/
def ledgerRead (c : Cmd) (s : State) : State :=
  let slot := pSlot c.words
  let r := imageAt s slot
  let c' := needs c (imageFrame s slot)
  let st := (slotChecks s c.fn slot (pGen c.words)).getD sOk
  if st = sOk ∨ st = sGenMismatch ∨ st = sRetired then
    finish c' st [rState r * 4096, if st = sGenMismatch then rGen r else 0] (outTo c 0 (wordBytes r)) s
  else finish c' st [rState r * 4096] [] s

/-- The outcome code of an element and the 32 bytes written for it (R167). -/
def gatherOne (s : State) (realm : Nat) (e : List Word) : Nat × List Byte :=
  let slot := pairAt e 0 % 2 ^ 25
  let img := wordBytes (imageAt s slot)
  let zero : List Byte := List.replicate 32 0
  match slotChecks s realm slot (wd e 2) with
  | none => (0x0, img)
  | some st =>
    if st = sSlotState then (0x1, zero)
    else if st = sGenMismatch then (0x2, img)
    else if st = sRetired then (0x7, img)
    else (0xC, zero)

/-- Four outcome codes to a word, code 0xF where there is no element (R167). -/
def packCodes (codes : List Nat) : List Nat :=
  (chunks 4 (padTo 16 0xF codes)).map (fun g => g.foldr (fun a b => a + 16 * b) 0)

/-- A reserved bit of a gather element is set (R167). -/
def gatherReserved (e : List Word) : Bool := decide (bits (pairAt e 0) 31 25 ≠ 0) || decide (wd e 3 ≠ 0)

/-- LEDGER_GATHER (R167). -/
def ledgerGather (c : Cmd) (s : State) : State :=
  match inData c 0 with
  | none => s
  | some d =>
    let es := (chunks 8 d).map bytesWords
    if es.any gatherReserved then
      finish c sReservedNz [] [] s
    else
      let rs := es.map (gatherOne s c.fn)
      let need := (es.map (fun e => imageFrame s (pairAt e 0 % 2 ^ 25))).foldl max 0
      finish (needs c need) sOk (packCodes (rs.map Prod.fst) ++ [(rs.filter (fun p => p.1 == 0)).length])
        (outTo c 1 (rs.flatMap Prod.snd)) s

/-! ### REALM_REBASE and TXN_QUERY -/

/-- REALM_REBASE (R42). -/
def realmRebase (c : Cmd) (s : State) : State :=
  let n := wd c.words 8
  let b := pairAt c.words 9
  let e := (realmRow s c.fn).epoch
  let e' := if n = 0 then e else (e + 1) % 4
  let base := if n = 0 then b else baseOf s c.fn e + n * 86400
  if n ≠ 0 ∧ b ≠ 0 then finish c sReservedNz [] [] s
  else if s.clk.cal < base then finish c sBadParam [] [] s
  else if 0 < mget 0 s.led.epCount (c.fn * 4 + e') then finish c sSlotState [] [] s
  else
    let j := nextJsn s
    finish (withJsn c j) sOk (e' :: leNats 2 base) []
      (append (realmEntry 2 c.fn (e' :: leNats 2 base) (cOrigin c) sOk) s)

/-- Every outcome record held, newest first (R93 to R95). -/
def allOutcomes (s : State) : List OutRec :=
  let idx := (List.range 196608).map (fun k => (s.jn.outNextPage + 196608 - 1 - k) % 196608)
  s.jn.outOpen.reverse ++ (if s.jn.outPages.isEmpty then [] else
    idx.flatMap (fun i => match mfind s.jn.outPages i with
      | some (base, p) => (outPageRecs i base p).reverse
      | none => []))

/-- TXN_QUERY, once every frame open or in flight at its admission is durable (R96). (DEDUCED, log 29) -/
def txnQuery (c : Cmd) (s : State) : State :=
  if s.jn.durable < c.needFrame then s else
  match (allOutcomes s).find? (fun r => r.fn == c.fn && r.tag == pairAt c.words 8) with
  | some r => finish c sOk ([1, r.status] ++ leNats 4 r.jsn) [] s
  | none => finish c sOk [] [] s

/-! ### Hold timer, sweep and prefetch -/

/-- The deadline of a record reaches the hold timer: VOID by source KIND 2, NUMBER 1 (R38, R50), in a tick that takes
it (R127, R128). -/
def holdTimer (slot : Nat) (s : State) : State :=
  if s.jn.stopped || !s.glb.holdupOk || s.glb.service ∉ [svReady, svQuiescing, svQuiesced] ||
    !s.led.hold.contains slot || otherLeft s == 0 || !lookupLeft s then s
  else if timedOut s (imageAt s slot) then
    let t := readSlot false slot (useLookup s)
    if slotGood t slot then (applyTimeout slot (.internal 1) 0 t).2 else t
  else s

/-- What the sweep commits for a record in READY service: VOID for an elapsed timeout (R38), EXPIRED past its validity
(R40, R45). -/
def sweepChange (s : State) (r : List Word) : Option (List Word) :=
  let base := recBase s r
  if timedOut s r then some (voidRec r (.internal 0))
  else if (rState r = stIssued ∨ rState r = stActive ∨ rState r = stUnconfirmed) ∧ base ≤ s.clk.cal ∧
      ended r (dayE s.clk.cal base) then
    some (setW (setState r stExpired) 10 (sourceWord (.internal 0)))
  else none

/-- The sweep's next slot, with source KIND 2, NUMBER 0; a corrupt record is quarantined (R29, R45). It waits for a lookup
of the internal reserve and, where it commits, for a tick that takes the entry (R127, R128). (DEDUCED, log 30) -/
def sweepOne (failed : Bool) (s : State) : State :=
  if s.jn.stopped || !(s.glb.service = svReady || s.glb.service = svReadOnly) || !lookupLeft s then s else
  let slot := s.led.sweep
  let onTo := fun (t : State) => { t with led := { t.led with sweep := (slot + 1) % slotCount } }
  if (quarOf s slot).isSome then onTo s else
  let t := readSlot failed slot (useLookup s)
  if !slotGood t slot || s.glb.service ≠ svReady then onTo t
  else match sweepChange t (imageAt t slot) with
    | none => onTo t
    | some new => if otherLeft t = 0 then t else (commitDelta slot new (.internal 0) 0 (useOther 1 (onTo t))).2

/-- The slot near the head of the free pool that is to be read next: the first of sixteen that is not yet found good. -/
def prefetchNext (s : State) : Option Nat := (poolFirst 16 s).find? (fun n => !s.led.prefetched.contains n)

/-- A slot near the head of the free pool is read and checked ahead of use (R47). -/
def prefetchOne (failed : Bool) (s : State) : State :=
  if s.jn.stopped || !lookupLeft s then s else
  match prefetchNext s with
  | none => s
  | some n =>
    let t := readSlot failed n (useLookup s)
    if slotGood t n then { t with led := { t.led with prefetched := t.led.prefetched ++ [n] } } else t

end Sys2Proof.Machine
end

