-- ==== Sys2Proof/Machine/KeyCmds.lean ====
section
/-! DEFINITION. Device keys and slot images (R294, R295, R312 to R314), update messages (R303 to R306),
KEY_INFO and KEY_RETIRE (R307), ATTEST (R318), re-masking, entropy and re-enrolment (R293, R297, R309), and
the key store's part of decommissioning (R317). -/

namespace Sys2Proof.Machine

/-! ### Slot images (R312) -/

/-- Bytes 0 to 95 of an image as stored, at a position, written in a start. -/
def imageBody (n p : Nat) (k : KeySlot) (start : Nat) : List Byte :=
  let plain := wordBytes ([ofW n, ofW (slotDesc k), ofW k.attr, ofW k.keyGen] ++ leWords 2 k.counter ++
    [ofW k.keyBits, 0]) ++ padTo 64 0 (if k.state = ksLive then slotKey k else []) ++ List.replicate 12 0
  ctr imageEncKey (beBytes 2 n ++ beBytes 1 p ++ [0] ++ beBytes 4 k.counter ++ beBytes 4 start) 4 0 plain ++
    beBytes 4 start

/-- IMAGE_MAC. -/
def imageMac (n p : Nat) (body : List Byte) : List Byte := hmac256 imageMacKey (beBytes 2 n ++ beBytes 1 p ++ body)

/-- A slot image: 128 bytes. -/
def slotImage (n p : Nat) (k : KeySlot) (start : Nat) : List Byte :=
  let b := imageBody n p k start
  b ++ imageMac n p b

/-- A slot from its image under R313, where the image is good for the COUNTER that names it. -/
def readImage (n p ctr0 : Nat) (b : List Byte) : Option KeySlot :=
  let body := b.take 96
  if b.drop 96 ≠ imageMac n p body then none else
  let start := beNat (body.drop 92)
  let plain := ctr imageEncKey (beBytes 2 n ++ beBytes 1 p ++ [0] ++ beBytes 4 ctr0 ++ beBytes 4 start) 4 0 (body.take 92)
  let w := bytesWords (plain.take 16)
  let d := wd w 1
  if wd w 0 ≠ n ∨ pairAt w 4 ≠ ctr0 ∨ 5 < bits d 15 13 ∨ 7 < bits d 8 5 ∨ bits (wd w 2) 15 14 ≠ 0 then none
  else some { state := bits d 15 13, family := bits d 12 9, kind := bits d 8 5, realm := bits d 4 0, attr := wd w 2
              keyGen := wd w 3, counter := ctr0, keyBits := wd w 6, share := (plain.drop 16).take 64, mask := []
              pos := p }

/-- The slot that a position holds, where its image is good under R313 and its IMAGE_MAC begins as the newest KEY entry
says. Position 0 as shipped holds EMPTY with COUNTER 0. -/
def namedSlot (s : State) (n p ctr0 : Nat) (mac6 : Option (List Byte)) : Option KeySlot :=
  match mfind s.keys.images (2 * n + p) with
  | none => if p = 0 ∧ ctr0 = 0 ∧ mac6.isNone then some {} else none
  | some b => match mac6 with
    | some m => if (b.drop 96).take 6 = m then readImage n p ctr0 b else none
    | none => readImage n p ctr0 b

/-- Material of a slot under a mask: the two shares of R309. -/
def masked (k : KeySlot) (key mask : List Byte) : KeySlot :=
  { k with share := xorBytes (padTo 64 0 key) mask, mask := mask }

/-- A change of a slot (R314): the new image at the other position, then the KEY entry. The entry's JSN. -/
def changeSlot (action n : Nat) (new : KeySlot) (o : Origin) (s : State) : Nat × State :=
  let p := 1 - (slotNow s n).pos
  let k := { new with pos := p }
  let img := slotImage n p k s.adm.startNo
  let s1 := { s with keys := { s.keys with images := mput s.keys.images (2 * n + p) img } }
  let j := nextJsn s1
  let e := keyEntry ([ofW (0x5000 + n), ofW (action * 4096 + p), ofW (slotDesc k), ofW k.attr, ofW k.keyGen] ++
    leWords 2 k.counter ++ bytesWords ((img.drop 96).take 6)) o sOk
  let s2 := append e s1
  (j, { s2 with keys := { s2.keys with pend := s2.keys.pend ++ [⟨jsnFrame j, n, k⟩] } })

/-- Changes whose frames are durable come into force on the key bus (R310). -/
def keysDurable (frame : Nat) (s : State) : State :=
  let due := s.keys.pend.filter (fun p => decide (p.frame ≤ frame))
  { s with keys := { s.keys with
    slots := due.foldl (fun m p => mset {} m p.slot p.now) s.keys.slots
    pend := s.keys.pend.filter (fun p => decide (frame < p.frame)) } }

/-! ### Update messages (R304) -/

/-- The fields of an update message. -/
structure UpdMsg where
  op : Nat
  device : List Byte
  slot : Nat
  realm : Nat
  family : Nat
  counter : Nat
  keyGen : Nat
  attr : Nat
  kind : Nat
  wrapped : List Byte
  signed : List Byte
  mac : List Byte
  deriving DecidableEq, Repr

/-- Big-endian field of n bytes. -/
def msgNat (m : List Byte) (at_ n : Nat) : Nat := beNat ((m.drop at_).take n)

/-- KEY_BITS by KIND and, for HMAC keys, by length; the wrapped length is 8 bytes more (R300). -/
def kindBits (kind len : Nat) : Option Nat :=
  match kind with
  | 1 => if len = 24 then some 128 else none
  | 2 => if len = 40 then some 256 else none
  | 3 => if len ∈ [24, 32, 40, 48, 56, 64, 72] then some (8 * (len - 8)) else none
  | 4 => if len = 40 then some 256 else none
  | 5 => if len = 72 then some 512 else none
  | 6 => if len = 40 then some 256 else none
  | 7 => if len = 40 then some 256 else none
  | _ => none

/-- Step 1 of R306: the message, where its format is good. -/
def parseUpdate (m : List Byte) : Option UpdMsg :=
  let op := msgNat m 3 1
  let wl := msgNat m 34 2
  let attr := msgNat m 30 2
  let kind := msgNat m 32 1
  let wlOk := if op = 2 then decide (kind = 0 ∧ wl = 0) || (kindBits kind wl).isSome else wl == 0
  let fields := match op with
    | 1 => decide (msgNat m 28 2 = 0 ∧ attr = 0 ∧ kind = 0)
    | 2 => true
    | 3 => decide (msgNat m 23 1 = 0 ∧ attr = 0 ∧ kind = 0)
    | _ => decide (msgNat m 23 1 = 0 ∧ msgNat m 28 2 = 0 ∧ kind = 0)
  if m.length < 68 ∨ msgNat m 0 2 ≠ 0x4B55 ∨ msgNat m 2 1 ≠ 1 ∨ op = 0 ∨ 4 < op ∨ 1024 ≤ msgNat m 20 2 ∨
      32 ≤ msgNat m 22 1 ∨ 16 ≤ msgNat m 23 1 ∨ attr &&& 0xE001 ≠ 0 ∨ 7 < kind ∨ msgNat m 33 1 ≠ 0 ∨
      m.length ≠ 68 + wl ∨ wlOk = false ∨ fields = false then none
  else some { op := op, device := (m.drop 4).take 16, slot := msgNat m 20 2, realm := msgNat m 22 1
              family := msgNat m 23 1, counter := msgNat m 24 4, keyGen := msgNat m 28 2, attr := attr, kind := kind
              wrapped := (m.drop 36).take wl, signed := m.take (36 + wl), mac := m.drop (36 + wl) }

/-! ### Conditions of R306 -/

/-- The attributes that a KIND allows (R300). -/
def kindAllows (kind attr : Nat) : Bool :=
  let within := fun (m : Nat) => decide (attr &&& (0xFFFF - m) = 0)
  match kind with
  | 1 => within (aEnc + aDec + aMacg + aMacv + aExport + aApplet + aHost)
  | 2 => within (aEnc + aDec + aMacg + aMacv + aDerive + aExport + aApplet + aHost) || attr == aWrap || attr == aLane
  | 3 => within (aMacg + aMacv + aExport + aApplet + aHost)
  | 4 => within (aSign + aSigv + aHost)
  | 5 => within (aSigv + aApplet + aHost)
  | 6 => within (aSign + aSigv + aHost)
  | 7 => within (aSigv + aApplet + aHost)
  | _ => attr == 0

/-- KIND, FAMILY and attributes satisfy R300. -/
def slotKindOk (kind family attr : Nat) : Bool :=
  kindAllows kind attr && (attr &&& (aWrap + aLane) == 0 || family == 15) &&
    (family == 15 || !(attr &&& (aMacg + aMacv + aSign + aSigv) == 0))

/-- No other LIVE slot of the realm shares family or LANE_TRANSPORT and the low byte of KEY_GEN (R302). -/
def genUnique (s : State) (n realm family attr gen : Nat) : Bool :=
  let low := fun (k : KeySlot) => k.keyGen % 256 == gen % 256
  (family == 15 || (liveSlots s realm (fun k => k.family == family && low k)).all (fun p => p.1 == n)) &&
  (attr &&& aLane == 0 || (liveSlots s realm (fun k => hasAttrs k aLane && low k)).all (fun p => p.1 == n))

/-- The slot of the KEK that authenticates a message (R305). -/
def msgKek (s : State) (u : UpdMsg) : Option Nat :=
  let own := kekOf s (slotNow s u.slot).realm
  if u.op = 1 then kekOf s 0
  else if u.op = 2 ∧ u.attr &&& aWrap ≠ 0 ∧ own = none then kekOf s 0
  else own

/-- The context of the update keys (R305). -/
def kekContext (n : Nat) (k : KeySlot) : List Byte := beBytes 1 k.realm ++ beBytes 4 n ++ beBytes 2 k.keyGen ++ [0]

def updWrapKey (n : Nat) (k : KeySlot) : List Byte := kdf (slotKey k) [0x44, 0x51, 0x55, 0x57] (kekContext n k) 256
def updMacKey (n : Nat) (k : KeySlot) : List Byte := kdf (slotKey k) [0x44, 0x51, 0x55, 0x41] (kekContext n k) 256

/-- The key that an INSTALL carries, where the unwrap passes its check. -/
def msgKey (s : State) (u : UpdMsg) : Option (List Byte) :=
  match msgKek s u with
  | none => none
  | some n => if u.wrapped.length < 24 then none else keyUnwrap (updWrapKey n (slotNow s n)) u.wrapped

/-- Every condition of R306 step 2, and that the packet names the message's slot. -/
def updateOk (s : State) (c : Cmd) (u : UpdMsg) : Bool :=
  let k := slotNow s u.slot
  let kek := msgKek s u
  let macOk := match kek with
    | some n => decide (u.mac = hmac256 (updMacKey n (slotNow s n)) u.signed)
    | none => false
  let base := decide (u.device = Config.deviceId) && macOk && decide (u.slot = wd c.words 8 % 1024) &&
    decide (k.counter < u.counter ∧ u.counter ≠ 0 ∧ u.counter ≠ 0xFFFFFFFF) && decide (k.state ≠ ksSaturated)
  let owner := decide (c.fn = u.realm ∧ k.realm = u.realm)
  match u.op with
  | 1 => base && decide (c.fn = 0) && (k.state ∈ [ksEmpty, ksAssigned, ksRetired, ksCorrupt] : Bool)
  | 2 =>
    let newer := match kekOf s u.realm with
      | some n => decide ((slotNow s n).keyGen < u.keyGen)
      | none => true
    base && owner && decide (k.state = ksAssigned) && decide (u.family = k.family) && (msgKey s u).isSome &&
      slotKindOk u.kind u.family u.attr && genUnique s u.slot u.realm u.family u.attr u.keyGen &&
      (decide (u.attr &&& aWrap = 0) || newer)
  | 3 => base && owner && decide (k.state = ksLive) && decide (k.family < 15) && decide (u.keyGen = k.keyGen) &&
      decide (mget 0 (realmRow s u.realm).curGen k.family < u.keyGen)
  | _ => base && owner && decide (k.state = ksLive) && decide (u.attr &&& (0xFFFF - k.attr) = 0) &&
      slotKindOk k.kind k.family u.attr

/-- Some counted record of the realm holds a generation more than 127 behind (R43). -/
def genWindowBad (m : KMap Nat) (realm k : Nat) : Bool :=
  (List.range 256).any (fun h => decide (0 < mget 0 m (realm * 256 + h) ∧ 127 < (k + 256 - h) % 256))

/-- The slot after a message (R306). -/
def updatedSlot (s : State) (u : UpdMsg) (mask : List Byte) : KeySlot :=
  let k := slotNow s u.slot
  match u.op with
  | 1 => { state := ksAssigned, family := u.family, realm := u.realm, counter := u.counter }
  | 2 => masked { k with state := ksLive, kind := u.kind, keyBits := (kindBits u.kind u.wrapped.length).getD 0
                         keyGen := u.keyGen, attr := u.attr + 1, counter := u.counter } ((msgKey s u).getD []) mask
  | 3 => { k with counter := u.counter }
  | _ => { k with attr := u.attr + 1, counter := u.counter }

/-- End a KEY_UPDATE whose reply waits for 1.500 ms from the start of its steward job (R447). -/
def updateEnd (c : Cmd) (status : Nat) (results : List Nat) (s : State) : State :=
  pushReply { replyOf c status results [] with held := true, relAt := some (c.stewardAt.getD s.now + 1500) }
    (dropCmd c.id s)

/-- KEY_UPDATE of an OP (R306). A message whose OP names none of the four is answered by any of the rows; a
change of a slot waits until the slot's earlier change is committed (R312). (DEDUCED, log 45) -/
def keyUpdate (op : Nat) (c : Cmd) (s : State) : State :=
  match inData c 0 with
  | none => s
  | some m =>
    match parseUpdate m with
    | none => if 1 ≤ msgNat m 3 1 ∧ msgNat m 3 1 ≤ 4 ∧ msgNat m 3 1 ≠ op then s else finish c sBadParam [] [] s
    | some u =>
      if u.op ≠ op ∨ slotPending s u.slot = true then s
      else if !updateOk s c u then updateEnd c sNotPermitted [] s
      else if u.op = 3 ∧ genWindowBad s.led.kgCount u.realm (u.keyGen % 256) = true then updateEnd c sSlotState [] s
      else
        let (mask, s1) := if u.op = 2 then drawBytes 0x30 64 s else ([], s)
        let new := updatedSlot s1 u mask
        let (j, t) := changeSlot u.op u.slot new (cOrigin c) s1
        updateEnd (withJsn c j) sOk (new.keyGen :: leNats 2 new.counter) t

/-! ### KEY_INFO, KEY_RETIRE, ATTEST -/

/-- KEY_INFO (R307). -/
def keyInfo (c : Cmd) (s : State) : State :=
  let n := wd c.words 8 % 1024
  let k := slotNow s n
  let f := match s.keys.pend.find? (fun p => p.slot == n) with
    | some p => p.frame
    | none => 0
  if c.fn ≠ 0 ∧ c.fn ≠ k.realm then finish c sNotPermitted [] [] s
  else if c.fn ≠ 0 ∧ k.state = ksEmpty then finish c sNotPermitted [] [] s
  else finish (needs c f) sOk ([k.attr, slotDesc k, k.keyGen] ++ leNats 2 k.counter ++ [k.keyBits]) [] s

/-- A LIVE credential family slot may not be retired yet (R307). -/
def retireHeld (s : State) (k : KeySlot) : Bool :=
  k.state == ksLive && decide (k.family < 15) &&
    (k.keyGen == mget 0 (realmRow s k.realm).curGen k.family ||
      decide (0 < mget 0 s.led.kgCount (k.realm * 256 + k.keyGen % 256)))

/-- KEY_RETIRE (R307). -/
def keyRetire (c : Cmd) (s : State) : State :=
  let n := wd c.words 8 % 1024
  let ctr0 := pairAt c.words 9
  let k := slotNow s n
  if slotPending s n then s
  else if c.fn ≠ k.realm ∨ ¬(k.state = ksLive ∨ k.state = ksAssigned) ∨ k.counter ≠ ctr0 ∨ ctr0 = 0xFFFFFFFF ∨
      kekOf s k.realm = some n then finish c sNotPermitted [] [] s
  else if retireHeld s k then finish c sSlotState [] [] s
  else
    let new := { k with state := if ctr0 + 1 = 0xFFFFFFFF then ksSaturated else ksRetired
                        attr := 0x2000, keyBits := 0, counter := ctr0 + 1, share := [], mask := [] }
    let (j, t) := changeSlot 5 n new (cOrigin c) s
    finish (withJsn c j) sOk [0x2000] [] t

/-- ATTEST (R318). -/
def attest (c : Cmd) (s : State) : State :=
  if !s.keys.attestIn then s else
  let mid := wordBytes ((c.words.drop 8).take 8) ++ Config.deviceId ++ capHash s
  let lc : List Byte := beBytes 1 s.glb.lifecycle
  let r := [1] ++ lc ++ [0, 0] ++ mid ++ hmac256 attestKey (mid ++ lc)
  finish c sOk [100] (outTo c 0 r) s

/-! ### Background work of the key store -/

/-- REMASK_STEP: the next slot's shares under a fresh mask (R309). (DEDUCED, log 61) -/
def remaskStep (s : State) : State :=
  if !s.keys.busOpen || !s.keys.drbgOk then s else
  let n := s.keys.remaskNext % 1024
  let k := slotBus s n
  let s1 := if k.state = ksLive then
      let (m, t) := drawBytes 0x31 64 s
      { t with keys := { t.keys with slots := mset {} t.keys.slots n (masked k (xorBytes k.share k.mask) m) } }
    else s
  if n = 1023 then { s1 with keys := { s1.keys with
    remaskNext := 0, remaskUs := min 0xFFFF (s1.now - s1.keys.remaskAt), remaskAt := s1.now } }
  else { s1 with keys := { s1.keys with remaskNext := n + 1 } }

/-- DRBG_HEALTH_FAILURE (R297). -/
def drbgFail (s : State) : State :=
  alarm 0x21 0 3 0 (logEvent 6 3 [] { s with keys := { s.keys with drbgOk := false, drbgFailed := true } })

/-- REENROL_DUE (R293). -/
def reenrolDue (s : State) : Bool := decide (600 < s.keys.ber) || decide (800 < s.ag.pufForecast)

/-- For each cell, how many readings of the array found it 1. -/
def cellOnes (reads : List (List Byte)) : List Nat :=
  reads.foldl (fun c r => List.zipWith (· + ·) c (r.flatMap (fun b => (List.range 8).map (fun i => b2n (b.getLsbD i)))))
    (List.replicate 65536 0)

/-- Steps 2 to 5 of R293: majority and stable cells of 31 readings, helper data for the root secret over them, the 32nd
reading, and the copy that R292 would try second written. -/
def reenrolEnd (reads : List (List Byte)) (cells : List Byte) (s : State) : State :=
  let ones := cellOnes reads
  let majority := packCells (ones.map (fun n => decide (16 ≤ n)))
  let stable := packCells (ones.map (fun n => decide (min n (31 - n) ≤ 2)))
  let offset := codeOffset Config.rootSecret majority stable
  let check := checkOf Config.rootSecret
  if checkOf (regenerate cells offset stable) ≠ check then { s with keys := { s.keys with reenrolHeld := true } }
  else
    let newer := helperFirst s
    let b := helperBytes s (1 - newer) ((helperRead s newer).gen + 1) offset stable check
    let k := if newer = 0 then { s.keys with helperB := some b, helperOkB := true }
      else { s.keys with helperA := some b, helperOkA := true }
    { s with keys := { k with reenrolCount := satInc k.reenrolCount 0xFFFF, copyDue := true } }

/-- An attempt of R293 may run. -/
def reenrolMay (s : State) : Bool :=
  reenrolDue s && decide (s.glb.service = svReady) && s.keys.rootIn && !s.keys.reenrolHeld && !s.jn.inhibit

/-- REENROL: one reading of the array, `cells`, no sooner than 1 ms after the one before; the 32nd ends the attempt. An
attempt that may run no more is dropped. (DESIGN CHOICE, log 59) -/
def reenrol (cells : List Byte) (s : State) : State :=
  if !reenrolMay s then { s with keys := { s.keys with reenrolReads := [] } }
  else if !s.keys.reenrolReads.isEmpty && decide (s.now < s.keys.reenrolAt + 1000) then s
  else if s.keys.reenrolReads.length < 31 then
    { s with keys := { s.keys with reenrolReads := cells :: s.keys.reenrolReads, reenrolAt := s.now } }
  else reenrolEnd s.keys.reenrolReads cells { s with keys := { s.keys with reenrolReads := [] } }

/-- Step 2 of R317: ledger-key copies, slot images and directory copies are overwritten with zeros. -/
def wipeKeyArea (s : State) : State :=
  { s with keys := { s.keys with
    images := [], dirA := none, dirB := none, wiped := true
    ledgerA := some (List.replicate 128 0), ledgerB := some (List.replicate 128 0) } }

/-- Steps 2 and 3 of R317. -/
def keysDestroy (s : State) : State :=
  let t := wipeKeyArea s
  { t with keys := { t.keys with slots := [], pend := [], ledgerIn := false, deviceIn := false, ctxKeys := [] } }

/-- What an L3 alarm zeroises (R311): the key store's SRAM, the DRBG state, the root secret. -/
def keysZeroise (s : State) : State :=
  { s with keys := { s.keys with slots := [], pend := [], ctxKeys := [], rootIn := false, drbgOk := false
                                 busOpen := false, reqs := [] } }

/-- The slots in a state. -/
def slotTally (s : State) (st : Nat) : Nat := ((List.range 1024).filter (fun n => (slotBus s n).state == st)).length

end Sys2Proof.Machine
end

