-- ==== Sys2Proof/Machine/CredFormat.lean ====
section
/-! DEFINITION. The compact credential: its header, parts and authenticator length (R51, R52), and the
two forms in which a packet carries it (R168). -/

namespace Sys2Proof.Machine

/-- A field of the 14-byte header: width bits at a bit offset from the most significant bit (R51). -/
def credField (b : List Byte) (off width : Nat) : Nat := beNat (padTo 14 0 b) / 2 ^ (112 - off - width) % 2 ^ width

def crVersion (b : List Byte) : Nat := credField b 0 4
def crAuth (b : List Byte) : Nat := credField b 4 2
def crPayLen (b : List Byte) : Nat := credField b 6 6
def crRealm (b : List Byte) : Nat := credField b 12 8
def crSlot (b : List Byte) : Nat := credField b 20 25
def crGen (b : List Byte) : Nat := credField b 45 16
def crPolicy (b : List Byte) : Nat := credField b 61 8
def crFrom (b : List Byte) : Nat := credField b 69 16
def crTo (b : List Byte) : Nat := credField b 85 16
def crKeyGen (b : List Byte) : Nat := credField b 101 8
def crRes (b : List Byte) : Nat := credField b 109 3

/-- The length of the authenticator of an AUTH value (R52). -/
def authLen (a : Nat) : Nat := if a = 0 then 8 else if a = 1 then 12 else 64

/-- Header and payload, and the authenticator. -/
def crMessage (b : List Byte) : List Byte := b.take (14 + crPayLen b)
def crAuthBytes (b : List Byte) : List Byte := b.drop (14 + crPayLen b)
def crPayload (b : List Byte) : List Byte := (b.take (14 + crPayLen b)).drop 14

/-- The header of a credential of a record (R183). -/
def credHeader (slot : Nat) (r : List Word) (authKind payLen : Nat) : List Byte :=
  let auth := if authKind = 3 then 2 else authKind
  let v := ((((((((((1 * 4 + auth) * 64 + payLen) * 256 + rRealm r) * 33554432 + slot) * 65536 + rGen r)
    * 256 + rPolicy r) * 65536 + rFrom r) * 65536 + rTo r) * 256 + rKeyGen r) * 8)
  beBytes 14 v

/-! ### In the packet (R168) -/

/-- BY_DESC and CRED_LEN of a validation packet. -/
def pByDesc (w : List Word) : Bool := bit (wd w 8) 15
def pCredLen (w : List Word) : Nat := wd w 8 % 128

/-- The inline credential's bytes. -/
def pCredInline (w : List Word) : List Byte := (wordBytes (w.drop 9)).take (pCredLen w)

/-- AUTH as the dispatcher reads it (R168). -/
def pAuth (w : List Word) : Nat := bits (wd w 9) 3 2

end Sys2Proof.Machine
end

