-- ==== Sys2Proof/Machine/OpTable.lean ====
section
/-! DEFINITION. The host opcodes: their fixed properties (R116, R165), descriptors and required lengths
(R156, R166 to R175), the checks of step 8 of R156, and the charges of R126. -/

namespace Sys2Proof.Machine

/-- A row of R165. `cls` is none where the packet or its policy fixes the class. Senders: 0 any, 1 realms
1 to 31, 2 realm 0, 3 the realm that the lane is bound to. -/
structure OpRow where
  cls : Option Nat
  senders : Nat
  commits : Bool
  paramLo : Nat
  paramHi : Nat
  /-- The descriptors: true for OUT; none where the packet fixes them. -/
  descs : Option (List Bool)
  steward : Nat
  append : Nat
  deriving DecidableEq, Repr

/-- The opcode table (R116, R165). -/
def opRow (op : Nat) : Option OpRow :=
  match op with
  | 0x01 => some ⟨none, 0, false, 0, 22, some [], 0, 0⟩
  | 0x02 => some ⟨some 3, 0, false, 1, 1, some [true], 20000, 0⟩
  | 0x10 => some ⟨some 1, 1, true, 8, 8, some [], 0, 2⟩
  | 0x11 => some ⟨some 1, 1, true, 3, 3, some [], 0, 1⟩
  | 0x12 => some ⟨some 1, 1, true, 3, 3, some [], 0, 1⟩
  | 0x13 => some ⟨some 0, 1, false, 3, 3, some [true], 0, 0⟩
  | 0x14 => some ⟨some 0, 1, false, 1, 1, some [false, true], 0, 0⟩
  | 0x15 => some ⟨some 1, 0, true, 4, 4, some [], 0, 1⟩
  | 0x16 => some ⟨some 3, 1, true, 3, 3, some [], 40000, 1⟩
  | 0x17 => some ⟨some 0, 0, false, 2, 2, some [], 0, 0⟩
  | 0x20 => some ⟨none, 1, true, 4, 4, none, 0, 1⟩
  | 0x21 => some ⟨none, 1, false, 2, 22, none, 0, 0⟩
  | 0x22 => some ⟨none, 1, true, 2, 22, none, 0, 1⟩
  | 0x23 => some ⟨none, 1, false, 2, 22, none, 0, 0⟩
  | 0x30 => some ⟨some 0, 0, false, 3, 3, some [false, true], 0, 0⟩
  | 0x31 => some ⟨some 0, 0, false, 3, 3, some [false, false], 0, 0⟩
  | 0x32 => some ⟨some 0, 0, false, 10, 10, some [false, true], 0, 0⟩
  | 0x33 => some ⟨some 2, 0, false, 2, 2, some [false, true], 0, 0⟩
  | 0x34 => some ⟨some 2, 0, false, 2, 2, some [false, false], 0, 0⟩
  | 0x35 => some ⟨some 0, 0, false, 1, 1, some [false, true], 0, 0⟩
  | 0x40 => some ⟨some 3, 0, true, 1, 1, some [false], 400000, 1⟩
  | 0x41 => some ⟨some 3, 0, false, 1, 1, some [], 10000, 0⟩
  | 0x42 => some ⟨some 3, 0, false, 8, 8, some [true], 60000, 0⟩
  | 0x43 => some ⟨some 3, 0, true, 3, 3, some [], 30000, 1⟩
  | 0x50 => some ⟨some 3, 1, true, 1, 1, some [false], 4000000, 1⟩
  | 0x51 => some ⟨some 3, 1, true, 2, 2, some [], 200000, 1⟩
  | 0x52 => some ⟨some 3, 1, false, 0, 0, some [], 10000, 0⟩
  | 0x58 => some ⟨some 3, 0, true, 2, 2, some [], 100000, 1⟩
  | 0x59 => some ⟨some 3, 0, true, 1, 1, some [], 100000, 1⟩
  | 0x60 => some ⟨some 3, 3, false, 1, 1, some [], 50000, 0⟩
  | 0x61 => some ⟨some 1, 3, false, 4, 4, some [false], 0, 0⟩
  | 0x62 => some ⟨some 3, 3, false, 0, 0, some [], 10000, 0⟩
  | 0x63 => some ⟨some 3, 3, false, 1, 1, some [], 50000, 0⟩
  | 0x70 => some ⟨some 3, 2, false, 0, 0, some [true], 200000, 0⟩
  | 0x71 => some ⟨some 3, 2, true, 7, 7, some [], 1000000, 1⟩
  | 0x72 => some ⟨some 3, 2, true, 5, 5, some [], 500000, 2⟩
  | 0x80 => some ⟨some 3, 0, false, 1, 1, some [], 10000, 0⟩
  | 0x81 => some ⟨some 3, 2, false, 1, 1, some [false], 4000000, 0⟩
  | 0x82 => some ⟨some 3, 2, false, 0, 0, some [], 6000000, 0⟩
  | 0x83 => some ⟨some 3, 2, false, 0, 0, some [], 10000, 0⟩
  | 0x84 => some ⟨some 3, 2, false, 0, 0, some [], 10000, 0⟩
  | 0x90 => some ⟨some 3, 2, false, 3, 3, some [true], 100000, 0⟩
  | 0x91 => some ⟨some 3, 2, false, 2, 2, some [true], 20000, 0⟩
  | 0xA0 => some ⟨some 3, 2, false, 0, 0, some [], 10000, 0⟩
  | _ => none

/-- VALIDATE, VALIDATE_CONSUME and REVALIDATE. -/
def isValidate (op : Nat) : Bool := decide (0x21 ≤ op ∧ op ≤ 0x23)

/-- The lane opcodes. -/
def isLaneOp (op : Nat) : Bool := decide (0x60 ≤ op ∧ op ≤ 0x63)

/-- The opcodes that a START leaves to the Applets phase or to a later state (R23, R461). -/
def notReadyOp (op : Nat) : Bool := op ∈ [0x50, 0x51, 0x58, 0x59, 0x81, 0x82, 0x83]

/-- HAS_INPUT, HAS_OUTPUT and POLICY of an ISSUE (R170). -/
def pHasIn (w : List Word) : Bool := bit (wd w 11) 8
def pHasOut (w : List Word) : Bool := bit (wd w 11) 9
def pIssuePolicy (w : List Word) : Nat := bits (wd w 11) 7 0

/-- Directions of a packet's descriptors: true for OUT (R157). -/
def descDirs (w : List Word) : List Bool :=
  match (opRow (pOpcode w)).bind OpRow.descs with
  | some l => l
  | none =>
    if pOpcode w = 0x20 then
      (if pHasIn w then [false] else []) ++ (if pHasOut w then [true] else [])
    else if pByDesc w then [false] else []

/-- Bytes of a hash by ALG (R171). -/
def hashLen (alg : Nat) : Nat := if alg = 0 then 32 else if alg = 1 then 48 else 64

/-- The lane that a TARGET of KIND 4 names (R9). (DEDUCED, log 35) -/
def laneOf (w : List Word) : Option Nat := if bits (pTarget w) 15 13 = 4 then some (bits (pTarget w) 5 0) else none

/-- A lane's state. -/
def getLane (s : State) (l : Nat) : Lane := mget {} s.lanes l

/-- A lane is open (R174). -/
def laneOpen (s : State) (l : Nat) : Bool := decide (1 ≤ (getLane s l).state ∧ (getLane s l).state ≤ 4)

/-! ### Step 8 of R156 -/

/-- The first check that fails. -/
def firstBad : List (Bool × Nat × Nat) → Option (Nat × Nat)
  | [] => none
  | (b, r) :: cs => if b then some r else firstBad cs

/-- A reserved field of word i, and a value of word i out of its range. -/
def reservedBad (b : Bool) (i : Nat) : Bool × Nat × Nat := (b, sReservedNz, i)
def valueBad (b : Bool) (i : Nat) : Bool × Nat × Nat := (b, sBadParam, i)

/-- Words a to b that must be 0. (DEDUCED, log 34) -/
def zeroChecks (w : List Word) (a b : Nat) : List (Bool × Nat × Nat) :=
  ((List.range (b + 1 - a)).map (fun k => a + k)).map (fun i => reservedBad (decide (wd w i ≠ 0)) i)

/-- The slot triple's reserved bits (R166). -/
def tripleChecks (w : List Word) : List (Bool × Nat × Nat) := [reservedBad (decide (bits (wd w 9) 15 9 ≠ 0)) 9]

/-- KEY_SLOT's reserved bits (R171). -/
def keySlotCheck (w : List Word) : Bool × Nat × Nat := reservedBad (decide (bits (wd w 8) 15 10 ≠ 0)) 8

/-- The argument words that each operation of CARD_APPROVE uses, and the masks of the used bits
(R395, R440). -/
def approveMasks (op : Nat) : List Nat :=
  match op with
  | 1 => [0xF]
  | 2 => [0x3FF, 0xFFFF, 0xFFFF, 0xFFFF]
  | 5 => [0xFFFF, 0xFFFF]
  | 6 => [0xFFFF, 0xFFFF, 0xFFFF, 0xFFFF]
  | 7 => [0xFFFF, 0xFFFF, 0xFFFF, 0xFFFF, 0xFFFF, 0xFFFF]
  | 9 => [0xF]
  | 10 => [0xF]
  | 11 => [0x1F, 0x1F]
  | _ => []

/-- Unused argument words and bits of CARD_APPROVE must be 0 (R395). -/
def approveChecks (w : List Word) : List (Bool × Nat × Nat) :=
  (List.range 6).map (fun i =>
    let m := (approveMasks (wd w 8)).getD i 0
    reservedBad (decide (wd w (9 + i) &&& (0xFFFF - m) ≠ 0)) (9 + i))

/-- The ranges of CARD_QUOTA_DRAW's W8 to W11 (R175). -/
def drawChecks (w8 w9 w10 w11 : Nat) : List (Bool × Nat × Nat) :=
  let form := w8 % 4
  [reservedBad (decide (bits w8 15 2 ≠ 0)) 8, reservedBad (decide (bits w9 15 5 ≠ 0)) 9,
   valueBad (decide (form = 0 ∧ w9 = 0)) 9,
   valueBad (decide (form = 1 ∧ 9 < w10) || decide (form = 2 ∧ 63 < w10) || decide (form = 3 ∧ 23 < w10)) 10,
   valueBad (decide (form = 1 ∧ 4096 < w11)) 11,
   reservedBad (decide (form = 3 ∧ bits w11 15 1 ≠ 0)) 11]

/-- The parameter checks of an opcode that need no lookup, in packet order (R166 to R175). Of one word a reserved bit comes
before a value, in a validation after it; W11 of CARD_QUOTA_DRAW FORM 2 is not looked at. (DESIGN CHOICE, log 120) -/
def paramChecks (s : State) (fn : Nat) (w : List Word) : List (Bool × Nat × Nat) :=
  let table := activeTable s fn
  let notOpen := match laneOf w with
    | some l => decide (laneRealm s l = fn ∧ fn ≠ 0) && !laneOpen s l
    | none => false
  let closing := match laneOf w with
    | some l => decide (laneRealm s l = fn ∧ fn ≠ 0 ∧ (getLane s l).state = 5)
    | none => false
  match pOpcode w with
  | 0x02 => [reservedBad (decide (bits (wd w 8) 15 5 ≠ 0)) 8]
  | 0x10 =>
    let win := bit (wd w 8) 13
    let bad := fun i => if win then decide (1440 ≤ wd w i) else decide (wd w i ≠ 0)
    [reservedBad (decide (bits (wd w 8) 15 14 ≠ 0)) 8, reservedBad (decide (bits (wd w 9) 15 8 ≠ 0)) 9,
     valueBad (polAt table (bits (wd w 9) 7 0)).isNone 9, valueBad (bad 12) 12, valueBad (bad 13) 13]
  | 0x11 => tripleChecks w
  | 0x12 => tripleChecks w
  | 0x13 => tripleChecks w
  | 0x14 => [reservedBad (decide (bits (wd w 8) 15 5 ≠ 0)) 8, valueBad (decide (wd w 8 = 0 ∨ 16 < wd w 8)) 8]
  | 0x15 => tripleChecks w ++ [reservedBad (decide (fn ≠ 0 ∧ wd w 11 ≠ 0)) 11]
  | 0x16 => if wd w 8 = 0 then [] else zeroChecks w 9 10
  | 0x20 => [valueBad (polAt table (pIssuePolicy w)).isNone 11] ++ tripleChecks w ++
      [reservedBad (decide (bits (wd w 11) 15 10 ≠ 0)) 11,
       valueBad (!pHasOut w && (laneOf w).isNone) 11, valueBad notOpen 6]
  | 0x21 | 0x22 | 0x23 =>
    let n := pCredLen w
    [valueBad (decide (pAuth w = 3)) 9,
     valueBad (decide (n < 14 ∨ 110 < n) || (!pByDesc w && decide (40 < n))) 8,
     reservedBad (decide (bits (wd w 8) 14 7 ≠ 0)) 8,
     if pByDesc w then reservedBad (decide (bits (wd w 9) 15 8 ≠ 0)) 9
     else reservedBad (decide (n % 2 = 1 ∧ bits (wd w (8 + (n + 1) / 2)) 15 8 ≠ 0)) (8 + (n + 1) / 2)]
  | 0x30 | 0x31 => [keySlotCheck w, reservedBad (decide (bits (wd w 9) 15 2 ≠ 0)) 9,
      valueBad (decide (wd w 9 = 3)) 9,
      valueBad (decide (wd w 10 < 8 ∨ hashLen (wd w 9 % 4) < wd w 10 ∨ wd w 10 % 2 = 1)) 10]
  | 0x32 =>
    let cmac := decide (wd w 9 % 8 = 4)
    [keySlotCheck w, reservedBad (decide (bits (wd w 9) 15 4 ≠ 0)) 9,
     valueBad (decide (4 < wd w 9 % 8) || (cmac && bit (wd w 9) 3)) 9] ++
    (if cmac then zeroChecks w 10 17 else [])
  | 0x33 | 0x34 => [keySlotCheck w, reservedBad (decide (bits (wd w 9) 15 2 ≠ 0)) 9, valueBad (decide (wd w 9 = 3)) 9]
  | 0x35 => [reservedBad (decide (bits (wd w 8) 15 2 ≠ 0)) 8, valueBad (decide (wd w 8 = 3)) 8]
  | 0x40 | 0x41 | 0x43 => [keySlotCheck w]
  | 0x50 => [reservedBad (decide (bits (wd w 8) 15 1 ≠ 0)) 8]
  | 0x51 => [reservedBad (decide (bits (wd w 8) 15 1 ≠ 0)) 8, reservedBad (decide (bits (wd w 9) 15 8 ≠ 0)) 9]
  | 0x58 => [reservedBad (decide (bits (wd w 9) 15 4 ≠ 0)) 9,
      reservedBad (decide (fn = 0 ∧ bits (wd w 9) 3 1 ≠ 0)) 9]
  | 0x60 => [reservedBad (decide (bits (wd w 8) 15 3 ≠ 0)) 8, valueBad (decide (wd w 8 = 0)) 8, valueBad closing 6]
  | 0x61 => [reservedBad (decide (bits (wd w 8) 15 1 ≠ 0)) 8] ++
      (if wd w 8 = 0 then zeroChecks w 9 11 else []) ++ [valueBad notOpen 6]
  | 0x63 => [reservedBad (decide (bits (wd w 8) 15 1 ≠ 0)) 8]
  | 0x71 => [valueBad (decide (wd w 8 = 0 ∨ 11 < wd w 8)) 8] ++ approveChecks w
  | 0x72 => drawChecks (wd w 8) (wd w 9) (wd w 10) (wd w 11)
  | 0x80 => [reservedBad (decide (bits (wd w 8) 15 8 ≠ 0)) 8, valueBad (decide (wd w 8 = 0)) 8]
  | 0x81 => [reservedBad (decide (bits (wd w 8) 14 4 ≠ 0)) 8]
  | 0x90 => [valueBad (decide (wd w 10 = 0 ∨ 4096 < wd w 10)) 10]
  | 0x91 => [valueBad (decide (255 < wd w 8)) 8, valueBad (decide (wd w 9 = 0 ∨ 256 < wd w 8 + wd w 9)) 9]
  | _ => []

/-- PARAM_WORDS and DESC_COUNT as the opcode and its packet require (R155, R165, R168, R170). -/
def shapeChecks (w : List Word) (row : OpRow) : List (Bool × Nat × Nat) :=
  let need := if pByDesc w then 2 else 1 + (pCredLen w + 1) / 2
  [valueBad (decide (pParams w < row.paramLo ∨ row.paramHi < pParams w) ||
     (isValidate (pOpcode w) && decide (pParams w ≠ need))) 4,
   valueBad (decide (pDescs w ≠ (descDirs w).length)) 5]

/-! ### Step 10 of R156 -/

/-- Whether LEN of descriptor k meets what its opcode requires (R156, R166 to R175). -/
def lenOk (w : List Word) (k : Nat) : Bool :=
  let n := descLen w k
  match pOpcode w, k with
  | 0x02, _ => decide (256 ≤ n)
  | 0x13, _ => decide (32 ≤ n)
  | 0x14, 0 => decide (n = 8 * wd w 8)
  | 0x14, _ => decide (32 * wd w 8 ≤ n)
  | 0x21, _ => decide (n = pCredLen w)
  | 0x22, _ => decide (n = pCredLen w)
  | 0x23, _ => decide (n = pCredLen w)
  | 0x30, 1 => decide (wd w 10 ≤ n)
  | 0x31, 1 => decide (n = wd w 10)
  | 0x32, 0 => decide (wd w 9 % 8 ≠ 0 ∨ n % 16 = 0)
  | 0x32, _ => if wd w 9 % 8 = 4 then decide (16 ≤ n) else decide (descLen w 0 ≤ n)
  | 0x33, 0 => decide (wd w 9 ≠ 1 ∨ n = 32)
  | 0x33, _ => decide (64 ≤ n)
  | 0x34, 0 => decide (wd w 9 ≠ 1 ∨ n = 32)
  | 0x34, _ => decide (n = 64)
  | 0x35, 1 => decide (hashLen (wd w 8) ≤ n)
  | 0x42, _ => decide (100 ≤ n)
  | 0x61, _ => decide (n ≤ 1536)
  | 0x70, _ => decide (784 ≤ n)
  | 0x90, _ => decide (32 * wd w 10 ≤ n)
  | 0x91, _ => decide (8 * wd w 9 ≤ n)
  | _, _ => true

/-! ### Charges (R120, R126) -/

/-- The most that an opcode can write to its OUT descriptor, where a length is fixed at the head. -/
def outMost (w : List Word) : Option Nat :=
  match pOpcode w with
  | 0x02 => some 256
  | 0x13 => some 32
  | 0x14 => some (32 * wd w 8)
  | 0x20 => some 1134
  | 0x30 => some (wd w 10)
  | 0x32 => some (if wd w 9 % 8 = 4 then 16 else descLen w 0)
  | 0x33 => some 64
  | 0x35 => some (hashLen (wd w 8))
  | 0x42 => some 100
  | 0x70 => some 784
  | 0x90 => some (32 * wd w 10)
  | 0x91 => some (8 * wd w 9)
  | _ => none

/-- Descriptor bytes as R120 counts them. -/
def descBytes (w : List Word) : Nat :=
  (((descDirs w).zipIdx).map (fun p =>
    let n := descLen w p.2
    if p.1 then (match outMost w with
      | some m => min n m
      | none => n) else n)).sum

/-- The entry record of a bank's image with an address (R264). -/
def entryRec (im : List Word) (addr : Nat) : Option (List Word) :=
  (chunks 4 ((im.drop (imgEntryAt im)).take (4 * wd im 7))).find? (fun e => wd e 0 == addr)

/-- The active image of a realm. -/
def activeImage (s : State) (r : Nat) : List Word :=
  match (realmRow s r).active with
  | none => []
  | some b => match bankStore s r b with
    | some im => im.words
    | none => []

/-- What a key derivation charges CIPHER: a policy that signs derives none (R126, R184). -/
def divNs (p : List Word) : Nat := if polDiversify p && decide (polAuth p < 2) then 280 else 0

/-- The applet and diversification charges of one policy entry for ISSUE or a validation: applet ns,
DIGEST ns, CIPHER ns (R126, R234). -/
def policyCharge (im p : List Word) (issue : Bool) : Nat × Nat × Nat :=
  let addr := if issue then bits (wd p 4) 14 0 else bits (wd p 5) 14 0
  match (if addr = 0 then none else entryRec im addr) with
  | some e => (ceilDiv (wd e 1 * 10000) 14925, wd e 2, divNs p + wd e 3)
  | none => (0, 0, divNs p)

/-- The policies that a validation of a credential of an AUTH can meet: in use, with that authenticator (R35, R126). -/
def authPolicy (auth : Nat) (p : List Word) : Bool := polInUse p && (if polAuth p = 3 then 2 else polAuth p) == auth

/-- The larger figure of each of two charges. -/
def maxCharges (a b : Nat × Nat × Nat) : Nat × Nat × Nat := (max a.1 b.1, max a.2.1 b.2.1, max a.2.2 b.2.2)

/-- Policy-dependent charges at the head. A credential that lies in a descriptor shows no POLICY there,
and the worst case over the policies that it can meet is charged. -/
def appletCharge (s : State) (fn : Nat) (w : List Word) : Nat × Nat × Nat :=
  let im := activeImage s fn
  let t := activeTable s fn
  if pOpcode w = 0x20 then
    match polAt t (pIssuePolicy w) with
    | some p => policyCharge im p true
    | none => (0, 0, 0)
  else if pByDesc w then
    ((t.filter (authPolicy (pAuth w))).map (fun p => policyCharge im p false)).foldl maxCharges (0, 0, 0)
  else match polAt t (crPolicy (pCredInline w)) with
    | some p => if authPolicy (pAuth w) p then policyCharge im p false else (0, 0, 0)
    | none => (0, 0, 0)

/-- Blocks of the padded message by ALG. -/
def hashNs (alg len : Nat) : Nat :=
  if alg = 0 then 60 * ceilDiv (len + 9) 64 else 75 * ceilDiv (len + 17) 128

/-- The charges of a packet by resource index (R120, R126, R165). (DEDUCED, log 33) -/
def charges (s : State) (fn : Nat) (w : List Word) : List (Nat × Nat) :=
  let op := pOpcode w
  let row := (opRow op).getD ⟨none, 0, false, 0, 0, none, 0, 0⟩
  let all :=
    if pClass w = 3 then
      let sign := if op = 0x50 ∨ (op = 0x81 ∧ bit (wd w 8) 15) then 118000 else 0
      [(1, if op = 0x71 ∧ wd w 8 = 7 then 2 else row.append), (4, sign), (7, row.steward), (9, descBytes w)]
    else
      let link := (8, 256 + descBytes w)
      if op = 0x20 then
        let (ap, dg, ci) := appletCharge s fn w
        let kind := match polAt (activeTable s fn) (pIssuePolicy w) with
          | some p => polAuth p
          | none => 0
        let hm := decide (kind < 2)
        [(0, 1), (1, if (laneOf w).isSome then 2 else 1), (2, (if hm then 440 else 0) + dg), (3, ci),
         (4, if hm then 0 else if kind = 2 then 62000 else 48000), (6, ap), link]
      else if isValidate op then
        let (ap, dg, ci) := appletCharge s fn w
        let hm := decide (pAuth w < 2)
        [(0, 1), (1, row.append), (2, (if hm then 440 else 0) + dg), (3, ci),
         (4, if hm then 0 else 118000), (if hm then 5 else 6, ap), link]
      else if op = 0x14 then [(0, wd w 8), link]
      else if op ∈ [0x10, 0x11, 0x12, 0x13, 0x15, 0x17] then
        [(0, 1), (1, if op = 0x15 ∧ fn = 0 then 2 else row.append), link]
      else if op = 0x30 ∨ op = 0x31 then [(2, 200 + hashNs (wd w 9 % 4) (descLen w 0) + 240), link]
      else if op = 0x35 then [(2, 200 + hashNs (wd w 8 % 4) (descLen w 0)), link]
      else if op = 0x32 then
        [(3, 100 + 80 * ceilDiv (descLen w 0) 16 + if wd w 9 % 8 = 4 then 80 else 0), link]
      else if op = 0x33 then [(4, if wd w 9 = 2 then 48000 else 62000), link]
      else if op = 0x34 then [(4, if wd w 9 = 2 then 96000 else 118000), link]
      else [link]
  all.filter (fun p => decide (p.2 ≠ 0))

/-- The lowest resource whose charge exceeds its MAX_CHARGE (R118, R162). -/
def overMax (cs : List (Nat × Nat)) : Option Nat :=
  (cs.find? (fun p => decide (maxCharge p.1 < p.2))).map Prod.fst

end Sys2Proof.Machine
end

