-- ==== Sys2Proof/Machine/Admission.lean ====
section
/-! DEFINITION. The decision at the head of a queue: the checks of R156 in order, service state (R19, R21,
R461), backstop, placement, budgets and lane places (R115), refusal words (R134 to R136), and admission. -/

namespace Sys2Proof.Machine

/-- How a packet at the head ends when it is not admitted: status and W8 on. -/
abbrev Refused := Nat × List Nat

/-! ### Step 6: senders, lifecycle and service state -/

/-- The opcodes that a DECOMMISSIONED device answers (R19). -/
def decomOp (op : Nat) : Bool := op ∈ [0x01, 0x02, 0x42, 0x90, 0x91]

/-- NOT_PERMITTED under R15, R19, R165 and R175. -/
def senderBad (s : State) (fn : Nat) (w : List Word) (row : OpRow) : Bool :=
  let op := pOpcode w
  (decide (s.glb.lifecycle = lcUnprovisioned) &&
    !(decide (fn = 0) && decide (row.cls = some 3 ∨ (op = 0x01 ∧ pClass w = 3)))) ||
  (decide (s.glb.lifecycle = lcDecommissioned) && !(decide (fn = 0) && decomOp op)) ||
  (decide (row.senders = 1) && decide (fn = 0)) || (decide (row.senders = 2) && decide (fn ≠ 0)) ||
  (decide (row.senders = 3) && (decide (fn = 0) || (match laneOf w with
    | some l => decide (laneRealm s l ≠ fn)
    | none => false))) ||
  (decide (op = 0x02) && decide (fn ≠ 0) && decide (1 ≤ pParams w) && decide (bits (wd w 8) 4 0 ≠ fn))

/-- The W8 to W11 of a refusal (R134). -/
def refusalWords (s : State) (retry reason : Nat) : List Nat :=
  [retry, reason, s.adm.startNo % 65536, s.adm.change % 65536]

/-- RETRY of REFUSED_NOT_READY: the time left until 1.2 s from supply good (R136). -/
def notReadyRetry (s : State) : Nat := retryWord (some ((s.clk.startAt + 1200000 - s.now) * 1000))

/-- The refusals of R21, R23, R165 and R461. -/
def stateRefusal (s : State) (w : List Word) (row : OpRow) : Option Refused :=
  let op := pOpcode w
  let classM := decide (row.cls = some 3 ∨ (op = 0x01 ∧ pClass w = 3))
  let fw := decide (op = 0x81 ∨ op = 0x82)
  let ok := s.glb.holdupOk
  let notReady : Option Refused := some (sRefNotReady, refusalWords s (notReadyRetry s) 14)
  let quiescing : Option Refused := some (sRefQuiescing, refusalWords s (retryWord none) 14)
  let holdup : Option Refused := some (sRefHoldup, refusalWords s (retryWord none) 14)
  if s.glb.service = svStarting then
    if !classM || notReadyOp op then notReady
    else if row.commits && !ok then holdup else none
  else if s.glb.service = svReadOnly then
    if row.commits || fw then holdup else none
  else if s.glb.service = svQuiescing ∨ s.glb.service = svQuiesced then
    if s.glb.service = svQuiesced ∧ op = 0x71 ∧ 1 ≤ pParams w ∧ wd w 8 = 4 then
      if ok then none else holdup
    else if !classM || row.commits then quiescing
    else if fw && !ok then holdup else none
  else if fw && !ok then holdup else none

/-! ### Steps 7 to 10 -/

/-- The class that R116 fixes for a packet; none where nothing names one (R156 step 7), be it that PARAM_WORDS is too short
to hold the word that would or that AUTH is 3: step 8 decides there. (DESIGN CHOICE, log 118) -/
def classFor (s : State) (fn : Nat) (w : List Word) (row : OpRow) : Option Nat :=
  match row.cls with
  | some c => some c
  | none =>
    if pOpcode w = 0x20 then
      if pParams w < 4 then none else
      match polAt (activeTable s fn) (pIssuePolicy w) with
      | some p => some (if polAuth p < 2 then 1 else 2)
      | none => none
    else if isValidate (pOpcode w) then
      if pParams w < 2 ∨ pAuth w = 3 then none else some (if pAuth w = 2 then 2 else 0)
    else some (pClass w)

/-- A mismatch of CLASS, or a class other than M on the admin pair (R116, R146). (DESIGN CHOICE, log 130) -/
def classBad (s : State) (fn pair : Nat) (w : List Word) (row : OpRow) : Bool :=
  (match classFor s fn w row with
    | some c => decide (pClass w ≠ c)
    | none => false) || (decide (pair = 8) && decide (pClass w ≠ 3))

/-- TARGET under R9, R10, R512 and R11, in that order. (DESIGN CHOICE, log 126) -/
def targetBad (s : State) (fn : Nat) (w : List Word) : Option Refused :=
  let t := pTarget w
  let k := bits t 15 13
  let op := pOpcode w
  let unused := if k = 0 then bits t 7 0 else if k = 1 then bits t 5 0 else if k = 2 then bits t 2 0
    else if k = 3 then 0 else bits t 7 6
  let cellOp := decide (op = 0x20) || isValidate op
  if 4 < k then some (sBadParam, [6])
  else if bits t 12 8 ≠ 0 then some (sReservedNz, [6])
  else if (k = 2 ∨ k = 3) ∧ 6 ≤ bits t 5 3 then some (sBadParam, [6])
  else if unused ≠ 0 then some (sReservedNz, [6])
  else if k = 4 then
    if !(isLaneOp op || decide (op = 0x20)) then some (sBadParam, [6])
    else if laneRealm s (bits t 5 0) ≠ fn ∨ fn = 0 then some (sNotPermitted, [])
    else none
  else if k = 0 then if isLaneOp op then some (sBadParam, [6]) else none
  else if !cellOp then some (sBadParam, [6])
  else if k = 3 && isSteward ((cellShuttles t).headD 0) then some (sNotPermitted, [])
  else if (cellHeddles t).any (fun h => decide (grantOf s h ≠ some fn)) then some (sNotPermitted, [])
  else none

/-- The live windows of a function. -/
def liveWindows (s : State) (fn : Nat) : List Window :=
  ((getFn s fn).windows.map Prod.snd).filter Window.live

/-- The end of a window. -/
def winEnd (v : Window) : Nat := v.base + 4096 * v.pages

/-- The first cause of R158 among the parts of a range: 1 no match, 2 overlap, 3 permission. -/
def windowFault (s : State) (fn addr len : Nat) (isOut : Bool) : Option Nat :=
  let ws := liveWindows s fn
  let cuts := ((ws.flatMap (fun v => [v.base, winEnd v])).filter (fun p => decide (addr < p ∧ p < addr + len)))
  let parts := cuts.foldl (fun l p => insSorted p l) [addr]
  (parts.filterMap (fun p =>
    match ws.filter (fun v => decide (v.base ≤ p ∧ p < winEnd v)) with
    | [] => some 1
    | [v] => if (if isOut then v.write else v.read) then none else some 3
    | _ => some 2)).head?

/-- One descriptor: LEN and ADDR, its reserved bits, its windows (R156 step 10, R157, R158). (DESIGN CHOICE, log 127) -/
def descBad (s : State) (fn : Nat) (w : List Word) (k : Nat) (isOut : Bool) : Option Refused :=
  let at_ := descAt w k
  let n := descLen w k
  if n = 0 ∨ 4194304 < n then some (sBadParam, [at_ + 4])
  else if 2 ^ 64 < descAddr w k + n then some (sBadParam, [at_])
  else if !lenOk w k then some (sBadParam, [at_ + 4])
  else if bits (wd w (at_ + 5)) 15 7 ≠ 0 then some (sReservedNz, [at_ + 5])
  else (windowFault s fn (descAddr w k) n isOut).map (fun c => (sDmaFault, [k, c]))

/-- All descriptors in index order. -/
def descsBad (s : State) (fn : Nat) (w : List Word) : Option Refused :=
  ((descDirs w).zipIdx.filterMap (fun p => descBad s fn w p.2 p.1)).head?

/-! ### The checks of R156 in order -/

/-- A failed check of the packet's format at step 3 (R155): the first reserved word that is not 0. -/
def formatReserved (w : List Word) : Option Nat :=
  if bits (wd w 0) 3 2 ≠ 0 then some 0
  else if bits (wd w 1) 13 8 ≠ 0 then some 1
  else if wd w 7 ≠ 0 then some 7
  else if wd w 30 ≠ 0 then some 30
  else
    let used := 8 + pParams w + 6 * pDescs w
    if 30 < used then none
    else ((List.range (30 - used)).map (fun k => used + k)).find? (fun i => decide (wd w i ≠ 0))

/-- The first check of R156 that fails; none where the packet passes all eleven steps. -/
def headCheck (s : State) (fn pair : Nat) (w : List Word) : Option Refused :=
  if w.getD 31 0 ≠ crc16 (wordBytes (w.take 31)) then some (sBadCheck, [])
  else if pVersion w ≠ 1 then some (sBadParam, [0])
  else match formatReserved w with
  | some i => some (sReservedNz, [i])
  | none =>
  match opRow (pOpcode w) with
  | none => some (sUnknownOp, [])
  | some row =>
  if pRealm w ≠ fn then some (sNotPermitted, [])
  else if senderBad s fn w row then some (sNotPermitted, [])
  else match stateRefusal s w row with
  | some r => some r
  | none =>
  if classBad s fn pair w row then some (sBadParam, [1])
  else match firstBad (shapeChecks w row ++ paramChecks s fn w) with
  | some (st, i) => some (st, [i])
  | none =>
  match targetBad s fn w with
  | some r => some r
  | none =>
  match descsBad s fn w with
  | some r => some r
  | none => (overMax (charges s fn w)).map (fun r => (sBadParam, [0, r + 1]))

/-! ### Steps 3 to 6 of R115 -/

/-- (a − b) mod 2^48, and whether a is ahead of b (R372). -/
def tosDiff (a b : Nat) : Nat := (a + 2 ^ 48 - b) % 2 ^ 48

/-- A timed LANE_SEND is too late (R376): 50 µs on a LINKED lane in synchronism, else 3 ms. -/
def timedLate (s : State) (w : List Word) : Bool :=
  match laneOf w with
  | none => false
  | some l =>
    let lead := if (getLane s l).link = .up then 50 else 3000
    let d := tosDiff (pairAt w 9 + 4294967296 * wd w 11) s.clk.tos
    decide (pOpcode w = 0x61) && bit (wd w 8) 0 && !decide (lead ≤ d ∧ d < 2 ^ 47)

/-- Free places of a lane (R126, R186). -/
def freePlaces (s : State) (l : Nat) : Nat := 8 - (getLane s l).places.length - (getLane s l).reserved

/-- The command charges a place of a lane. -/
def chargesLane (w : List Word) : Option Nat :=
  if pOpcode w = 0x61 ∨ pOpcode w = 0x20 then laneOf w else none

/-- The budgets that fail: resource and wait, by resource index. -/
def failing (s : State) (fn : Nat) (cs : List (Nat × Nat)) : List (Nat × Option (Nat × Nat)) :=
  cs.filterMap (fun p =>
    if fits s fn p.1 p.2 then none
    else
      let (level, depth, rate) := budgetNow s fn p.1
      some (p.1, waitOf level depth rate p.2))

/-- The failing resource with the longest wait, and of equal waits the lowest index (R136). -/
def worst : List (Nat × Option (Nat × Nat)) → Option (Nat × Option (Nat × Nat))
  | [] => none
  | f :: fs =>
    match worst fs with
    | none => some f
    | some g =>
      match f.2, g.2 with
      | none, _ => some f
      | some _, none => some g
      | some a, some b => if b.1 * a.2 ≤ a.1 * b.2 then some f else some g

/-- The placement test of R129: none where it passes or does not apply. -/
def placementBad (s : State) (w : List Word) : Option Refused :=
  let t := pTarget w
  let k := bits t 15 13
  if k = 0 ∨ k = 4 then none else
  let pool := if pClass w = 0 then 5 else 6
  let charge := ((charges s (pRealm w) w).find? (fun p => p.1 == pool)).elim 0 Prod.snd
  if cellServers s t pool = 0 then some (sRefCapacity, refusalWords s (retryWord none) 15)
  else
    let (level, depth, rate) := cellNow s t pool
    if charge = 0 ∨ level + charge * 4096 ≤ depth then none
    else some (sRefCapacity, refusalWords s (retryWord (waitNs (waitOf level depth rate charge))) 15)

/-- Steps 3 to 6 of R115 for a packet that passed R156. (DEDUCED, log 32) -/
def capacityCheck (s : State) (fn : Nat) (w : List Word) : Option Refused :=
  let commits := ((opRow (pOpcode w)).map OpRow.commits).getD false
  if commits && backstop s then some (sRefCapacity, refusalWords s 1024 12)
  else match placementBad s w with
  | some r => some r
  | none =>
  if timedLate s w then some (sRefLane, refusalWords s (retryWord none) 13)
  else match worst (failing s fn (charges s fn w)) with
  | some (r, wait) => some (sRefCapacity, refusalWords s (retryWord (waitNs wait)) (r + 1))
  | none =>
    match chargesLane w with
    | some l => if freePlaces s l = 0 then some (sRefCapacity, refusalWords s 1024 11) else none
    | none => none

/-- The decision on a packet at the head: none admits (R115). -/
def verdict (s : State) (fn pair : Nat) (w : List Word) : Option Refused :=
  match headCheck s fn pair w with
  | some r => some r
  | none => capacityCheck s fn w

/-! ### The queue pairs -/

/-- A pair of a function. -/
def getPair (s : State) (fn pair : Nat) : QPair := mget {} (getFn s fn).pairs pair

/-- Entries of a submission queue that have not been fetched. -/
def sqQueued (q : QPair) : Nat := (q.sqTail + q.sqSize + 1 - q.sqHead) % (q.sqSize + 1)

/-- A pair replaced. -/
def setPairOf (fn pair : Nat) (q : QPair) (s : State) : State :=
  let f := getFn s fn
  setFn fn { f with pairs := mset {} f.pairs pair q } s

/-- Replies that a pair still owes: admitted commands and replies not yet written (R114). -/
def owed (s : State) (fn pair : Nat) : Nat :=
  (s.cmds.admitted.filter (fun c => c.fn == fn && c.pair == pair && !c.mute)).length +
    (s.cmds.replies.filter (fun r => r.fn == fn && r.pair == pair)).length

/-- The completion queue has room for one more reply (R114). -/
def cqRoom (s : State) (fn pair : Nat) : Bool :=
  let q := getPair s fn pair
  decide (q.unconsumed + owed s fn pair < q.cqSize + 1)

/-- The oldest fetched packet reaches the head once there is room and its FENCE, if any, is met (R114,
R151). -/
def markHead (fn pair : Nat) (s : State) : State :=
  let q := getPair s fn pair
  match q.fetched, q.headAt with
  | w :: _, none =>
    if cqRoom s fn pair && (!pFence w || owed s fn pair == 0) then
      setPairOf fn pair { q with headAt := some s.now } s
    else s
  | _, _ => s

/-- The packet at the head leaves the queue. -/
def popHead (fn pair : Nat) (s : State) : State :=
  let q := getPair s fn pair
  markHead fn pair (setPairOf fn pair { q with
    fetched := q.fetched.drop 1, headAt := none, decided := none, flushLeft := q.flushLeft - 1 } s)

/-! ### Admission -/

/-- A new command with what it takes from the instant of its admission (R96, R112, R272, R446). -/
def newCmd (s : State) (fn pair : Nat) (w : List Word) : Cmd :=
  let row := realmRow s fn
  { id := s.cmds.nextId, fn := fn, pair := pair, words := w, cls := pClass w, admitAt := s.now,
    deadline := s.now + classBound (pClass w), cal := s.clk.cal, bank := row.active,
    appGen := match row.active with
      | some b => ((bankOf row b).map BankEntry.gen).getD 0
      | none => 0
    table := activeTable s fn
    lookupAt := if slotOpcode (pOpcode w) && !(descDirs w).contains false then some s.now else none
    lane := chargesLane w
    needFrame := if pOpcode w = 0x17 then
        (if !s.jn.openEntries.isEmpty then s.jn.openNo else (s.jn.flight.getLast?.map Frame.no).getD 0) else 0
    held := if pOpcode w = 0xA0 then leNats 2 (spanEntries s) else []
    reads := ((descDirs w).zipIdx.filter (fun p => !p.1)).map Prod.snd }

/-- The reads of a command's IN descriptors are requested (R159, R406). -/
def askReads (c : Cmd) (s : State) : State :=
  c.reads.foldl (fun t k => emit (.dmaRead c.fn (descAddr c.words k) (descLen c.words k)) t) s

/-- Take the charges of an admitted packet (R124, R129). -/
def takeCharges (fn : Nat) (w : List Word) (s : State) : State :=
  let cs := charges s fn w
  let s1 := cs.foldl (fun t p => chargeBudget fn p.1 p.2 t) s
  let t := pTarget w
  let k := bits t 15 13
  let pool := if pClass w = 0 then 5 else 6
  let charge := (cs.find? (fun p => p.1 == pool)).elim 0 Prod.snd
  let s2 := if k = 0 ∨ k = 4 ∨ charge = 0 then s1 else chargeCell t pool charge s1
  match chargesLane w with
  | some l =>
    let ln := getLane s2 l
    { s2 with lanes := mset {} s2.lanes l { ln with reserved := ln.reserved + 1 } }
  | none => s2

/-- FLUSH at its admission: the packets of each named live pair up to its SQ tail will end with
FLUSHED; the answer's bitmap (R175, R176). -/
def flushPairs (fn mask : Nat) (s : State) : Nat × State :=
  ((List.range 8).filter (fun p => bit mask p && (getPair s fn p).live)).foldl (fun a p =>
    let q := getPair a.2 fn p
    (a.1 + 2 ^ p, setPairOf fn p { q with flushLeft := q.fetched.length + sqQueued q } a.2)) (0, s)

/-- QUIESCING passes to QUIESCED once every command admitted before the QUIESCE has been answered
(R22). -/
def quiesceCheck (s : State) : State :=
  if s.glb.service = svQuiescing &&
      !(s.cmds.quiesceWait.any (fun i => s.cmds.admitted.any (fun c => c.id == i) ||
        s.cmds.replies.any (fun r => r.id == some i))) then
    setService svQuiesced { s with cmds := { s.cmds with quiesceWait := [] } }
  else s

/-- What the opcode does at the instant of its admission: FLUSH, QUIESCE and RESUME (R22, R23, R176).
`held` is 1 where QUIESCE or RESUME found its effect present; a RESUME admitted in STARTING is taken as one that did
(DESIGN CHOICE, log 112). QUIESCED waits for every command not yet answered, its reply held or not. -/
def atAdmission (c : Cmd) (s : State) : Cmd × State :=
  let op := cOp c
  if op = 0x80 then
    let (m, t) := flushPairs c.fn (wd c.words 8) s
    ({ c with held := [m] }, t)
  else if op = 0x83 then
    if s.glb.service = svReady ∨ s.glb.service = svReadOnly then
      ({ c with held := [0] }, setService svQuiescing
        { s with cmds := { s.cmds with
          quiesceWait := s.cmds.admitted.map Cmd.id ++ s.cmds.replies.filterMap Reply.id } })
    else ({ c with held := [1] }, s)
  else if op = 0x84 then
    if s.glb.service = svQuiescing ∨ s.glb.service = svQuiesced then
      ({ c with held := [0] }, setService (if s.glb.holdupOk then svReady else svReadOnly)
        { s with cmds := { s.cmds with quiesceWait := [] } })
    else ({ c with held := [1] }, s)
  else if op = 0xA0 then
    (c, if s.glb.service = svReadOnly then s else { s with jn := { s.jn with compacting := true, compactNow := true } })
  else (c, s)

/-- The trace's ADMIT message (R474). -/
def traceAdmit (fn pair : Nat) (w : List Word) (refused : Bool) (s : State) : State :=
  trace 3 (pClass w * 1024 + pair * 64 + b2n refused * 32 + fn)
    ([pOpcode w * 256] ++ leNats 2 (pTag w)) s

/-- Admit the packet at the head (R112, R115, R124). The longest decision is noted in ns (R144). -/
def admitHead (fn pair : Nat) (w : List Word) (s : State) : State :=
  let q := getPair s fn pair
  let wait := (s.now - q.headAt.getD s.now) * 1000
  let s1 := takeCharges fn w s
  let s2 := { s1 with adm := { s1.adm with peakAdmit := min 0xFFFF (max s1.adm.peakAdmit wait) } }
  let (c, s3) := atAdmission (newCmd s fn pair w) s2
  let s4 := { s3 with cmds := { s3.cmds with admitted := s3.cmds.admitted ++ [c], nextId := s3.cmds.nextId + 1 } }
  popHead fn pair (count 1 fn (traceAdmit fn pair w false (askReads c s4)))

/-- ADMISSION_DECISION: the packet at the head is checked and admitted, or the outcome with which it will
end is fixed (R115, R156, R164). A flushed packet always ends with FLUSHED (R176). (DEDUCED, log 31) -/
def admissionDecision (fn pair : Nat) (s : State) : State :=
  let q := getPair s fn pair
  if s.jn.stopped || !s.adm.opened || !q.live then s else
  match q.fetched, q.headAt, q.decided with
  | w :: _, some _, none =>
    if 0 < q.flushLeft then setPairOf fn pair { q with decided := some (sFlushed, []) } s
    else match verdict s fn pair w with
      | none => quiesceCheck (admitHead fn pair w s)
      | some r => setPairOf fn pair { q with decided := some r } s
  | _, _, _ => s

/-- A reply decided at the head (R162). -/
def headReply (fn pair : Nat) (w : List Word) (r : Refused) (head : Bool) (s : State) : Reply :=
  { id := none, fn := fn, pair := pair, status := r.1, opcode := pOpcode w, head := head, tag := pTag w
    jsn := 0, results := padTo 7 0 r.2, cls := pClass w, admitAt := s.now
    deadline := s.now + 1, silentOk := false, outs := [], needFrame := 0, held := false, relAt := none }

/-- HEAD_DECISION_RELEASE: 1,200 CK_FABRIC cycles after the packet reached the head, which is 1.608 µs at
the lowest frequency, its outcome is handed to the reply writer (R164). Refusals for capacity are
counted by class (R144). -/
def headRelease (fn pair : Nat) (s : State) : State :=
  let q := getPair s fn pair
  if s.jn.stopped then s else
  match q.fetched, q.headAt, q.decided with
  | w :: _, some t, some r0 =>
    if s.now < t + 2 then s else
    let r := if 0 < q.flushLeft then (sFlushed, []) else r0
    let s1 := pushReply (headReply fn pair w r true s) s
    let s2 := if r.1 = sRefCapacity then
        count 3 (pClass w) { s1 with adm := { s1.adm with
          refused := mset 0 s1.adm.refused (pClass w) (satInc (mget 0 s1.adm.refused (pClass w)) 0xFFFFFFFF)
          peakAdmit := max s1.adm.peakAdmit 1608 } }
      else { s1 with adm := { s1.adm with peakAdmit := max s1.adm.peakAdmit 1608 } }
    popHead fn pair (count 2 fn (traceAdmit fn pair w true s2))
  | _, _, _ => s

end Sys2Proof.Machine
end

