-- ==== Sys2Proof/Machine/Curve.lean ====
section
/-! DEFINITION. ECDSA over P-256 (FIPS 186-4) and Ed25519 (RFC 8032, pure), on byte lists (R6).
PRESUMED (log 11): the algorithms are those of the standards the spec names. -/

namespace Sys2Proof.Machine

/-- Modular power by the bits of the exponent, least significant first. -/
def powModN : Nat → Nat → Nat → Nat → Nat
  | 0, _, _, m => 1 % m
  | f + 1, b, e, m =>
    let r := powModN f (b * b % m) (e / 2) m
    if e % 2 = 1 then r * b % m else r

/-- Modular power for exponents below 2^256. -/
def powMod (b e m : Nat) : Nat := powModN 256 (b % m) e m

/-- The inverse modulo a prime. -/
def invMod (a p : Nat) : Nat := powMod a (p - 2) p

/-! ### P-256 -/

/-- The prime of P-256. -/
def p256P : Nat := 2 ^ 256 - 2 ^ 224 + 2 ^ 192 + 2 ^ 96 - 1
/-- The order of P-256's base point. -/
def p256N : Nat := 0xffffffff00000000ffffffffffffffffbce6faada7179e84f3b9cac2fc632551
/-- The curve coefficient b of P-256. -/
def p256B : Nat := 0x5ac635d8aa3a93e7b3ebbd55769886bc651d06b0cc53b0f63bce3c3e27d2604b
/-- The base point's x. -/
def p256Gx : Nat := 0x6b17d1f2e12c4247f8bce6e563a440f277037d812deb33a0f4a13945d898c296
/-- The base point's y. -/
def p256Gy : Nat := 0x4fe342e2fe1a7f9b8ee7eb4a7c0f9e162bce33576b315ececbb6406837bf51f5

/-- A point in Jacobian coordinates; z = 0 is the point at infinity. -/
structure JPoint where
  x : Nat
  y : Nat
  z : Nat
  deriving DecidableEq, Repr

/-- The double of a point on P-256. -/
def jDouble (q : JPoint) : JPoint :=
  let p := p256P
  if q.z = 0 then q else
  let ysq := q.y * q.y % p
  let s := 4 * q.x * ysq % p
  let z2 := q.z * q.z % p
  let m := 3 * ((q.x + p - z2) % p) * ((q.x + z2) % p) % p
  let x' := (m * m + 2 * (p - s)) % p
  ⟨x', (m * ((s + p - x') % p) + (p - 8 * ysq * ysq % p)) % p, 2 * q.y * q.z % p⟩

/-- The sum of two points on P-256. -/
def jAdd (q r : JPoint) : JPoint :=
  let p := p256P
  if q.z = 0 then r else if r.z = 0 then q else
  let z1 := q.z * q.z % p
  let z2 := r.z * r.z % p
  let u1 := q.x * z2 % p
  let u2 := r.x * z1 % p
  let s1 := q.y * z2 * r.z % p
  let s2 := r.y * z1 * q.z % p
  if u1 = u2 then (if s1 = s2 then jDouble q else ⟨1, 1, 0⟩) else
  let h := (u2 + p - u1) % p
  let rr := (s2 + p - s1) % p
  let h2 := h * h % p
  let h3 := h * h2 % p
  let v := u1 * h2 % p
  let x' := (rr * rr + (p - h3) + 2 * (p - v)) % p
  ⟨x', (rr * ((v + p - x') % p) + (p - s1 * h3 % p)) % p, h * q.z * r.z % p⟩

/-- A multiple of a point, by the bits of the factor. -/
def jMulN : Nat → Nat → JPoint → JPoint
  | 0, _, _ => ⟨1, 1, 0⟩
  | f + 1, k, q =>
    let r := jMulN f (k / 2) (jDouble q)
    if k % 2 = 1 then jAdd r q else r

/-- The affine coordinates of a point. -/
def jAffine (q : JPoint) : Nat × Nat :=
  let zi := invMod q.z p256P
  let zi2 := zi * zi % p256P
  (q.x * zi2 % p256P, q.y * zi2 * zi % p256P)

/-- The base point. -/
def p256G : JPoint := ⟨p256Gx, p256Gy, 1⟩

/-- Whether affine coordinates name a point of P-256. -/
def p256OnCurve (x y : Nat) : Bool :=
  decide (x < p256P ∧ y < p256P) &&
    decide (y * y % p256P = (x * x * x + (p256P - 3) * x + p256B) % p256P)

/-- ECDSA over a 32-byte digest with private key `d` and per-message secret `k`: r then s. -/
def ecdsaSign (d k : Nat) (digest : List Byte) : List Byte :=
  let e := beNat digest
  let r := (jAffine (jMulN 256 k p256G)).1 % p256N
  let s := invMod k p256N * (e + r * d) % p256N
  beBytes 32 r ++ beBytes 32 s

/-- ECDSA verification with the public point's x and y, 32 bytes each. -/
def ecdsaVerify (pub digest sig : List Byte) : Bool :=
  let qx := beNat (pub.take 32)
  let qy := beNat (pub.drop 32)
  let r := beNat (sig.take 32)
  let s := beNat (sig.drop 32)
  if pub.length ≠ 64 ∨ sig.length ≠ 64 ∨ r = 0 ∨ p256N ≤ r ∨ s = 0 ∨ p256N ≤ s then false
  else if ¬ p256OnCurve qx qy then false
  else
    let w := invMod s p256N
    let q := jAdd (jMulN 256 (beNat digest * w % p256N) p256G) (jMulN 256 (r * w % p256N) ⟨qx, qy, 1⟩)
    if q.z = 0 then false else decide ((jAffine q).1 % p256N = r)

/-! ### Ed25519 -/

/-- The prime of Ed25519. -/
def edP : Nat := 2 ^ 255 - 19
/-- The order of Ed25519's base point. -/
def edL : Nat := 2 ^ 252 + 27742317777372353535851937790883648493
/-- The curve coefficient d of Ed25519. -/
def edD : Nat := (edP - 121665) * invMod 121666 edP % edP

/-- A point in extended coordinates. -/
structure EPoint where
  x : Nat
  y : Nat
  z : Nat
  t : Nat
  deriving DecidableEq, Repr

/-- The sum of two points. -/
def eAdd (q r : EPoint) : EPoint :=
  let p := edP
  let a := ((q.y + p - q.x) % p) * ((r.y + p - r.x) % p) % p
  let b := (q.y + q.x) * (r.y + r.x) % p
  let c := 2 * q.t * r.t * edD % p
  let d := 2 * q.z * r.z % p
  let e := (b + p - a) % p
  let f := (d + p - c) % p
  let g := (d + c) % p
  let h := (b + a) % p
  ⟨e * f % p, g * h % p, f * g % p, e * h % p⟩

/-- A multiple of a point. -/
def eMulN : Nat → Nat → EPoint → EPoint
  | 0, _, _ => ⟨0, 1, 1, 0⟩
  | f + 1, k, q =>
    let r := eMulN f (k / 2) (eAdd q q)
    if k % 2 = 1 then eAdd r q else r

/-- The x of a point with given y and sign bit, or none. -/
def edRecoverX (y : Nat) (sign : Bool) : Option Nat :=
  if edP ≤ y then none else
  let x2 := ((y * y + edP - 1) % edP) * invMod ((edD * y * y + 1) % edP) edP % edP
  if x2 = 0 then (if sign then none else some 0) else
  let x := powMod x2 ((edP + 3) / 8) edP
  let x := if x * x % edP = x2 then x else x * powMod 2 ((edP - 1) / 4) edP % edP
  if x * x % edP ≠ x2 then none
  else some (if decide (x % 2 = 1) = sign then x else edP - x)

/-- The base point. -/
def edB : EPoint :=
  let y := 4 * invMod 5 edP % edP
  let x := (edRecoverX y false).getD 0
  ⟨x, y, 1, x * y % edP⟩

/-- A point as 32 bytes. -/
def edCompress (q : EPoint) : List Byte :=
  let zi := invMod q.z edP
  let x := q.x * zi % edP
  let y := q.y * zi % edP
  leBytes 32 (y + (x % 2) * 2 ^ 255)

/-- A point from 32 bytes, or none. -/
def edDecompress (bs : List Byte) : Option EPoint :=
  let v := leNat bs
  let y := v % 2 ^ 255
  match edRecoverX y (decide (2 ^ 255 ≤ v)) with
  | none => none
  | some x => some ⟨x, y, 1, x * y % edP⟩

/-- The secret scalar of a 32-byte seed's hash. -/
def edScalar (h : List Byte) : Nat :=
  let a := leNat (h.take 32)
  a % 2 ^ 254 / 8 * 8 + 2 ^ 254

/-- The public key of a seed. -/
def edPublic (seed : List Byte) : List Byte := edCompress (eMulN 256 (edScalar (sha512 seed)) edB)

/-- The Ed25519 signature of a message under a seed. -/
def edSign (seed m : List Byte) : List Byte :=
  let h := sha512 seed
  let a := edScalar h
  let pub := edCompress (eMulN 256 a edB)
  let r := leNat (sha512 (h.drop 32 ++ m)) % edL
  let rb := edCompress (eMulN 256 r edB)
  let k := leNat (sha512 (rb ++ pub ++ m)) % edL
  rb ++ leBytes 32 ((r + k * a) % edL)

/-- A point of small order: eight times it is the neutral element. -/
def edSmall (q : EPoint) : Bool := decide (edCompress (eMulN 4 8 q) = leBytes 32 1)

/-- Ed25519 verification (R343): S < L, R and A decodable and not of small order, and the cofactorless
equation. -/
def edVerify (pub m sig : List Byte) : Bool :=
  let s := leNat (sig.drop 32)
  if pub.length ≠ 32 ∨ sig.length ≠ 64 ∨ edL ≤ s then false else
  match edDecompress pub, edDecompress (sig.take 32) with
  | some a, some r =>
    if edSmall a || edSmall r then false else
    let k := leNat (sha512 (sig.take 32 ++ pub ++ m)) % edL
    let lhs := eMulN 256 s edB
    let rhs := eAdd r (eMulN 256 k a)
    decide (edCompress lhs = edCompress rhs)
  | _, _ => false

end Sys2Proof.Machine
end

