-- ==== Sys2Proof/Machine/Engines.lean ====
section
/-! DEFINITION. The digest and cipher engines (R323, R330 to R342): channels, the order of writes, blocks,
results, exported contexts, and the clearing of state (R345). -/

namespace Sys2Proof.Machine

/-! ### SHA-2 over a chaining value (R326, R337) -/

/-- Bytes of a block and of a chaining value by ALG. -/
def shaB (alg : Nat) : Nat := if alg = 0 then 64 else 128
def shaH (alg : Nat) : Nat := if alg = 0 then 32 else 64
def shaLen (alg : Nat) : Nat := if alg = 0 then 32 else if alg = 1 then 48 else 64

/-- The initial chaining value. -/
def shaInit (alg : Nat) : List Byte :=
  if alg = 0 then shaRoots.flatMap (fun x => beBytes 4 (shaSize32.cut x).toNat)
  else (if alg = 1 then shaRoots9 else shaRoots).flatMap (fun x => beBytes 8 x)

/-- One compression. -/
def shaCompress (alg : Nat) (h blk : List Byte) : List Byte :=
  if alg = 0 then
    (shaBlock shaSize32 ((chunks 4 h).map (fun c => BitVec.ofNat 32 (beNat c))) blk).flatMap (fun x => beBytes 4 x.toNat)
  else
    (shaBlock shaSize64 ((chunks 8 h).map (fun c => BitVec.ofNat 64 (beNat c))) blk).flatMap (fun x => beBytes 8 x.toNat)

/-- Absorb the whole blocks of a message: the new chaining value and what is left. -/
def shaAbsorb (alg : Nat) (h m : List Byte) : List Byte × List Byte :=
  let n := m.length / shaB alg * shaB alg
  ((chunks (shaB alg) (m.take n)).foldl (shaCompress alg) h, m.drop n)

/-- Pad and finish, for a message of `total` bytes of which `rest` is not yet absorbed. -/
def shaFinish (alg total : Nat) (h rest : List Byte) : List Byte :=
  let b := shaB alg
  let lenb := b / 8
  let z := (2 * b - (rest.length + 1 + lenb) % b) % b
  let m := rest ++ [0x80] ++ List.replicate z 0 ++ beBytes lenb (8 * total)
  ((shaAbsorb alg h m).1).take (shaLen alg)

/-- The chaining values after the key-ipad and key-opad blocks (FIPS 198-1). -/
def hmacPads (alg : Nat) (key : List Byte) : List Byte × List Byte :=
  let k := padTo (shaB alg) 0 key
  (shaCompress alg (shaInit alg) (k.map (fun b => b ^^^ 0x36)),
   shaCompress alg (shaInit alg) (k.map (fun b => b ^^^ 0x5C)))

/-! ### The digest command word (R331) -/

def dgOp (c : Nat) : Nat := bits c 15 14
def dgAlg (c : Nat) : Nat := bits c 13 12
def dgHmac (c : Nat) : Bool := bit c 11
def dgImport (c : Nat) : Bool := bit c 10
def dgMacWords (c : Nat) : Nat := bits c 5 0

/-- A digest command word that holds a reserved value. -/
def dgBad (c : Nat) : Bool :=
  decide (dgOp c = 3 ∨ dgAlg c = 3 ∨ bits c 8 6 ≠ 0) ||
  (if dgOp c = 1 then decide (dgMacWords c < 4 ∨ shaLen (dgAlg c) / 2 < dgMacWords c)
   else decide (dgMacWords c ≠ 0))

/-- Words of a context by ALG (R337). -/
def ctxWords (alg : Nat) : Nat := if alg = 0 then 88 else 152

/-! ### Exported contexts (R337, R338) -/

/-- What a context carries. -/
structure HashCtx where
  slot : Nat
  keyGen : Nat
  counter : Nat
  count : Nat
  taint : Bool
  inner : List Byte
  outer : List Byte
  rest : List Byte
  deriving DecidableEq, Repr

/-- The header of a context. -/
def ctxHeader (cmd realm : Nat) (taint : Bool) : List Byte :=
  [1, BitVec.ofNat 8 (dgAlg cmd), BitVec.ofNat 8 (b2n (dgHmac cmd) + 2 * b2n taint), BitVec.ofNat 8 realm, 0, 0, 0, 0]

/-- A realm's context key (R337). -/
def ctxKey (s : State) (realm : Nat) : List Byte := mget [] s.keys.ctxKeys realm

/-- The exported context. -/
def ctxExport (s : State) (cmd realm : Nat) (x : HashCtx) : List Nat :=
  let hd := ctxHeader cmd realm x.taint
  let p := hd ++ beBytes 4 s.adm.startNo ++ beBytes 2 x.slot ++ beBytes 2 x.keyGen ++ beBytes 4 x.counter ++
    List.replicate 4 0 ++ beBytes 8 x.count ++ x.inner ++ padTo (shaH (dgAlg cmd)) 0 x.outer ++
    padTo (shaB (dgAlg cmd)) 0 x.rest
  (bytesWords (hd ++ keyWrap (ctxKey s realm) p)).map BitVec.toNat

/-- A context read back: none unless every condition of R338 that needs no key slot holds. -/
def ctxImport (s : State) (cmd realm : Nat) (ws : List Nat) : Option HashCtx :=
  let bs := wordBytes (ws.map ofW)
  let hd := bs.take 8
  match keyUnwrap (ctxKey s realm) (bs.drop 8) with
  | none => none
  | some p =>
    let taint := decide (hd.getD 2 0 &&& 2 ≠ 0)
    let h := shaH (dgAlg cmd)
    let count := beNat ((p.drop 24).take 8)
    if p.take 8 ≠ hd ∨ hd ≠ ctxHeader cmd realm taint ∨ beNat ((p.drop 8).take 4) ≠ s.adm.startNo then none
    else some { slot := beNat ((p.drop 12).take 2), keyGen := beNat ((p.drop 14).take 2),
                counter := beNat ((p.drop 16).take 4), count := count, taint := taint,
                inner := (p.drop 32).take h, outer := (p.drop (32 + h)).take h,
                rest := (p.drop (32 + 2 * h)).take (count % shaB (dgAlg cmd)) }

/-! ### Engines and channels -/

/-- The engine of a unit: true for a cipher engine. -/
def getEng (s : State) (ci : Bool) (u : Nat) : Eng := mget {} (if ci then s.engs.ci else s.engs.dg) u

/-- An engine replaced. -/
def setEng (ci : Bool) (u : Nat) (e : Eng) (s : State) : State :=
  { s with engs := if ci then { s.engs with ci := mset {} s.engs.ci u e }
                   else { s.engs with dg := mset {} s.engs.dg u e } }

/-- A channel. -/
def getChan (s : State) (ci : Bool) (u ch : Nat) : Chan := mget {} (getEng s ci u).chans ch

/-- The unit and channel of a shuttle: its heddle's engines, or its loom's steward channel (R325). -/
def shUnit (sh : Nat) : Nat := if isSteward sh then 24 + sh / 48 else sh / 8
def shChan (sh : Nat) : Nat := sh % 8

/-- POISON words where the state was cleared or the operation faulted (R217, R334, R342). -/
def poisonTW : TW := ⟨7, 0⟩

/-! ### What a digest channel has absorbed -/

/-- The context that an operation starts from: the imported one, or the initial chaining values. -/
def dgStart (s : State) (c : Chan) : Option HashCtx :=
  let alg := dgAlg c.cmd
  if dgImport c.cmd then
    match ctxImport s c.cmd c.realm c.ctxIn with
    | none => none
    | some x =>
      if dgHmac c.cmd && !(x.slot == c.keySlot && x.keyGen == c.keyGen && x.counter == c.keyCtr) then none
      else if !dgHmac c.cmd && decide (x.slot ≠ 0 ∨ x.keyGen ≠ 0 ∨ x.counter ≠ 0) then none
      else some x
  else
    let (i, o) := if dgHmac c.cmd then hmacPads alg c.key else (shaInit alg, [])
    some { slot := if dgHmac c.cmd then c.keySlot else 0, keyGen := if dgHmac c.cmd then c.keyGen else 0
           counter := if dgHmac c.cmd then c.keyCtr else 0, count := 0, taint := false
           inner := i, outer := o, rest := [] }

/-- Message bytes that an import brings along; 0 where the context is not good. -/
def importCount (s : State) (c : Chan) : Nat :=
  if dgImport c.cmd && c.ctxIn.length == ctxWords (dgAlg c.cmd) then
    ((ctxImport s c.cmd c.realm c.ctxIn).map HashCtx.count).getD 0 else 0

/-- DG_CNT: message bytes accepted, imported ones included. -/
def dgCount (s : State) (c : Chan) : Nat := (importCount s c + c.data.length) % 2 ^ 32

/-- TAINT of the data words written (R335). (DEDUCED, log 64) -/
def chanTaint (c : Chan) : Bool := c.tags.contains 2

/-- Blocks of a digest operation so far: all of them after the final write. -/
def dgBlocks (s : State) (c : Chan) : Nat :=
  let n := importCount s c % shaB (dgAlg c.cmd) + c.data.length
  if c.fin && dgOp c.cmd != 2 then
    (if dgAlg c.cmd = 0 then ceilDiv (n + 9) 64 else ceilDiv (n + 17) 128)
  else n / shaB (dgAlg c.cmd)

/-- Blocks of a cipher operation so far. -/
def ciBlocks (c : Chan) : Nat := if c.fin then ceilDiv c.data.length 16 else c.data.length / 16

/-- Blocks the channel can take up to now. -/
def chanBlocks (s : State) (ci : Bool) (c : Chan) : Nat :=
  match ci, c.disp, c.host with
  | true, .derive _, some _ => 2
  | true, _, _ => ciBlocks c
  | false, _, _ => dgBlocks s c

/-- Nothing holds the core back: no key is awaited, and a needed context is complete. -/
def chanFree (ci : Bool) (c : Chan) : Bool :=
  !c.keyWait && !c.fault && !c.cleared && c.busy && !c.done &&
    (ci || !dgImport c.cmd || c.host.isSome || c.ctxIn.length == ctxWords (dgAlg c.cmd)) &&
    (c.host.isSome || c.keyed || (!ci && !dgHmac c.cmd))

/-- Blocks of the channel that are ready for the core. -/
def readyBlocks (s : State) (ci : Bool) (c : Chan) : Nat := if chanFree ci c then chanBlocks s ci c - c.blocks else 0

/-- The channel with a place in the order for each ready block: those that became ready now have the next place. -/
def noteReady (n seq : Nat) (c : Chan) : Chan :=
  { c with ready := if n < c.ready.length then c.ready.drop (c.ready.length - n)
                    else c.ready ++ List.replicate (n - c.ready.length) seq }

/-- A channel replaced: blocks that its new content makes ready join the order of the engine (R323). -/
def setChan (ci : Bool) (u ch : Nat) (c : Chan) (s : State) : State :=
  let e := getEng s ci u
  let n := readyBlocks s ci c
  setEng ci u { e with
    chans := mset {} e.chans ch (noteReady n e.readySeq c)
    readySeq := if c.ready.length < n then e.readySeq + 1 else e.readySeq } s

/-- A block of the channel is ready for the core (R323). -/
def blockReady (s : State) (ci : Bool) (c : Chan) : Bool :=
  decide (0 < readyBlocks s ci c)

/-- The intake of two blocks is full: a data write waits (R330). -/
def intakeFull (s : State) (ci : Bool) (c : Chan) : Bool :=
  let b := if ci then 16 else shaB (dgAlg c.cmd)
  let n := if ci then c.data.length else importCount s c % b + c.data.length
  !c.fault && !c.cleared && decide (2 * b ≤ n - c.blocks * b)

/-! ### A shuttle's operation: submission and writes (R332, R341) -/

/-- A cipher command word that holds a reserved value (R341). -/
def ciBad (c : Nat) : Bool :=
  decide (4 < bits c 15 13) || (decide (bits c 15 13 = 4) && bit c 12) || decide (bits c 10 0 ≠ 0)

/-- A command word of a steward's channel: its DUMMY field is CONSTANT whatever was written (R329). -/
def setDummy (ci : Bool) (v : Nat) : Nat := let b := if ci then 11 else 9; if bit v b then v else v + 2 ^ b

/-- ESUB: the channel opens with its command word; the results of the operation before are gone. -/
def chanSubmit (ci : Bool) (u ch cmd realm deadline : Nat) (s : State) : State :=
  setChan ci u ch { busy := true, cmd := cmd, realm := realm, deadline := deadline
                    fault := if ci then ciBad cmd else dgBad cmd } s

/-- The operation faults: a break of the order (R332). -/
def faulted (c : Chan) : Chan := { c with fault := true }

/-- A data word goes in: one or two bytes, the last one or not. -/
def takeData (c : Chan) (w : TW) (n : Nat) (last : Bool) : Chan :=
  { c with data := c.data ++ leBytes n w.val, tags := c.tags ++ [w.tag], fin := last }

/-- The key attributes that a shuttle's operation requires (R308, R338). -/
def keyAttrs (ci : Bool) (cmd : Nat) : Nat :=
  if ci then aApplet + (if bits cmd 15 13 = 4 then aMacg else if bit cmd 12 then aDec else aEnc)
  else aApplet + (if dgOp cmd = 1 then aMacv else aMacg) +
    (if dgImport cmd || dgOp cmd == 2 then aExport else 0)

/-- The key is named: the channel requests it over the key bus (R310, R323). -/
def chanKey (ci : Bool) (u ch : Nat) (c : Chan) (slot : Option Nat) (s : State) : State :=
  keyAsk { eng := if ci then 1 else 0, unit := u, ch := ch, slot := slot, realm := c.realm
           attrs := keyAttrs ci c.cmd, kinds := if ci then [1, 2] else [3] }
    (setChan ci u ch { c with keyed := true, keyWait := true } s)

/-- A write of a shuttle to a port of its digest engine, other than the key port: port offset from
0xF100. (DEDUCED, log 47) -/
def dgPut (c : Chan) (p : Nat) (w : TW) : Chan :=
  let ctxOk := !dgImport c.cmd || c.ctxIn.length == ctxWords (dgAlg c.cmd)
  let open_ := ctxOk && (!dgHmac c.cmd || c.keyed) && !c.fin
  if c.fault then c
  else if p = 2 then (if open_ then takeData c w 2 false else faulted c)
  else if p = 3 then (if open_ && dgOp c.cmd != 2 then takeData c w 2 true else faulted c)
  else if p = 4 then
    (if open_ && dgOp c.cmd != 2 && decide (w.val < 256) then takeData c w 1 true else faulted c)
  else if p = 5 then (if open_ && dgOp c.cmd == 2 then { c with fin := true } else faulted c)
  else if p = 6 then
    (if dgImport c.cmd && !ctxOk && !c.keyed && c.data.isEmpty && !c.fin then
      { c with ctxIn := c.ctxIn ++ [w.val] } else faulted c)
  else if 0x30 ≤ p ∧ p < 0x50 then
    (if dgOp c.cmd == 1 && ctxOk && !c.fin && decide (p - 0x30 < dgMacWords c.cmd) &&
        (mget none c.exps (p - 0x30)).isNone && decide (w.tag ≠ 2) then
      { c with exps := mset none c.exps (p - 0x30) (some w) } else faulted c)
  else faulted c

/-- The same for the cipher engine, port offset from 0xF180. -/
def ciPut (c : Chan) (p : Nat) (w : TW) : Chan :=
  let cmac := decide (bits c.cmd 15 13 = 4)
  let open_ := c.keyed && (cmac || c.iv.length == 8) && !c.fin && decide (c.data.length < 512)
  if c.fault then c
  else if p = 2 then (if open_ && decide (c.data.length + 2 ≤ 512) then takeData c w 2 false else faulted c)
  else if p = 3 then
    (if open_ && decide (c.data.length + 2 ≤ 512) then takeData c w 2 true else faulted c)
  else if p = 4 then (if open_ && decide (w.val < 256) then takeData c w 1 true else faulted c)
  else if 8 ≤ p ∧ p < 16 then
    (if !cmac && c.keyed && c.data.isEmpty && !c.fin && (mget none c.iv (p - 8)).isNone then
      { c with iv := mset none c.iv (p - 8) (some w) } else faulted c)
  else faulted c

/-- A key write is in its place (R332, R341). -/
def keyPlace (ci : Bool) (c : Chan) : Bool :=
  !c.keyed && !c.fin && c.data.isEmpty && c.iv.isEmpty &&
    (ci || (dgHmac c.cmd && (!dgImport c.cmd || c.ctxIn.length == ctxWords (dgAlg c.cmd))))

/-- What the final write leaves wrong: a missing expected word, a message of 2^32 bytes or more, CBC data
that is no whole number of blocks. -/
def finalBad (s : State) (ci : Bool) (c : Chan) : Bool :=
  if ci then decide (bits c.cmd 15 13 = 0 ∧ c.data.length % 16 ≠ 0)
  else (dgOp c.cmd == 1 && decide (c.exps.length < dgMacWords c.cmd)) ||
    decide (2 ^ 32 ≤ importCount s c + c.data.length)

/-! ### Completion (R333, R334, R342) -/

/-- A digest operation's outcome: MAC or digest bytes, and the context for EXPORT; none where the import
is not good. -/
def dgCompute (s : State) (c : Chan) : Option (List Byte × HashCtx) :=
  (dgStart s c).map (fun x =>
    let alg := dgAlg c.cmd
    let (h, rest) := shaAbsorb alg x.inner (x.rest ++ c.data)
    let total := x.count + c.data.length
    let y : HashCtx := { x with count := total, taint := x.taint || chanTaint c, inner := h, rest := rest }
    let keyed := if dgHmac c.cmd then shaB alg else 0
    let d := shaFinish alg (total + keyed) h rest
    (if dgHmac c.cmd then shaFinish alg (shaB alg + shaLen alg) x.outer d else d, y))

/-- The expected bytes of a VERIFY as a shuttle wrote them. -/
def expBytes (c : Chan) : List Byte :=
  (List.range (dgMacWords c.cmd)).flatMap (fun k => leBytes 2 ((mget none c.exps k).getD {}).val)

/-- A digest channel that completes. -/
def dgDone (s : State) (c : Chan) : Chan :=
  let cnt := dgCount s c
  if c.denied || finalBad s false c then { c with fault := true, done := true, cnt := cnt }
  else match dgCompute s c with
  | none => { c with fault := true, done := true, cnt := cnt }
  | some (d, x) =>
    if dgOp c.cmd = 0 then
      let ws := (bytesWords d).map BitVec.toNat
      let tag := if dgHmac c.cmd then 1 else if x.taint then 2 else 1
      { c with done := true, cnt := cnt, status := ws.length * 256, res := ws.map (fun v => ⟨tag, v⟩) }
    else if dgOp c.cmd = 1 then
      { c with done := true, cnt := cnt, status := if d.take (2 * dgMacWords c.cmd) = expBytes c then 0xA else 0x5 }
    else
      let ws := ctxExport s c.cmd c.realm x
      { c with done := true, cnt := cnt, status := ws.length * 256, ctxOut := ws }

/-- The IV that a shuttle wrote, and its tag. -/
def ivBytes (c : Chan) : List Byte := (List.range 8).flatMap (fun k => leBytes 2 ((mget none c.iv k).getD {}).val)
def ivTag (c : Chan) : Nat := (c.iv.map (fun p => (p.2.getD {}).tag)).foldl max 0

/-- The output of a cipher operation and the chaining value it leaves, with the latter's tag. -/
def ciCompute (mode : Nat) (dec : Bool) (key iv data : List Byte) (ivT lastT : Nat) :
    List Byte × List Byte × Nat :=
  let bs := chunks 16 data
  let full := decide (data.length % 16 = 0)
  let lastOf := fun (l : List Byte) => l.drop (l.length - 16)
  match mode with
  | 0 => if dec then (cbcDec key iv bs, lastOf data, lastT)
         else let o := cbcEnc key iv bs; (o, lastOf o, 1)
  | 1 => (ctr key [] 16 (beNat iv) data, beBytes 16 (beNat iv + bs.length), ivT)
  | 2 =>
    let o := if dec then cfbDec key iv bs else cfbEnc key iv bs
    if full then (o, lastOf (if dec then data else o), if dec then lastT else 1)
    else (o, List.replicate 16 0, 0)
  | 3 => (ofb key iv bs, lastOf (ofb key iv (List.replicate bs.length (List.replicate 16 0))), 2)
  | _ => (cmac key data, List.replicate 16 0, 0)

/-- A cipher channel that completes. -/
def ciDone (s : State) (c : Chan) : Chan :=
  if c.denied || finalBad s true c then { c with fault := true, done := true, cnt := c.data.length }
  else
    let mode := bits c.cmd 15 13
    let dec := bit c.cmd 12
    let lastT := (c.tags.drop (c.tags.length - 8)).foldl max 0
    let (o, ch, t) := ciCompute mode dec c.key (ivBytes c) c.data (ivTag c) lastT
    { c with done := true, cnt := c.data.length, status := (bytesWords o).length * 256
             res := (bytesWords o).map (fun w => ⟨if dec then 2 else 1, w.toNat⟩)
             ivOut := (bytesWords ch).map (fun w => ⟨t, w.toNat⟩) }

/-! ### Clearing (R345) -/

/-- The bytes that a channel has accepted, which its count shows whatever becomes of the operation (R330, R340). -/
def chanCount (s : State) (ci : Bool) (c : Chan) : Nat :=
  if c.done then c.cnt else if ci then c.data.length else dgCount s c

/-- Clear a channel: its operation faults and its results read POISON. What it held is zeroised; which writes it has taken
stays known, since its count goes on as if it had not been cleared (R330). -/
def clearedChan (cnt : Nat) (c : Chan) : Chan :=
  let blank := fun (m : KMap (Option TW)) => m.map (fun p => (p.1, some {}))
  { busy := c.busy, cmd := c.cmd, host := c.host, disp := c.disp, realm := c.realm, deadline := c.deadline
    cleared := true, fault := c.fault, keyed := c.keyed, ctxIn := c.ctxIn, data := List.replicate c.data.length 0
    exps := blank c.exps, iv := blank c.iv, fin := c.fin, done := c.done, poison := true, cnt := cnt }

/-- Clear a channel of an engine, with its requests on the key bus. -/
def chanClear (ci : Bool) (u ch : Nat) (s : State) : State :=
  let s1 := keyDropReqs (if ci then 1 else 0) u ch s
  setChan ci u ch (clearedChan (chanCount s1 ci (getChan s1 ci u ch)) (getChan s1 ci u ch)) s1

/-- A channel emptied altogether: the job that owned it has ended. -/
def chanFreeUp (ci : Bool) (u ch : Nat) (s : State) : State :=
  setChan ci u ch {} (keyDropReqs (if ci then 1 else 0) u ch s)

/-! ### Dispatcher operations (R256, R329, R346) -/

/-- Dispatcher channels in use on an engine. -/
def dispBusy (s : State) (ci : Bool) (u : Nat) : Nat :=
  ((List.range 4).filter (fun k => (getChan s ci u (8 + k)).busy)).length

/-- The cells that hold a TARGET, the smallest first: a shuttle's heddle, a heddle's loom (R11, R12). -/
def enclosing (t : Nat) : List Nat :=
  let heddle := 0x4000 + bits t 7 3 * 8
  let loom := 0x2000 + bits t 7 6 * 64
  match bits t 15 13 with
  | 1 => [t]
  | 2 => [t, loom]
  | 3 => [t, heddle, loom]
  | _ => []

/-- The cell that a command's work goes to: its TARGET, or the smallest cell around it that has a shuttle in service, else
the whole array (R12). -/
def effTarget (s : State) (w : List Word) : Nat :=
  ((enclosing (pTarget w)).find? (fun u =>
    (cellShuttles u).any (fun sh => shuttleInService s sh && !isSteward sh))).getD 0

/-- The realm whose placed work a heddle is kept for: its grant, or a revoked one until the record that shows the
revocation is published (R273). -/
def routeGrant (s : State) (h : Nat) : Option Nat :=
  match grantOf s h with
  | some r => some r
  | none => mget none s.adm.revoked h

/-- A heddle that takes a command's work: in service, its loom not throttled (R132), and not granted, or
within the cell that the packet's TARGET names (R255, R256). -/
def dispHeddle (s : State) (w : List Word) (h : Nat) : Bool :=
  let t := effTarget s w
  heddleInService s h && !loomThrottled s (loomOf h) &&
    (if t = 0 then (routeGrant s h).isNone
     else (cellHeddles t).contains h && decide (routeGrant s h = none ∨ routeGrant s h = some (pRealm w)))

/-- The time in ns that the operations of an engine still take the core before one of a deadline is complete: for each
whose turn comes first, its setup and its blocks (R323, R326). (DEDUCED, log 108) -/
def engineWait (s : State) (ci : Bool) (u deadline : Nat) : Nat :=
  ((getEng s ci u).chans.map (fun p =>
    if p.2.busy && !p.2.done && decide (p.2.deadline ≤ deadline) then
      let left := max 1 (chanBlocks s ci p.2) - p.2.blocks
      if ci then 67 + 67 * left else (if dgHmac p.2.cmd then 377 else 181) + (if dgAlg p.2.cmd = 0 then 59 else 74) * left
    else 0)).sum

/-- A dispatcher channel free on the engines a command needs: heddle and channel, those that complete it first, other
than the unit to avoid (R256). -/
def dispPlace (s : State) (w : List Word) (deadline : Nat) (dg ci : Bool) (avoid : Option Nat) : Option (Nat × Nat) :=
  let freeCh := fun h => (List.range 4).find? (fun k =>
    (!dg || !(getChan s false h (8 + k)).busy) && (!ci || !(getChan s true h (8 + k)).busy))
  let cands := (List.range 24).filter (fun h => dispHeddle s w h && (freeCh h).isSome)
  let cands := if cands.any (fun h => some h ≠ avoid) then cands.filter (fun h => some h ≠ avoid) else cands
  let wait := fun h => (if dg then engineWait s false h deadline else 0) + (if ci then engineWait s true h deadline else 0)
  let best := cands.foldl (fun (a : Option Nat) h => match a with
    | some b => if wait h < wait b then some h else a
    | none => some h) none
  best.bind (fun h => (freeCh h).map (fun k => (h, 8 + k)))

/-- A dispatcher operation enters a digest channel, its DUMMY setting CONSTANT (R329). `key` is none where no key is needed. -/
def dispDigest (c : Cmd) (h ch cmd : Nat) (op : DispOp) (msg : List Byte) (key : Option KeyReq) (s : State) : State :=
  let k : Chan := { busy := true, cmd := cmd ||| 0x0200, host := some c.id, disp := op, realm := c.fn, deadline := c.deadline
                    data := msg, tags := [1], fin := true, keyed := key.isSome, keyWait := key.isSome }
  match key with
  | some r => keyAsk { r with eng := 0, unit := h, ch := ch } (setChan false h ch k s)
  | none => setChan false h ch k s

/-- A dispatcher operation enters a cipher channel, its DUMMY setting CONSTANT (R329). -/
def dispCipher (c : Cmd) (h ch cmd : Nat) (op : DispOp) (iv msg : List Byte) (r : KeyReq) (s : State) : State :=
  let k : Chan := { busy := true, cmd := cmd ||| 0x0800, host := some c.id, disp := op, realm := c.fn, deadline := c.deadline
                    data := msg, tags := [1], fin := true, keyed := true, keyWait := true
                    iv := (bytesWords iv).zipIdx.foldl (fun m p => mset none m p.2 (some ⟨1, p.1.toNat⟩)) [] }
  keyAsk { r with eng := 1, unit := h, ch := ch } (setChan true h ch k s)

/-- The work of a command is complete. -/
def workDone (id : Nat) (denied ok : Bool) (bytes : List Byte) (s : State) : State :=
  { s with cmds := { s.cmds with admitted := s.cmds.admitted.map (fun d =>
    if d.id = id then { d with work := .done denied ok bytes } else d) } }

/-- A dispatcher's digest operation completes. -/
def dispDigestDone (u ch id : Nat) (c : Chan) (s : State) : State :=
  let d := match dgCompute s c with
    | some (d, _) => d
    | none => []
  let s1 := chanFreeUp false u ch s
  match c.disp with
  | .verify e => workDone id c.denied (decide (d.take e.length = e)) [] s1
  | .mac n => workDone id c.denied true (d.take n) s1
  | _ => workDone id c.denied true d s1

/-- A dispatcher's cipher operation completes; a derivation hands K_d to the digest channel of the same
number (R310). -/
def dispCipherDone (u ch id : Nat) (c : Chan) (s : State) : State :=
  match c.disp with
  | .derive x =>
    let g := getChan s false u ch
    let kd := kdf c.key [0x44, 0x51, 0x54, 0x47] x 256
    let e := getEng s true u
    chanFreeUp true u ch (setEng true u { e with extra := satInc e.extra 0xFFFF }
      (setChan false u ch { g with key := kd, keyWait := false, denied := c.denied } s))
  | _ =>
    let (o, _, _) := ciCompute (bits c.cmd 15 13) (bit c.cmd 12) c.key (ivBytes c) c.data 1 1
    workDone id c.denied true o (chanFreeUp true u ch s)

/-- The stage that a command has lost is to run again: its job, or its engine operation, other than on the unit to avoid; a
second loss ends the command with ABORTED_ALARM (R12, R131, R346). One removal may take several stages, so what counts is
the allowance in the state `was` before it; only removals are counted in AD_REDISPATCH and AD_ABORT2 (R144). -/
def redispatchFrom (was : State) (removal : Bool) (id : Nat) (job : Bool) (avoid : Option Nat) (s : State) : State :=
  let noted := fun (f : Adm → Adm) => if removal then { s with adm := f s.adm } else s
  match cmdOf s id with
  | none => s
  | some c =>
    if (cmdOf was id).any (fun d => decide (1 ≤ d.redispatched)) then
      finish c sAbortedAlarm [] [] (noted (fun a => { a with abort2 := satInc a.abort2 0xFFFFFFFF }))
    else setCmd { c with redispatched := 1, work := if job then c.work else .idle
                         stewardAt := if job then none else c.stewardAt
                         job := if job then .idle else c.job, avoid := avoid }
      (noted (fun a => { a with redispatch := satInc a.redispatch 0xFFFFFFFF }))

/-- A cleared engine state: the dispatcher runs the operation once more, on another engine (R346). -/
def rerunOp (id u : Nat) (s : State) : State := redispatchFrom s false id false (some u) s

/-- Every channel that works for a command is emptied. -/
def dropWork (id : Nat) (s : State) : State :=
  let clr := fun (ci : Bool) (t : State) => (List.range 24).foldl (fun t u => (List.range 4).foldl (fun t k =>
    if (getChan t ci u (8 + k)).host = some id then chanFreeUp ci u (8 + k) t else t) t) t
  let s1 := clr true (clr false s)
  { s1 with engs := { s1.engs with sg := s1.engs.sg.map (fun p => (p.1,
    { p.2 with queue := p.2.queue.filter (fun j => j.cmd ≠ id) })) } }

/-! ### The engine commands -/

/-- Channel a's next block goes before channel b's: the earlier deadline, among equal ones the block that became ready
first (R323). -/
def blockBefore (a b : Chan) : Bool :=
  decide (a.deadline < b.deadline) || (a.deadline == b.deadline && decide (a.ready.headD 0 < b.ready.headD 0))

/-- The channel whose block the core takes next (R323). -/
def nextBlock (s : State) (ci : Bool) (u : Nat) : Option Nat :=
  ((List.range 12).filter (fun k => blockReady s ci (getChan s ci u k))).foldl (fun (a : Option Nat) k =>
    match a with
    | some b => if blockBefore (getChan s ci u k) (getChan s ci u b) then some k else a
    | none => some k) none

/-- A unit's core works: its heddle is in service; the steward channels of core crypto always do. -/
def unitRuns (s : State) (u : Nat) : Bool := decide (24 ≤ u ∧ u < 28) || (decide (u < 24) && heddleInService s u)

/-- ENGINE_BLOCK_DONE: one block of one channel (R323). -/
def engineBlock (u : Nat) (ci : Bool) (s : State) : State :=
  if !unitRuns s u then s else
  match nextBlock s ci u with
  | none => s
  | some k =>
    let c := getChan s ci u k
    let s1 := setChan ci u k { c with blocks := c.blocks + 1 } s
    let e := getEng s1 ci u
    setEng ci u { e with blocks := satInc e.blocks 0xFFFFFFFF } s1

/-- Compressions and blocks that setup and finish add: the key pads and the outer hash; CMAC's L. -/
def extraBlocks (ci : Bool) (c : Chan) : Nat :=
  if ci then (if bits c.cmd 15 13 = 4 then 1 else 0)
  else if dgHmac c.cmd then (if dgImport c.cmd then 0 else 2) + (if dgOp c.cmd = 2 then 0 else 1) else 0

/-- ENGINE_OP_DONE: a channel whose blocks are all through completes (R333, R340). -/
def engineOp (u : Nat) (ci : Bool) (ch : Nat) (s : State) : State :=
  let c := getChan s ci u ch
  if !unitRuns s u || !chanFree ci c || !c.fin || decide (c.blocks < chanBlocks s ci c) then s else
  let e := getEng s ci u
  let s1 := setEng ci u { e with
    ops := satInc e.ops 0xFFFFFFFF, blocks := min 0xFFFFFFFF (e.blocks + extraBlocks ci c) }
    (if u < 24 then count 0x0C u s else s)
  match c.host with
  | some id => if ci then dispCipherDone u ch id c s1 else
      let bad := match c.disp with
        | .verify x => !c.denied && !decide ((((dgCompute s1 c).map Prod.fst).getD []).take x.length = x)
        | _ => false
      let e1 := getEng s1 ci u
      dispDigestDone u ch id c (if bad then setEng ci u { e1 with extra := satInc e1.extra 0xFFFF } s1 else s1)
  | none =>
    let d := if ci then ciDone s1 c else dgDone s1 c
    let d := { d with key := [], data := [], exps := [], poison := d.fault }
    let s2 := setChan ci u ch d s1
    let e2 := getEng s2 ci u
    if !ci && !d.fault && d.status == 0x5 then setEng ci u { e2 with extra := satInc e2.extra 0xFFFF } s2 else s2

/-! ### Signature engines (R324, R343) -/

def getSg (s : State) (g : Nat) : SigEng := mget {} s.engs.sg g
def setSg (g : Nat) (e : SigEng) (s : State) : State := { s with engs := { s.engs with sg := mset {} s.engs.sg g e } }

/-- The KINDs that an operation's key may have (R308, R343). -/
def sigKinds (alg : Nat) (verify : Bool) : List Nat :=
  if alg = 2 then (if verify then [4, 5] else [4]) else (if verify then [6, 7] else [6])

/-- The next operation of a signature engine starts: the earliest deadline; its key is requested. -/
def sigStart (g : Nat) (s : State) : State :=
  let e := getSg s g
  match e.cur, e.queue with
  | none, q :: qs =>
    let j := qs.foldl (fun a b => if b.deadline < a.deadline then b else a) q
    let e' := { e with cur := some j, curAt := s.now, queue := e.queue.erase j, denied := false }
    match j.fused with
    | true => setSg g { e' with keyWait := false, key := Config.firmwareKey, keyKind := 7 } s
    | false => keyAsk { eng := 2, unit := g, ch := 0, slot := j.slot, realm := j.realm, attrs := j.attrs
                        kinds := if j.fixedKind = 0 then sigKinds j.alg j.verify else [j.fixedKind] }
                (setSg g { e' with keyWait := true, key := [], keyKind := 0 } s)
  | _, _ => s

/-- The charge of a signature operation in ns (R126, R344). -/
def sigCharge (j : SigJob) : Nat :=
  if j.alg = 2 then (if j.verify then 118000 else 62000) else if j.verify then 96000 else 48000

/-- The time in ns after which an engine would start an operation of a deadline: what is left of the running one, and
every queued one that goes first. -/
def sigWait (s : State) (g deadline : Nat) : Nat :=
  let e := getSg s g
  (match e.cur with
   | some j => sigCharge j - 1000 * (s.now - e.curAt)
   | none => 0) + ((e.queue.filter (fun j => decide (j.deadline ≤ deadline))).map sigCharge).sum

/-- The signature engine that completes an operation first among those in service for a cell: those of its loom, or of any
loom for the whole array (R12, R256, R324). -/
def sigPlace (s : State) (target deadline : Nat) (avoid : Option Nat) : Option Nat :=
  let ok := fun g => loomInService s (g / 2) && !loomThrottled s (g / 2) && (target == 0 || bits target 7 6 == g / 2)
  let cands := (List.range 8).filter ok
  let cands := if cands.any (fun g => some g ≠ avoid) then cands.filter (fun g => some g ≠ avoid) else cands
  cands.foldl (fun (a : Option Nat) g => match a with
    | some b => if sigWait s g deadline < sigWait s b deadline then some g else a
    | none => some g) none

/-- A signature operation joins an engine's queue. -/
def sigSubmit (g : Nat) (j : SigJob) (s : State) : State :=
  let e := getSg s g
  sigStart g (setSg g { e with queue := e.queue ++ [j] } s)

/-- ECDSA's e: SHA-256 of the message, or the digest given (R171). -/
def ecDigest (prehashed : Bool) (m : List Byte) : List Byte := if prehashed then m else sha256 m

/-- The public point of a private scalar. -/
def p256Public (d : Nat) : List Byte :=
  let (x, y) := jAffine (jMulN 256 d p256G)
  beBytes 32 x ++ beBytes 32 y

/-- A verification with a key of a KIND (R343). -/
def sigCheck (kind : Nat) (key : List Byte) (pre : Bool) (m sig : List Byte) : Bool :=
  match kind with
  | 4 => ecdsaVerify (p256Public (beNat key)) (ecDigest pre m) sig
  | 5 => ecdsaVerify key (ecDigest pre m) sig
  | 6 => edVerify (edPublic key) m sig
  | 7 => edVerify key m sig
  | _ => false

/-- The nonce k of ECDSA: draws of 256 bits until one lies in [1, n − 1]; none after `fuel` draws outside it.
(DESIGN CHOICE, log 63) -/
def ecNonce : Nat → State → Option Nat × State
  | 0, s => (none, s)
  | f + 1, s =>
    let (x, t) := draw 0x20 s
    let k := x % 2 ^ 256
    if 0 < k ∧ k < p256N then (some k, t) else ecNonce f t

/-- An ECDSA signature with r and s not 0: a draw that gives a 0 is followed by one more (R343). -/
def ecSignature (d : Nat) (digest : List Byte) (s : State) : Option (List Byte) × State :=
  let good := fun (b : List Byte) => beNat (b.take 32) != 0 && beNat (b.drop 32) != 0
  let (k1, s1) := ecNonce 64 s
  match k1.map (fun k => ecdsaSign d k digest) with
  | none => (none, s1)
  | some b =>
    if good b then (some b, s1) else
    let (k2, s2) := ecNonce 64 s1
    ((k2.map (fun k => ecdsaSign d k digest)).filter good, s2)

/-- A signature engine's state is cleared; its operation runs once more elsewhere (R345, R346). -/
def sigClear (g : Nat) (s : State) : State :=
  let e := getSg s g
  let s1 := alarm 0x10 (0x10 + g / 2) 0 (Int.ofNat g) (keyDropReqs 2 g 0 s)
  let s2 := setSg g { e with clears := satInc e.clears 0xFFFF, cur := none, keyWait := false, key := [], keyKind := 0 } s1
  match e.cur with
  | some j => sigStart g (rerunOp j.cmd g s2)
  | none => s2

/-- The operation in a signature engine ends with a verdict and a signature: the counts are of signatures produced, of
verifications, and of those that end with MAC_MISMATCH (R350); the next one starts. -/
def sigEnd (g : Nat) (j : SigJob) (denied ok : Bool) (sig : List Byte) (s : State) : State :=
  let e := getSg s g
  let e1 := { e with cur := none, key := [], keyKind := 0, denied := false
                     signs := if j.verify || denied then e.signs else satInc e.signs 0xFFFFFFFF
                     verifies := if j.verify then satInc e.verifies 0xFFFFFFFF else e.verifies
                     rejects := if j.verify && !denied && !ok then satInc e.rejects 0xFFFF else e.rejects }
  sigStart g (workDone j.cmd denied ok sig (setSg g e1 (count 0x0C (0x20 + g) s)))

/-- SIGNATURE_OP_DONE: the operation in the engine completes and the next one starts (R324, R343). A denied one gives no
result. -/
def signatureDone (g : Nat) (s : State) : State :=
  let e := getSg s g
  match e.cur with
  | none => s
  | some j =>
    if e.keyWait || !loomInService s (g / 2) then s
    else if j.verify then sigEnd g j e.denied (!e.denied && sigCheck e.keyKind e.key j.prehashed j.msg j.sig) [] s
    else if e.denied then sigEnd g j true true [] s
    else if j.alg = 2 then
      match ecSignature (beNat e.key) (ecDigest j.prehashed j.msg) s with
      | (some b, t) => sigEnd g j false true b t
      | (none, t) => sigClear g t
    else sigEnd g j false true (edSign e.key j.msg) s

/-! ### Key deliveries (R310) -/

/-- KEY_DELIVERY: the oldest request on the bus is granted, or denied with a random pair of shares. (DEDUCED, log 62) -/
def keyDelivery (s : State) : State :=
  if !s.keys.busOpen then s else
  match s.keys.reqs with
  | [] => s
  | r :: rs =>
    let ok := keyUsable s r
    let k := reqSlot s r
    let (rnd, s1) := drawBytes 0x21 64 { s with keys := { s.keys with reqs := rs } }
    let key := if ok then slotKey k else rnd.take 32
    let s1 := count 0x0D (if ok then 0 else 1) s1
    let s2 := if ok then s1 else { s1 with keys := { s1.keys with denied := satInc s1.keys.denied 0xFFFFFFFF } }
    if r.eng = 2 then
      let e := getSg s2 r.unit
      setSg r.unit { e with keyWait := false, denied := !ok, key := key, keyKind := k.kind
                            denials := if ok then e.denials else satInc e.denials 0xFFFF } s2
    else
      let ci := decide (r.eng = 1)
      let c := getChan s2 ci r.unit r.ch
      let s3 := setChan ci r.unit r.ch { c with keyWait := false, denied := !ok, key := key
                                                keySlot := r.slot.getD 0, keyGen := k.keyGen, keyCtr := k.counter } s2
      let e := getEng s3 ci r.unit
      if ok then s3 else setEng ci r.unit { e with denied := satInc e.denied 0xFFFF } s3

/-- ENGINE_CLEAR: an integrity, parity or comparator fault clears a channel (0 digest, 1 cipher) or a
signature engine (2); the tamper system hears of it, and a dispatcher operation runs once more (R345,
R346). -/
def engineClear (kind u ch : Nat) (s : State) : State :=
  if kind = 2 then
    if 8 ≤ u then s else sigClear u s
  else
    let ci := decide (kind = 1)
    if 24 ≤ u ∨ 12 ≤ ch then s else
    let c := getChan s ci u ch
    let e := getEng s ci u
    let s1 := alarm 0x10 (0x20 + u) 0 0 (setEng ci u { e with clears := satInc e.clears 0xFFFF } s)
    match c.host with
    | some id => rerunOp id u (dropWork id s1)
    | none => chanClear ci u ch s1

end Sys2Proof.Machine
end

