-- ==== Sys2Proof/Machine/Jobs.lean ====
section
/-! DEFINITION. Jobs on shuttles: how they start (R206, R213, R234, R255, R258, R278), how they end (R228,
R232, R235, R285), locks and their breaking (R281 to R284), and removal of cells (R286, R287). -/

namespace Sys2Proof.Machine

/-! ### Shuttles -/

def getSh (s : State) (sh : Nat) : Shuttle := mget {} s.cells.shuttles sh

def setSh (sh : Nat) (x : Shuttle) (s : State) : State :=
  { s with cells := { s.cells with shuttles := mset {} s.cells.shuttles sh x } }

def getHd (s : State) (h : Nat) : Heddle := mget {} s.cells.heddles h

def setHd (h : Nat) (x : Heddle) (s : State) : State :=
  { s with cells := { s.cells with heddles := mset {} s.cells.heddles h x } }

/-- The cell path of a shuttle in TARGET form (R9). -/
def cellPath (sh : Nat) : Nat := 0x6000 + sh / 48 * 64 + sh / 8 % 6 * 8 + sh % 8

/-- The cell path of a removed cell: kind 3 a shuttle, 2 a heddle, 1 a loom. -/
def pathOf (kind n : Nat) : Nat :=
  if kind = 3 then cellPath n else if kind = 2 then 0x4000 + n / 6 * 64 + n % 6 * 8 else 0x2000 + n * 64

/-- The trace's JOB message (R474). -/
def traceJob (sh kind realm w : Nat) (s : State) : State :=
  if isSteward sh then s else trace 6 (kind * 1024 + realm) [cellPath sh, w] s

/-- The applet stage of a command ends. -/
def cmdJobEnd (id : Nat) (e : JobEnd) (s : State) : State :=
  { s with cmds := { s.cmds with admitted := s.cmds.admitted.map (fun d =>
    if d.id = id then { d with job := .ended e } else d) } }

/-! ### Locks (R281 to R284) -/

/-- Two shuttles share a lock index: jobs of one realm in one heddle, or steward shuttles. -/
def sameLocks (s : State) (a b : Nat) : Bool :=
  match (getSh s a).job, (getSh s b).job with
  | some x, some y => (isSteward a && isSteward b) || (!isSteward a && !isSteward b && a / 8 == b / 8 && x.realm == y.realm)
  | _, _ => false

/-- The shuttle that holds lock k as shuttle sh sees it. (DEDUCED, log 49) -/
def lockOwner (s : State) (sh k : Nat) : Option Nat :=
  (mkeys s.cells.shuttles).find? (fun a => (getSh s a).lock == some k && sameLocks s sh a)

/-- The shuttles that wait for it, by deadline and then by order of waiting. -/
def lockWaiters (s : State) (sh k : Nat) : List Nat :=
  (mkeys s.cells.shuttles).filter (fun a => (getSh s a).lockWait == some k && sameLocks s sh a)

/-- Nothing holds the lock or waits for it. -/
def lockFree (s : State) (sh k : Nat) : Bool := (lockOwner s sh k).isNone && (lockWaiters s sh k).isEmpty

/-- The lock taken by a shuttle's job, with what it records of its owner (R283). -/
def takeLock (k : Nat) (x : Shuttle) : Shuttle :=
  { x with lock := some k, lockWait := none, lockInc := x.inc
           lockSlot := (x.job.map Job.slot).getD 0, lockGen := (x.job.map Job.gen).getD 0 }

/-- A shuttle as it stands between jobs: its private memory is kept only on a steward shuttle (R205). -/
def idleShuttle (sh : Nat) (x : Shuttle) : Shuttle :=
  if isSteward sh then { inc := x.inc, priv := x.priv, freeAt := x.freeAt } else { inc := x.inc, freeAt := x.freeAt }

/-- A shuttle's job is gone: its engine channels are emptied (R235, R345). -/
def leaveJob (sh : Nat) (s : State) : State :=
  setSh sh { idleShuttle sh (getSh s sh) with freeAt := s.now }
    (chanFreeUp true (shUnit sh) (shChan sh) (chanFreeUp false (shUnit sh) (shChan sh) s))

/-- INCARNATION advances (R283). -/
def nextInc (sh : Nat) (s : State) : State := setSh sh { getSh s sh with inc := ((getSh s sh).inc + 1) % 65536 } s

/-- A job that an asynchronous event ends is gone: INCARNATION advances, and private memory is cleared on every shuttle
(R232, R283). (DEDUCED, log 109) -/
def dropJob (sh : Nat) (s : State) : State :=
  let t := nextInc sh (leaveJob sh s)
  setSh sh { getSh t sh with priv := [] } t

/-- A waiting job ends with its lock broken; its command with LOCK_BROKEN (R284). -/
def waiterEnds (sh : Nat) (s : State) : State :=
  match (getSh s sh).job with
  | some j => dropJob sh (cmdJobEnd j.cmd .lockBroken (traceJob sh 3 j.realm 0 s))
  | none => s

/-- The lock breaker makes a RESERVED record VOID, source 0x8002 (R284), unless it is found corrupt (R29); where the tick
takes no more of its entries, or no lookup of the reserve is left, later (R127, R128). -/
def breakerVoidSlot (slot gen : Nat) (s : State) : State :=
  let r := imageAt s slot
  if rState r = stReserved ∧ rGen r = gen ∧ (quarOf s slot).isNone ∧ s.jn.stopped = false then
    if otherLeft s = 0 ∨ lookupLeft s = false then
      { s with jn := { s.jn with heldWork := s.jn.heldWork ++ [.breaker slot gen] } }
    else
      let t := readSlot false slot (useLookup s)
      if slotGood t slot then (commitDelta slot (voidRec r (.internal 2)) (.internal 2) 0 (useOther 1 t)).2 else t
  else s

/-- The lock breaker and the record of the job that it ends; a steward job has none. -/
def breakerVoid (j : Job) (s : State) : State := if j.kind = 3 then s else breakerVoidSlot j.slot j.gen s

/-- The lock that a job holds is broken: every waiter's job ends; the break is logged (R283, R284). -/
def breakLock (sh : Nat) (s : State) : State :=
  let x := getSh s sh
  match x.lock, x.job with
  | some k, some j =>
    let ws := lockWaiters s sh k
    let s1 := logEvent 4 3 ([cellPath sh, j.realm, x.lockInc] ++ leNats 2 x.lockSlot ++ [x.lockGen]) s
    ws.foldl (fun t a => waiterEnds a t) (setSh sh { getSh s1 sh with lock := none } s1)
  | _, _ => s

/-! ### The output block of a job (R182, R207, R208) -/

def blk (b : List Nat) (i : Nat) : Nat := b.getD i 0

/-- Bytes of a run of output words. -/
def blkBytes (b : List Nat) (from_ len : Nat) : List Byte :=
  (((b.drop from_).take ((len + 1) / 2)).flatMap (leBytes 2)).take len

def blkPayload (b : List Nat) : List Byte := blkBytes b 0x10 (blk b 0)
def blkPrint (b : List Nat) : List Byte := blkBytes b 0x20 (blk b 1)
def blkPrefix (b : List Nat) : List Byte := blkBytes b 0x220 (blk b 2)
def blkSuffix (b : List Nat) : List Byte := blkBytes b 0x2A0 (blk b 3)

/-- Length of TAG_BYTES (R188). -/
def tagLen (b : List Nat) (auth : Nat) : Nat := ceilDiv (blk b 2 + (14 + blk b 0 + auth) + blk b 3) 4 * 4 + 4

/-- A compose block keeps its ranges, and for a tag its room. -/
def composeOk (b : List Nat) (tag : Bool) (auth : Nat) : Bool :=
  decide (blk b 0 ≤ 32 ∧ blk b 1 ≤ 1024 ∧ blk b 2 ≤ 255 ∧ blk b 3 ≤ 255) &&
  decide (bits (blk b 8) 14 12 = 0 ∧ blk b 9 < 2) && ((b.drop 10).take 6).all (fun w => w == 0) &&
  (!tag || (decide ((blk b 4 = 2 ∧ 4 ≤ blk b 5) ∨ (blk b 4 = 4 ∧ 2 ≤ blk b 5)) && decide (tagLen b auth ≤ 1024)))

/-- A validation block: VERDICT and OUT_CTRL. -/
def verdictOk (b : List Nat) : Bool := decide (bits (blk b 8) 14 12 = 0 ∧ blk b 9 < 2)

/-- The policy entry of an ISSUE. -/
def issuePolicy (c : Cmd) : List Word := (polAt c.table (pIssuePolicy c.words)).getD []

/-- An ISSUE needs an authenticator: every one but a tag record's issue to the host (R180). -/
def issueSigned (c : Cmd) (r : List Word) : Bool := !rTag r || (laneOf c.words).isSome

/-- The block that an ISSUE's compose job leaves is valid (R182, R208). -/
def composeBlockOk (c : Cmd) (r : List Word) (b : List Nat) : Bool :=
  let kind := polAuth (issuePolicy c)
  composeOk b (rTag r) (if issueSigned c r then authLen (if kind = 3 then 2 else kind) else 0)

/-- The block that a job leaves is valid for its command (R208). -/
def blockOk (s : State) (j : Job) (b : List Nat) : Bool :=
  match cmdOf s j.cmd with
  | some c => if j.kind = 1 then composeBlockOk c (imageAt s j.slot) b else if j.kind = 2 then verdictOk b else true
  | none => true

/-! ### Endings (R285) -/

/-- A job ends with a trap that no handler takes, or with JOB_DONE non-zero (R228, R235). (DEDUCED, log 54) -/
def endTrap (sh cause tinfo pc : Nat) (s : State) : State :=
  match (getSh s sh).job with
  | none => s
  | some j =>
    let s1 := breakLock sh s
    let hd := getHd s1 (sh / 8)
    let s2 := if isSteward sh then s1 else count 0x0B (sh / 8) (setHd (sh / 8) { hd with traps := satInc hd.traps 0xFFFF } s1)
    let s3 := traceJob sh 2 j.realm cause (logEvent 4 1 [cellPath sh, j.realm, cause, tinfo, pc] s2)
    leaveJob sh (cmdJobEnd j.cmd .trap s3)

/-- A job's budget reaches 0 (R232). -/
def endTimeout (sh : Nat) (s : State) : State :=
  match (getSh s sh).job with
  | none => s
  | some j =>
    let s1 := breakLock sh s
    let hd := getHd s1 (sh / 8)
    let s2 := count 0x0B (sh / 8) (setHd (sh / 8) { hd with timeouts := satInc hd.timeouts 0xFFFF } s1)
    let s3 := traceJob sh 3 j.realm 0 (logEvent 4 2 [cellPath sh, j.realm] s2)
    dropJob sh (cmdJobEnd j.cmd .timeout s3)

/-- The output words 0xE800 to 0xEB1F (R207). -/
def outWords800 (x : Shuttle) : List Nat := (List.range 0x320).map (fun i => (mget {} x.outMb (0xE800 + i)).val)

/-- JOB_DONE 0: the output passes to the dispatcher, unless the job holds a lock (R285); an invalid block ends the job as
JOB_DONE non-zero does. (DESIGN CHOICE, log 114) -/
def endDone (sh : Nat) (s : State) : State :=
  let x := getSh s sh
  match x.job with
  | none => s
  | some j =>
    match x.lock with
    | some _ => leaveJob sh (cmdJobEnd j.cmd .lockBroken (breakerVoid j (traceJob sh 1 j.realm 0 (breakLock sh s))))
    | none =>
      if blockOk s j (outWords800 x) then leaveJob sh (cmdJobEnd j.cmd (.block (outWords800 x)) (traceJob sh 1 j.realm 0 s))
      else endTrap sh 0x19 0 x.pc s

/-- A job is aborted: removal of its cell, a partial flip, or a lock broken by the steward (R131, R232, R283, R284). A lock
that it holds is broken under the INCARNATION that took it. -/
def abortJob (was : State) (sh : Nat) (s : State) : State :=
  let x := getSh s sh
  match x.job with
  | none => s
  | some j =>
    let s1 := traceJob sh 3 j.realm 0 s
    match x.lock with
    | some _ => dropJob sh (cmdJobEnd j.cmd .lockBroken (breakerVoid j (breakLock sh s1)))
    | none => redispatchFrom was true j.cmd true none (dropJob sh s1)

/-! ### Starting a job (R255) -/

/-- The bytes of a validation's credential, where they have arrived (R168). -/
def credOf (c : Cmd) : Option (List Byte) := if pByDesc c.words then inData c 0 else some (pCredInline c.words)

/-- The slot and generation of a command's record. -/
def cmdRecord (c : Cmd) : Nat × Nat :=
  if isValidate (cOp c) then
    let b := (credOf c).getD []
    (crSlot b, crGen b)
  else (pSlot c.words, pGen c.words)

/-- Word i of a bank's image. -/
def bankWords (s : State) (r b : Nat) : List Word := ((bankStore s r b).map BankStore.words).getD []

/-- A segment record of an image. -/
def segRec (im : List Word) (i : Nat) : List Word := (im.drop (imgSegAt im + 4 * i)).take 4

/-- The regions of a job: the segments that its mode word maps (R278). -/
def jobRegions (im : List Word) (blocks : List (List Nat)) (mode : Nat) : List Region :=
  (List.range (wd im 9)).filterMap (fun i =>
    let g := segRec im i
    let set := bits (wd g 2) 3 2
    if set = 0 ∨ set = bits mode 3 2 then
      some { vbase := wd g 0, len := wd g 1, r := bit (wd g 2) 0, w := bit (wd g 2) 1 && bit mode 1, blocks := blocks.getD i [] }
    else none)

/-- The key slots that an image declares, by HANDLE value: none where the slot is not the realm's or does
not carry APPLET_USE (R206, R264). -/
def jobKeys (s : State) (im : List Word) (realm : Nat) : List (Option Nat) :=
  (List.range 7).map (fun i =>
    if i < bits (wd im 8) 2 0 then
      let n := wd im (16 + i) % 1024
      let k := slotBus s n
      if k.state = ksLive ∧ k.realm = realm ∧ hasAttrs k aApplet then some n else none
    else none)

/-- List a run of words from an address. -/
def putWords (tag at_ : Nat) (ws : List Nat) (m : KMap TW) : KMap TW :=
  ws.zipIdx.foldl (fun m p => mput m (at_ + p.2) ⟨tag, p.1⟩) m

/-- The mailbox input of R206. -/
def jobMbox (s : State) (c : Cmd) (kind bank entry : Nat) (im : List Word) (keys : List (Option Nat)) : KMap TW :=
  let (slot, _) := cmdRecord c
  let r := imageAt s slot
  let base := recBase s r
  let pol := (imgPolicies im).getD (rPolicy r) []
  let inB := if kind = 1 then (if pHasIn c.words then (inData c 0).getD [] else []) else crPayload ((credOf c).getD [])
  let rec4 := (entryRec im entry).getD []
  let head := [kind, cOp c * 256, c.fn, ((bankOf (realmRow s c.fn) bank).map BankEntry.gen).getD 0, wd rec4 1, c.cls] ++
    leNats 2 c.cal ++ [dayE c.cal base, minuteE c.cal base]
  let m := putWords 0 0xE000 head []
  let m := mput m 0xE010 ⟨4, 0⟩
  let m := keys.zipIdx.foldl (fun m p => mput m (0xE011 + p.2) (match p.1 with
    | some _ => ⟨3, p.2⟩
    | none => ⟨0, 0⟩)) m
  let m := putWords 0 0xE020 ((padTo 16 0 r).map BitVec.toNat) m
  let m := putWords 0 0xE030 ((padTo 16 0 pol).map BitVec.toNat) m
  let m := mput m 0xE040 ⟨0, inB.length⟩
  putWords 1 0xE080 (((bytesWords inB).take 896).map BitVec.toNat) m

/-- The mailbox input of a steward job (R258). -/
def stewardMbox (c : Cmd) : KMap TW :=
  let inB := ((inData c 0).getD []).take 1792
  let head := [3, cOp c * 256, c.fn, 0, 0, c.cls] ++ leNats 2 c.cal ++ [0, 0]
  let m := putWords 0 0xE000 head []
  let m := putWords 0 0xE010 (List.replicate 8 0) m
  let m := putWords 0 0xE020 ((padTo 32 0 c.words).map BitVec.toNat) m
  let m := mput m 0xE040 ⟨0, inB.length⟩
  putWords 1 0xE080 ((bytesWords inB).map BitVec.toNat) m

/-- The registers at a job's start (R213). -/
def startShuttle (sh : Nat) (x : Shuttle) (j : Job) (cycles : Nat) : Shuttle :=
  { idleShuttle sh x with job := some j, inc := (x.inc + 1) % 65536, pc := j.entry, left := cycles
                          bp := [(0, 0xE000), (1, 0xE800), (3, 0x7FF6)] }

/-- The mode word and generation of a realm in force: those of its newest durable flip (R276). -/
def modeOf (s : State) (r : Nat) : Nat × Nat :=
  let w := rowOf s.realms.durable r
  (w.mode, w.modeGen)

/-- The heddle holds the bank: it is loaded and no load of it is under way (R255, R269). -/
def bankReady (s : State) (r b : Nat) : Bool :=
  (bankStore s r b).isSome && !s.cells.closed.contains (r * 2 + b)

/-- A shuttle takes a command's queued job: its pool (R119), its cell (R255), its bank. -/
def takesJob (s : State) (sh : Nat) (c : Cmd) : Bool :=
  match c.job with
  | .queued bank _ =>
    dispHeddle s c.words (sh / 8) && bankReady s c.fn bank &&
      (if c.cls = 0 then decide (sh % 8 < 4) else decide (4 ≤ sh % 8)) &&
      (effTarget s c.words == 0 || (cellShuttles (effTarget s c.words)).contains sh)
  | _ => false

/-- Among shuttles that became free in the same instant and take the command's job, the lowest device heddle and shuttle
goes first (R255). (DEDUCED, log 111) -/
def turnOf (s : State) (sh : Nat) (c : Cmd) : Bool :=
  (List.range sh).all (fun a => !(shuttleInService s a && !isSteward a && (getSh s a).job.isNone &&
    (getSh s a).freeAt == (getSh s sh).freeAt && takesJob s a c))

/-- The earliest deadline, then the earliest admitted. (DEDUCED, log 53) -/
def earliest (l : List Cmd) : Option Cmd :=
  l.foldl (fun a c => match a with
    | some b => if c.deadline < b.deadline then some c else a
    | none => some c) none

/-- An applet job starts on a shuttle. -/
def startApplet (sh : Nat) (c : Cmd) (bank entry : Nat) (s : State) : State :=
  let im := bankWords s c.fn bank
  let kind := if cOp c = 0x20 then 1 else 2
  let (slot, gen) := cmdRecord c
  let (mode, mg) := modeOf s c.fn
  let keys := jobKeys s im c.fn
  let j : Job := { cmd := c.id, kind := kind, realm := c.fn, bank := bank, entry := entry, deadline := c.deadline
                   slot := slot, gen := gen, mode := mode, modeGen := mg, codeLen := wd im 5
                   blocks := mget [] s.cells.progBlocks (c.fn * 2 + bank), locks := bits (wd im 8) 8 4, keys := keys
                   regions := jobRegions im (mget [] s.cells.segBlocks (c.fn * 2 + bank)) mode
                   mbox := jobMbox s c kind bank entry im keys }
  let cycles := wd ((entryRec im entry).getD []) 1
  let hd := getHd s (sh / 8)
  let s1 := setSh sh (startShuttle sh (getSh s sh) j cycles) s
  let s2 := setHd (sh / 8) { hd with jobs := satInc hd.jobs 0xFFFF } s1
  let s3 := count 0x0A (sh / 8) (traceJob sh 0 c.fn entry s2)
  { s3 with cmds := { s3.cmds with admitted := s3.cmds.admitted.map (fun d =>
    if d.id = c.id then { d with job := .running bank entry sh } else d) } }

/-- CODE_LEN of the steward code that runs. -/
def stewardLen (s : State) : Nat :=
  match fwRunning s with
  | some f => f.codeLen
  | none => 0

/-- A steward job starts: the earliest class-M command whose IN data has arrived (R258). LOG_READ takes NEXT from its start
(R484). -/
def startSteward (sh : Nat) (c : Cmd) (s : State) : State :=
  let (mode, mg) := modeOf s 0
  let j : Job := { cmd := c.id, kind := 3, realm := c.fn, bank := 0, entry := 0x20, deadline := c.deadline
                   slot := 0, gen := 0, mode := mode, modeGen := mg, codeLen := stewardLen s
                   blocks := (List.range 64).map (fun i => 448 + i), locks := 0, keys := [], regions := []
                   mbox := stewardMbox c }
  let s1 := setSh sh (startShuttle sh (getSh s sh) j 0) s
  { s1 with cmds := { s1.cmds with admitted := s1.cmds.admitted.map (fun d =>
    if d.id = c.id then { d with
      job := .running 0 0x20 sh, stewardAt := some s.now
      held := if cOp d = 0x90 then leNats 2 s.ob.logNext else d.held } else d) } }

/-- The IN data that a command waits for has all arrived. -/
def inReady (c : Cmd) : Bool :=
  (descDirs c.words).zipIdx.all (fun p => p.1 || (inData c p.2).isSome)

/-- JOB_START: a free shuttle takes the earliest job of its queues (R255, R258). -/
def jobStart (heddle shuttle : Nat) (s : State) : State :=
  let sh := heddle * 8 + shuttle
  if 24 ≤ heddle ∨ 8 ≤ shuttle ∨ shuttleInService s sh = false ∨ (getSh s sh).job.isSome ∨ s.jn.stopped then s
  else if isSteward sh then
    if loomThrottled s (sh / 48) then s else
    match earliest (s.cmds.admitted.filter (fun c => c.cls == 3 && c.job == .idle && inReady c)) with
    | some c => startSteward sh c s
    | none => s
  else
    match earliest (s.cmds.admitted.filter (takesJob s sh)) with
    | some c =>
      match c.job with
      | .queued bank entry => if turnOf s sh c then startApplet sh c bank entry s else s
      | _ => s
    | none => s

/-- A class-M command whose steward job ended in a trap, with nothing of it done, ends with APPLET_TRAP (R228).
(DEDUCED, log 54) -/
def stewardTraps (s : State) : State :=
  (s.cmds.admitted.filter (fun c => c.cls == 3 && (c.job == .ended .trap || c.job == .ended .lockBroken) && c.jsn.isNone &&
      c.step == 0)).foldl
    (fun t c => finish c (if c.job = .ended .trap then sAppletTrap else sLockBroken) [] [] t) s

/-- The job of a command that ends by itself is aborted: its lock is broken, its record VOID if RESERVED (R284). -/
def cutJob (sh : Nat) (s : State) : State :=
  match (getSh s sh).job with
  | some j =>
    let s1 := traceJob sh 3 j.realm 0 s
    dropJob sh (if (getSh s sh).lock.isSome then breakerVoid j (breakLock sh s1) else s1)
  | none => s

/-- A steward shuttle whose command has been answered is free again; a lock that its job still holds is broken. -/
def stewardsFree (s : State) : State :=
  [0, 48, 96, 144].foldl (fun t sh =>
    match (getSh t sh).job with
    | some j => if (cmdOf t j.cmd).isNone then leaveJob sh (breakLock sh t) else t
    | none => t) (stewardTraps s)

/-! ### Ends that come from outside the instruction -/

/-- CYCLE_BUDGET_EXHAUSTED: the budget of a job that waits, or that has none left, reaches 0 (R232). -/
def budgetOut (sh : Nat) (s : State) : State :=
  let x := getSh s sh
  match x.job with
  | some _ =>
    if isSteward sh then s
    else if x.left = 0 ∨ x.lockWait.isSome ∨ x.lrBusy = true ∨ x.dgOut = true ∨ x.ciOut = true then endTimeout sh s
    else s
  | none => s

/-- The shuttles that wait for lock k: of a realm's jobs in a heddle, or, from 64 on, of the steward shuttles (R281). -/
def lockCands (s : State) (heddle realm k : Nat) : List Nat :=
  (mkeys s.cells.shuttles).filter (fun a => (getSh s a).lockWait == some k &&
    (if 64 ≤ k then isSteward a
     else !isSteward a && decide (a / 8 = heddle) && ((getSh s a).job.map Job.realm) == some realm))

/-- LOCK_GRANT: a free lock goes to the waiter with the earliest deadline, then the one that has waited
longest (R282). -/
def lockGrant (heddle realm k : Nat) (s : State) : State :=
  let key := fun a => ((((getSh s a).job.map Job.deadline).getD 0), (getSh s a).waitNo)
  let best := (lockCands s heddle realm k).foldl (fun (a : Option Nat) b => match a with
    | some c => if (key b).1 < (key c).1 ∨ ((key b).1 = (key c).1 ∧ (key b).2 < (key c).2) then some b else a
    | none => some b) none
  match best with
  | some a => if (lockOwner s a k).isSome then s else setSh a (takeLock k (getSh s a)) s
  | none => s

/-- LR_READ_DONE: the record that the job's LREF names fills the ledger-read ports (R253). -/
def lrReadDone (sh : Nat) (s : State) : State :=
  let x := getSh s sh
  match x.job with
  | some j =>
    if x.lrBusy then
      let s1 := setSh sh { x with lrBusy := false, lr := imageAt s j.slot } (countRead j.slot s)
      { s1 with cmds := { s1.cmds with admitted := s1.cmds.admitted.map (fun d =>
        if d.id = j.cmd then needs d (imageFrame s j.slot) else d) } }
    else s
  | none => s

/-! ### Removal from service (R286, R287) -/

/-- The shuttles of a cell: kind 3 a shuttle, 2 a heddle, 1 a loom. -/
def shuttlesOf (kind n : Nat) : List Nat :=
  if kind = 3 then [n] else if kind = 2 then (List.range 8).map (fun i => 8 * n + i)
  else (List.range 48).map (fun i => 48 * n + i)

/-- Mark a cell out of service. -/
def markOut (kind n : Nat) (c : Cells) : Cells :=
  if kind = 3 then { c with shuttlesOut := c.shuttlesOut ||| (1#192 <<< n) }
  else if kind = 2 then { c with heddlesOut := c.heddlesOut ||| (1#24 <<< n) }
  else { c with loomsOut := c.loomsOut ||| (1#4 <<< n) }

/-- A heddle whose eight shuttles are out leaves, and a loom whose six heddles are out (R286). -/
def cascadeOut (c : Cells) : Cells :=
  let c := (List.range 24).foldl (fun c h =>
    if (List.range 8).all (fun i => c.shuttlesOut.getLsbD (8 * h + i)) then markOut 2 h c else c) c
  (List.range 4).foldl (fun c l =>
    if (List.range 6).all (fun i => c.heddlesOut.getLsbD (6 * l + i)) then markOut 1 l c else c) c

/-- The engine operations of removed heddles are cleared, and the dispatcher's run again (R287). -/
def clearUnits (was : State) (us : List Nat) (s : State) : State :=
  us.foldl (fun t u => (List.range 12).foldl (fun t k => [false, true].foldl (fun t ci =>
    match (getChan t ci u k).host with
    | some id => redispatchFrom was true id false (some u) (dropWork id t)
    | none => if (getChan t ci u k).busy then chanFreeUp ci u k t else t) t) t) s

/-- The signature engines of a removed loom are cleared. -/
def clearSigs (was : State) (gs : List Nat) (s : State) : State :=
  gs.foldl (fun t g =>
    let e := getSg t g
    let js := e.queue ++ (match e.cur with
      | some j => [j]
      | none => [])
    js.foldl (fun t j => redispatchFrom was true j.cmd false (some g) t)
      (setSg g { e with queue := [], cur := none, keyWait := false, key := [], keyKind := 0 } (keyDropReqs 2 g 0 t))) s

/-- Remove a cell: steps 1 to 5 of R287. Cause: 1 flip, 2 self-test, 3 L2 (R483). LOOM_IN follows the
looms in service while the device is in service. -/
def removeCell (kind n cause : Nat) (s0 : State) : State :=
  let s := noteLevels s0
  let before := s.cells
  let s1 := { s with cells := cascadeOut (markOut kind n s.cells) }
  let out := (List.range 192).filter (fun sh => !shuttleInService s1 sh &&
    (loomInService { s1 with cells := before } (sh / 48)) && !before.heddlesOut.getLsbD (sh / 8) && !before.shuttlesOut.getLsbD sh)
  let hs := (List.range 24).filter (fun h => !heddleInService s1 h && !before.heddlesOut.getLsbD h && !before.loomsOut.getLsbD (h / 6))
  let ls := (List.range 4).filter (fun l => !loomInService s1 l && !before.loomsOut.getLsbD l)
  let waiting := out.filter (fun sh => (getSh s1 sh).lockWait.isSome)
  let s2 := waiting.foldl (fun t sh => abortJob s sh t) s1
  let s3 := out.foldl (fun t sh => abortJob s sh t) s2
  let s4 := clearSigs s (ls.flatMap (fun l => [2 * l, 2 * l + 1])) (clearUnits s hs s3)
  let s5 := logEvent 4 4 [pathOf kind n, 0, cause] s4
  let keep := (List.range 4).foldl (fun (b : BitVec 4) l => if loomInService s5 l then b else b &&& ~~~ (1#4 <<< l)) s5.glb.loomIn
  { s5 with glb := { s5.glb with loomIn := keep } }

end Sys2Proof.Machine
end

