-- ==== Sys2Proof/Machine/Credential.lean ====
section
/-! DEFINITION. Composing and validating credentials (R35, R178 to R201), the host crypto opcodes (R171), and
what the dispatcher starts on engines and shuttles for an admitted command (R256, R446, R511). -/

namespace Sys2Proof.Machine

/-! ### Banks of a command (R181, R199) -/

/-- The bank of a realm that holds a generation, from the moment its BANK entry is durable, and to which jobs
are routed (R269). -/
def bankWith (s : State) (realm gen : Nat) : Option Nat :=
  [0, 1].find? (fun b => bankReady s realm b &&
    (match bankOf (rowOf s.realms.durable realm) b with
      | some e => e.gen == gen
      | none => false))

/-- The policy entry of a bank's own table at an index, where it is in use. -/
def bankPolicy (s : State) (realm b i : Nat) : Option (List Word) := polAt (imgPolicies (bankWords s realm b)) i

/-- The bank and entry that compose a record: none where no bank holds its generation; entry 0 where the bank
does not have the index in use. -/
def composeRun (s : State) (r : List Word) : Option (Nat × Nat) :=
  (bankWith s (rRealm r) (rAppGen r)).map (fun b =>
    (b, match bankPolicy s (rRealm r) b (rPolicy r) with
      | some p => bits (wd p 4) 14 0
      | none => 0))

/-- The bank and validation entry of a record for a command; none where no entry runs. -/
def validateRun (s : State) (c : Cmd) (r : List Word) : Option (Nat × Nat) :=
  let b := match bankWith s c.fn (rAppGen r) with
    | some b => some b
    | none => c.bank
  b.bind (fun b => (bankPolicy s c.fn b (rPolicy r)).bind (fun p =>
    if bits (wd p 5) 14 0 = 0 then none else some (b, bits (wd p 5) 14 0)))

/-! ### Images for a lane (R186 to R188) -/

/-- A tag body. -/
def tagBody (b : List Nat) (cred : List Byte) (gen : Nat) : List Byte :=
  let x := blkPrefix b ++ cred ++ blkSuffix b
  let x := padTo (ceilDiv x.length 4 * 4) 0 x ++ [0xC7] ++ beBytes 1 (gen % 256)
  x ++ beBytes 2 (crc16 x).toNat

/-- The hand-off descriptor and body of an image. -/
def laneImage (slot : Nat) (r : List Word) (b : List Nat) (cred : List Byte) : List Byte :=
  let tag := rTag r
  let body := if tag then tagBody b cred (rGen r) else blkPrint b ++ cred
  let kind := if tag then (if blk b 4 = 2 then 2 else 3) else 1
  let ws := [ofW (kind * 4096 + 0x100)] ++ leWords 2 slot ++
    [ofW (rGen r), ofW body.length, ofW (if tag then blk b 5 else blk b 1), ofW (rRealm r)]
  wordBytes (ws ++ [crc16 (wordBytes ws)]) ++ body

/-! ### Authenticators (R52, R185, R198, R308) -/

/-- The fixed-input context of K_d. -/
def divContext (realm slot gen keyGen : Nat) : List Byte :=
  beBytes 1 realm ++ beBytes 4 slot ++ beBytes 2 gen ++ beBytes 1 keyGen

/-- A key request of the dispatcher. -/
def dispReq (slot : Option Nat) (realm attrs : Nat) (kinds : List Nat) : KeyReq :=
  { eng := 0, unit := 0, ch := 0, slot := slot, realm := realm, attrs := attrs, kinds := kinds }

/-- Mark a command's engine work as under way. -/
def setRunning (id : Nat) (s : State) : State :=
  { s with cmds := { s.cmds with admitted := s.cmds.admitted.map (fun d => if d.id = id then { d with work := .running } else d) } }

/-- HMAC-SHA-256 of a credential under its family key, or under K_d. -/
def startHmac (c : Cmd) (op : DispOp) (msg : List Byte) (slot : Option Nat) (attr : Nat) (div : Option (List Byte))
    (s : State) : State :=
  match div with
  | none =>
    match dispPlace s c.words c.deadline true false c.avoid with
    | none => s
    | some (h, ch) => setRunning c.id (dispDigest c h ch 0x0800 op msg (some (dispReq slot c.fn attr [3])) s)
  | some ctx =>
    match dispPlace s c.words c.deadline true true c.avoid with
    | none => s
    | some (h, ch) =>
      let s1 := dispDigest c h ch 0x0800 op msg none s
      let s2 := setChan false h ch { getChan s1 false h ch with keyed := true, keyWait := true } s1
      setRunning c.id (dispCipher c h ch 0x8000 (.derive ctx) [] [] (dispReq slot c.fn (attr + aDerive) [2]) s2)

/-- A signature operation for a command. -/
def startSig (c : Cmd) (verify : Bool) (alg : Nat) (pre : Bool) (slot : Option Nat) (attrs : Nat) (msg sig : List Byte)
    (s : State) : State :=
  match sigPlace s (effTarget s c.words) c.deadline c.avoid with
  | none => s
  | some g => setRunning c.id (sigSubmit g { cmd := c.id, verify := verify, alg := alg, prehashed := pre, slot := slot
                                             realm := c.fn, attrs := attrs, msg := msg, sig := sig, deadline := c.deadline } s)

/-! ### The crypto opcodes (R171) -/

/-- IN data of descriptor k, once there. -/
def inOr (c : Cmd) (k : Nat) : List Byte := (inData c k).getD []

/-- KEY_SLOT and ALG of a crypto packet. -/
def pKeySlot (w : List Word) : Nat := wd w 8 % 1024

/-- Put a crypto opcode's work on an engine (R171, R308). -/
def startCrypto (c : Cmd) (s : State) : State :=
  let w := c.words
  let slot := some (pKeySlot w)
  let digest := fun (cmd : Nat) (op : DispOp) (req : Option KeyReq) =>
    match dispPlace s w c.deadline true false c.avoid with
    | none => s
    | some (h, ch) => setRunning c.id (dispDigest c h ch cmd op (inOr c 0) req s)
  match cOp c with
  | 0x30 => digest (wd w 9 % 4 * 4096 + 0x800) (.mac (wd w 10)) (some (dispReq slot c.fn (aMacg + aHost) [3]))
  | 0x31 => digest (wd w 9 % 4 * 4096 + 0x800) (.verify (inOr c 1)) (some (dispReq slot c.fn (aMacv + aHost) [3]))
  | 0x32 =>
    let mode := wd w 9 % 8
    let attr := if mode = 4 then aMacg else if bit (wd w 9) 3 then aDec else aEnc
    match dispPlace s w c.deadline false true c.avoid with
    | none => s
    | some (h, ch) => setRunning c.id (dispCipher c h ch (mode * 8192 + b2n (bit (wd w 9) 3) * 4096) .cipher
        (if mode = 4 then [] else wordBytes ((w.drop 10).take 8)) (inOr c 0) (dispReq slot c.fn (attr + aHost) [1, 2]) s)
  | 0x33 => startSig c false (if wd w 9 = 2 then 3 else 2) (wd w 9 == 1) slot (aSign + aHost) (inOr c 0) [] s
  | 0x34 => startSig c true (if wd w 9 = 2 then 3 else 2) (wd w 9 == 1) slot (aSigv + aHost) (inOr c 0) (inOr c 1) s
  | 0x35 => digest (wd w 8 % 4 * 4096) (.mac (hashLen (wd w 8 % 4))) none
  | _ => s

/-- A crypto opcode whose engine work is complete ends (R171). -/
def cryptoEnd (c : Cmd) (s : State) : State :=
  match c.work with
  | .done denied ok bytes =>
    if denied then finish c sNotPermitted [] [] s
    else match cOp c with
      | 0x31 | 0x34 => finish c (if ok then sOk else sMacMismatch) [] [] s
      | _ => finish c sOk [bytes.length] (outTo c 1 bytes) s
  | _ => s

/-! ### ISSUE (R170, R180 to R189, R198) -/

/-- How an ISSUE stands on the newest image of its record. -/
inductive IssuePlan where
  /-- A stage is still to come. -/
  | wait
  /-- It ends with a status and commits nothing. -/
  | stop (status : Nat) (results : List Nat)
  /-- Its record's hold timer has elapsed (R181). -/
  | timeout
  /-- The record goes to VOID with this status (R31, R182, R198). -/
  | void (status : Nat)
  /-- Composed: the output block and the credential. -/
  | emit (block : List Nat) (cred : List Byte)
  deriving DecidableEq, Repr

/-- W8, W9, W10, W11 of an ISSUE (R170). -/
def issueWords (r : List Word) (outLen seq : Nat) : List Nat := [rState r * 4096, outLen, seq % 65536, wd r 12]

/-- The bytes that an ISSUE writes to OUT (R170, R180). -/
def issueOut (c : Cmd) (r : List Word) (b : List Nat) (cred : List Byte) : List Byte :=
  if !pHasOut c.words then [] else blkPrint b ++ (if rTag r then cred.take (14 + blk b 0) else cred)

/-- Steps 5 to 8, the hold timer, the state, the policy and the lane's version (R170, R181, R189). (DESIGN CHOICE, log 131) -/
def issueCheck (s : State) (c : Cmd) : Option IssuePlan :=
  let slot := pSlot c.words
  let r := imageAt s slot
  let stop := fun st => some (IssuePlan.stop st (issueWords r 0 0))
  match slotChecks s c.fn slot (pGen c.words) with
  | some st => stop st
  | none =>
    if timedOut s r then some .timeout
    else if rState r ≠ stReserved ∨ rPolicy r ≠ pIssuePolicy c.words then stop sSlotState
    else if rTag r && (match laneOf c.words with
        | some l => decide ((getLane s l).linkVer = 1)
        | none => false) then some (.stop sBadParam [11])
    else none

/-- The key that an ISSUE's authenticator needs, and what R308 asks of it. -/
def issueReq (s : State) (c : Cmd) (r : List Word) (p : List Word) : KeyReq :=
  let slot := familySlot s c.fn (polFamily p) (rKeyGen r)
  if polAuth p < 2 then
    if polDiversify p then dispReq slot c.fn (aMacg + aDerive) [2] else dispReq slot c.fn aMacg [3]
  else dispReq slot c.fn aSign (sigKinds (polAuth p) false)

/-- Where an ISSUE stands. Of the ends that R170 and R198 give and do not rank, an unusable key comes before an OUT that is
too short; the version of the lane (R189) is looked at after STATE and POLICY and before the applet's bank
(DESIGN CHOICE, log 131). -/
def issuePlan (s : State) (c : Cmd) : IssuePlan :=
  let slot := pSlot c.words
  let r := imageAt s slot
  let p := issuePolicy c
  let kind := polAuth p
  if c.job = .ended .lockBroken then .stop sLockBroken (issueWords r 0 0) else
  match issueCheck s c with
  | some x => x
  | none =>
    match c.job with
    | .idle =>
      match composeRun s r with
      | none => .stop sSlotState (issueWords r 0 0)
      | some (_, 0) => .void sAppletTrap
      | some _ => .wait
    | .ended .trap => .void sAppletTrap
    | .ended .timeout => .void sAppletTimeout
    | .ended .lockBroken => .stop sLockBroken (issueWords r 0 0)
    | .ended (.block b) =>
      let alen := authLen (if kind = 3 then 2 else kind)
      if !composeBlockOk c r b then .void sAppletTrap
      else
        let msg := credHeader slot r kind (blk b 0) ++ blkPayload b
        let ready := fun (cred : List Byte) =>
          if pHasOut c.words && decide (descLen c.words (b2n (pHasIn c.words)) < (issueOut c r b cred).length) then
            IssuePlan.stop sBadParam [] else .emit b cred
        match issueSigned c r, c.work with
        | true, .done true _ _ => .void sAppletTrap
        | true, .done false _ a => ready (msg ++ a.take alen)
        | signed, _ =>
          if (familySlot s c.fn (polFamily p) (rKeyGen r)).isNone then .void sAppletTrap
          else if signed then .wait
          else if keyUsable s (issueReq s c r p) then ready msg else .void sAppletTrap
    | _ => .wait

/-- What the dispatcher starts next for an ISSUE: its compose job, then its authenticator. -/
def issueNext (c : Cmd) (s : State) : State :=
  let slot := pSlot c.words
  let r := imageAt s slot
  let p := issuePolicy c
  if !c.lookupDone || !inReady c then s else
  match issuePlan s c, c.job with
  | .wait, .idle =>
    match composeRun s r with
    | some (b, e) => setCmd { c with job := .queued b e } s
    | none => s
  | .wait, .queued b _ =>
    if bankReady s c.fn b then s else setCmd { c with job := .idle } s
  | .wait, .ended (.block b) =>
    if c.work ≠ .idle then s else
    let msg := credHeader slot r (polAuth p) (blk b 0) ++ blkPayload b
    let key := familySlot s c.fn (polFamily p) (rKeyGen r)
    if polAuth p < 2 then
      startHmac c (.mac (authLen (polAuth p))) msg key aMacg
        (if polDiversify p then some (divContext (rRealm r) slot (rGen r) (rKeyGen r)) else none) s
    else startSig c false (polAuth p) false key aSign msg [] s
  | _, _ => s

/-- The ISSUE row: an end that commits nothing, or the way is clear for the ledger unit and the lane.
(DEDUCED, log 43) -/
def issueEnd (c : Cmd) (s : State) : State :=
  if !c.lookupDone || !inReady c || c.step ≠ 0 then s else
  match issuePlan s c with
  | .wait => s
  | .stop st rs => finish (needs c (imageFrame s (pSlot c.words))) st rs [] s
  | _ => setCmd { c with step := 1 } s

/-- The record that an emission writes: APP_DATA of the applet's intent. -/
def appData (r : List Word) (b : List Nat) : List Word := setW (setW r 13 (blk b 6)) 14 (blk b 7)

/-- LEDGER_APPLY of an ISSUE: VOID, or APP_DATA of an emission to the host (R31, R181, R182). -/
def issueApply (c : Cmd) (s : State) : State :=
  let slot := pSlot c.words
  let r := imageAt s slot
  match issuePlan s c with
  | .wait => setCmd { c with step := 0 } s
  | .stop st rs => finish (needs c (imageFrame s slot)) st rs [] s
  | .timeout =>
    if otherLeft s = 0 then s else
    let (j, t) := applyTimeout slot (cOrigin c) sSlotState s
    finish (withJsn c j) sSlotState (issueWords (imageAt t slot) 0 0) [] t
  | .void st =>
    let (j, t) := commitDelta slot (voidRec r (cOrigin c)) (cOrigin c) st s
    finish (withJsn c j) st (issueWords (imageAt t slot) 0 0) [] t
  | .emit b cred =>
    if (laneOf c.words).isSome then s else
    let o := issueOut c r b cred
    let (j, t) := commitDelta slot (appData r b) (cOrigin c) sOk s
    finish (withJsn c j) sOk (issueWords (imageAt t slot) o.length 0)
      (outTo c (b2n (pHasIn c.words)) o) t

/-! ### Validation (R35, R36, R168, R169, R197, R511) -/

/-- The ways of steps 5 to 15. -/
inductive Judged where
  /-- A status, and whether step 11 was reached. -/
  | fail (status : Nat) (shown : Bool)
  /-- Step 12 finds the record expired. -/
  | expire
  /-- Step 10 finds a timeout elapsed. -/
  | timeout
  | pass
  deriving DecidableEq, Repr

/-- Step 1 of R35, and the copy of byte 0 (R168). -/
def credFormBad (c : Cmd) (b : List Byte) : Bool :=
  (pByDesc c.words && decide ((b.getD 0 0).toNat ≠ wd c.words 9 % 256)) || decide (crVersion b ≠ 1) ||
    decide (crAuth b = 3) || decide (32 < crPayLen b) || decide (crRes b ≠ 0) ||
    decide (b.length ≠ 14 + crPayLen b + authLen (crAuth b))

/-- The policy entry of step 3: in use, with the credential's authenticator kind. -/
def credPolicy (c : Cmd) (b : List Byte) : Option (List Word) :=
  match polAt c.table (crPolicy b) with
  | some p => if (if polAuth p = 3 then 2 else polAuth p) = crAuth b then some p else none
  | none => none

/-- Steps 1 to 4, with the authenticator check's outcome. -/
def credHeadBad (c : Cmd) (b : List Byte) (ok : Bool) : Option Nat :=
  if credFormBad c b then some sBadParam
  else if crRealm b ≠ c.fn then some sNotPermitted
  else if (credPolicy c b).isNone || !ok then some sMacMismatch
  else none

/-- Step 15 (R43). -/
def genWindowsOk (s : State) (c : Cmd) (r p : List Word) : Bool :=
  let g := ((c.bank.bind (bankOf (realmRow s c.fn))).map BankEntry.gen).getD (rAppGen r)
  let k := mget 0 (realmRow s c.fn).curGen (polFamily p)
  decide ((g + 256 - rAppGen r) % 256 ≤ 127) && decide ((k % 256 + 256 - rKeyGen r) % 256 ≤ 127)

/-- Steps 5 to 15 on the newest image; REVALIDATE does not apply the reuse gap of step 14 (R169). -/
def judgeRecord (s : State) (c : Cmd) (b : List Byte) : Judged :=
  let slot := crSlot b
  let r := imageAt s slot
  let base := recBase s r
  let day := dayE s.clk.cal base
  let used := (rLimit r ≠ 0 ∧ rLimit r ≤ rUse r) ∨
    (0 < rUse r ∧ secsE s.clk.cal base < rTime r + polField s r 1)
  match slotChecks s c.fn slot (crGen b) with
  | some st => .fail st false
  | none =>
    if crPolicy b ≠ rPolicy r ∨ crFrom b ≠ rFrom r ∨ crTo b ≠ rTo r ∨ crKeyGen b ≠ rKeyGen r then .fail sMacMismatch false
    else if timedOut s r then .timeout
    else if rState r = stExhausted then .fail sUsed true
    else if rState r = stExpired then .fail sExpired true
    else if ¬(rState r = stIssued ∨ rState r = stActive ∨ rState r = stUnconfirmed) then .fail sSlotState true
    else if s.clk.cal < base then .fail sNotYet true
    else if ended r day then .expire
    else if !begun r day then .fail sNotYet true
    else match windowTest r day (minuteE s.clk.cal base) with
      | 1 => .fail sNotYet true
      | 2 => .fail sExpired true
      | _ =>
        if cOp c ≠ 0x23 ∧ used then .fail sUsed true
        else if !genWindowsOk s c r ((credPolicy c b).getD []) then .fail sSlotState true
        else .pass

/-- W8 to W14 of a validation (R169). -/
def valWords (r : List Word) (verdict : Nat) : List Nat :=
  [wd r 1, rLimit r] ++ leNats 2 (rTime r) ++ [rSource r, verdict]

/-- The record after a consumption (R31). -/
def consumed (s : State) (c : Cmd) (r : List Word) : List Word :=
  let u := if rUse r < 0xFFF then rUse r + 1 else 0xFFF
  let st := if rLimit r ≠ 0 ∧ u = rLimit r then stExhausted else stActive
  setW (setPair (setState (setUse r u) st) 8 (secsE s.clk.cal (recBase s r))) 10 (sourceWord (cOrigin c))

/-- What the validation entry of a command says: no entry, still to come, an end, or VERDICT and the APP_DATA
intent. -/
inductive Verdict where
  | wait
  | stop (status : Nat)
  | done (word : Nat) (app : Option (Nat × Nat))
  deriving DecidableEq, Repr

def verdictOf (s : State) (c : Cmd) (r : List Word) : Verdict :=
  match c.job with
  | .idle => if (validateRun s c r).isNone then .done 0 none else .wait
  | .ended .trap => .stop sAppletTrap
  | .ended .timeout => .stop sAppletTimeout
  | .ended .lockBroken => .stop sLockBroken
  | .ended (.block b) =>
    if !verdictOk b then .stop sAppletTrap
    else .done (blk b 8) (if bit (blk b 9) 0 then some (blk b 6, blk b 7) else none)
  | _ => .wait

/-- Start the authenticator check of a credential (R52, R198). Where no entry of the policy table can be used
the check still runs to completion, on no key (R446). -/
def startCheck (c : Cmd) (b : List Byte) (s : State) : State :=
  let p := (credPolicy c b).getD []
  let key := if (credPolicy c b).isSome then familySlot s c.fn (polFamily p) (crKeyGen b) else none
  if crAuth b < 2 then
    startHmac c (.verify (padTo (authLen (crAuth b)) 0 (crAuthBytes b))) (crMessage b) key aMacv
      (if polDiversify p then some (divContext (crRealm b) (crSlot b) (crGen b) (crKeyGen b)) else none) s
  else startSig c true (if polAuth p = 3 then 3 else 2) false key aSigv (crMessage b) (crAuthBytes b) s

/-- The checks are through: the lookup is released and the authenticator check complete. -/
def checksDone (c : Cmd) : Option (List Byte × Bool) :=
  match c.lookupDone, credOf c, c.work with
  | true, some b, .done denied ok _ => some (b, ok && !denied)
  | _, _, _ => none

/-- What the dispatcher starts next for a validation. -/
def validateNext (c : Cmd) (s : State) : State :=
  match credOf c with
  | none => s
  | some b =>
    if c.work = .idle then startCheck c b s else
    match checksDone c, c.job with
    | some (_, ok), .idle =>
      if (credHeadBad c b ok).isNone && judgeRecord s c b == .pass then
        match validateRun s c (imageAt s (crSlot b)) with
        | some (bk, e) => setCmd { c with job := .queued bk e } s
        | none => s
      else s
    | _, .queued bk _ => if bankReady s c.fn bk then s else setCmd { c with job := .idle } s
    | _, _ => s

/-- End a validation that commits nothing. -/
def validateStop (c : Cmd) (b : List Byte) (status : Nat) (results : List Nat) (s : State) : State :=
  finish (needs c (imageFrame s (crSlot b))) status results [] s

/-- The validation rows: judged once every check and the validation entry are through. -/
def validateEnd (c : Cmd) (s : State) : State :=
  match checksDone c with
  | none => s
  | some (b, ok) =>
    if c.step ≠ 0 then s else
    let r := imageAt s (crSlot b)
    if c.job = .ended .lockBroken then validateStop c b sLockBroken (valWords r 0) s else
    match credHeadBad c b ok with
    | some st => finish c st [] [] s
    | none =>
      match judgeRecord s c b with
      | .fail st shown => validateStop c b st (if shown then valWords r 0 else []) s
      | .expire => if cOp c = 0x22 then setCmd { c with step := 1 } s else validateStop c b sExpired (valWords r 0) s
      | .timeout => if cOp c = 0x22 then setCmd { c with step := 1 } s
          else validateStop c b sSlotState (valWords (setState r stVoid) 0) s
      | .pass =>
        match verdictOf s c r with
        | .wait => s
        | .stop st => validateStop c b st (valWords r 0) s
        | .done v _ =>
          if cOp c = 0x22 ∧ bit v 15 = false then setCmd { c with step := 1 } s
          else validateStop c b sOk (valWords r v) s

/-- LEDGER_APPLY of a VALIDATE_CONSUME: steps 5 to 15 again on the newest image, then its change (R36, R511). -/
def consumeApply (c : Cmd) (s : State) : State :=
  match checksDone c with
  | none => s
  | some (b, _) =>
    let slot := crSlot b
    let r := imageAt s slot
    let o := cOrigin c
    if c.job = .ended .lockBroken then validateStop c b sLockBroken (valWords r 0) s else
    let commit := fun (new : List Word) (st v : Nat) (s : State) =>
      let (j, t) := commitDelta slot new o st s
      finish (withJsn c j) st (valWords (imageAt t slot) v) [] t
    match judgeRecord s c b with
    | .fail st shown => validateStop c b st (if shown then valWords r 0 else []) s
    | .expire => commit (setW (setState r stExpired) 10 (sourceWord o)) sExpired 0 s
    | .timeout => if otherLeft s = 0 then s else commit (voidRec r o) sSlotState 0 (useOther 1 s)
    | .pass =>
      match verdictOf s c r with
      | .wait => setCmd { c with step := 0 } s
      | .stop st => validateStop c b st (valWords r 0) s
      | .done v app =>
        if bit v 15 then validateStop c b sOk (valWords r v) s
        else
          let new := consumed s c r
          commit (match app with
            | some (lo, hi) => setW (setW new 13 lo) 14 hi
            | none => new) sOk v s

/-! ### LEDGER_APPLY and the dispatcher -/

/-- LEDGER_APPLY: a command whose stages are complete appends its change (R511). -/
def ledgerApply (id : Nat) (s : State) : State :=
  match cmdOf s id with
  | none => s
  | some c =>
    if s.jn.stopped || c.step ≠ 1 then s
    else if cOp c = 0x20 then issueApply c s
    else if cOp c = 0x22 then consumeApply c s
    else s

/-- What the dispatcher starts next for one command. -/
def advance (c : Cmd) (s : State) : State :=
  let op := cOp c
  if op = 0x20 then issueNext c s
  else if isValidate op then validateNext c s
  else if 0x30 ≤ op ∧ op ≤ 0x35 then (if inReady c && c.work == .idle then startCrypto c s else s)
  else s

/-- The dispatcher serves every admitted command, in order of admission. -/
def advanceAll (s : State) : State :=
  if s.jn.stopped then s else
  (s.cmds.admitted.map Cmd.id).foldl (fun t i => match cmdOf t i with
    | some c => advance c t
    | none => t) s

end Sys2Proof.Machine
end

