-- ==== Sys2Proof/Machine/Queues.lean ====
section
/-! DEFINITION. Queue pairs and host windows (R146 to R161, R176, R420), host reads (R159, R406), lookups
(R29, R446), and the writing of replies (R112, R133, R149 to R152, R162). -/

namespace Sys2Proof.Machine

/-! ### BAR access -/

/-- A function that exists: the PF, or a VF that is enabled (R405). -/
def fnThere (s : State) (fn : Nat) : Bool := fn == 0 || (s.host.vfEnable && decide (fn ≤ s.host.numVfs) && decide (fn < 32))

/-- Accesses of the host reach the part: the link is up, from the Registers phase on (R460). -/
def hostReaches (s : State) : Bool := s.clk.supply && !heldReset s && s.host.linkUp && s.start.done.contains .registers

/-- A function answers on its BARs: BAR0 answers from the Registers phase on, the link is up, the function has
memory space, is not in D3hot, and, for a VF, is enabled (R405, R408, R460). (DEDUCED, log 39) -/
def barOpen (s : State) (fn : Nat) : Bool :=
  hostReaches s && (getFn s fn).memEn && !(getFn s fn).d3 && (fn == 0 || (s.host.vfEnable && decide (fn ≤ s.host.numVfs)))

/-- An access that no open BAR takes, as the base specification has it: an Unsupported Request, recorded by the function
where it exists; a read completes with that status, a write is reported (R408). (PRESUMED, log 136) -/
def disabledBar (fn : Nat) (write : Bool) (s : State) : State :=
  if !hostReaches s then s else
  let t := if fnThere s fn then aerLog fn 20 s else s
  if write then (if fnThere s fn then reportErr fn (emit (.aer fn false) t) else t) else emit (.unsupported fn) t

/-- BAR0 takes writes of every register: not in LOCKDOWN, which takes only the log and counter selections, and not in
SCUTTLED (R21, R414). -/
def barWrites (s : State) (fn : Nat) : Bool :=
  barOpen s fn && s.glb.service ≠ svLockdown && s.glb.lifecycle ≠ lcScuttled

/-- An ignored configuration write is logged with its function and address (R420). -/
def ignLog (fn addr : Nat) (s : State) : State := logEvent 9 1 (fn :: leNats 2 addr) s

/-- Offset of a pair's registers, and of a window's (R152, R160). -/
def pairAddr (pair : Nat) : Nat := 0x400 + 0x40 * pair
def winAddr (w : Nat) : Nat := 0x800 + 0x40 * w

/-- A window of a function. -/
def getWin (s : State) (fn w : Nat) : Window := mget {} (getFn s fn).windows w
def setWin (fn w : Nat) (v : Window) (s : State) : State :=
  let f := getFn s fn
  setFn fn { f with windows := mset {} f.windows w v } s

/-! ### Fetching (R147, R148) -/

/-- Entries of a submission queue whose read has not been requested. -/
def sqWaiting (q : QPair) : Nat := sqQueued q - q.fetching.length

/-- The fetcher requests packets of a live pair while fewer than five are fetched or on their way (R148, R153,
R176, R408, R461). -/
def fetchMore (fn pair : Nat) (s : State) : State :=
  let f := getFn s fn
  let q := getPair s fn pair
  let n := min (5 - q.fetched.length - q.fetching.length) (sqWaiting q)
  if n = 0 ∨ (q.live && q.enable && q.fault == 0 && s.adm.opened && s.host.linkUp && f.busEn && !f.d3 &&
      !s.jn.stopped) = false then s
  else
    let idx := (List.range n).map (fun k => (q.sqHead + q.fetching.length + k) % (q.sqSize + 1))
    idx.foldl (fun t i => emit (.dmaRead fn (q.sqBase + 64 * i) 64) t)
      (setPairOf fn pair { q with fetching := q.fetching ++ idx.map (fun i => (i, s.now)) } s)

/-- A pair whose ENABLE is 0 leaves LIVE once its last reply is written (R176). -/
def liveCheck (fn pair : Nat) (s : State) : State :=
  let q := getPair s fn pair
  if q.live && !q.enable && owed s fn pair == 0 then
    setPairOf fn pair { q with live := false, fetched := [], fetching := [], headAt := none, decided := none, flushLeft := 0 } s
  else s

/-- Every pair makes what progress it can: the head, the fetcher, the end of a drain. -/
def pumpQueues (s : State) : State :=
  s.host.fns.foldl (fun t f => (mkeys f.2.pairs).foldl (fun t p =>
    liveCheck f.1 p (fetchMore f.1 p (markHead f.1 p t))) t) s

/-! ### Doorbells (R147, R154) -/

/-- An ignored doorbell or write of a pair is counted. -/
def pairIgn (fn pair : Nat) (s : State) : State :=
  let q := getPair s fn pair
  setPairOf fn pair { q with ign := satInc q.ign 0xFF } s

/-- SQ_TAIL_DOORBELL. -/
def sqTailWrite (fn pair value : Nat) (s : State) : State :=
  let v := value % 4096
  let q := getPair s fn pair
  if 8 < pair ∨ barWrites s fn = false then s
  else if !q.live || !q.enable then pairIgn fn pair s
  else if q.sqSize < v then setPairOf fn pair { q with fault := if q.fault = 0 then 6 else q.fault } s
  else setPairOf fn pair { q with sqTail := v } s

/-- CQ_HEAD_DOORBELL: entries up to the new head are free. A value equal to the present head of a full ring
frees every entry. (DEDUCED, log 37) -/
def cqHeadWrite (fn pair value : Nat) (s : State) : State :=
  let v := value % 4096
  let q := getPair s fn pair
  let freed := (v + q.cqSize + 1 - q.cqHead) % (q.cqSize + 1)
  let freed := if freed = 0 ∧ q.unconsumed = q.cqSize + 1 then q.unconsumed else freed
  if 8 < pair ∨ barWrites s fn = false then s
  else if !q.live then pairIgn fn pair s
  else if q.cqSize < v then setPairOf fn pair { q with fault := if q.fault = 0 then 6 else q.fault } s
  else setPairOf fn pair { q with cqHead := v, unconsumed := q.unconsumed - freed } s

/-! ### Enabling and disabling a pair (R153, R154, R176) -/

/-- The first check of R154 that fails; 0 none. (DESIGN CHOICE, log 128) -/
def pairFault (s : State) (fn : Nat) (q : QPair) : Nat :=
  if (windowFault s fn q.sqBase (64 * (q.sqSize + 1)) false).isSome then 1
  else if (windowFault s fn q.cqBase (32 * (q.cqSize + 1)) true).isSome then 2
  else if (if fn = 0 then 63 else 3) < q.vector then 3
  else if q.sqSize = 0 ∨ q.cqSize = 0 ∨ q.sqBase % 4096 ≠ 0 ∨ q.cqBase % 4096 ≠ 0 then 4
  else 0

/-- QP_ENABLE: a write of QP_CTRL whose ENABLE is 1. (DEDUCED, log 38) -/
def qpEnableWrite (fn pair word : Nat) (s : State) : State :=
  let q := getPair s fn pair
  let v := bits word 13 8
  if 8 < pair ∨ barWrites s fn = false then s
  else if !q.enable && q.live then pairIgn fn pair (setPairOf fn pair { q with vector := v } s)
  else if q.enable then
    if v = q.vector then s else ignLog fn (pairAddr pair + 0x28) (pairIgn fn pair s)
  else
    let q1 := { q with vector := v, enable := true }
    match pairFault s fn q1 with
    | 0 => setPairOf fn pair { q1 with
        fault := 0, live := true, sqHead := 0, sqTail := 0, cqHead := 0, cqTail := 0, phase := true, unconsumed := 0
        fetching := [], fetched := [], headAt := none, decided := none, flushLeft := 0 } s
    | f => setPairOf fn pair { q1 with fault := f } s

/-- What an admitted command holds in the array is let go: its engine work, its job and a lock of it. -/
def dropStages (c : Cmd) (s : State) : State :=
  let s1 := dropWork c.id s
  let s2 := match c.job with
    | .running _ _ sh => cutJob sh s1
    | _ => s1
  freeLane c s2

/-- End an admitted command from outside: nothing more of it is committed. -/
def endCmd (c : Cmd) (status : Nat) (s : State) : State :=
  let t := dropStages c s
  pushReply { replyOf c status [] [] with held := false } (dropCmd c.id t)

/-- The same with no reply. (DEDUCED, log 41) -/
def loseCmd (c : Cmd) (s : State) : State := dropCmd c.id (dropStages c s)

/-- A function's queue work ends as FLR gives: commands with nothing appended are gone; what is appended stands, and no
reply is written. -/
def endFnWork (fn : Nat) (s : State) : State :=
  let s1 := (s.cmds.admitted.filter (fun c => c.fn == fn && c.jsn.isNone)).foldl (fun t c => loseCmd c t) s
  { s1 with cmds := { s1.cmds with
    admitted := s1.cmds.admitted.map (fun c => if c.fn = fn then { c with mute := true } else c)
    replies := s1.cmds.replies.filter (fun r => r.fn ≠ fn) } }

/-- One function is reset: its queue work ends, its BAR0 registers and its MSI-X table return to reset.
(PRESUMED, log 14; DEDUCED, log 40; DEDUCED, log 92) -/
def resetFn (fn : Nat) (s : State) : State := setFn fn {} (endFnWork fn s)

/-- Every VF with state from a number on is reset. -/
def resetVfs (from_ : Nat) (s : State) : State :=
  ((List.range 32).filter (fun n => decide (from_ ≤ n) && decide (0 < n))).foldl (fun t n => resetFn n t) s

/-- VF Enable becomes 0, and every VF ends (R19, R405). -/
def vfsOff (s : State) : State :=
  let t := resetVfs 1 s
  { t with host := { t.host with vfEnable := false } }

/-- A pair ends: what is fetched is dropped, and admitted commands with nothing appended end with ABORTED_RESET
(R176). -/
def endPair (fn pair : Nat) (s : State) : State :=
  let q := getPair s fn pair
  let s1 := setPairOf fn pair { q with enable := false, fault := 0, fetched := [], fetching := [], headAt := none
                                       decided := none, flushLeft := 0 } s
  let cs := s1.cmds.admitted.filter (fun c => c.fn == fn && c.pair == pair && c.jsn.isNone)
  liveCheck fn pair (cs.foldl (fun t c => endCmd c sAbortedReset t) s1)

/-- QP_DISABLE: a write of QP_CTRL whose ENABLE is 0. -/
def qpDisableWrite (fn pair word : Nat) (s : State) : State :=
  let q := getPair s fn pair
  let v := bits word 13 8
  if 8 < pair ∨ barWrites s fn = false then s
  else if !q.enable then
    setPairOf fn pair { q with vector := v, fault := 0 } s
  else
    let s1 := if v = q.vector then s else ignLog fn (pairAddr pair + 0x28) (pairIgn fn pair s)
    endPair fn pair s1

/-! ### Windows (R160, R161) -/

/-- A range meets a window. -/
def winMeets (v : Window) (addr len : Nat) : Bool := decide (addr < winEnd v ∧ v.base < addr + len)

/-- Whether a window is in use (R160). -/
def winInUse (s : State) (fn : Nat) (v : Window) : Bool :=
  v.live &&
  ((getFn s fn).pairs.any (fun p => p.2.live && (winMeets v p.2.sqBase (64 * (p.2.sqSize + 1)) ||
      winMeets v p.2.cqBase (32 * (p.2.cqSize + 1)))) ||
   s.cmds.admitted.any (fun c => c.fn == fn && (List.range (pDescs c.words)).any (fun k =>
      winMeets v (descAddr c.words k) (descLen c.words k))) ||
   s.cmds.replies.any (fun r => r.fn == fn && r.bufs.any (fun o => winMeets v o.1 o.2)))

/-- The first check of R161 that fails; 0 none. -/
def winFault (v : Window) : Nat :=
  if v.pages = 0 ∨ v.base % 4096 ≠ 0 ∨ 2 ^ 64 < winEnd v then 1 else if !v.read && !v.write then 2 else 0

/-- An ignored write of a window's RWD field is counted and logged. -/
def winIgn (fn w : Nat) (log : Bool) (s : State) : State :=
  let v := getWin s fn w
  let s1 := setWin fn w { v with ign := satInc v.ign 0xFF } s
  if log then ignLog fn (winAddr w + 0x18) s1 else s1

/-- WIN_ENABLE: a write of WIN_CTRL whose ENABLE is 1. -/
def winEnableWrite (fn w word : Nat) (s : State) : State :=
  let v := getWin s fn w
  let r := bit word 1
  let wr := bit word 2
  if 15 < w ∨ barWrites s fn = false then s
  else if v.enable then (if r = v.read ∧ wr = v.write then s else winIgn fn w true s)
  else
    let v1 := { v with read := r, write := wr, enable := true }
    setWin fn w { v1 with fault := winFault v1, live := winFault v1 == 0 } s

/-- WIN_DISABLE: a write of WIN_CTRL whose ENABLE is 0. -/
def winDisableWrite (fn w word : Nat) (s : State) : State :=
  let v := getWin s fn w
  let r := bit word 1
  let wr := bit word 2
  if 15 < w ∨ barWrites s fn = false then s
  else if !v.enable then setWin fn w { v with read := r, write := wr, fault := 0 } s
  else
    let s1 := if r = v.read ∧ wr = v.write then s else winIgn fn w true s
    if winInUse s fn v then (if r = v.read ∧ wr = v.write then winIgn fn w false s1 else s1)
    else
      let v1 := getWin s1 fn w
      setWin fn w { v1 with enable := false, live := false, fault := 0 } s1

/-! ### Host reads (R159, R406) -/

/-- A completion that no read awaits is discarded and logged (R406). -/
def lateCompletion (fn : Nat) (s : State) : State := emit (.unexpectedCompletion fn) (aerLog fn 16 (logEvent 9 2 [] s))

/-- The pair stops fetching with FAULT 5 (R153). -/
def fetchFault (fn pair : Nat) (s : State) : State :=
  let q := getPair s fn pair
  setPairOf fn pair { q with fault := if q.fault = 0 then 5 else q.fault, fetching := [] } s

/-- PACKET_FETCH_DONE: the oldest read of a pair completes with a packet, or fails. -/
def packetFetched (fn pair : Nat) (words : Option (List Word)) (s : State) : State :=
  let q := getPair s fn pair
  match q.fetching with
  | [] => lateCompletion fn s
  | (_, t) :: rest =>
    if t + 10 < s.now then fetchFault fn pair (lateCompletion fn s)
    else match words with
    | none => fetchFault fn pair s
    | some w => setPairOf fn pair { q with
        sqHead := (q.sqHead + 1) % (q.sqSize + 1), fetching := rest, fetched := q.fetched ++ [padTo 32 0 w] } s

/-- The deadline of an IN read by class, in µs (R406). -/
def readDeadline (cls : Nat) : Nat := if cls = 3 then 10000 else 2

/-- The command ends with DMA_WINDOW_FAULT, cause 4 (R159). -/
def readFault (c : Cmd) (k : Nat) (s : State) : State := finish c sDmaFault [k, 4] [] s

/-- The first IN descriptor that has not been read. -/
def readPending (c : Cmd) : Option Nat :=
  ((descDirs c.words).zipIdx.find? (fun p => !p.1 && (inData c p.2).isNone)).map Prod.snd

/-- DESCRIPTOR_READ_DONE: the data of an IN descriptor, or a failed completion (R159). -/
def descriptorRead (id k : Nat) (data : Option (List Byte)) (s : State) : State :=
  match cmdOf s id with
  | none =>
    match s.cmds.lateReads.find? (fun p => p.1 == id && p.2.1 == k) with
    | some p => lateCompletion p.2.2 { s with cmds := { s.cmds with lateReads := s.cmds.lateReads.erase p } }
    | none => s
  | some c =>
    if s.jn.stopped || (descDirs c.words).getD k true || (inData c k).isSome then lateCompletion c.fn s
    else if c.admitAt + readDeadline c.cls < s.now then lateCompletion c.fn s
    else match data with
    | none => readFault c k s
    | some d =>
      let c1 := { c with inData := mset none c.inData k (some (padTo (descLen c.words k) 0 d)) }
      setCmd { c1 with lookupAt := if slotOpcode (cOp c) && inReady c1 then some s.now else c1.lookupAt } s

/-- DMA_READ_DEADLINE of a pair's fetch. -/
def fetchDeadline (fn pair : Nat) (s : State) : State :=
  match (getPair s fn pair).fetching with
  | (_, t) :: _ => if t + 10 ≤ s.now then fetchFault fn pair s else s
  | [] => s

/-- DMA_READ_DEADLINE of a command's IN read. -/
def descDeadline (id : Nat) (s : State) : State :=
  match cmdOf s id with
  | none => s
  | some c =>
    match readPending c with
    | some k => if !s.jn.stopped && decide (c.admitAt + readDeadline c.cls ≤ s.now) then readFault c k s else s
    | none => s

/-! ### Lookups (R29, R446) -/

/-- The slots that a command's lookup reads; a gather with a reserved bit set reads no record (R167). -/
def cmdSlots (c : Cmd) : List Nat :=
  if cOp c = 0x14 then
    let es := (chunks 8 ((inData c 0).getD [])).map bytesWords
    if es.any gatherReserved then [] else es.map (fun e => pairAt e 0 % 2 ^ 25)
  else [(cmdRecord c).1]

/-- One slot is looked up: an overlay hit, or a page read that must authenticate (R29, R53, R54, R60, R107, R479). `failed`
are the pages that the Warp stack fails to give. -/
def lookSlot (failed : List Nat) (n : Nat) (s : State) : State :=
  readSlot (failed.contains (n / 128)) n s

/-- LOOKUP_RELEASE: a lookup is released to the checks 2.80 µs after the ledger unit begins it. `failed` are
the pages that fail authentication at this read. -/
def lookupRelease (id : Nat) (failed : List Nat) (s : State) : State :=
  match cmdOf s id with
  | none => s
  | some c =>
    match c.lookupAt with
    | some t =>
      if s.jn.stopped || c.lookupDone || decide (s.now < t + 3) then s
      else setCmd { c with lookupDone := true } ((cmdSlots c).foldl (fun u n => lookSlot failed n u) s)
    | none => s

/-! ### Writing replies -/

/-- The sixteen words of a reply (R162). -/
def replyWords (r : Reply) (phase : Bool) : List Nat :=
  let w := [r.status, r.opcode * 256 + r.pair * 16 + b2n r.head * 8 + b2n phase] ++ leNats 2 r.tag ++
    leNats 4 r.jsn ++ padTo 7 0 r.results
  w ++ [(crc16 (w.flatMap (leBytes 2))).toNat]

/-- A reply may be written: released, its frame durable, the link up and the function able to write (R82, R407,
R408, R446). -/
def replyReady (s : State) (r : Reply) : Bool :=
  !r.held && decide (r.needFrame ≤ s.jn.durable) && s.host.linkUp && (getFn s r.fn).busEn && !(getFn s r.fn).d3

/-- Replies of a function whose Bus Master Enable is 0 cannot be written and are discarded (R408). -/
def discardReplies (s : State) : State :=
  { s with cmds := { s.cmds with replies := s.cmds.replies.filter (fun r => (getFn s r.fn).busEn) } }

/-- The longest reply of each class, and the replies written after their bound, the time without a link excluded (R138,
R144). -/
def notePeak (r : Reply) (s : State) : State :=
  if r.id.isNone then s else
  let t := s.now - r.admitAt
  let unit_ := if r.cls < 2 then 100 * t else t
  let s1 := { s with adm := { s.adm with
    peaks := mset 0 s.adm.peaks r.cls (max (mget 0 s.adm.peaks r.cls) (min 0xFFFF unit_)) } }
  if r.deadline + r.away < s.now then
    icRaise 469 <| logEvent 3 1 ([r.cls * 256 + r.fn] ++ leNats 2 r.tag ++ [min 0xFFFF (s.now - r.deadline - r.away)])
      { s1 with adm := { s1.adm with late := satInc s1.adm.late 0xFFFFFFFF } }
  else s1

/-- Write one reply: its OUT data first, then the entry at QP_CQ_TAIL; NO_REPLY_ON_OK with OK writes no entry
(R149, R152, R159). -/
def writeReply (r : Reply) (s : State) : State :=
  let s0 := { s with cmds := { s.cmds with replies := s.cmds.replies.erase r } }
  let s1 := r.outs.foldl (fun t o => emit (.hostWrite r.fn o.1 o.2) t) (notePeak r s0)
  if r.silentOk ∧ r.status = sOk then s1
  else
    let q := getPair s1 r.fn r.pair
    let s2 := emit (.hostWrite r.fn (q.cqBase + 32 * q.cqTail) ((replyWords r q.phase).flatMap (leBytes 2))) s1
    let wrap := decide (q.cqTail = q.cqSize)
    let q2 := { q with cqTail := if wrap then 0 else q.cqTail + 1, phase := if wrap then !q.phase else q.phase
                       unconsumed := q.unconsumed + 1 }
    trace 4 (r.pair * 64 + r.fn) (r.status :: leNats 2 r.tag) (count 4 (r.status / 256) (setPairOf r.fn r.pair q2 s2))

/-- Insert a reply by deadline, after those of the same one. -/
def insReply (r : Reply) : List Reply → List Reply
  | [] => [r]
  | x :: xs => if r.deadline < x.deadline then r :: x :: xs else x :: insReply r xs

/-- One pass of the reply writer: every reply that may be written, in deadline order, then at most one message
for each vector (R133, R149, R150). -/
def replyPass (s : State) : State :=
  let ready := (s.cmds.replies.filter (replyReady s)).foldl (fun l r => insReply r l) []
  let vecs := ((ready.filter (fun r => !(r.silentOk && r.status == sOk))).map (fun r =>
    (r.fn, (getPair s r.fn r.pair).vector))).eraseDups
  let s1 := ready.foldl (fun t r => writeReply r t) s
  vecs.foldl (fun t v => msixSend v.1 v.2 t) s1

/-- Held replies whose instant has come, of KEY_UPDATE or of the others, are released (R446, R447). -/
def releaseHeld (keyUpdates : Bool) (s : State) : State :=
  { s with cmds := { s.cmds with replies := s.cmds.replies.map (fun r =>
    if r.held && ((r.opcode == 0x40) == keyUpdates) && (match r.relAt with
        | some t => decide (t ≤ s.now)
        | none => false) then { r with held := false } else r) } }

end Sys2Proof.Machine
end

