-- ==== Sys2Proof/Machine/Manage.lean ====
section
/-! DEFINITION. Applet banks and mode words (R261 to R277), firmware (R464, R465), and the service and
observation commands (R172, R175, R480, R484). -/

namespace Sys2Proof.Machine

/-- End a command that appended one entry with JSN j. -/
def finishJ (c : Cmd) (j : Nat) (results : List Nat) (s : State) : State := finish (withJsn c j) sOk results [] s

/-! ### Applet images (R263 to R268) -/

/-- The words of an image from an index. -/
def wordsAt (im : List Word) (i n : Nat) : List Word := (im.drop i).take n

/-- Segment records, entry records and the words of initial data of an image (R264). -/
def imgSegs (im : List Word) : List (List Word) := chunks 4 (wordsAt im (imgSegAt im) (4 * wd im 9))
def imgEntries (im : List Word) : List (List Word) := chunks 4 (wordsAt im (imgEntryAt im) (4 * wd im 7))
def imgInit (im : List Word) : Nat := ((imgSegs im).map (fun g => wd g 3)).sum

/-- Words before the signature (R264). -/
def imgBody (im : List Word) : Nat := imgDataAt im + imgInit im

/-- The header's fields lie in their ranges (R263). -/
def headerOk (im : List Word) : Bool :=
  decide (16 ≤ im.length) && decide (wd im 0 = 0x4B41 ∧ wd im 1 = 1 ∧ 1 ≤ wd im 2 ∧ wd im 2 ≤ 31 ∧ wd im 3 ≤ 255) &&
  decide (wd im 4 ≤ 1 ∧ 32 ≤ wd im 5 ∧ wd im 5 ≤ 28672 ∧ 1 ≤ wd im 6 ∧ wd im 6 ≤ 256) &&
  decide (1 ≤ wd im 7 ∧ wd im 7 ≤ 64 ∧ bits (wd im 8) 15 9 = 0 ∧ bit (wd im 8) 3 = false ∧ bits (wd im 8) 8 4 ≤ 16) &&
  decide (wd im 9 ≤ 16 ∧ wd im 10 ≤ 1 ∧ wd im 11 ≤ 1023 ∧ wd im 14 = 0 ∧ wd im 15 = 0)

/-- An entry record's fields (R264). -/
def entryRecOk (im e : List Word) : Bool :=
  decide (wd e 0 % 2 = 0 ∧ 0x20 ≤ wd e 0 ∧ wd e 0 ≤ 0x7FFE ∧ wd e 0 < wd im 5) &&
  decide (1 ≤ wd e 1 ∧ wd e 1 ≤ 44700 ∧ wd e 2 ≤ 3000 ∧ wd e 3 ≤ 3000)

/-- A policy entry's fields (R265); DIVERSIFY with AUTH_KIND 2 or 3 is refused whether the entry is in use or not. -/
def policyOk (im p : List Word) : Bool :=
  if polDiversify p && decide (2 ≤ polAuth p) then false
  else if !polInUse p then true else
  let find := fun a => (imgEntries im).find? (fun e => wd e 0 == a)
  let v := wd p 5 % 32768
  decide (bits (wd p 0) 14 13 = 0 ∧ bits (wd p 0) 7 2 = 0 ∧ wd p 4 < 32768 ∧ wd p 5 < 32768 ∧ wd p 14 = 0 ∧ wd p 15 = 0) &&
  (find (wd p 4)).isSome &&
  (v == 0 || (match find v with
    | some e => decide (2 ≤ polAuth p ∨ wd e 1 ≤ 10400)
    | none => false))

/-- A segment record's fields (R266). -/
def segOk (g : List Word) : Bool :=
  decide (0x8000 ≤ wd g 0 ∧ wd g 0 ≤ 0xDFC0 ∧ wd g 0 % 64 = 0 ∧ wd g 1 % 64 = 0 ∧ wd g 0 + wd g 1 ≤ 0xE000) &&
  decide (bits (wd g 2) 15 4 = 0 ∧ wd g 3 ≤ wd g 1)

/-- Header, sections, policies and length of an image, and program word 0 (R263 to R266, R228). -/
def imageOk (im : List Word) (len : Nat) : Bool :=
  headerOk im && decide (len = 2 * imgBody im + 64 ∧ pairAt im 12 = len) &&
  (wordsAt im 16 (bits (wd im 8) 2 0)).all (fun w => decide (w.toNat ≤ 1023)) &&
  (imgEntries im).all (entryRecOk im) && (imgPolicies im).all (policyOk im) && (imgSegs im).all segOk &&
  (wordsAt im (imgCodeAt im) (wd im 5)).all (fun w => decide (w.toNat < 16384)) && decide (wd im (imgCodeAt im) = 0)

/-- A verification for a steward joins the signature engine that completes it first (R256, R325). -/
def stewardVerify (c : Cmd) (j : SigJob) (s : State) : State :=
  match sigPlace s 0 c.deadline c.avoid with
  | some g => setRunning c.id (sigSubmit g j s)
  | none => s

/-- The check of an image's signature under its SIGN_SLOT (R267, R308). -/
def imageSigJob (c : Cmd) (bytes : List Byte) : SigJob :=
  let im := bytesWords bytes
  { cmd := c.id, verify := true, alg := if wd im 10 = 0 then 2 else 3, prehashed := false, slot := some (wd im 11)
    realm := c.fn, attrs := aSigv, msg := bytes.take (2 * imgBody im), sig := bytes.drop (2 * imgBody im)
    deadline := c.deadline, fixedKind := if wd im 10 = 0 then 5 else 7 }

/-- Program and shared blocks of an image (R261). -/
def progNeed (im : List Word) : Nat := ceilDiv (wd im 5) 64
def segNeeds (im : List Word) : List Nat := (imgSegs im).map (fun g => ceilDiv (wd g 1) 64)

/-- Program and shared blocks that a realm's banks other than b hold. -/
def blocksHeld (s : State) (r : Nat) (b : Option Nat) : Nat × Nat :=
  let bs := [0, 1].filter (fun x => b ≠ some x)
  ((bs.map (fun x => (mget [] s.cells.progBlocks (r * 2 + x)).length)).sum,
   (bs.map (fun x => ((mget [] s.cells.segBlocks (r * 2 + x)).map List.length).sum)).sum)

/-- A realm's allotments at a sum of its shares of APPLET_V and APPLET_IS (R261). (DESIGN CHOICE, log 58) -/
def allot (S : Nat) : Nat × Nat := (448 * S / 8192, 352 * S / 8192)

/-- Blocks of 0 to n - 1 that no bank holds, lowest first. -/
def freeBlocks (n : Nat) (used : List Nat) : List Nat := (List.range n).filter (fun b => !used.contains b)
def progUsed (c : Cells) : List Nat := c.progBlocks.flatMap Prod.snd
def segUsed (c : Cells) : List Nat := (c.segBlocks.flatMap Prod.snd).flatten

/-- Hand out lists of the lengths given. -/
def dealBlocks : List Nat → List Nat → List (List Nat)
  | [], _ => []
  | n :: ns, l => l.take n :: dealBlocks ns (l.drop n)

/-- Free a bank's blocks (R269 step 3). -/
def freeBank (k : Nat) (c : Cells) : Cells :=
  { c with progBlocks := mset [] c.progBlocks k [], segBlocks := mset [] c.segBlocks k [] }

/-- The words of the initial data by segment. -/
def imgInits (im : List Word) : List (List Word) :=
  ((imgSegs im).foldl (fun (a : Nat × List (List Word)) g =>
    (a.1 + wd g 3, a.2 ++ [wordsAt im a.1 (wd g 3)])) (imgDataAt im, [])).2

/-- The shared memory of a segment in one heddle: its initial data, then INT 0 (R266). -/
def loadSeg (h : Nat) (blocks : List Nat) (ws : List Word) (m : KMap TW) : KMap TW :=
  ((List.range (64 * blocks.length)).foldl (fun m i =>
    mset {} m (h * 24576 + blocks.getD (i / 64) 0 * 64 + i % 64) ⟨0, wd ws i⟩) m)

/-- Write an image's code and segment data into the in-service heddles (R269 step 5), over any word that a steward wrote
there: blocks are chosen lowest first (DESIGN CHOICE, log 58). -/
def loadBank (k : Nat) (im : List Word) (s : State) : State :=
  let c := s.cells
  let pb := (freeBlocks 448 (progUsed c)).take (progNeed im)
  let sb := dealBlocks (segNeeds im) (freeBlocks 352 (segUsed c))
  let code := wordsAt im (imgCodeAt im) (wd im 5)
  let prog := (List.range (64 * pb.length)).foldl (fun m i =>
    mset 0 m (pb.getD (i / 64) 0 * 64 + i % 64) (wd code i)) c.prog
  let shared := ((List.range 24).filter (heddleInService s)).foldl (fun m h =>
    (sb.zip (imgInits im)).foldl (fun m p => loadSeg h p.1 p.2 m) m) c.shared
  { s with cells := { c with
    progBlocks := mset [] c.progBlocks k pb, segBlocks := mset [] c.segBlocks k sb, prog := prog, shared := shared
    progOwn := c.progOwn.filter (fun p => !(heddleInService s (p.1 / 32768) && pb.contains (p.1 % 32768 / 64))) } }

/-- The generation that a loaded bank holds; none while it is empty. -/
def loadedGen (s : State) (r b : Nat) : Option Nat :=
  if bankReady s r b then (bankOf (realmRow s r) b).map BankEntry.gen else none

/-- The rows of R268 after the signature's. -/
def loadChecked (c : Cmd) (bytes : List Byte) (s : State) : State :=
  let im := bytesWords bytes
  let b := wd c.words 8 % 2
  let bad := finish c sBadParam [] [] s
  if (realmRow s c.fn).active = some b then bad
  else if (bankStore s c.fn b).map BankStore.hash = some (sha256 bytes) then finish c sOkAlready [wd im 3] [] s
  else if [0, 1].any (fun x => loadedGen s c.fn x == some (wd im 3)) then bad
  else
    let (ap, ash) := allot (shareOf s c.fn 5 + shareOf s c.fn 6)
    let (hp, hsh) := blocksHeld s c.fn (some b)
    if ap < progNeed im + hp ∨ ash < (segNeeds im).sum + hsh then bad
    else setCmd { c with step := 1 }
      { s with cells := { s.cells with closed := s.cells.closed ++ [c.fn * 2 + b] } }

/-- An image keeps its ranges (R263 to R266), and names its realm: what R268 asks before the signature. -/
def loadHead (c : Cmd) (bytes : List Byte) : Option Nat :=
  if !imageOk (bytesWords bytes) (descLen c.words 0) then some sBadParam
  else if wd (bytesWords bytes) 2 ≠ c.fn then some sNotPermitted
  else none

/-- APPLET_LOAD (R268, and step 1 of R269): the signature engine's verdict comes before the rows after it. -/
def appletLoad (c : Cmd) (s : State) : State :=
  match inData c 0 with
  | none => s
  | some bytes =>
    if c.step ≠ 0 then s else
    match loadHead c bytes, c.work with
    | some st, _ => finish c st [] [] s
    | none, .done denied ok _ => if denied || !ok then finish c sNotPermitted [] [] s else loadChecked c bytes s
    | none, _ => s

/-- No job runs from a bank. -/
def bankIdle (s : State) (r b : Nat) : Bool :=
  !s.cells.shuttles.any (fun p => match p.2.job with
    | some j => decide (j.kind ≠ 3 ∧ j.realm = r ∧ j.bank = b)
    | none => false)

/-- APPLET_BANK_WRITE: steps 2 to 4 of R269; acting again, steps 5 and 6. -/
def appletBankWrite (c : Cmd) (s : State) : State :=
  let b := wd c.words 8 % 2
  let k := c.fn * 2 + b
  match inData c 0 with
  | none => s
  | some bytes =>
    let im := bytesWords bytes
    let h := sha256 bytes
    if c.step = 1 ∧ bankIdle s c.fn b = true then
      setCmd { c with step := 2 } { s with cells := { freeBank k s.cells with
        store := mset none s.cells.store k (some { words := im, hash := h })
        warp := mset none s.cells.warp k (some (storeBank k ((mget none s.cells.warp k).elim 1 (fun a => a.count + 1)) bytes)) } }
    else if c.step = 2 then
      let s2 := loadBank k im s
      let j := nextJsn s2
      finishJ c j [wd im 3] (append (realmEntry 5 c.fn ([b, wd im 3] ++ ((bytesWords (h.take 8)).map BitVec.toNat)) (cOrigin c) sOk) s2)
    else s

/-- Step 5 of R269 writes the in-service heddles (R288). -/
def heddlesLoading (s : State) : Bool := s.cmds.admitted.any (fun c => cOp c == 0x50 && c.step == 2)

/-! ### Activation and bank information (R172, R271) -/

/-- APPLET_ACTIVATE (R271). -/
def appletActivate (c : Cmd) (s : State) : State :=
  let b := wd c.words 8 % 2
  let g := wd c.words 9 % 256
  if loadedGen s c.fn b ≠ some g then finish c sBadParam [] [] s
  else if (realmRow s c.fn).active = some b then finish c sOkAlready [g] [] s
  else if genWindowBad s.led.agCount c.fn g then finish c sSlotState [] [] s
  else
    let j := nextJsn s
    finishJ c j [g] (append (realmEntry 6 c.fn [b, g] (cOrigin c) sOk) s)

/-- W9 and W10 of APPLET_INFO. -/
def bankInfo (s : State) (r b : Nat) : Nat :=
  match loadedGen s r b with
  | some g => 256 + g
  | none => 0

/-- APPLET_INFO (R172). -/
def appletInfo (c : Cmd) (s : State) : State :=
  let (w8, h) := match (realmRow s c.fn).active with
    | some b => (2 + b, ((bankStore s c.fn b).map BankStore.hash).getD [])
    | none => (0, [])
  finish c sOk ([w8, bankInfo s c.fn 0, bankInfo s c.fn 1] ++ (bytesWords (padTo 8 0 h)).map BitVec.toNat) [] s

/-! ### Mode words (R274 to R276) -/

/-- MODE_ARM (R275). (DESIGN CHOICE, log 129) -/
def modeArm (c : Cmd) (s : State) : State :=
  let row := realmRow s c.fn
  let g := wd c.words 8
  let m := wd c.words 9
  if 0xFFFF ≤ row.modeGen ∨ g ≠ row.modeGen + 1 then finish c sBadParam [row.modeGen] [] s
  else if row.armed = some (g, m) then finish c sOkAlready [row.modeGen] [] s
  else
    let j := nextJsn s
    finishJ c j [row.modeGen] (append (realmEntry 7 c.fn [0, g, m] (cOrigin c) sOk) s)

/-- A flip of the realm whose shuttles have not all applied it. (DEDUCED, log 55) -/
def flipUnderWay (s : State) (r : Nat) : Bool :=
  s.cmds.admitted.any (fun d => d.fn == r && cOp d == 0x59 && d.step == 1)

/-- MODE_FLIP (R275). A flip waits while an earlier one is under way. (DESIGN CHOICE, log 129) -/
def modeFlip (c : Cmd) (s : State) : State :=
  let row := realmRow s c.fn
  let g := wd c.words 8
  if c.step ≠ 0 ∨ flipUnderWay s c.fn = true then s
  else if g = row.modeGen then finish c sOkAlready [row.modeGen, 0] [] s
  else match row.armed with
  | some (a, m) =>
    if g ≠ a then finish c sBadParam [] [] s else
    let j := nextJsn s
    setCmd { withJsn c j with step := 1, held := [] }
      (append (realmEntry 7 c.fn [1, g, m] (cOrigin c) sOk) s)
  | none => finish c sBadParam [] [] s

/-- In-service shuttles that still run a job of the realm under an earlier generation (R276). A realm's
steward jobs are governed by realm 0's word. -/
def flipLate (s : State) (r : Nat) : List Nat :=
  let g := (rowOf s.realms.durable r).modeGen
  (mkeys s.cells.shuttles).filter (fun sh => shuttleInService s sh && (match (getSh s sh).job with
    | some j => (if isSteward sh then decide (r = 0) else decide (j.realm = r)) && decide (j.modeGen ≠ g)
    | none => false))

/-- The entry of a flip is durable. -/
def flipDurable (s : State) (c : Cmd) : Bool :=
  match c.jsn with
  | some j => decide (jsnFrame j ≤ s.jn.durable)
  | none => false

/-- A flip whose shuttles have all applied the word is answered (R276). `held` is the instant at which the
flip became durable and the shuttles removed. -/
def flipStep (c : Cmd) (s : State) : State :=
  if c.step ≠ 1 ∨ flipDurable s c = false then s
  else
    let c1 := if c.held = [] then { c with held := [s.now, 0] } else c
    if (flipLate s c.fn).isEmpty then
      finish c1 sOk [wd c.words 8, c1.held.getD 1 0] [] s
    else setCmd c1 s

/-- Every flip under way makes what progress it can. -/
def flipAll (s : State) : State :=
  (s.cmds.admitted.filter (fun c => cOp c == 0x59 && c.step == 1)).foldl (fun t c => flipStep c t) s

/-- MODE_FLIP_DEADLINE: 1 ms after the flip, the shuttles that have not applied the word are removed; the
reply is written (R276). -/
def modeFlipDeadline (c : Cmd) (s0 : State) : State :=
  let s := flipStep c s0
  match cmdOf s c.id with
  | none => s
  | some d =>
    if d.step ≠ 1 ∨ d.held = [] ∨ s.now < d.held.getD 0 0 + 1000 then s
    else
      let late := flipLate s d.fn
      let t := late.foldl (fun u sh => removeCell 3 sh 1 u) s
      finish d sOk [wd d.words 8, d.held.getD 1 0 + late.length] [] t

/-! ### Firmware (R464, R465) -/

/-- The slot that FIRMWARE_STAGE writes. -/
def stageSlot (s : State) : Nat := if s.fws.running = some 0 then 1 else 0

/-- A little-endian field of an image's header. -/
def fwField (h : List Byte) (at_ n : Nat) : Nat := leNat ((h.drop at_).take n)

/-- The header's values, other than TOTAL_LEN against the parts held (R465). -/
def fwHeaderOk (h : List Byte) : Bool :=
  let total := fwField h 20 4
  let parts := fwField h 18 2
  let code := fwField h 14 2
  let data := fwField h 16 2
  decide (64 ≤ h.length) && decide (h.take 4 = [0x57, 0x46, 0x51, 0x44] ∧ fwField h 4 2 = 1 ∧ fwField h 6 2 ≠ 0 ∧
    fwField h 8 2 ≤ 1) &&
  bit (fwField h 10 2) 1 && bit (fwField h 10 2) (fwField h 12 1) && decide (fwField h 13 1 = 0) &&
  decide (32 ≤ code ∧ code ≤ 4096 ∧ data ≤ 2048 ∧ 1 ≤ parts ∧ parts ≤ 16 ∧ parts = ceilDiv total 4194304) &&
  decide (total ≤ 67104768 ∧ total = 64 + 2 * code + 2 * data + fwField h 24 4 + 64) &&
  ((h.take 64).drop 28).all (fun b => b == 0)

/-- The length that PART p must have under a header (R465); none where the image has no such part. -/
def partLen (h : List Byte) (p : Nat) : Option Nat :=
  let last := fwField h 18 2 - 1
  if p < last then some 4194304 else if p = last then some (fwField h 20 4 - 4194304 * last) else none

/-- The bitmap of parts held. -/
def stagedMap (s : State) : Nat := (s.fws.staged.map (fun p => 2 ^ p)).sum

/-- The slot's fields as its header gives them, and whether the image passes (R465). Words of code have
bits 15 to 14 zero. -/
def fwFill (n : Nat) (f : FwSlot) (pass : Bool) : FwSlot :=
  let h := fwPart n f 0
  { f with version := fwField h 6 2, readFormats := fwField h 10 2, writeFormat := fwField h 12 1
           codeLen := fwField h 14 2, dataLen := fwField h 16 2, valid := pass }

/-- A firmware image as the staged parts hold it. -/
def stagedImage (n : Nat) (f : FwSlot) : List Byte := (List.range 16).flatMap (fun i => fwPart n f i)

/-- The header and the words of a whole staged image are good: what is checked before the signature (R465). -/
def fwImageOk (n : Nat) (f : FwSlot) : Bool :=
  let h := fwPart n f 0
  fwHeaderOk h && decide ((stagedImage n f).length = fwField h 20 4) &&
    (List.range (fwField h 14 2)).all (fun i => decide (fwWord n f i < 16384))

/-- The check of a firmware image's signature under the fused key (R325, R465). -/
def fwSigJob (c : Cmd) (n : Nat) (f : FwSlot) : SigJob :=
  let img := stagedImage n f
  { cmd := c.id, verify := true, alg := 3, prehashed := false, slot := none, realm := 0, attrs := 0
    msg := img.take (img.length - 64), sig := img.drop (img.length - 64), deadline := c.deadline, fused := true }

/-- A firmware slot with ACT_SEQ written into its header, and TOTAL_LEN as its image gives it (R464, R465). -/
def fwStamp (n act : Nat) (f : FwSlot) : FwSlot :=
  { f with actSeq := act, head := some (fwHeader act (fwField (fwPart n f 0) 20 4)) }

/-- FIRMWARE_STAGE ends: the bitmap of the parts held, and IMAGE_VALID. -/
def stageEnd (c : Cmd) (n : Nat) (pass : Bool) (s : State) : State :=
  finish c sOk [stagedMap s, b2n pass] []
    { s with fws := { s.fws with slots := mput s.fws.slots n (fwStamp n 0 (fwFill n (fwSlot s n) pass)) } }

/-- One more part of a slot's image, encrypted into the firmware area (R465). -/
def stagePart (n p : Nat) (d : List Byte) (f : FwSlot) : FwSlot :=
  { f with parts := mput f.parts p (storePart n p (f.writes + 1) d), writes := f.writes + 1, valid := false }

/-- FIRMWARE_STAGE (R465): the first part of an image comes after a slot header of ACT_SEQ 0; with LAST and every part held
an image whose header is good waits for the signature engine. Before part 0 is held no header says what length a part must
have; the parts held then must have it once it is. (DEDUCED, log 57) -/
def firmwareStage (c : Cmd) (s : State) : State :=
  match inData c 0 with
  | none => s
  | some d =>
    let p := wd c.words 8 % 16
    let last := bit (wd c.words 8) 15
    let n := stageSlot s
    if c.step = 1 then
      match c.work with
      | .done _ ok _ => stageEnd c n ok s
      | _ => s
    else if s.cmds.admitted.any (fun x => x.id != c.id && cOp x == 0x81 && x.step == 1) then s
    else
    let f := stagePart n p d (if s.fws.staged = [] then fwStamp n 0 { writes := (fwSlot s n).writes } else fwSlot s n)
    let staged := if s.fws.staged.contains p then s.fws.staged else s.fws.staged ++ [p]
    let h := fwPart n f 0
    let lenBad := decide (0 ∈ staged) && staged.any (fun i => decide (partLen h i ≠ some (fwPart n f i).length))
    let missing := !(decide (0 ∈ staged) && (List.range (fwField h 18 2)).all (fun i => staged.contains i))
    if lenBad || (last && missing) then finish c sBadParam [] [] s
    else
      let t := { s with fws := { s.fws with slots := mput s.fws.slots n f, staged := staged } }
      if !last then finish c sOk [stagedMap t, 0] [] t
      else if fwImageOk n f then setCmd { c with step := 1 } t
      else stageEnd c n false t

/-- The signature checks that a steward's command waits for are submitted (R325): of an applet image once its head is
good, of a firmware image once it is whole. -/
def askSignature (c : Cmd) (s : State) : State :=
  if !served c || c.work != .idle then s
  else if cOp c = 0x50 ∧ c.step = 0 then
    match inData c 0 with
    | some b => if (loadHead c b).isNone then stewardVerify c (imageSigJob c b) s else s
    | none => s
  else if cOp c = 0x81 ∧ c.step = 1 then stewardVerify c (fwSigJob c (stageSlot s) (fwSlot s (stageSlot s))) s
  else s

/-- Every steward's command makes what progress it can there. -/
def askSignatures (s : State) : State :=
  (s.cmds.admitted.map Cmd.id).foldl (fun t i => match cmdOf t i with
    | some c => askSignature c t
    | none => t) s

/-- FIRMWARE_ACTIVATE is refused (R61, R175, R464). -/
def activateBad (c : Cmd) (s : State) : Bool :=
  let f := fwSlot s (stageSlot s)
  s.glb.service ≠ svQuiesced || s.fws.staged = [] || !f.valid ||
    (formatsPresent s).any (fun v => !bit f.readFormats v) ||
    s.cmds.admitted.any (fun d => d.id ≠ c.id && cOp d == 0x71) ||
    s.cmds.replies.any (fun r => r.opcode == 0x71 && r.id.isSome)

/-- What is fetched and not decided, and what is admitted and not answered, ends with REQUEUE_ACTIVATION
(R176). No room in the CQ was reserved for a fetched packet: the reply is written all the same. (DESIGN CHOICE, log 119) -/
def requeueAll (keep : Nat) (s : State) : State :=
  let s1 := s.host.fns.foldl (fun t f => (mkeys f.2.pairs).foldl (fun t p =>
    let q := getPair t f.1 p
    let t1 := q.fetched.foldl (fun u w => pushReply (headReply f.1 p w (sRequeue, []) false u) u) t
    setPairOf f.1 p { q with fetched := [], headAt := none, decided := none
                             flushLeft := q.flushLeft - q.fetched.length } t1) t) s
  (s1.cmds.admitted.filter (fun d => d.id ≠ keep && d.jsn.isNone)).foldl (fun t d => endCmd d sRequeue t) s1

/-- FIRMWARE_ACTIVATE: ACT_SEQ of the staged slot becomes one above the running slot's; fetching stops until
the restart (R176, R464). -/
def firmwareActivate (c : Cmd) (s : State) : State :=
  if c.step ≠ 0 then s
  else if activateBad c s then finish c sNotPermitted [] [] s
  else
    let n := stageSlot s
    let q := ((fwRunning s).map FwSlot.actSeq).getD 0 + 1
    let t := { s with
      fws := { s.fws with slots := mput s.fws.slots n (fwStamp n q (fwSlot s n)), restartDue := some n }
      adm := { s.adm with opened := false } }
    setCmd { c with step := 1 } (requeueAll c.id t)

/-- Steward firmware starts in the in-service heddles l.0: its data stands in shared blocks 352 on, and no word that
earlier firmware wrote there remains (R260, R465). -/
def loadSteward (s : State) : State :=
  match s.fws.running with
  | none => s
  | some n =>
    let f := fwSlot s n
    let own := s.cells.progOwn.filter (fun p => !(decide (p.1 / 32768 % 6 = 0) && decide (28672 ≤ p.1 % 32768)))
    let shared := [0, 6, 12, 18].foldl (fun m h => (List.range f.dataLen).foldl (fun m i =>
      mset {} m (h * 24576 + 22528 + i) ⟨0, fwWord n f (f.codeLen + i)⟩) m) s.cells.shared
    { s with cells := { s.cells with progOwn := own, shared := shared } }

/-- FIRMWARE_RESTART: the four steward shuttles restart from the staged slot; the command is answered and
fetching goes on (R464). -/
def firmwareRestart (s : State) : State :=
  match s.fws.restartDue with
  | none => s
  | some n =>
    let s1 := [0, 48, 96, 144].foldl (fun t sh =>
      let u := leaveJob sh t
      setSh sh { inc := ((getSh u sh).inc) } u) s
    let f := fwSlot s1 n
    let s2 := loadSteward { s1 with
      fws := { s1.fws with running := some n, staged := [], restartDue := none }
      glb := { s1.glb with fwVer := f.version }
      adm := { s1.adm with opened := true } }
    match s2.cmds.admitted.find? (fun c => cOp c == 0x82 && c.step == 1) with
    | some c => finish c sOk [f.version] [] s2
    | none => s2

/-! ### Service and observation (R139, R175, R480, R484) -/

/-- ECHO. -/
def echo (c : Cmd) (s : State) : State :=
  finish c sOk ((List.range 7).map (fun i => if i < pParams c.words then wd c.words (8 + i) else 0)) [] s

/-- GET_CAPABILITY (R139). -/
def getCapability (c : Cmd) (s : State) : State :=
  finish c sOk (leNats 2 s.adm.startNo ++ leNats 2 s.adm.change) (outTo c 0 (capBytes s (wd c.words 8 % 32))) s

/-- FLUSH, QUIESCE and RESUME answer with what their admission did (R175, R176). -/
def flushEnd (c : Cmd) (s : State) : State := finish c sOk c.held [] s
def serviceEnd (c : Cmd) (s : State) : State :=
  finish c (if c.held = [1] then sOkAlready else sOk) [serviceWord s] [] s

/-- COMPACT_NOW (R92). -/
def compactNow (c : Cmd) (s : State) : State :=
  finish c sOk c.held [] s

/-- COUNTERS_READ (R480). -/
def countersRead (c : Cmd) (s : State) : State :=
  let n := wd c.words 9
  let bytes := (List.range n).flatMap (fun i =>
    let x : Counter := mget {} s.ob.counters (wd c.words 8 + i)
    leBytes 6 x.count ++ leBytes 2 x.event)
  finish c sOk [n] (outTo c 0 bytes) s

/-- LOG_READ: whole entries in INDEX order from the larger of the first index and OLDEST (R484). The copy is one
step, so no entry is overwritten within it. -/
def logRead (c : Cmd) (s : State) : State :=
  let end_ := c.held.getD 0 0 + 65536 * c.held.getD 1 0
  let first := max (pairAt c.words 8) (end_ - 4096)
  if first < logOldest s then finish c sOk (0 :: leNats 2 (logOldest s)) (outTo c 0 []) s else
  let n := min (wd c.words 10) (end_ - first)
  let es := (List.range n).map (fun i => ((logFind s (first + i)).getD []).flatMap (leBytes 2))
  finish c sOk (n :: leNats 2 (first + n)) (outTo c 0 es.flatten) s

end Sys2Proof.Machine
end

