-- ==== Sys2Proof/Machine/Card.lean ====
section
/-! DEFINITION. The custody card bus (R384 to R393), CARD_APPROVE and CARD_ENUMERATE (R394 to R396), quota
draws (R397, R398) and the card transaction (R399 to R402). -/

namespace Sys2Proof.Machine

def setCardBus (f : Card → Card) (s : State) : State := { s with card := f s.card }

/-- CRC-8 of the SMBus Packet Error Code (R386). -/
def crc8Bit (c : BitVec 8) : BitVec 8 := if c.msb then (c <<< 1) ^^^ 0x07 else c <<< 1
def crc8Byte (c : BitVec 8) (b : Byte) : BitVec 8 :=
  let c := c ^^^ b
  crc8Bit (crc8Bit (crc8Bit (crc8Bit (crc8Bit (crc8Bit (crc8Bit (crc8Bit c)))))))
def crc8 (bs : List Byte) : BitVec 8 := bs.foldl crc8Byte 0

/-- The six bytes of a call: verb, address, argument, CHK (R386). -/
def callFrame (verb addr arg : Nat) : List Byte :=
  let b := [BitVec.ofNat 8 verb, BitVec.ofNat 8 addr] ++ leBytes 3 arg
  b ++ [crc8 b]

/-- A call goes out on CC_CMD. -/
def callCard (verb addr arg : Nat) (s : State) : State := emit (.cardCall (callFrame verb addr arg)) s

/-! ### Presence (R393) -/

def namedCard (s : State) (a : Nat) : Option NamedCard := mget none s.card.named a
def setNamed (a : Nat) (c : Option NamedCard) (s : State) : State :=
  setCardBus (fun b => { b with named := mset none b.named a c }) s

/-- Addresses in use, ascending. -/
def addrs (s : State) : List Nat := mkeys s.card.named

/-- A card is removed: its address is free, and what was to be exchanged with it fails. -/
def removeCard (a : Nat) (s : State) : State :=
  if (namedCard s a).isNone then s else
  setNamed a none (setCardBus (fun b => { b with
    removals := satInc b.removals 0xFFFF
    todo := b.todo.filter (fun t => t.1 ≠ a)
    retried := false
    hold := if b.hold = some a then none else b.hold }) s)

/-- The bus runs, with cards or without. -/
def busOn (s : State) : Bool := s.card.enable && s.card.fault == 0 && s.start.done.contains .steward

/-- The bus can be used: a card holds CC_PRES_N low. -/
def busUp (s : State) : Bool := busOn s && s.card.pres

/-- CARD_INSERTION: CC_PRES_N falls. -/
def cardInsertion (s : State) : State := setCardBus (fun b => { b with pres := true, rollDue := b.enable }) s

/-- CARD_REMOVAL_ALL: CC_PRES_N rises. -/
def cardRemovalAll (s : State) : State :=
  setCardBus (fun b => { b with pres := false, rollDue := false, rounds := 0 })
    ((addrs s).foldl (fun t a => removeCard a t) s)

/-- CC_DISABLE: the bus idles and every card is treated as removed (R403). -/
def ccDisable (s : State) : State :=
  setCardBus (fun b => { b with enable := false, fault := 0, rollDue := false, rounds := 0 })
    ((addrs s).foldl (fun t a => removeCard a t) s)

/-! ### Answers (R386 to R388) -/

/-- An answer of six bytes to a call of a verb to an address: the card state word; none where it counts as
no answer. -/
def answerWord (verb addr : Nat) (b : List Byte) : Option Nat :=
  let g := fun i => (b.getD i 0).toNat
  let w := g 2 + 256 * g 3
  if b.length = 6 ∧ crc8 (b.take 5) = b.getD 5 0 ∧ g 0 = verb + 128 ∧ g 1 = addr ∧ bits w 15 13 < 6 ∧ g 4 < 4 then
    some w
  else none

/-- Count an answer whose CHK fails; every other one that is taken as none counts as missing (R386, R403). -/
def countBad (b : List Byte) (s : State) : State :=
  setCardBus (fun c =>
    if b.length = 6 ∧ crc8 (b.take 5) ≠ b.getD 5 0 then { c with crcErr := satInc c.crcErr 0xFFFF }
    else { c with timeouts := satInc c.timeouts 0xFFFF }) s

/-- No answer: twice in a row removes the card (R393). -/
def noAnswer (a : Nat) (s : State) : State :=
  match namedCard s a with
  | some c => if 1 ≤ c.miss then removeCard a s else setNamed a (some { c with miss := c.miss + 1 }) s
  | none => s

/-- An answer to a call: the state after it, and whether the card has answered. -/
def takeAnswer (verb a : Nat) (b : List Byte) (s : State) : Bool × State :=
  match namedCard s a, answerWord verb a b with
  | some c, some w =>
    if bits w 15 13 = 0 then (false, removeCard a s)
    else (true, setNamed a (some { c with miss := 0, word := w }) s)
  | _, _ => (false, noAnswer a (countBad b s))

/-- CARD_POLL: PING to every named card, every 100 µs while the bus is otherwise idle. `answers` gives the
six bytes that come back by address. -/
def cardPoll (answers : List (Nat × List Byte)) (s : State) : State :=
  if busUp s = false ∨ s.card.todo ≠ [] ∨ s.card.hold.isSome ∨ s.now < s.card.pollAt + 100 then s
  else (addrs s).foldl (fun t a =>
    (takeAnswer 0x14 a (((answers.find? (fun p => p.1 == a)).map Prod.snd).getD [])
      (callCard 0x14 a 0 t)).2)
    (setCardBus (fun b => { b with pollAt := s.now }) s)

/-! ### Roll call (R389) -/

/-- The lowest address that no card has. -/
def freeAddr (s : State) : Option Nat := [1, 2, 3, 4, 5, 6, 7, 8].find? (fun a => (namedCard s a).isNone)

/-- A card with this CARD_ID that had another address has been away. -/
def dropOld (id : Nat) (s : State) : State :=
  ((addrs s).filter (fun a => (namedCard s a).any (fun c => c.id == id))).foldl (fun t a => removeCard a t) s

/-- The D64 names the card of one slot: nine bytes of its roll frame, and the six of its answer to NAME. -/
def nameSlot (slot : Nat) (frame answer : List Byte) (s : State) : State :=
  if frame.length ≠ 9 ∨ crc8 (frame.take 8) ≠ frame.getD 8 0 then
    setCardBus (fun b => { b with crcErr := satInc b.crcErr 0xFFFF }) s
  else
    let id := beNat (frame.take 8)
    match freeAddr s with
    | none => logEvent 7 1 ((leNats 4 id)) s
    | some a =>
      let s1 := callCard 0x13 0 (slot + 1024 * a) s
      match answerWord 0x13 a answer with
      | some w => if bits w 15 13 = 0 then s1 else setNamed a (some { id := id, word := w }) (dropOld id s1)
      | none => countBad answer s1

/-- ROLL_CALL_ROUND: `frames` are the slots in which CC_CMD did not stay high, in slot order, each with the
frame heard and the answer to NAME. After 16 rounds without an idle one, SCATTER. Rounds need no card on CC_PRES_N. -/
def rollCall (frames : List (Nat × List Byte × List Byte)) (s : State) : State :=
  let due := s.card.rollDue || ((addrs s).length < 8 && decide (s.card.rollAt + 10000 ≤ s.now))
  if busOn s = false ∨ due = false ∨ s.card.todo ≠ [] ∨ s.card.hold.isSome then s
  else
    let (seed, s1) := draw 0x40 s
    let s2 := setCardBus (fun b => { b with rollAt := s.now })
      (callCard 0x12 0 (seed % 256 + 256) s1)
    if frames = [] then setCardBus (fun b => { b with rollDue := false, rounds := 0 }) s2
    else
      let s3 := frames.foldl (fun t f => nameSlot f.1 f.2.1 f.2.2 t) s2
      if s.card.rounds = 15 then
        setCardBus (fun b => { b with named := [], rounds := 0, rollDue := true }) (callCard 0x11 0 0 s3)
      else setCardBus (fun b => { b with rounds := b.rounds + 1, rollDue := true }) s3

/-! ### Blocks (R390, R391) -/

/-- The CHALLENGE in use, bytes 0 to 47. -/
def challenge48 (c : Card) : List Byte :=
  padTo 16 0 c.nonce ++ beBytes 2 c.op ++ (padTo 6 0 c.args).flatMap (beBytes 2) ++ [0, 0] ++ Config.deviceId

/-- A transaction block's bytes 0 to 31 and its MAC (R391). -/
def txnBlock (label : List Byte) (key : List Byte) (t : TxnNums) : List Byte :=
  let b := padTo 32 0 (Config.deviceId ++ beBytes 4 t.seq ++ beBytes 4 t.pre ++ beBytes 4 t.post)
  b ++ hmac256 key (label ++ b)

def labelAprv : List Byte := [0x41, 0x50, 0x52, 0x56]
def labelDbit : List Byte := [0x44, 0x42, 0x49, 0x54]
def labelFnsh : List Byte := [0x46, 0x4E, 0x53, 0x48]
def labelRstr : List Byte := [0x52, 0x53, 0x54, 0x52]

/-- The index of an enrolled CARD_ID. -/
def enrolledAt (s : State) (id : Nat) : Option Nat :=
  (List.range 16).find? (fun i => (cardOf s.realms.live i).any (fun e => e.cardId == id))

/-- Entry of an enrolled card at an address. -/
def entryAt (s : State) (a : Nat) : Option CardEntry :=
  ((namedCard s a).bind (fun c => enrolledAt s c.id)).bind (cardOf s.realms.live)

/-- The address of the card of a custody-table entry, where it is present. -/
def addrOf (s : State) (i : Nat) : Option Nat :=
  (cardOf s.realms.live i).bind (fun e => (addrs s).find? (fun a => (namedCard s a).any (fun c => c.id == e.cardId)))

/-- The block that the D64 stores to an address under a kind (R391). -/
def storeBlock (s : State) (a kind : Nat) : List Byte :=
  let key := ((entryAt s a).map CardEntry.key).getD []
  padTo 128 0 (match kind with
  | 0x11 => challenge48 s.card
  | 0x12 => txnBlock labelDbit key s.card.txn
  | 0x13 => txnBlock labelFnsh key s.card.txn
  | 0x14 => txnBlock labelRstr key s.card.txn
  | _ => ((namedCard s a).map NamedCard.newKey).getD [] ++ Config.deviceId)

/-- Line j of a block (R390). -/
def blockLine (b : List Byte) (j : Nat) : List Byte := (List.range 32).map (fun i => b.getD (4 * i + j) 0)

/-- The four lines of a block as they leave, each with its CRC, low byte first (R390). -/
def blockLines (b : List Byte) : List (List Byte) :=
  (List.range 4).map (fun j => blockLine b j ++ leBytes 2 (crc16 (blockLine b j)).toNat)

/-- Lines whose CRC fails: a fetched block is 128 bytes and the four lines' CRCs, low byte first. -/
def badLines (d : List Byte) : Nat :=
  ((List.range 4).filter (fun j =>
    decide ((crc16 (blockLine d j)).toNat ≠ leNat ((d.drop (128 + 2 * j)).take 2)))).length

/-- The exchange at the head is over. -/
def nextExchange (s : State) : State := setCardBus (fun b => { b with todo := b.todo.drop 1, retried := false }) s

/-- A card's calls without an answer, as they stand. -/
def setMiss (a n : Nat) (s : State) : State :=
  match namedCard s a with
  | some c => setNamed a (some { c with miss := n }) s
  | none => s

/-- A fetched block that fails is fetched again once; a second failure is no answer, whatever answers the calls got
(R390): `before` counts those before the exchange. -/
def fetchFailed (a before : Nat) (s : State) : State :=
  let t := setMiss a before s
  if s.card.retried then setCardBus (fun b => { b with retried := false }) (noAnswer a t)
  else setCardBus (fun b => { b with retried := true }) t

/-! ### Blocks that cards send -/

/-- A fetched block of the card at an address, where its CARD_ID is the card's. -/
def gotBlock (s : State) (a kind : Nat) : Option (List Byte) :=
  (namedCard s a).bind (fun c => (mfind c.blocks kind).bind (fun b =>
    if beNat (b.take 8) = c.id then some b else none))

/-- A verified STATE block of an enrolled card (R391). -/
def goodState (s : State) (a : Nat) : Option (List Byte) :=
  match gotBlock s a 1, entryAt s a with
  | some b, some e =>
    if (b.drop 64).take 32 = hmac256 e.key (b.take 64 ++ s.card.nonce) then some b else none
  | _, _ => none

/-- A verified APPROVAL of an enrolled card (R391). -/
def goodApproval (s : State) (a : Nat) : Bool :=
  match gotBlock s a 2, entryAt s a with
  | some b, some e => decide ((b.drop 8).take 32 = hmac256 e.key (labelAprv ++ challenge48 s.card ++ b.take 8))
  | _, _ => false

/-- The KEK component of an approving card (R391). -/
def component (s : State) (a : Nat) : Option (List Byte) :=
  match gotBlock s a 3, entryAt s a with
  | some b, some e => keyUnwrap e.key ((b.drop 8).take 40)
  | _, _ => none

/-- The fields of a STATE block. -/
def stAllot (b : List Byte) : Nat := beNat ((b.drop 12).take 4)
def stSeq (b : List Byte) : Nat := beNat ((b.drop 16).take 4)
def stUnlocked (b : List Byte) : Bool := bit (b.getD 9 0).toNat 0
def stHeld (b : List Byte) : Bool := bit (b.getD 9 0).toNat 1

/-- The block shows LAST = (this device, the fields, a status). -/
def stLast (b : List Byte) (t : TxnNums) (status : Nat) : Bool :=
  decide ((b.drop 20).take 16 = Config.deviceId ∧ beNat ((b.drop 36).take 4) = t.seq ∧ beNat ((b.drop 40).take 4) = t.pre ∧
    beNat ((b.drop 44).take 4) = t.post ∧ (b.getD 48 0).toNat = status)

/-- The block shows LAST of this device and TXN_SEQ s with a status. -/
def stLastSeq (b : List Byte) (seq status : Nat) : Bool :=
  decide ((b.drop 20).take 16 = Config.deviceId ∧ beNat ((b.drop 36).take 4) = seq ∧ (b.getD 48 0).toNat = status)

/-- What a STATE block shows is kept as last read, where the D64 does not reject it (R391): its CARD_ID is the card's and,
of an enrolled card, its MAC is good. -/
def noteState (a kind : Nat) (s : State) : State :=
  match if kind = 1 then (if (entryAt s a).isSome then goodState s a else gotBlock s a 1) else none, namedCard s a with
  | some b, some c => setCardBus (fun x => { x with
      lastRead := mput x.lastRead c.id ⟨stAllot b, stSeq b, (b.drop 20).take 16⟩ }) s
  | _, _ => s

/-- CARD_BLOCK_TRANSFER: the exchange at the head of the bus's list ends. `answer` is the card's answer to the
call, and `data` the fetched block with its line CRCs, or the receipt byte. (DEDUCED, log 70) -/
def blockTransfer (addr kind : Nat) (answer data : List Byte) (s : State) : State :=
  if busUp s = false ∨ s.card.hold.isSome ∨ s.card.todo.head? ≠ some (addr, kind) then s
  else
    let store := decide (0x10 < kind)
    let verb := if store then 0x22 else 0x21
    let before := ((namedCard s addr).map NamedCard.miss).getD 0
    let (ok, s0) := takeAnswer verb addr answer (callCard verb addr kind s)
    if !ok then s0
    else if store then
      let s1 := emit (.cardBlock addr (blockLines (storeBlock s addr kind))) s0
      let good := decide (data = [0xA5])
      let s2 := match namedCard s1 addr with
        | some c => setNamed addr (some { c with receipt := good }) s1
        | none => s1
      let s3 := if good then setCardBus (fun b => { b with hold := some addr }) s2
        else if data = [] then setCardBus (fun b => { b with timeouts := satInc b.timeouts 0xFFFF }) s2
        else setCardBus (fun b => { b with crcErr := satInc b.crcErr 0xFFFF }) s2
      nextExchange s3
    else if data.length ≠ 136 then
      fetchFailed addr before (setCardBus (fun b => { b with timeouts := satInc b.timeouts 0xFFFF }) s0)
    else
      let n := badLines data
      if 0 < n then fetchFailed addr before (setCardBus (fun b => { b with crcErr := min 0xFFFF (b.crcErr + n) }) s0)
      else match namedCard s0 addr with
        | some c => nextExchange (noteState addr kind
            (setNamed addr (some { c with blocks := mput c.blocks kind (data.take 128) }) s0))
        | none => s0

/-- CARD_HOLD_END: the card releases CC_DAT3. -/
def cardHoldEnd (s : State) : State := setCardBus (fun b => { b with hold := none }) s

/-- The bus has no exchange left to make. -/
def exchanged (s : State) : Bool := s.card.todo.isEmpty && s.card.hold.isNone

/-- Take the bus for exchanges with a fresh NONCE under an operation and argument. -/
def takeBus (use : CardUse) (op : Nat) (args : List Nat) (todo : List (Nat × Nat)) (s : State) : State :=
  let (nonce, s1) := drawBytes 0x41 16 s
  setCardBus (fun b => { b with
    use := use, nonce := nonce, op := op, args := args, todo := todo, retried := false
    named := b.named.map (fun p => (p.1, p.2.map (fun c => { c with blocks := [], receipt := false }))) }) s1

/-- Exchanges under the CHALLENGE in use, whose blocks are read afresh. -/
def askBlocks (todo : List (Nat × Nat)) (s : State) : State :=
  setCardBus (fun b => { b with
    todo := todo, named := b.named.map (fun p => (p.1, p.2.map (fun x => { x with blocks := [] }))) }) s

/-- Pairing keys that PAIR carried stand nowhere but in the table (R394). -/
def dropNewKeys (s : State) : State :=
  setCardBus (fun b => { b with named := b.named.map (fun p => (p.1, p.2.map (fun c => { c with newKey := [] }))) }) s

/-- The bus is free again. -/
def freeBus (s : State) : State := dropNewKeys (setCardBus (fun b => { b with use := .idle, todo := [], retried := false }) s)

/-- The custody commands (R396). -/
def custodyOp (op : Nat) : Bool := decide (0x70 ≤ op ∧ op ≤ 0x72)

/-- A custody command's turn: no earlier one is unanswered, and the bus is free. -/
def custodyTurn (c : Cmd) (s : State) : Bool :=
  s.card.use == .idle && ((s.cmds.admitted.find? (fun d => custodyOp (cOp d))).map Cmd.id == some c.id)

/-! ### The custody table (R394) -/

def entriesIn (s : State) : List Nat := (List.range 16).filter (fun i => (cardOf s.realms.live i).isSome)

/-- Present enrolled cards: index and address, by index. -/
def presentEntries (s : State) : List (Nat × Nat) := (List.range 16).filterMap (fun i => (addrOf s i).map (fun a => (i, a)))

/-- Both images of the realm table change. -/
def changeTables (f : RealmTable → RealmTable) (s : State) : State :=
  { s with realms := { s.realms with live := f s.realms.live, durable := f s.realms.durable } }

/-- A pending transaction closes: the table records it, and no entry is written (R402). -/
def closeTxn (i : Nat) (s : State) : State :=
  changeTables (fun t => match cardOf t i with
    | some e => setCard i (some { e with txn := none }) t
    | none => t) s

/-! ### CARD_APPROVE (R395, R396) -/

/-- The argument words W9 to W14. -/
def appArgs (c : Cmd) : List Nat := (List.range 6).map (fun i => wd c.words (9 + i))

/-- The states in which an operation is allowed (R395). -/
def opAllowed (s : State) (op : Nat) : Bool :=
  let un := s.glb.lifecycle == lcUnprovisioned
  let pr := s.glb.lifecycle == lcProvisioned
  match op with
  | 1 => un && (entriesIn s).isEmpty
  | 2 => un && !(entriesIn s).isEmpty
  | 3 => un
  | 7 | 8 | 9 | 10 => un || pr
  | _ => pr

/-- An argument out of its range (R395, R440). (DEDUCED, log 65) -/
def argBad (s : State) (op : Nat) (a : List Nat) : Bool :=
  let g := fun i => a.getD i 0
  match op with
  | 1 => decide (g 0 < 2 ∨ 8 < g 0)
  | 5 => decide (slotCount ≤ g 0 + 65536 * g 1)
  | 7 =>
    let rep := bit (g 0) 4
    decide (32 ≤ g 0) ||
      (if rep then decide (g 1 < 2 ∨ 15 < g 1 ∨ g 2 < 1 ∨ 720 < g 2) else decide (g 1 ≠ 0 ∨ g 2 ≠ 0)) ||
      (a.drop 3).any (fun x => x ≠ 0)
  | 6 => (drawChecks (g 0) (g 1) (g 2) (g 3)).any (fun p => p.1) || decide (g 0 % 4 = 0 ∧ slotCount < g 2 + 65536 * g 3)
  | 9 => (cardOf s.realms.live (g 0)).isNone
  | 10 => decide (g 0 < 2 ∨ min 8 (entriesIn s).length < g 0)
  | _ => false

/-- Cards that ENROL and CARD_ADD pair: present, unlocked, not enrolled. (DEDUCED, log 66) -/
def pairable (s : State) : List Nat :=
  (addrs s).filter (fun a => (namedCard s a).any (fun c => bit c.word 12 && (enrolledAt s c.id).isNone))

/-- Draw a pairing key for each card of a list (R394). -/
def drawKeys (l : List Nat) (s : State) : State :=
  l.foldl (fun t a => match namedCard t a with
    | some c => let (k, u) := drawBytes 0x42 32 t
                setNamed a (some { c with newKey := k, receipt := false }) u
    | none => t) s

/-- Step 0 of CARD_APPROVE: the checks, and the exchanges of R396. -/
def approveStart (op : Nat) (c : Cmd) (s : State) : State :=
  let a := appArgs c
  if custodyTurn c s = false then s
  else if argBad s op a then finish c sBadParam [] [] s
  else if !opAllowed s op then finish c sNotPermitted [] [] s
  else if op = 1 then
    let l := pairable s
    if busUp s = false ∨ l.length < a.getD 0 0 ∨ l.length < 2 then finish c sNotPermitted [] [] s
    else setCmd { c with step := 2 } (drawKeys l (takeBus (.cmd c.id) op a (l.map (fun x => (x, 0x15))) s))
  else
    let l := if busUp s then (presentEntries s).map Prod.snd else []
    let each := fun x => [(x, 0x11), (x, 0x02)] ++ if op = 2 then [(x, 0x03)] else []
    setCmd { c with step := 1 } (takeBus (.cmd c.id) op a (l.flatMap each) s)

/-- The approving entries of an operation (R396); for KEK_LOAD a card whose COMPONENT is rejected counts as none (R391). -/
def approvers (s : State) : List (Nat × Nat) :=
  (presentEntries s).filter (fun p => goodApproval s p.2 && (s.card.op != 2 || (component s p.2).isSome))

/-- End a custody command and free the bus. -/
def endCustody (c : Cmd) (status : Nat) (results : List Nat) (s : State) : State :=
  finish c status results [] (freeBus s)

/-- A fresh APPROVAL_ID (R396): a non-zero 16-bit value, which one is open. (DEDUCED, log 68) -/
def newApproval (s : State) : Nat × State :=
  let (x, t) := draw 0x43 s
  (x % 65535 + 1, t)

/-- The APPROVE entry of an operation with its approval's ID and the approving indices (R399). -/
def approveEntry (c : Cmd) (op id mask : Nat) : List Word :=
  let a := appArgs c
  cardEntry 3 0 0 ([op, id, mask] ++ a) (cOrigin c) sOk

/-- An operation of the quorum has its approvals: what it checks of the state (R20, R303, R395). -/
def opReady (s : State) (op : Nat) (a : List Nat) : Bool :=
  match op with
  | 2 =>
    let k := slotNow s (a.getD 0 0)
    let ctr0 := a.getD 2 0 + 65536 * a.getD 3 0
    decide (k.counter < ctr0 ∧ ctr0 < 0xFFFFFFFF) &&
      !slotPending s (a.getD 0 0) &&
      (match kekOf s 0 with
        | some n => decide ((slotNow s n).keyGen < a.getD 1 0)
        | none => true)
  | 3 => decide (0 < s.realms.live.threshold) && (kekOf s 0).isSome && s.clk.everSet
  | 4 => s.glb.service == svQuiesced && s.glb.holdupOk
  | 9 => decide (s.realms.live.threshold < (entriesIn s).length)
  | _ => true

/-- KEK_LOAD: the XOR of the components becomes realm 0's KEK (R303). -/
def kekLoad (c : Cmd) (id : Nat) (s : State) : State :=
  let a := appArgs c
  let n := a.getD 0 0
  let key := (approvers s).foldl (fun x p => xorBytes x ((component s p.2).getD [])) (List.replicate 32 0)
  let (mask, s1) := drawBytes 0x30 64 s
  let new := masked { slotNow s1 n with
    state := ksLive, family := 15, kind := 2, realm := 0, attr := aWrap + 1, keyBits := 256, keyGen := a.getD 1 0
    counter := a.getD 2 0 + 65536 * a.getD 3 0 } key mask
  let (j, t) := changeSlot 6 n new (cOrigin c) s1
  endCustody (withJsn c j) sOk [id] t

/-- An operation with its quorum commits (R396, R441). Operations whose effect waits for the entry to be
durable, or for a realm-table copy, stand at step 3. -/
def approveCommit (op : Nat) (c : Cmd) (s : State) : State :=
  let (id, s1) := newApproval s
  let a := appArgs c
  if op = 2 then kekLoad c id s1
  else
    let mask := ((approvers s1).map (fun p => 2 ^ p.1)).sum
    let s2 := if op = 7 then roomForPair s1 else s1
    let j := nextJsn s2
    let s3 := append (approveEntry c op id mask) s2
    if op = 7 then
      endCustody (withJsn c j) sOk [id] (append (realmEntry 10 0 (a.take 3) (cOrigin c) sOk) s3)
    else if op = 5 ∨ op = 6 then
      endCustody (withJsn c j) sOk [id] (setCardBus (fun b => { b with
        approvals := b.approvals ++ [{ id := id, op := op, args := a, expires := s3.clk.readyUs + 60000000 }] }) s3)
    else if op = 8 then
      let l := (pairable s3).take (16 - (entriesIn s3).length)
      let s4 := setCardBus (fun b => { b with todo := l.map (fun x => (x, 0x15)) }) (drawKeys l s3)
      setCmd { withJsn c j with step := 4, held := [id] } s4
    else setCmd { withJsn c j with step := 3, held := [id] } s3

/-- The cards that took PAIR, with the free indices of the table. -/
def pairedCards (s : State) : List NewCard :=
  let cs := (addrs s).filterMap (fun a => (namedCard s a).bind (fun c =>
    if c.receipt && c.newKey ≠ [] && (enrolledAt s c.id).isNone then some (c.id, c.newKey) else none))
  ((List.range 16).filter (fun i => (cardOf s.realms.live i).isNone)).zip cs |>.map (fun p => ⟨p.1, p.2.1, p.2.2⟩)

/-- ENROL once its cards are paired (R395). -/
def enrolCommit (c : Cmd) (s : State) : State :=
  let l := pairedCards s
  let m := (appArgs c).getD 0 0
  if l.length < m ∨ l.length < 2 then endCustody c sNotPermitted [] s
  else
    let (id, s1) := newApproval s
    let j := nextJsn s1
    let s2 := append (approveEntry c 1 id 0) s1
    setCmd { withJsn c j with step := 3, held := [id] }
      (dropNewKeys (setCardBus (fun b => { b with enrol := some ⟨jsnFrame j, m, l⟩ }) s2))

/-- A row of CARD_APPROVE (R395, R396): it starts the operation, and once every exchange has been made it
decides. -/
def cardApprove (op : Nat) (c : Cmd) (s : State) : State :=
  if wd c.words 8 ≠ op then s
  else if c.step = 0 then approveStart op c s
  else if exchanged s = false then s
  else if c.step = 1 then
    if (approvers s).length < max 1 s.realms.live.threshold ∨ opReady s op (appArgs c) = false then
      endCustody c sNotPermitted [] s
    else approveCommit op c s
  else if c.step = 2 then enrolCommit c s
  else if c.step = 4 then
    match c.jsn with
    | some j => setCmd { c with step := 3 }
        (dropNewKeys (setCardBus (fun b => { b with enrol := some ⟨jsnFrame j, 0, pairedCards s⟩ }) s))
    | none => s
  else s

/-- Enrolments stand in the table once their entry's frame is durable (R394, R396). -/
def enrolDurable (s : State) : State :=
  match s.card.enrol with
  | some e =>
    if e.frame ≤ s.jn.durable then
      setCardBus (fun b => { b with enrol := none }) (changeTables (fun t =>
        e.cards.foldl (fun t p => setCard p.index (some ⟨p.id, p.key, none⟩) t)
          { t with threshold := if e.m = 0 then t.threshold else e.m }) s)
    else s
  | none => s

/-- A realm-table copy stamped at or after a frame is durable. -/
def copyAt (s : State) (f : Nat) : Bool :=
  decide (f ≤ max (s.realms.copyA.elim 0 RealmCopy.stamp) (s.realms.copyB.elim 0 RealmCopy.stamp))

/-- The last step of an operation that waited: PROVISION and DECOMMISSION act on a durable entry (R20, R317), and the
others on a copy of the realm table (R396). -/
def approveEnd (c : Cmd) (s : State) : State :=
  match c.jsn with
  | none => s
  | some j =>
    let op := wd c.words 8
    let f := jsnFrame j
    if s.jn.durable < f ∨ c.step ≠ 3 ∨ s.card.enrol.isSome then s
    else if op = 3 then endCustody c sOk c.held { s with glb := { s.glb with lifecycle := lcProvisioned } }
    else if op = 4 then endCustody c sOk c.held (keysDestroy (vfsOff { s with glb := { s.glb with lifecycle := lcDecommissioned } }))
    else if copyAt s f then endCustody c sOk c.held s
    else s

/-- A command that has ended leaves the bus. -/
def busLeft (s : State) : State :=
  match s.card.use with
  | .cmd id => if (cmdOf s id).isNone then freeBus s else s
  | _ => s

/-- Custody operations that wait make what progress they can. -/
def custodyAdvance (s : State) : State :=
  let s1 := busLeft (enrolDurable s)
  (s1.cmds.admitted.filter (fun c => cOp c == 0x71 && c.step == 3)).foldl (fun t c => approveEnd c t) s1

/-- APPROVAL_EXPIRY (R396). -/
def approvalExpiry (s : State) : State :=
  setCardBus (fun b => { b with approvals := b.approvals.filter (fun a => decide (s.clk.readyUs < a.expires)) }) s

/-! ### CARD_ENUMERATE -/

/-- One row of the table (R396). -/
def enumRow (s : State) (index : Nat) (id : Nat) (addr : Option Nat) (txn : Option CardTxn) : List Byte :=
  let w := ((addr.bind (namedCard s)).map NamedCard.word).getD 0
  let x : CardRead := mget {} s.card.lastRead id
  let held := bit w 11
  let flags := b2n addr.isSome + 2 * b2n (bit w 12) + 4 * b2n held + 8 * b2n txn.isSome +
    16 * b2n (held && decide (x.dev ≠ Config.deviceId))
  let (ps, pd) := match txn with
    | some t => (t.seq, t.pre - t.post)
    | none => (0, 0)
  padTo 32 0 (leBytes 1 index ++ leBytes 1 flags ++ leBytes 2 (addr.getD 0) ++ leBytes 8 id ++ leBytes 4 x.allot ++
    leBytes 4 x.seq ++ leBytes 4 ps ++ leBytes 4 pd)

/-- The table that CARD_ENUMERATE writes. -/
def enumTable (s : State) : List Byte :=
  let rows := (entriesIn s).flatMap (fun i => match cardOf s.realms.live i with
    | some e => [enumRow s i e.cardId (addrOf s i) e.txn]
    | none => [])
  let others := (addrs s).filterMap (fun a => (namedCard s a).bind (fun c =>
    if (enrolledAt s c.id).isNone then some (enumRow s 0xFF c.id (some a) none) else none))
  let all := rows ++ others
  padTo 16 0 ([1, BitVec.ofNat 8 rows.length, BitVec.ofNat 8 (addrs s).length, BitVec.ofNat 8 s.realms.live.threshold,
    BitVec.ofNat 8 all.length]) ++ all.flatten

/-- CARD_ENUMERATE: it starts the exchanges, and writes the table once they are made. -/
def cardEnumerate (c : Cmd) (s : State) : State :=
  if c.step = 0 then
    if custodyTurn c s = false then s
    else
      let l := if busUp s then addrs s else []
      setCmd { c with step := 1 } (takeBus (.cmd c.id) 0 [] (l.flatMap (fun x => [(x, 0x11), (x, 0x01)])) s)
  else if exchanged s = false then s
  else finish c sOk [(addrs s).length] (outTo c 0 (enumTable s)) (freeBus s)

/-! ### CARD_QUOTA_DRAW (R175, R397, R398) -/

def drawRealm (c : Cmd) : Nat := wd c.words 9 % 32

/-- The DRAW approval that a draw names (R397): none needed, usable, or its status where it is not. -/
def drawApproval (c : Cmd) (s : State) : Except Nat (Option Nat) :=
  let id := wd c.words 12
  if bit (realmRow s (drawRealm c)).approveMask (wd c.words 8 % 4) then
    match approvalFor s id 6 ((List.range 4).map (fun i => wd c.words (8 + i))) with
    | some a => .ok (some a.id)
    | none => .error sNotPermitted
  else if id ≠ 0 then .error sBadParam
  else .ok none

/-- The approval of a draw that commits is consumed. -/
def useApproval (o : Option Nat) (s : State) : State :=
  match o with
  | some id => dropApproval id s
  | none => s

/-- A draw that appends one REALM entry ends. -/
def drawEnd (c : Cmd) (ap : Option Nat) (e : List Word) (s : State) : State :=
  let s1 := useApproval ap s
  let j := nextJsn s1
  finishJ c j ((List.range 4).map (fun i => wd c.words (9 + i))) (append e s1)

/-- A draw whose checks come first and whose approval comes second. -/
def drawWith (c : Cmd) (bad : Bool) (s : State) (f : Option Nat → State) : State :=
  if custodyTurn c s = false then s
  else if bad then finish c sBadParam [] [] s
  else match drawApproval c s with
  | .error st => finish c st [] [] s
  | .ok ap => f ap

/-- The sum of QUOTA over realms 1 to 31 with one realm's replaced, and the slots it may reach (R46). -/
def quotaSum (s : State) (r q : Nat) : Nat :=
  ((List.range 31).map (fun i => if i + 1 = r then q else (realmRow s (i + 1)).quota)).sum
def quotaLimit (s : State) : Nat := s.led.free + ((List.range 31).map (fun i => heldOf s (i + 1))).sum

/-- A draw of QUOTA is refused (R46, R175). -/
def quotaBad (s : State) (r q : Nat) : Bool :=
  decide (r = 0 ∨ q < heldOf s r ∨ quotaLimit s < quotaSum s r q)

/-- The card of a debit of d (R397): lowest index, unlocked, not HELD, ALLOT at least d. -/
def debitCard (s : State) (d : Nat) : Option (Nat × List Byte) :=
  (presentEntries s).findSome? (fun p => (goodState s p.2).bind (fun b =>
    if stUnlocked b && !stHeld b && decide (d ≤ stAllot b) then some (p.1, b) else none))

/-- QUOTA (R397, R398, R400). With a debit, step 1 reads the cards and step 2 has appended PREPARE. -/
def drawQuota (c : Cmd) (s : State) : State :=
  if wd c.words 8 % 4 ≠ 0 then s else
  let r := drawRealm c
  let q := pairAt c.words 10
  let row := realmRow s r
  if c.step = 0 then
    drawWith c (quotaBad s r q) s (fun ap =>
      if row.debit && decide (row.quota < q) then
        let l := if busUp s then (presentEntries s).map Prod.snd else []
        setCmd { c with step := 1 } (takeBus (.cmd c.id) 0 [] (l.flatMap (fun x => [(x, 0x11), (x, 0x01)])) s)
      else drawEnd c ap (realmEntry 1 r (leNats 2 q) (cOrigin c) sOk) s)
  else if c.step ≠ 1 ∨ exchanged s = false then s
  else if quotaBad s r q then endCustody c sBadParam [] s
  else if q ≤ row.quota then endCustody c sNotPermitted [] s
  else
    let d := q - row.quota
    match debitCard s d with
    | none => endCustody c sNotPermitted [] s
    | some (i, b) =>
      let t : TxnNums := ⟨stSeq b, stAllot b, stAllot b - d⟩
      let j := nextJsn s
      let e := cardEntry 1 i r (leNats 2 t.seq ++ leNats 2 t.pre ++ leNats 2 t.post ++ leNats 2 row.quota) (cOrigin c) sOk
      setCmd { c with step := 2, held := [i, jsnFrame j], jsn := some j }
        (setCardBus (fun x => { x with txn := t }) (append e s))

/-- A debit that the card shows: COMMIT, and FINISH once it is durable (R400 C4). -/
def debitSeen (c : Cmd) (i : Nat) (s : State) : State :=
  let x := ((cardOf s.realms.live i).bind CardEntry.txn).getD ⟨0, 0, 0, 0, 0, false⟩
  let ap := match drawApproval c s with
    | .ok o => o
    | .error _ => none
  let s1 := useApproval ap s
  let j := nextJsn s1
  let e := cardEntry 2 i (drawRealm c) (leNats 2 x.seq ++ leNats 2 x.pre ++ leNats 2 x.post ++ leNats 2 x.quotaPre) (cOrigin c) sOk
  let s2 := setCardBus (fun b => { b with use := .finish i (jsnFrame j) }) (append e s1)
  finish (needs c (jsnFrame j)) sOk ((List.range 4).map (fun i => wd c.words (9 + i))) [] s2

/-- CARD_DEBIT: once PREPARE is durable DEBIT is stored, and the card's STATE decides; one that decides nothing is read
once more (R400 C3). (DEDUCED, log 69) -/
def cardDebit (c : Cmd) (s : State) : State :=
  let i := c.held.getD 0 0
  let fails := endCustody { c with jsn := none } sNotPermitted []
  if c.step = 2 then
    if s.jn.durable < c.held.getD 1 0 then s
    else match addrOf s i with
    | none => fails s
    | some a => setCmd { c with step := 3 } (askBlocks [(a, 0x12), (a, 0x01)] s)
  else if (c.step ≠ 3 ∧ c.step ≠ 4) ∨ exchanged s = false then s
  else match addrOf s i with
  | none => fails s
  | some a =>
    let seen := goodState s a
    if seen.any (fun b => stLast b s.card.txn 1) then debitSeen c i s
    else if seen.any (fun b => stSeq b == s.card.txn.seq) then fails (closeTxn i s)
    else if c.step = 3 then setCmd { c with step := 4 } (askBlocks [(a, 0x01)] s)
    else fails s

/-- CARD_FINISH: once COMMIT is durable FINISH is stored, and the transaction closes when the card shows
FINISHED (R400 C5). -/
def cardFinish (s : State) : State :=
  match s.card.use with
  | .finish i f =>
    if s.jn.durable < f ∨ exchanged s = false then s
    else match addrOf s i with
    | none => freeBus s
    | some a =>
      if f = 0 then
        match goodState s a with
        | some b => if stLast b s.card.txn 2 then freeBus (closeTxn i s) else freeBus s
        | none => freeBus s
      else askBlocks [(a, 0x13), (a, 0x01)] (setCardBus (fun b => { b with use := .finish i 0 }) s)
  | _ => s

/-- SHARE (R122, R261). -/
def drawShare (c : Cmd) (s : State) : State :=
  if wd c.words 8 % 4 ≠ 1 ∨ c.step ≠ 0 then s else
  let r := drawRealm c
  let res := wd c.words 10
  let v := wd c.words 11
  let total := ((List.range 32).map (fun i => if i = r then v else shareOf s i res)).sum
  let (hp, hs) := blocksHeld s r none
  let other := shareOf s r (if res = 5 then 6 else 5)
  let al := allot (v + other)
  let bad := decide (4096 < total ∨ (r = 0 ∧ (res = 7 ∨ res = 8) ∧ v < 256)) ||
    (decide (res = 5 ∨ res = 6) && decide (al.1 < hp ∨ al.2 < hs))
  drawWith c bad s (fun ap =>
    (if v = shareOf s r res then id else capAdvance) (drawEnd c ap (realmEntry 4 r [res, v] (cOrigin c) sOk) (noteLevels s)))

/-- LANE_BIND (R15, R175, R398). -/
def drawLane (c : Cmd) (s : State) : State :=
  if wd c.words 8 % 4 ≠ 2 ∨ c.step ≠ 0 then s else
  let r := drawRealm c
  let l := wd c.words 10 % 64
  let have_ := laneRealm s l
  let bad := decide ((getLane s l).state ≠ 0) || decide (r ≠ 0 ∧ have_ ≠ 0 ∧ have_ ≠ r)
  drawWith c bad s (fun ap => drawEnd c ap (realmEntry 9 r [l, r] (cOrigin c) sOk) s)

/-- HEDDLE_GRANT (R273). -/
def drawHeddle (c : Cmd) (s : State) : State :=
  if wd c.words 8 % 4 ≠ 3 ∨ c.step ≠ 0 then s else
  let r := drawRealm c
  let h := wd c.words 10
  let g := bit (wd c.words 11) 0
  let now_ := grantOf s h
  let bad := g && decide (now_ ≠ none ∧ now_ ≠ some r)
  drawWith c bad s (fun ap =>
    if (g && decide (now_ = some r)) || (!g && decide (now_ ≠ some r)) then
      finish c sOkAlready ((List.range 4).map (fun i => wd c.words (9 + i))) [] s
    else
      let t := noteLevels s
      drawEnd c ap (realmEntry 8 r [h + 256 * b2n g] (cOrigin c) sOk)
        { t with adm := { t.adm with revoked := mset none t.adm.revoked h (if g then none else some r) } })

/-! ### Resolution (R402) -/

/-- Close a transaction that has been resolved. -/
def resolveEnd (i : Nat) (s : State) : State :=
  freeBus (setCardBus (fun b => { b with resolved := satInc b.resolved 0xFFFF }) (closeTxn i s))

/-- Begin the resolution of an entry's pending transaction: its STATE is read under a fresh CHALLENGE. -/
def resolveStart (i a : Nat) (x : CardTxn) (s : State) : State :=
  let t := takeBus (.resolve i 1) 0 [] [(a, 0x11), (a, 0x01)] (chargeBudget 0 7 200000 s)
  setCardBus (fun b => { b with txn := ⟨x.seq, x.pre, x.post⟩ }) t

/-- Store RESTORE or FINISH, then read STATE again. -/
def resolveStore (i a kind stage : Nat) (s : State) : State :=
  askBlocks [(a, kind), (a, 0x01)] (setCardBus (fun b => { b with use := .resolve i stage }) s)

/-- No rule of R402 fits: close, log both states, alarm at level 1. The entry has one word for each side, the lower one of
its TXN_SEQ (DESIGN CHOICE, log 124). -/
def resolveOdd (i : Nat) (x : CardTxn) (b : List Byte) (s : State) : State :=
  alarm 0x22 0 1 0 (logEvent 7 2 [i, x.seq % 65536, stSeq b % 65536] (resolveEnd i s))

/-- The card's STATE decides (R402). -/
def resolveDecide (i a stage : Nat) (x : CardTxn) (b : List Byte) (s : State) : State :=
  if stage = 2 then (if stLastSeq b x.seq 3 then resolveEnd i s else freeBus s)
  else if stage = 3 then (if stLastSeq b x.seq 2 then resolveEnd i s else freeBus s)
  else if x.committed then
    if stLastSeq b x.seq 1 then resolveStore i a 0x13 3 s
    else if stLastSeq b x.seq 2 then resolveEnd i s
    else resolveOdd i x b s
  else if stSeq b = x.seq then resolveEnd i s
  else if stLastSeq b x.seq 1 then resolveStore i a 0x14 2 s
  else if stLastSeq b x.seq 3 then resolveEnd i s
  else resolveOdd i x b s

/-- CARD_RESOLVE of a custody-table entry: begun in READY service once its card is present; each later one
goes on as the card's STATE says. -/
def cardResolve (i : Nat) (s : State) : State :=
  match (cardOf s.realms.live i).bind CardEntry.txn, addrOf s i with
  | some x, some a =>
    if s.card.use = .idle then
      if s.glb.service = svReady ∧ busUp s = true ∧ s.jn.stopped = false then resolveStart i a x s else s
    else match s.card.use with
    | .resolve j stage =>
      if j ≠ i ∨ exchanged s = false then s
      else match goodState s a with
      | some b => resolveDecide i a stage x b s
      | none => freeBus s
    | _ => s
  | _, none => if (match s.card.use with
      | .resolve j _ => j == i
      | _ => false) then freeBus s else s
  | none, some _ => s

end Sys2Proof.Machine
end

