-- ==== Sys2Proof/Machine/Lanes.lean ====
section
/-! DEFINITION. Tether lanes (R351 to R383): bring-up and session keys, frames, sequencing, time, sleep, the
hand-off of images and data, station reports, opening and closing. -/

namespace Sys2Proof.Machine

def setLane (l : Nat) (x : Lane) (s : State) : State := { s with lanes := mset {} s.lanes l x }

/-- Change a lane. -/
def onLane (l : Nat) (f : Lane → Lane) (s : State) : State := setLane l (f (getLane s l)) s

/-! ### Sequence numbers (R362) -/

/-- The SEQ after n: it skips 0. -/
def seqNext (n : Nat) : Nat := if 0xFFFFFFFF ≤ n then 1 else n + 1
/-- How far a lies ahead of b, modulo 2^32. -/
def seqAhead (a b : Nat) : Nat := (a + 2 ^ 32 - b % 2 ^ 32) % 2 ^ 32
/-- a is at or below b. -/
def seqLe (a b : Nat) : Bool := decide (seqAhead b a < 2 ^ 31)

/-! ### Time of a lane (R371 to R376) -/

/-- An AT lies ahead of the present time of service (R372). -/
def atAhead (s : State) (t : Nat) : Bool := decide (tosDiff t s.clk.tos < 2 ^ 47)

/-- An AT lies less than 50 µs ahead, or has passed (R366). -/
def atGuard (s : State) (t : Nat) : Bool := decide (tosDiff t s.clk.tos < 50 ∨ 2 ^ 47 ≤ tosDiff t s.clk.tos)

/-- The station's error bound e_us (R375); none before the first TIME frame that was answered. -/
def errorBound (s : State) (x : Lane) : Option Nat :=
  x.tSync.map (fun t => 2 + tosDiff s.clk.tos t * x.ppm / 1000000)

/-- LN_STATUS.SYNC_OK (R375). -/
def syncOk (s : State) (x : Lane) : Bool :=
  x.link == .up || (match errorBound s x with
    | some e => decide (e ≤ 40)
    | none => false)

/-- A timed DATA frame is held because the lane is not LINKED with SYNC_OK (R376). -/
def holdingTimed (x : Lane) : Bool := x.link != .up && x.places.any (fun p => p.time.isSome)

/-- LN_STATUS.ATTN (R382). -/
def laneAttn (s : State) (x : Lane) : Bool :=
  !x.fails.isEmpty ||
    (decide (1 ≤ x.state ∧ x.state ≤ 4) && !syncOk s x && x.timedAcked.any (fun p => atAhead s p.2))

/-- LN_STATUS (R382). -/
def laneStatusWord (s : State) (l : Nat) : Nat :=
  let x := getLane s l
  x.permit * 8192 + laneRealm s l * 256 + b2n (laneAttn s x) * 128 + b2n (holdingTimed x) * 64 +
    b2n (syncOk s x) * 32 + x.linkVer * 8 + x.state

/-- The oldest SEQ of the failure list, or 0. -/
def failOldest (x : Lane) : Nat := (x.fails.head?.map LFail.seq).getD 0

/-- An entry of the failure list: at most 16, the oldest leaves a full one (R369). -/
def failAdd (l seq reason : Nat) (s : State) : State :=
  let x := getLane s l
  let full := decide (16 ≤ x.fails.length)
  logEvent 5 5 ([l] ++ leNats 2 seq ++ [reason]) (setLane l { x with
    fails := (if full then x.fails.drop 1 else x.fails) ++ [⟨seq, s.now⟩]
    dropped := if full then satInc x.dropped 0xFF else x.dropped } s)

/-- FAIL_ENTRY_EXPIRY: entries leave after 10 s (R369). -/
def failExpire (l : Nat) (s : State) : State :=
  onLane l (fun x => { x with fails := x.fails.filter (fun f => decide (s.now < f.since + 10000000)) }) s

/-! ### Frames out (R359, R360) -/

/-- A frame of the D64: header, payload, MAC under the session key (zero in HELLO, and before there is a key), CRC. -/
def frameOut (type version seq fcnt : Nat) (key payload : List Byte) : List Byte :=
  let hdr := [BitVec.ofNat 8 type, BitVec.ofNat 8 (version * 16)] ++ leBytes 2 payload.length ++ leBytes 4 seq ++
    leBytes 4 0 ++ leBytes 4 fcnt
  let m := hdr ++ payload ++ (if key = [] then List.replicate 8 0 else (cmac key (hdr ++ payload)).take 8)
  m ++ leBytes 4 (crc32 m).toNat

/-- The trace's LANE message (R474). -/
def traceLane (l dir type seq : Nat) (s : State) : State := trace 7 l ([dir * 256 + type] ++ leNats 2 seq) s

/-- Symbols follow those that have not wholly left the transmitter. -/
def lineAdd (now : Nat) (rd : Bool) (cs : List Nat) (line : List LineFrame) : List LineFrame :=
  let live := line.filter (fun f => decide (1000 * now < f.start + lineNs f.symbols.length))
  live ++ [{ start := (live.getLast?).elim (1000 * now) (fun f => f.start + lineNs f.symbols.length), rd := rd, symbols := cs }]

/-- A lane stops at once: a frame of which some symbols have left ends with ABORT (R354, R381). (DESIGN CHOICE, log 123) -/
def abortLine (l : Nat) (s : State) : State :=
  let x := getLane s l
  let t := setLane l { x with line := [] } s
  match x.line.find? (fun f => decide (1000 * s.now < f.start + lineNs f.symbols.length)) with
  | some f =>
    let k := (1000 * s.now - f.start) * 3 / 10
    if k = 0 then t else emit (.laneAbort l k (controlSymbol (disparity f.rd (f.symbols.take k)) k30_7).1) t
  | none => t

/-- Send a frame on a lane. Its FCNT counts the frames sent under the keys of the link (R359). -/
def laneOut (l type seq : Nat) (mark : Bool) (payload : List Byte) (s : State) : State :=
  let x := getLane s l
  let fc := if x.keyD = [] then 0 else x.fcntTx + 1
  let b := frameOut type x.version seq fc x.keyD payload
  let (cs, rd) := lineSymbols x.rdTx (frameChars mark b)
  traceLane l 0 type seq (count 0x0E l (emit (.laneSymbols l cs) (emit (.laneFrame l mark b)
    (setLane l { x with rdTx := rd, fcntTx := fc, line := lineAdd s.now x.rdTx cs x.line } s))))

/-- A number of IDLEs. -/
def idleOut (l n : Nat) (s : State) : State :=
  let x := getLane s l
  let (cs, rd) := lineSymbols x.rdTx (idleChars n)
  emit (.laneSymbols l cs) (setLane l { x with rdTx := rd, line := lineAdd s.now x.rdTx cs x.line } s)

/-- CLOSE with a reason, once the station's symbols have been locked on. -/
def laneCloseOut (l reason : Nat) (s : State) : State :=
  if (getLane s l).link = .off ∨ (getLane s l).link = .wake then s else laneOut l 7 0 false [BitVec.ofNat 8 reason, 0, 0, 0] s

/-! ### Links (R355 to R358) -/

/-- The oldest SEQ held, or the next to be assigned. -/
def oldestSeq (x : Lane) : Nat := (x.places.head?.map Place.seq).getD x.nextSeq

/-- The lane without its link: session keys zeroised, frame counters at their start, places kept (R320, R358, R359). -/
def unlinked (x : Lane) : Lane :=
  { x with link := .off, lock := false, keyD := [], keyS := [], helloD := [], helloS := [], rxAny := false, win := 0
           version := 0, fcntTx := 0, fcntRx := 0
           sendSeq := oldestSeq x, acksDue := [], unanswered := [], echoDue := false, capShown := none
           state := if 2 ≤ x.state ∧ x.state ≤ 4 then 1 else x.state }

def loseLink (l : Nat) (s : State) : State := onLane l unlinked s

/-- The lane may drive its pairs (R15, R353, R379). -/
def mayLink (s : State) (l : Nat) : Bool :=
  let x := getLane s l
  decide (laneRealm s l ≠ 0 ∧ x.state ≠ 0) && x.phyEnable && s.glb.service ≠ svLockdown && s.clk.supply && !s.jn.stopped

/-- Start a bring-up, with a wake pulse or without (R355); after an L1 of the lane it waits (R435). -/
def startLink (l : Nat) (opening pulse : Bool) (s : State) : State :=
  let hold := mget 0 s.tm.laneHold l
  if mayLink s l = false then s
  else if s.now < hold then onLane l (fun x => { unlinked x with retryAt := some hold, opening := opening, deferred := true }) s
  else
    let s1 := onLane l (fun x => { unlinked x with
      link := .wake, state := if x.state = 5 then 5 else 2, startAt := s.now, retryAt := none, opening := opening, deferred := false }) s
    if pulse then emit (.wakePulse l) s1 else s1

/-- When a bring-up that failed is tried again: after 10 ms, after 100 ms, then every second (R355). -/
def retryWait (tries : Nat) : Nat := if tries = 0 then 10000 else if tries = 1 then 100000 else 1000000

/-- A bring-up fails: it is logged with its cause, and a try follows later. -/
def failLink (l cause : Nat) (s : State) : State :=
  onLane l (fun x => { unlinked x with retryAt := some (s.now + retryWait x.tries), tries := x.tries + 1 })
    (logEvent 5 1 [l, cause] s)

/-- The link, or the bring-up in progress, is ended with CLOSE and a reason. -/
def endLink (l reason : Nat) (s : State) : State :=
  match (getLane s l).link with
  | .off => s
  | .up => loseLink l (laneCloseOut l reason s)
  | _ => failLink l reason (laneCloseOut l reason s)

/-! ### Closing (R379) -/

/-- The lane becomes CLOSED: held frames are discarded, commands that wait for a place end with ABORTED_RESET, a
pending LANE_CLOSE is answered. With ABORT, CLOSE is sent only if linked. -/
def closeLane (l : Nat) (abort : Bool) (s : State) : State :=
  let x := getLane s l
  let n := x.places.length
  let s1 := if abort && x.link != .up then s else laneCloseOut l 1 s
  let y := unlinked (getLane s1 l)
  let s2 := setLane l { y with state := 0, places := [], retryAt := none, tSync := none, timedAcked := [], tries := 0 } s1
  let waiting := s2.cmds.admitted.filter (fun c => c.lane == some l && c.jsn.isNone)
  let s3 := waiting.foldl (fun t c => endCmd c sAbortedReset t) s2
  let closers := s3.cmds.admitted.filter (fun c => cOp c == 0x63 && c.step == 1 && laneOf c.words == some l)
  closers.foldl (fun t c => finish c sOk [n] [] t) s3

/-- A CLOSING lane with nothing left to send is CLOSED. -/
def closeCheck (l : Nat) (s : State) : State :=
  let x := getLane s l
  if x.state = 5 ∧ x.places = [] ∧ x.reserved = 0 then closeLane l false s else s

/-- LANE_CLOSE_TIMEOUT: 40 ms into CLOSING (R379). -/
def closeTimeout (l : Nat) (s : State) : State :=
  let x := getLane s l
  if x.state = 5 ∧ x.closeAt + 40000 ≤ s.now then closeLane l false s else s

/-! ### Sequenced frames (R362 to R366) -/

/-- The slot, generation and kind of an image's descriptor (R186). -/
def imgSlot (p : Place) : Nat := leNat ((p.payload.drop 2).take 4)
def imgGen (p : Place) : Nat := leNat ((p.payload.drop 6).take 2)
def imgTag (p : Place) : Bool := decide (2 ≤ (p.payload.getD 1 0).toNat / 16)

/-- The record of an image is still in the state that its hand-off left (R178, R366). -/
def imgRecordOk (s : State) (p : Place) : Bool :=
  let r := imageAt s (imgSlot p)
  decide (rGen r = imgGen p ∧ rState r = if imgTag p then stUnconfirmed else stReserved) && (quarOf s (imgSlot p)).isNone

/-- The reason for which a held frame is withdrawn before it is sent (R366). -/
def withdrawReason (s : State) (x : Lane) (p : Place) : Option Nat :=
  if p.type = 0x10 then
    if !imgRecordOk s p then some 1 else if imgTag p && x.version == 1 then some 2 else none
  else if p.type = 0x11 then
    match p.time with
    | some t => if atGuard s t then some 3 else none
    | none => none
  else none

/-- The WITHDRAWN frame that replaces a held one (R366). -/
def withdrawn (p : Place) (reason : Nat) : Place :=
  { p with type := 0x12, time := none
           payload := [BitVec.ofNat 8 p.type, BitVec.ofNat 8 reason] ++
             (if p.type = 0x10 then leBytes 4 (imgSlot p) ++ leBytes 2 (imgGen p) else List.replicate 6 0) }

/-- A place replaced. -/
def setPlace (l : Nat) (p : Place) (s : State) : State :=
  onLane l (fun x => { x with places := x.places.map (fun q => if q.seq = p.seq then p else q) }) s

/-- Withdraw a held frame; one withdrawn for TIME_PASSED enters the failure list. -/
def withdraw (l : Nat) (p : Place) (reason : Nat) (s : State) : State :=
  let t := setPlace l (withdrawn p reason) s
  if reason = 3 then failAdd l p.seq 4 t else t

/-- Send the sequenced frames that may be sent, in SEQ order, never beyond ACK + WIN (R83, R362, R376). -/
def sendPlaces (l : Nat) : Nat → State → State
  | 0, s => s
  | n + 1, s =>
    let x := getLane s l
    match x.places.find? (fun p => seqLe x.sendSeq p.seq) with
    | none => s
    | some p =>
      if x.link ≠ .up ∨ x.rxAny = false ∨ s.jn.durable < p.needFrame ∨ x.win < seqAhead p.seq x.ackSeq then s
      else
        let s1 := match withdrawReason s x p with
          | some r => withdraw l p r s
          | none => s
        let q := ((getLane s1 l).places.find? (fun q => q.seq == p.seq)).getD p
        let s2 := if q.sentAt.isSome then
            count 0x0F l (onLane l (fun x => { x with retx := satInc x.retx 0xFFFF }) s1) else s1
        let s3 := laneOut l q.type q.seq false q.payload s2
        sendPlaces l n (onLane l (fun x => { x with
          places := x.places.map (fun y => if y.seq = q.seq then { q with sentAt := some s.now } else y)
          sendSeq := seqNext q.seq
          sentMax := if seqLe x.sentMax q.seq then q.seq else x.sentMax }) s3)

/-- The ACK of a station frame frees places (R363). -/
def freePlacesTo (l ack : Nat) (s : State) : State :=
  onLane l (fun x =>
    let gone := x.places.filter (fun p => seqLe p.seq ack)
    { x with
      places := x.places.filter (fun p => !seqLe p.seq ack)
      ackSeq := ack
      sentMax := if seqLe x.sentMax ack then ack else x.sentMax
      sendSeq := if seqLe x.sendSeq ack then seqNext ack else x.sendSeq
      dataAcked := x.dataAcked ++ (gone.filter (fun p => p.type == 0x11)).map Place.seq
      timedAcked := x.timedAcked ++ gone.filterMap (fun p => p.time.map (fun t => (p.seq, t))) }) s

/-- An ACK lower than one already accepted changes nothing. -/
def takeAck (l ack : Nat) (s : State) : State :=
  let x := getLane s l
  if seqAhead ack x.ackSeq = 0 ∨ 2 ^ 31 ≤ seqAhead ack x.ackSeq then s else freePlacesTo l ack s

/-- LANE_RETX_TIMEOUT: 500 µs without acknowledgement, and the D64 goes back to the oldest frame (R362). -/
def retxTimeout (l : Nat) (s : State) : State :=
  let x := getLane s l
  match x.places.head? with
  | some p =>
    match p.sentAt with
    | some t => if x.link = .up ∧ t + 500 ≤ s.now then onLane l (fun x => { x with sendSeq := p.seq }) s else s
    | none => s
  | none => s

/-- TIMED_WITHDRAW: a timed frame whose AT comes within 50 µs while it is held: not yet sent, or without a link (R366,
R376). -/
def timedWithdraw (l : Nat) (s : State) : State :=
  (getLane s l).places.foldl (fun t p =>
    match p.time with
    | some a => if (p.sentAt = none ∨ (getLane s l).link ≠ .up) ∧ atGuard s a = true then withdraw l p 3 t else t
    | none => t) s

/-! ### TIME and CAP (R371, R380) -/

/-- A TIME frame with its MARK: the first after a link-up and every 64th after it ask for an echo. -/
def sendTime (l : Nat) (s : State) : State :=
  let x := getLane s l
  let echo := decide (x.times % 64 = 0)
  let p := leBytes 6 s.clk.tos ++ leBytes 1 s.clk.era ++ leBytes 1 (b2n echo) ++ leBytes 2 x.delayNs ++ leBytes 4 s.clk.cal ++ [0, 0]
  laneOut l 3 0 true p (setLane l { x with
    times := x.times + 1, timeAt := s.now, tMark := s.clk.tos, echoDue := x.echoDue || echo } s)

/-- TIME_TICK: every 1 ms while LINKED. -/
def timeTick (l : Nat) (s : State) : State :=
  let x := getLane s l
  if x.link = .up ∧ x.timeAt + 1000 ≤ s.now then sendTime l s else s

/-- The CAP frame (R380). -/
def sendCap (l : Nat) (s : State) : State :=
  let x := getLane s l
  let p := [1, 8, BitVec.ofNat 8 x.version, 0] ++ leBytes 4 s.adm.startNo ++ leBytes 4 s.adm.change ++ leBytes 4 120000 ++
    leBytes 2 50 ++ leBytes 2 1536 ++ leBytes 2 1134 ++ leBytes 2 1000
  laneOut l 4 0 false p (setLane l { x with capShown := some s.adm.change } s)

/-! ### ACK_UP (R364) -/

/-- Answer station frames. -/
def sendAckUp (l : Nat) (es : List (Nat × Nat)) (s : State) : State :=
  laneOut l 5 0 false ([BitVec.ofNat 8 es.length, 0, 0, 0] ++
    es.flatMap (fun e => leBytes 4 e.1 ++ [BitVec.ofNat 8 e.2, 0, 0, 0])) s

/-- Answer the reports whose change is durable. -/
def sendDueAcks (l : Nat) (s : State) : State :=
  let x := getLane s l
  let due := (x.acksDue.filter (fun a => decide (a.needFrame ≤ s.jn.durable))).take 16
  if due = [] ∨ (x.link ≠ .up ∧ x.link ≠ .first) then s
  else sendAckUp l (due.map (fun a => (a.seq, a.disp)))
    (setLane l { x with acksDue := x.acksDue.filter (fun a => !due.contains a) } s)

/-- A lane makes what progress it can: it is brought up for work, it is re-keyed at the end of its frame counter, it
answers reports, shows a new capability record, and sends (R358, R374, R380). -/
def pumpLane (l : Nat) (s : State) : State :=
  let x := getLane s l
  if !mayLink s l then s
  else if x.link = .off then
    if x.places ≠ [] ∧ x.retryAt = none ∧ (x.state = 1 ∨ x.state = 5) then startLink l false true s else s
  else if 0xFFFF0000 ≤ x.fcntTx then startLink l false false (loseLink l (laneCloseOut l 5 s))
  else
    let s1 := sendDueAcks l s
    let s2 := if x.link = .up ∧ x.capShown ≠ some s.adm.change then sendCap l s1 else s1
    sendPlaces l 8 s2

def pumpLanes (s : State) : State := (mkeys s.lanes).foldl (fun t l => closeCheck l (pumpLane l t)) s

/-! ### The rows of bring-up (R353, R355) -/

/-- WAKE_REQUEST: a low on LANE_WAKE_N starts a bring-up on an open lane that has no link. -/
def wakeRequest (l : Nat) (s : State) : State :=
  if (getLane s l).link = .off then startLink l false false s else s

/-- LANE_RX_LOCK: the receiver has locked on the station's IDLEs; HELLO_D goes out (R355, R356). -/
def rxLock (l : Nat) (s : State) : State :=
  if (getLane s l).link ≠ .wake then s
  else
    let (nonce, s1) := drawBytes 0x50 16 s
    let x := getLane s1 l
    let p := [BitVec.ofNat 8 x.permit, BitVec.ofNat 8 l, BitVec.ofNat 8 (laneRealm s l), 0] ++ Config.deviceId ++ nonce
    laneOut l 1 0 false p (setLane l { x with link := .hello, lock := true, helloD := p, lastRx := s.now } s1)

/-- BRINGUP_TIMEOUT: not LINKED 3 ms after the start. -/
def bringupTimeout (l : Nat) (s : State) : State :=
  let x := getLane s l
  if x.link ≠ .off ∧ x.link ≠ .up ∧ x.startAt + 3000 ≤ s.now then failLink l 0 s else s

/-- BRINGUP_RETRY: the retry interval has passed. The bring-up of LANE_OPEN is one only, unless there is work,
and one that an L1's hold put off is made then (R355, R379, R435). (DEDUCED, log 71) -/
def bringupRetry (l : Nat) (s : State) : State :=
  let x := getLane s l
  match x.retryAt with
  | some t =>
    if s.now < t then s
    else if x.opening && x.places.isEmpty && !x.deferred then setLane l { x with retryAt := none } s
    else startLink l (x.opening && x.deferred) true s
  | none => s

/-- LINK_LOSS: the receiver loses lock, or sees 16 error symbols within 1 µs (R354, R358). -/
def linkLoss (l : Nat) (s : State) : State :=
  match (getLane s l).link with
  | .off => s
  | .up => loseLink l s
  | _ => onLane l (fun x => { unlinked x with link := .wake, state := x.state }) s

/-- NO_FRAME_TIMEOUT: 5 ms without a valid frame while LINKED (R358). -/
def noFrame (l : Nat) (s : State) : State :=
  let x := getLane s l
  if x.link = .up ∧ x.lastRx + 5000 ≤ s.now then loseLink l s else s

/-- LANE_PHY_DISABLE: pairs idle, the link lost, the lane WAITING while it is open (R381). (DEDUCED, log 96) -/
def phyDisable (l : Nat) (s : State) : State :=
  onLane l (fun x => { unlinked x with phyEnable := false, retryAt := none }) s

/-! ### Frames in (R361) -/

def fType (f : List Byte) : Nat := (f.getD 0 0).toNat
def fVer (f : List Byte) : Nat := (f.getD 1 0).toNat / 16
def fWin (f : List Byte) : Nat := (f.getD 1 0).toNat % 16
def fSeq (f : List Byte) : Nat := leNat ((f.drop 4).take 4)
def fAck (f : List Byte) : Nat := leNat ((f.drop 8).take 4)
def fFcnt (f : List Byte) : Nat := leNat ((f.drop 12).take 4)
def fPay (f : List Byte) : List Byte := (f.drop 16).take (f.length - 28)

/-- Payload lengths of the station's frames, by TYPE (R360). -/
def rxLen (t : Nat) : Option Nat :=
  match t with
  | 0x07 => some 4
  | 0x81 => some 32
  | 0x82 => some 68
  | 0x83 => some 4
  | 0x84 => some 0
  | 0x86 => some 16
  | 0x90 => some 32
  | 0x91 => some 8
  | _ => none

/-- The TYPE fits the link's state. -/
def typeFits (p : LinkPhase) (t : Nat) : Bool :=
  match p with
  | .hello => t == 0x81 || t == 7
  | .ready => t == 0x82 || t == 7
  | .first | .up => t ∈ [0x07, 0x83, 0x84, 0x86, 0x90, 0x91]
  | _ => false

/-- Check 1: at least 28 bytes, and the CRC. -/
def crcBad (f : List Byte) : Bool :=
  decide (f.length < 28 ∨ leNat (f.drop (f.length - 4)) ≠ (crc32 (f.take (f.length - 4))).toNat)

/-- Check 2. -/
def headBad (x : Lane) (f : List Byte) : Bool :=
  !typeFits x.link (fType f) || decide (rxLen (fType f) ≠ some (f.length - 28)) ||
    decide (leNat ((f.drop 2).take 2) ≠ f.length - 28) ||
    decide (fVer f ≠ if x.link = .hello then 0 else x.version) || decide (8 < fWin f) ||
    (fType f == 0x81 && fWin f != 0)

/-- Checks 3 and 4. -/
def macBad (x : Lane) (f : List Byte) : Bool :=
  let m := (f.drop (f.length - 12)).take 8
  if x.keyS = [] then decide (m ≠ List.replicate 8 0 ∨ fFcnt f ≠ 0)
  else decide (m ≠ (cmac x.keyS (f.take (f.length - 12))).take 8 ∨ fFcnt f ≤ x.fcntRx)

/-- Check 5: an ACK beyond the highest SEQ sent, or a SEQ on a frame that has none. -/
def fieldsBad (x : Lane) (f : List Byte) : Bool :=
  (fType f != 0x90 && fType f != 0x91 && fSeq f != 0) ||
  decide (0 < seqAhead (fAck f) x.ackSeq ∧ seqAhead (fAck f) x.ackSeq < 2 ^ 31 ∧
    seqAhead x.sentMax x.ackSeq < seqAhead (fAck f) x.ackSeq)

/-- The receiver takes frames. -/
def listening (x : Lane) : Bool := x.link != .off && x.link != .wake

/-- The region of a lane (R430). -/
def laneRegion (l : Nat) : Nat := 0x40 + l

/-- An accepted frame's FCNT, WIN and ACK are taken: WIN and ACK only under a key. (DEDUCED, log 73) -/
def acceptFrame (l : Nat) (f : List Byte) (s : State) : State :=
  let s1 := onLane l (fun x => { x with
    lastRx := s.now, fcntRx := fFcnt f
    rxAny := x.rxAny || x.keyS != [], win := if x.keyS = [] then x.win else fWin f }) s
  if (getLane s l).keyS = [] then s1 else takeAck l (fAck f) s1

/-- A frame of a TYPE arrives: checks 1 and 2 belong to LANE_BAD_FRAME, the others decide here (R361). -/
def rxFrame (type l : Nat) (f : List Byte) (act : State → State) (s : State) : State :=
  let x := getLane s l
  if !listening x || fType f != type || crcBad f || headBad x f then s
  else
    let s0 := traceLane l 1 type (fSeq f) s
    if macBad x f then
      alarm 0x0F (laneRegion l) 0 0 (onLane l (fun x => { x with macErr := satInc x.macErr 0xFFFF }) s0)
    else if fieldsBad x f then endLink l 4 s0
    else act (acceptFrame l f s0)

/-- LANE_BAD_FRAME: the symbols of a frame that fails check 1 or 2. One with an error symbol or without EOF, an ABORT in
its place included, is discarded and counted as one whose CRC fails (R354). -/
def rxBad (l : Nat) (symbols : List Nat) (s : State) : State :=
  let x := getLane s l
  let f := (rxLine symbols).getD []
  if !listening x then s
  else if crcBad f then onLane l (fun x => { x with crcErr := satInc x.crcErr 0xFFFF }) s
  else if headBad x f then (if x.link = .up ∨ x.link = .first then endLink l 4 s else failLink l 4 s)
  else s

/-! ### HELLO_S and READY_S (R319, R320, R356, R357) -/

/-- The LIVE lane transport slot of a realm with the low byte of its KEY_GEN; the lowest, where several match.
(DEDUCED, log 74) -/
def transportSlot (s : State) (realm g : Nat) : Option (Nat × KeySlot) :=
  (liveSlots s realm (fun k => hasAttrs k aLane && decide (k.keyGen % 256 = g))).head?

/-- The session keys (R320). -/
def sessionKeys (key : List Byte) (realm lane version g : Nat) (dn sn : List Byte) : List Byte :=
  kdf key [0x44, 0x51, 0x4C, 0x53] ([BitVec.ofNat 8 realm, BitVec.ofNat 8 lane, BitVec.ofNat 8 version, BitVec.ofNat 8 g] ++ dn ++ sn) 512

/-- HELLO_S: the registers show it, its fields are checked, the keys derived, READY_D sent (R356, R357, R383). -/
def helloAct (l : Nat) (f : List Byte) (s : State) : State :=
  let x := getLane s l
  let p := fPay f
  let g := fun i => (p.getD i 0).toNat
  let v := g 0
  let rx := leNat ((p.drop 4).take 4)
  let kept := decide (g 3 = 1)
  let s := setLane l { x with ppmSeen := g 2, stationId := (p.drop 8).take 8 } s
  if v = 0 ∨ 3 < v ∨ bit x.permit (v - 1) = false then endLink l 2 s
  else match transportSlot s (laneRealm s l) (g 1) with
  | none => endLink l 3 s
  | some (_, k) =>
    if g 2 = 0 ∨ 200 < g 2 ∨ 1 < g 3 ∨ (kept = false ∧ rx ≠ 0) then endLink l 4 s
    else
      let ks := sessionKeys (slotKey k) (laneRealm s l) l v (g 1) ((x.helloD.drop 20).take 16) ((p.drop 16).take 16)
      let within := decide (seqAhead rx (oldestSeq x) ≤ seqAhead x.nextSeq (oldestSeq x))
      let s1 := if kept && !within then logEvent 5 1 [l, 4] s else s
      let y := { getLane s1 l with
        link := .ready, version := v, keyD := ks.take 32, keyS := ks.drop 32, helloS := p, fcntTx := 0, fcntRx := 0
        ppm := g 2 }
      laneOut l 2 0 false (x.helloD ++ p) (setLane l y s1)

def helloS (l : Nat) (f : List Byte) (s : State) : State := rxFrame 0x81 l f (helloAct l f) s

/-- READY_S: the payload must repeat both HELLO payloads; the first TIME goes out. -/
def readyAct (l : Nat) (f : List Byte) (s : State) : State :=
  let x := getLane s l
  if fPay f ≠ x.helloD ++ x.helloS then endLink l 4 s
  else sendTime l (setLane l { x with link := .first, linkVer := x.version, keyGen := (x.helloS.getD 1 0).toNat, times := 0 } s)

def readyS (l : Nat) (f : List Byte) (s : State) : State := rxFrame 0x82 l f (readyAct l f) s

/-- RX_NEXT of the HELLO_S, where STATE_KEPT holds and it lies in the window (R356, R365). -/
def keptNext (x : Lane) : Option Nat :=
  let rx := leNat ((x.helloS.drop 4).take 4)
  if (x.helloS.getD 3 0).toNat = 1 ∧ seqAhead rx (oldestSeq x) ≤ seqAhead x.nextSeq (oldestSeq x) then some rx else none

/-- The link is LINKED at the first TIME_ECHO: frames below RX_NEXT count as acknowledged, the rest are sent again
(R355, R365). -/
def linkUp (l : Nat) (s : State) : State :=
  let x := getLane s l
  let s1 := setLane l { x with
    link := .up, state := if x.state = 5 then 5 else 3, linkups := satInc x.linkups 0xFFFF, tries := 0, opening := false } s
  let s2 := match keptNext x with
    | some rx => if rx = oldestSeq x then s1 else freePlacesTo l (if rx = 1 then 0xFFFFFFFF else rx - 1) s1
    | none => s1
  sendCap l (onLane l (fun y => { y with sendSeq := oldestSeq y }) s2)

/-- TIME_ECHO: the one-way delay, and LINKED at the first (R371). R is the time measured from the departure of the D64's
MARK to the arrival of the station's, in ns. -/
def echoAct (l rNs : Nat) (f : List Byte) (s : State) : State :=
  let x := getLane s l
  if !x.echoDue then s
  else
    let d := (rNs - leNat (fPay f)) / 2
    let s1 := setLane l { x with delayNs := min 0xFFFF d, echoDue := false, tSync := some x.tMark } s
    if x.link = .first then linkUp l s1 else s1

def timeEcho (l rNs : Nat) (f : List Byte) (s : State) : State := rxFrame 0x83 l f (echoAct l rNs f) s

/-- ACK: its header frees places; it answers the last TIME frame (R363, R375). -/
def ackAct (l : Nat) (s : State) : State :=
  onLane l (fun x => { x with tSync := if x.link = .up then some x.tMark else x.tSync }) s

def ackFrame (l : Nat) (f : List Byte) (s : State) : State := rxFrame 0x84 l f (ackAct l) s

/-! ### Sleep (R374, R375) -/

/-- The answer to SLEEP: 1 ACCEPT or 2 DENY, with its reason. A WAKE_AT that is not ahead has no reason of its own.
(DEDUCED, log 73) -/
def sleepAnswer (s : State) (x : Lane) (wake : Nat) : Nat × Nat :=
  if x.places ≠ [] then (2, 1)
  else if x.acksDue ≠ [] ∨ x.unanswered ≠ [] then (2, 2)
  else if wake ≠ 0 ∧ x.version = 1 then (2, 3)
  else if wake ≠ 0 ∧ atAhead s wake = false then (2, 0)
  else (1, 0)

/-- SLEEP. After ACCEPT and 16 IDLEs the lane is ASLEEP. (DEDUCED, log 72) -/
def sleepAct (l : Nat) (f : List Byte) (s : State) : State :=
  let p := fPay f
  let wake := leNat (p.take 6)
  if (p.drop 6).any (fun b => b != 0) then endLink l 4 s
  else
    let (a, r) := sleepAnswer s (getLane s l) wake
    let s1 := laneOut l 6 0 false [BitVec.ofNat 8 a, BitVec.ofNat 8 r, 0, 0] s
    if a = 1 ∧ ((getLane s l).link = .up ∨ (getLane s l).link = .first) then
      onLane l (fun x => { unlinked x with state := if x.state = 5 then 5 else 4, sleepAt := s.now, wakeAt := wake }) (idleOut l 16 s1)
    else s1

def sleepFrame (l : Nat) (f : List Byte) (s : State) : State := rxFrame 0x86 l f (sleepAct l f) s

/-- SLEEP_IDLE_WAKE: a hand-off wakes a lane that has been idle for 100 µs. -/
def sleepIdleWake (l : Nat) (s : State) : State :=
  let x := getLane s l
  if x.state = 4 ∧ x.places ≠ [] ∧ x.sleepAt + 100 ≤ s.now then startLink l false true s else s

/-- DRIFT_WAKE: e_us has reached 40 with a timed frame to come, or WAKE_AT + e_us has passed (R375). -/
def driftWake (l : Nat) (s : State) : State :=
  let x := getLane s l
  let e := (errorBound s x).getD 0
  let timed := x.timedAcked.any (fun p => atAhead s p.2 && !x.fails.any (fun f => f.seq == p.1))
  let woken := decide (x.wakeAt ≠ 0 ∧ tosDiff s.clk.tos ((x.wakeAt + e) % 2 ^ 48) < 2 ^ 47)
  if x.state = 4 ∧ ((40 ≤ e ∧ timed = true) ∨ woken = true) then startLink l false true s else s

/-! ### Reports (R191 to R194, R367) -/

/-- How the D64 classes a report (R367). -/
inductive RepClass where
  | confirm | definite | uncertain | malformed
  deriving DecidableEq, Repr

/-- The class of a REPORT payload under a version. -/
def reportClass (v : Nat) (p : List Byte) : RepClass :=
  let g := fun i => (p.getD i 0).toNat
  let out := g 6
  let step := g 7
  let ul := g 12
  let zero := fun a b => ((p.take b).drop a).all (fun x => x == 0)
  if out = 0 ∨ 4 < out ∨ (v = 1 ∧ 3 ≤ out) ∨ (out = 3 ∧ v = 3 ∧ step ≠ 5) ∨ (out = 4 ∧ 5 ≤ step) ∨ 5 < step ∨
      (v < 3 ∧ step ≠ 0) ∨ ul ∉ [0, 4, 7, 10] ∨ (v = 3 ∧ 2 ≤ step ∧ ul = 0) ∨ 2 ≤ g 3 ∨
      zero 13 16 = false ∨ zero (16 + ul) 26 = false ∨ zero 26 32 = false then .malformed
  else if out = 1 ∨ out = 3 then .confirm
  else if out = 2 ∨ (v = 3 ∧ step ≤ 1) then .definite
  else .uncertain

def dApplied : Nat := 1
def dAlready : Nat := 2
def dStale : Nat := 3
def dNoted : Nat := 4
def dMalformed : Nat := 5

/-- What R192 makes of a report on a record: the disposition, whether it is logged, and the record's new state. -/
def reportVerdict (bound : Bool) (gen : Nat) (r : List Word) (k : RepClass) : Nat × Bool × Option Nat :=
  let st := rState r
  if !bound || rGen r != gen then (dStale, true, none)
  else if (st = stUnconfirmed ∧ rTag r = true) ∨ (st = stReserved ∧ rTag r = false) then
    match k with
    | .confirm => (dApplied, false, some stIssued)
    | .definite => (dApplied, false, some stVoid)
    | _ => if st = stUnconfirmed then (dApplied, true, none) else (dStale, true, none)
  else if st = stIssued ∨ st = stActive ∨ st = stExhausted then
    match k with
    | .confirm => (dAlready, false, none)
    | .definite => (dStale, true, none)
    | _ => (dAlready, false, none)
  else if st = stVoid ∨ st = stExpired then
    match k with
    | .confirm => (dStale, true, none)
    | _ => (dAlready, false, none)
  else (dStale, true, none)

/-- The log arguments of a report (R483). -/
def reportArgs (l : Nat) (p : List Byte) : List Nat :=
  leNats 2 (leNat (p.take 4)) ++ [leNat ((p.drop 4).take 2), (p.getD 7 0).toNat * 4096 + (p.getD 12 0).toNat * 256 + l] ++
    (bytesWords ((p.drop 16).take 10)).map BitVec.toNat

/-- The new image that a report writes (R31). -/
def reportRec (r : List Word) (st l : Nat) : List Word :=
  if st = stIssued then setPair (setState r stIssued) 8 0 else voidRec r (.lane l)

/-- A report is answered: once its change is durable, or at once where it made none (R193). -/
def reportAnswer (l seq disp need : Nat) (s : State) : State :=
  onLane l (fun y => { y with
    acksDue := y.acksDue ++ [⟨seq, disp, need⟩], unanswered := y.unanswered.filter (fun q => q != seq) }) s

/-- A report is no longer unanswered (R374). -/
def reportClosed (l seq : Nat) (s : State) : State :=
  onLane l (fun y => { y with unanswered := y.unanswered.filter (fun q => q != seq) }) s

/-- A report that stays unanswered (R374). -/
def reportOpen (l seq : Nat) (s : State) : State :=
  onLane l (fun y => { y with unanswered := if y.unanswered.contains seq then y.unanswered else y.unanswered ++ [seq] }) s

/-- A report waits for the next tick, which takes entries again (R128). -/
def reportHold (l : Nat) (f : List Byte) (s : State) : State :=
  reportOpen l (fSeq f) { s with jn := { s.jn with heldWork := s.jn.heldWork ++ [.report l f] } }

/-- A well-formed report is judged: the record's timeouts first, then the record as found (R192). Each entry needs a
place of the tick (R128). -/
def reportJudge (l : Nat) (f : List Byte) (k : RepClass) (s : State) : State :=
  let p := fPay f
  let slot := leNat (p.take 4) % 2 ^ 25
  let s1 := readSlot false slot s
  let bad := !slotGood s1 slot
  let late := !bad && timedOut s1 (imageAt s1 slot)
  if late && otherLeft s1 == 0 then reportHold l f s1 else
  let s2 := if late then (applyTimeout slot (.lane l) 0 s1).2 else s1
  let r := imageAt s2 slot
  let bound := !bad && rRealm r == laneRealm s l
  let (d, logged, new) := reportVerdict bound (leNat ((p.drop 4).take 2)) r k
  if new.isSome && otherLeft s2 == 0 then reportHold l f s2 else
  let s3 := match new with
    | some st => (commitDelta slot (reportRec r st l) (.lane l) 0 (useOther 1 s2)).2
    | none => s2
  let s4 := if k = .uncertain then logEvent 5 2 (reportArgs l p) s3
    else if logged then logEvent 5 3 (reportArgs l p) s3 else s3
  reportAnswer l (fSeq f) d (if late || new.isSome then imageFrame s4 slot else 0) s4

/-- Reports are evaluated only in READY service; otherwise the station keeps them (R192, R193). -/
def reportMay (l : Nat) (s : State) : Bool :=
  decide (s.glb.service = svReady) && !s.jn.stopped && ((getLane s l).link == .up || (getLane s l).link == .first)

/-- A REPORT arrives. -/
def reportAct (l : Nat) (f : List Byte) (s : State) : State :=
  if !reportMay l s then reportOpen l (fSeq f) s
  else
    let k := reportClass (getLane s l).version (fPay f)
    let s0 := count 0x10 l s
    if k = .malformed then sendAckUp l [(fSeq f, dMalformed)] (logEvent 5 4 ([l, 0x90] ++ leNats 2 (fSeq f)) (reportClosed l (fSeq f) s0))
    else reportJudge l f k s0

/-- Work that a tick held goes on, in order, while places remain (R128). -/
def heldOne (s : State) (w : HeldWork) : State :=
  match w with
  | .breaker slot gen => breakerVoidSlot slot gen s
  | .report l f => if reportMay l s then reportJudge l f (reportClass (getLane s l).version (fPay f)) s else s

/-- The work held for a tick, once it has begun (R128). -/
def heldAdvance (s : State) : State :=
  if s.jn.heldWork.isEmpty || otherLeft s == 0 || s.jn.stopped then s
  else s.jn.heldWork.foldl heldOne { s with jn := { s.jn with heldWork := [] } }

def reportFrame (l : Nat) (f : List Byte) (s : State) : State := rxFrame 0x90 l f (reportAct l f) s

/-- LATE_FAIL (R369). -/
def lateAct (l : Nat) (f : List Byte) (s : State) : State :=
  let p := fPay f
  let x := getLane s l
  let target := leNat (p.take 4)
  let reason := (p.getD 4 0).toNat
  if x.link ≠ .up ∧ x.link ≠ .first then s
  else if !x.dataAcked.contains target || reason = 0 || (decide (6 ≤ reason ∧ reason < 0x80)) || (p.drop 5).any (fun b => b != 0) then
    sendAckUp l [(fSeq f, dMalformed)] (logEvent 5 4 ([l, 0x91] ++ leNats 2 (fSeq f)) s)
  else sendAckUp l [(fSeq f, dNoted)] (failAdd l target reason s)

def lateFail (l : Nat) (f : List Byte) (s : State) : State := rxFrame 0x91 l f (lateAct l f) s

/-- CLOSE from the station (R358). -/
def closeAct (l : Nat) (f : List Byte) (s : State) : State :=
  let reason := ((fPay f).getD 0 0).toNat
  match (getLane s l).link with
  | .off => s
  | .up => if reason = 5 then startLink l false false (loseLink l s) else loseLink l s
  | _ => failLink l reason s

def closeFrameIn (l : Nat) (f : List Byte) (s : State) : State := rxFrame 7 l f (closeAct l f) s

/-! ### Hand-off (R186, R189, R366) -/

/-- A frame enters a place of a lane and takes its SEQ. -/
def enterPlace (l type : Nat) (payload : List Byte) (need : Nat) (time : Option Nat) (s : State) : State :=
  onLane l (fun x => { x with
    places := x.places ++ [⟨x.nextSeq, type, payload, need, time, none⟩]
    nextSeq := seqNext x.nextSeq
    reserved := x.reserved - 1 }) s

/-- An ISSUE's image enters its place: UNCONFIRMED for a tag, APP_DATA for both (R31, R189). -/
def placeImage (c : Cmd) (l : Nat) (b : List Nat) (cred : List Byte) (s : State) : State :=
  let slot := pSlot c.words
  let r := imageAt s slot
  let seq := (getLane s l).nextSeq
  let r1 := appData r b
  let new := if rTag r then setPair (setState r1 stUnconfirmed) 8 (secsE s.clk.cal (recBase s r)) else r1
  let (j, t) := commitDelta slot new (cOrigin c) sOk s
  let o := issueOut c r b cred
  let u := enterPlace l 0x10 (laneImage slot r b cred) (jsnFrame j) none t
  finish (withJsn { c with lane := none } j) sOk (issueWords new o.length seq)
    (if pHasOut c.words then outTo c (b2n (pHasIn c.words)) o else []) u

/-- A LANE_SEND's frame enters its place; the reply follows (R173, R366). -/
def placeData (c : Cmd) (l : Nat) (d : List Byte) (s : State) : State :=
  let timed := bit (wd c.words 8) 0
  let at_ := pairAt c.words 9 + 4294967296 * wd c.words 11
  let seq := (getLane s l).nextSeq
  let p := [BitVec.ofNat 8 (b2n timed), 0] ++ leBytes 6 (if timed then at_ else 0) ++ d
  finish { c with lane := none } sOk (leNats 2 seq) []
    (enterPlace l 0x11 p 0 (if timed then some at_ else none) s)

/-- LANE_SEND. (DEDUCED, log 75) -/
def laneSend (c : Cmd) (s : State) : State :=
  match inData c 0, c.lane with
  | some d, some l => placeData c l d s
  | _, _ => s

/-- LANE_PLACE_ENTRY: an ISSUE that is composed, or a LANE_SEND whose data has arrived. -/
def lanePlaceEntry (id : Nat) (s : State) : State :=
  match cmdOf s id with
  | none => s
  | some c =>
    match c.lane with
    | none => s
    | some l =>
      if s.jn.stopped || (getLane s l).state = 0 then s
      else if cOp c = 0x61 then (match inData c 0 with
        | some d => placeData c l d s
        | none => s)
      else if cOp c = 0x20 ∧ c.step = 1 then (match issuePlan s c with
        | .emit b cred => placeImage c l b cred s
        | _ => s)
      else s

/-! ### Lane opcodes (R173, R174, R379) -/

def cmdLane (c : Cmd) : Nat := (laneOf c.words).getD 0

/-- LANE_OPEN. -/
def laneOpenCmd (c : Cmd) (s : State) : State :=
  let l := cmdLane c
  let x := getLane s l
  if x.state = 5 then finish c sBadParam [6] [] s
  else if x.state ≠ 0 then
    finish c sOkAlready [b2n (x.link = .up) + if x.link = .up then x.version * 16 else 0] [] s
  else
    finish c sOk [0] [] (startLink l true true (setLane l { x with
      state := 1, permit := wd c.words 8 % 8, version := 0, linkVer := 0, nextSeq := 1, ackSeq := 0, sendSeq := 1, sentMax := 0
      places := [], dataAcked := [], timedAcked := [], retryAt := none, tries := 0, tSync := none, wakeAt := 0 } s))

/-- LANE_STATUS. -/
def laneStatusCmd (c : Cmd) (s : State) : State :=
  let l := cmdLane c
  let x := getLane s l
  finish c sOk ([laneStatusWord s l, x.linkVer] ++ leNats 2 x.ackSeq ++ leNats 2 (failOldest x) ++ [freePlaces s l]) [] s

/-- LANE_CLOSE without ABORT: the lane is CLOSING until its places are acknowledged, or for 40 ms. -/
def laneCloseCmd (c : Cmd) (s : State) : State :=
  let l := cmdLane c
  let x := getLane s l
  if bit (wd c.words 8) 0 ∨ c.step ≠ 0 then s
  else if x.state = 0 then finish c sOkAlready [0] [] s
  else if x.state = 5 then finish c sOkAlready [x.places.length] [] s
  else
    let s1 := setCmd { c with step := 1 } (setLane l { x with state := 5, closeAt := s.now } s)
    if x.state = 4 then closeLane l false s1 else closeCheck l s1

/-- LANE_CLOSE with ABORT: every held frame is discarded at once. -/
def laneAbortCmd (c : Cmd) (s : State) : State :=
  let l := cmdLane c
  let x := getLane s l
  if !bit (wd c.words 8) 0 then s
  else if x.state = 0 then finish c sOkAlready [0] [] s
  else finish c sOk [x.places.length] [] (closeLane l true (setLane l { x with state := 5 } s))

end Sys2Proof.Machine
end

