-- ==== Sys2Proof/Machine/Frames.lean ====
section
/-! DEFINITION. Frames on their way to durability (R80 to R85), the copies of the realm table and of the key-slot
directory (R91, R315), and compaction (R86 to R92, R107). -/

namespace Sys2Proof.Machine

/-! ### The integrity tree (R55 to R58) -/

/-- A node with one child's tag replaced. -/
def setTag (n : Node) (k : Nat) (t : List Byte) : Node := { n with tags := n.tags.set k t }

/-- FORMAT that the running firmware writes (R61). -/
def writeFormat (s : State) : Nat :=
  match fwRunning s with
  | some f => f.writeFormat
  | none => 1

/-- The new level-1 node of a group of a page image. -/
def newNode1 (s : State) (page g : Nat) (plain : List Byte) : Node :=
  let n := 8 * page + g
  let b := (plain.drop (512 * g)).take 512
  { tags := (chunks 64 b).zipIdx.map (fun p => leafTag (8 * n + p.2) p.1), count := (node1 s n).count + 1, level := 1 }

/-- The new level-2 node of a batch page, with its new level-1 nodes in group order. -/
def newNode2 (s : State) (q : BatchPage) : List Node × Node :=
  let l1 := q.groups.map (fun g => newNode1 s q.page g q.plain)
  let base := node2 s q.page
  let n := (q.groups.zip l1).foldl (fun n p => setTag n p.1 (nodeTag 1 (8 * q.page + p.1) p.2)) base
  (l1, { n with count := q.count, level := writeFormat s * 16 + 2 })

/-- Nodes of one level that change, from the tags of their changed children: index and node. -/
def raiseLevel (s : State) (level : Nat) (kids : List (Nat × List Byte)) : List (Nat × Node) :=
  let parents := (kids.map (fun p => p.1 / 8)).foldl (fun l i => insSorted i l) []
  parents.map (fun i =>
    let n := if level = 8 then rootNode s else nodeUp s level i
    let n := (kids.filter (fun p => p.1 / 8 == i)).foldl (fun n p => setTag n (p.1 % 8) p.2) n
    (i, { n with count := n.count + 1 }))

/-- Levels 3 to 7 and the root after a batch. -/
def raiseAll (s : State) : Nat → Nat → List (Nat × List Byte) → List (Nat × Node) × Option Node
  | 0, _, _ => ([], none)
  | f + 1, level, kids =>
    let ns := raiseLevel s level kids
    if level = 8 then ([], ns.head?.map Prod.snd)
    else
      let (rest, root) := raiseAll s f (level + 1) (ns.map (fun p => (p.1, nodeTag level p.1 p.2)))
      (ns.map (fun p => (upKey level p.1, p.2)) ++ rest, root)

/-! ### Anchors (R84, R94) -/

/-- The 1,024 bytes of an anchor cell (R84). -/
def cellBytes (a : Anchor) : List Byte :=
  let b := padTo 1020 0 (leBytes 8 a.cellNo ++ leBytes 8 a.frameNo ++ padTo 32 0 a.mac ++ leBytes 8 a.tail ++ leBytes 8 a.out ++
    nodeBytes (a.root.getD (shippedNode 8 0)) ++ leBytes 6 a.nextBatch ++ leBytes 6 a.pendFirst ++ leBytes 2 a.pendCount ++
    leBytes 4 a.outNextPage ++ leBytes 2 (b2n a.sealed))
  b ++ leBytes 4 (crc32 b).toNat

/-- Every byte of a list is 0. -/
def allZero (l : List Byte) : Bool := l.all (fun b => b == 0)

/-- What a cell says, where its CELL_CRC is correct and its reserved bytes are 0 (R85). -/
def cellRead (b : List Byte) : Option Anchor :=
  let at_ := fun (i n : Nat) => leNat ((b.drop i).take n)
  if decide (b.length = 1024 ∧ at_ 1020 4 = (crc32 (b.take 1020)).toNat ∧ at_ 146 2 < 2) && allZero ((b.drop 148).take 872) then
    some { cellNo := at_ 0 8, frameNo := at_ 8 8, mac := (b.drop 16).take 32, tail := at_ 48 8, out := at_ 56 8
           root := some (nodeOf ((b.drop 64).take 64)), nextBatch := at_ 128 6, pendFirst := at_ 134 6, pendCount := at_ 140 2
           outNextPage := at_ 142 4, sealed := at_ 146 2 == 1 }
  else none

/-- The anchor that is written now: its fields, with the batches committed and not DONE; PEND_FIRST is 0 while there is
none. (DESIGN CHOICE, log 105) -/
def anchorNow (sealed : Bool) (s : State) : Anchor :=
  let done := s.jn.batches.filter (fun b => b.step == .committed || b.step == .copied || b.step == .closing)
  { cellNo := s.jn.cellNo + 1, frameNo := s.jn.durable, mac := s.jn.durableMac, tail := tailFrame s
    out := s.jn.outFrame, root := s.led.root, nextBatch := s.jn.nextBatch
    pendFirst := (done.head?.map Batch.no).getD 0, pendCount := done.length
    outNextPage := s.jn.outNextPage, sealed := sealed }

/-- Write the next anchor cell. -/
def writeAnchor (sealed : Bool) (s : State) : State :=
  { s with jn := { s.jn with
    anchors := mset none s.jn.anchors ((s.jn.cellNo + 1) % 64) (some (cellBytes (anchorNow sealed s)))
    cellNo := s.jn.cellNo + 1, cellSealed := sealed } }

/-- A batch whose COMMIT is durable: its nodes and its root are in force; the groups it rewrote are good again, and the
cache holds no node that it replaces (R87 B4, R107). -/
def batchCommitted (b : Batch) (s : State) : State :=
  let groups := b.pages.flatMap (fun q => q.groups.map (fun g => 8 * q.page + g))
  let keys := b.pages.map (fun q => upKey 2 q.page) ++ groups.map (upKey 1)
  countN 9 0 b.pages.length { s with led := { s.led with
    upper := b.staged.foldl (fun m p => mput m p.1 p.2) s.led.upper
    badGroups := s.led.badGroups.filter (fun n => !groups.contains n)
    cache := s.led.cache.filter (fun p => !keys.contains p.1)
    root := match b.newRoot with
      | some r => some r
      | none => s.led.root } }

/-- The shadow indices of a batch's staging pages (R88). -/
def stageIdx (b : Batch) : List Nat := (List.range b.stageCount).map (fun k => (b.stageFirst + k) % 131072)

/-- A batch whose DONE is durable: merged overlay entries that were not changed again leave the overlay, and
its shadow and staging pages are free (R53, R87 B6). -/
def batchFinished (b : Batch) (s : State) : State :=
  let shadows := b.pages.map BatchPage.shadow
  { s with
    led := { s.led with
      overlay := (b.pages.flatMap BatchPage.noted).foldl (fun m p =>
        match mget none m p.1 with
        | some e => if e.jsn = p.2 then mdel m p.1
          else mset none m p.1 (some { e with since := e.since.filter (fun j => decide (p.2 < j)) })
        | none => m) s.led.overlay
      staging := (stageIdx b).foldl (fun m i => mdel m i) s.led.staging
      shadowPages := shadows.foldl (fun m i => mdel m i) s.led.shadowPages
      shadowL1 := shadows.foldl (fun m i => mdel m i) s.led.shadowL1
      shadowL2 := shadows.foldl (fun m i => mdel m i) s.led.shadowL2 }
    jn := { s.jn with batches := s.jn.batches.filter (fun x => x.no ≠ b.no) } }

/-- Batches whose awaited entries are durable move on. -/
def batchesDurable (s : State) : State :=
  let due := fun (b : Batch) => decide (b.waitFrame ≤ s.jn.durable)
  let committed := s.jn.batches.filter (fun b => b.step == .committing && due b)
  let finished := s.jn.batches.filter (fun b => b.step == .closing && due b)
  let s1 := committed.foldl (fun t b => batchCommitted b t) s
  let s2 := { s1 with jn := { s1.jn with batches := s1.jn.batches.map (fun b =>
    if b.step == .committing && due b then { b with step := .committed } else b) } }
  finished.foldl (fun t b => batchFinished b t) s2

/-- The realm table's durable image after a frame: its entries, and the QUOTA cuts of R46. (DEDUCED, log 25) -/
def tableDurable (f : Frame) (s : State) : State :=
  let t := f.entries.foldl (fun t e => applyTableEntry e t) s.realms.durable
  let t := (s.jn.cuts.filter (fun c => c.1 == f.no)).foldl (fun t c =>
    setRow c.2 { rowOf t c.2 with quota := (rowOf t c.2).quota - 1 } t) t
  { s with realms := { s.realms with durable := t }
           jn := { s.jn with cuts := s.jn.cuts.filter (fun c => c.1 ≠ f.no) } }

/-- A REALM entry of an ITEM. -/
def isItem (item : Nat) (e : List Word) : Bool := decide (eKind e = 4 ∧ bits (wd e 0) 11 8 = item)

/-- The tamper domain's policy is another table's; source 392 is raised where it changes (R441, R448). (DEDUCED, log 135) -/
def takePolicy (t : RealmTable) (s : State) : State :=
  if s.tm.policy = t.policy ∧ s.tm.policyCount = t.policyCount ∧ s.tm.policyWindow = t.policyWindow then s
  else icRaise 392 { s with tm := { s.tm with policy := t.policy, policyCount := t.policyCount, policyWindow := t.policyWindow } }

/-- The tamper domain takes a scuttle policy when its frame is durable (R441). -/
def policyDurable (f : Frame) (s : State) : State :=
  if f.entries.any (isItem 10) then takePolicy s.realms.durable s else s

/-- The retirements of quarantined slots that are durable with a frame: nothing brings their entries back (R31, R70). -/
def retiredDurable (no : Nat) (s : State) : State :=
  { s with led := { s.led with retiring := s.led.retiring.filter (fun p => decide (no < p.1)) } }

/-- A bank whose BANK entry is durable takes jobs again (R269). -/
def banksDurable (f : Frame) (s : State) : State :=
  let open_ := (f.entries.filter (isItem 5)).map (fun e => bits (wd e 0) 4 0 * 2 + wd e 1 % 2)
  { s with cells := { s.cells with closed := s.cells.closed.filter (fun k => !open_.contains k) } }

/-- Compaction starts at the upper thresholds or by COMPACT_NOW and stops below the lower ones (R86, R92); what
COMPACT_NOW started runs until a batch has been opened or none can be. (DEDUCED, log 104) -/
def compactionOn (s : State) : State :=
  { s with jn := { s.jn with compacting := spanHigh s || (s.jn.compacting && (!spanLow s || s.jn.compactNow)) } }

/-- A programmed frame becomes durable (R81 Anchor, R82, R94). -/
def anchorFrame (f : Frame) (s : State) : State :=
  let s1 := { s with jn := { s.jn with
    durable := f.no
    durableMac := f.bytes.drop 2016
    spanFrames := mput s.jn.spanFrames f.no f.entries.length
    lastEntry := f.entries.getLast? } }
  let s2 := retiredDurable f.no (policyDurable f (banksDurable f (keysDurable f.no (tableDurable f s1))))
  let s3 := batchesDurable (addOutcomes (outcomesOf f.no 0 (if f.start then none else s.jn.lastEntry) f.entries) s2)
  let s4 := if s3.jn.outOpen.isEmpty then { s3 with jn := { s3.jn with outFrame := f.no + 1 } } else s3
  let s5 := writeAnchor f.sealing s4
  let s6 := { s5 with jn := { s5.jn with
    spanFrames := s5.jn.spanFrames.filter (fun p => decide (tailFrame s5 ≤ p.1)) } }
  trace 5 f.entries.length ((leNats 4 f.no).take 3) (count 6 0 (compactionOn s6))

/-- The newest anchor cell carries SEALED. -/
def newestSealed (s : State) : Bool := s.jn.cellSealed

/-- The Anchor and Inhibit phases of a seal (R97): where no frame was closed for it, the anchor carries SEALED all
the same; without the reserve or before recovery nothing is written (R100, R104). Then nothing is written until
the next start. (DEDUCED, log 23) -/
def sealEnd (s : State) : State :=
  if s.jn.sealing && s.jn.flight.isEmpty && s.jn.drained && !s.jn.inhibit then
    let t := if s.glb.holdupOk && s.jn.replayDone && s.start.done.contains .recWrites && !newestSealed s then writeAnchor true s else s
    { t with jn := { t.jn with inhibit := true } }
  else s

/-- The Warp stack may be written: the reserve is good and no seal has begun (R97, R100). -/
def mayWrite (s : State) : Bool :=
  s.glb.holdupOk && !s.jn.stopped && !s.jn.inhibit && s.keys.ledgerIn && s.jn.replayDone && s.glb.service ≠ svReadOnly

/-! ### Copies -/

/-- A realm-table copy is written over the older one (R91). -/
def writeRealmCopy (s : State) : State :=
  let r := s.realms
  let sa := r.copyA.elim 0 RealmCopy.seq
  let sb := r.copyB.elim 0 RealmCopy.seq
  let c := makeCopy (if sa ≤ sb then 0 else 1) s.jn.durable (max sa sb + 1) r.durable
  { s with
    realms := if sa ≤ sb then { r with copyA := some c } else { r with copyB := some c }
    jn := { s.jn with realmFrames := s.jn.realmFrames.filter (fun f => decide (s.jn.durable < f)) } }

/-- REALM_TABLE_COPY_WRITE. -/
def realmCopyWrite (s : State) : State := if mayWrite s then compactionOn (writeRealmCopy s) else s

/-- A directory copy is written over the older one (R312, R315). -/
def writeDirCopy (s : State) : State :=
  let k := s.keys
  let sa := dirSeq k.dirA
  let sb := dirSeq k.dirB
  let copy := if sa ≤ sb then 0 else 1
  let b := dirBytes copy (max sa sb + 1) s.adm.startNo s.jn.durable (fun n => ((slotBus s n).counter, (slotBus s n).pos))
  { s with
    keys := if copy = 0 then { k with dirA := some b } else { k with dirB := some b }
    jn := { s.jn with keyFrames := s.jn.keyFrames.filter (fun f => decide (s.jn.durable < f)) } }

/-- DIRECTORY_COPY_WRITE. -/
def dirCopyWrite (s : State) : State :=
  if mayWrite s && s.start.done.contains .slots && !s.keys.wiped then compactionOn (writeDirCopy s) else s

/-- The copies that may wait no longer: 8,192 frames hold entries of their kind since the newest (R91, R315). -/
def dueCopies (s : State) : State :=
  let t := if 8192 ≤ s.jn.realmFrames.length ∧ mayWrite s = true then compactionOn (writeRealmCopy s) else s
  if 8192 ≤ t.jn.keyFrames.length then dirCopyWrite t else t

/-! ### The frame rows -/

/-- JOURNAL_TICK: the open frame closes if it is not empty; a tick that finds it empty writes nothing (R80). The next
tick's places are free (R128).
(DEDUCED, log 24) -/
def journalTick (s : State) : State :=
  if s.jn.stopped || !s.jn.replayDone || decide (s.now < s.jn.tickAt + 4) then s else
  let s1 := { s with jn := { s.jn with tickAt := s.now, tickOther := 0 } }
  if s1.jn.openEntries.isEmpty then
    { s1 with cmds := { s1.cmds with replies := closeReplies s1.now s1.cmds.replies } }
  else closeFrame false s1

/-- FRAME_SEAL: the oldest closed frame among the first four in flight is sealed (R80, R81). -/
def frameSeal (s : State) : State :=
  if s.jn.inhibit || !s.keys.ledgerIn then s else
  let (fs, m) := sealOne s.jn.lastMac 4 s.jn.flight
  { s with jn := { s.jn with flight := fs, lastMac := m } }

/-- A frame's place in the ring may be written: the frame that it would overwrite lies below TAIL_FRAME and OUT_FRAME
(R94). -/
def ringFree (s : State) (no : Nat) : Bool := decide (no < min (tailFrame s) s.jn.outFrame + ringSize)

/-- FRAME_PROGRAM: the oldest sealed frame is in the ring (R71, R81, R94). -/
def frameProgram (s : State) : State :=
  if s.jn.inhibit then s else
  match programOne s.jn.drained s.jn.flight with
  | (_, none) => s
  | (fs, some f) =>
    if ringFree s f.no then { s with jn := { s.jn with flight := fs, ring := mput s.jn.ring (f.no % ringSize) f.bytes } }
    else s

/-- FRAME_ANCHOR: the oldest frame in flight, once programmed, becomes durable (R81, R82). -/
def frameAnchor (s : State) : State :=
  if s.jn.inhibit then s else
  match s.jn.flight with
  | f :: fs =>
    if f.stage = .programmed then sealEnd (dueCopies (anchorFrame f { s with jn := { s.jn with flight := fs } })) else s
  | [] => s

/-! ### Compaction (R86, R87) -/

/-- Runs of equal values in a list, with their lengths. -/
def tally : List Nat → List (Nat × Nat)
  | [] => []
  | x :: xs =>
    match tally xs with
    | (y, n) :: r => if x = y then (y, n + 1) :: r else (x, 1) :: (y, n) :: r
    | [] => [(x, 1)]

/-- Insert by falling count, after those of the same count. -/
def insTally (p : Nat × Nat) : List (Nat × Nat) → List (Nat × Nat)
  | [] => [p]
  | q :: qs => if q.2 < p.2 then p :: q :: qs else q :: insTally p qs

/-- The values in order of most occurrences, and among those the lowest. -/
def byTally (l : List Nat) : List Nat := ((tally l).foldl (fun r p => insTally p r) []).map Prod.fst

/-- The pages a new batch takes: those of abandoned batches, then, while compaction runs, those with most overlay
entries (R86, R90). -/
def batchPages (s : State) : List Nat :=
  let busy := (s.jn.batches.flatMap Batch.pages).map BatchPage.page
  let old := (s.jn.abandoned.filter (fun a => a.again.isNone)).map AbPage.page
  let ov := if s.jn.compacting then byTally ((mkeys s.led.overlay).map (fun n => n / 128)) else []
  ((old ++ ov.filter (fun p => !old.contains p)).filter (fun p => !busy.contains p)).take 256

/-- The groups of a page that a batch rewrites. -/
def pageGroups (s : State) (page : Nat) : List Nat :=
  let gs := (byTally (((mkeys s.led.overlay).filter (fun n => n / 128 == page)).map (fun n => n / 16 % 8))).take 4
  (if gs.isEmpty then [0] else gs).foldl (fun l g => insSorted g l) []

/-- Shadow indices in use. -/
def shadowsUsed (s : State) : List Nat :=
  s.jn.batches.flatMap (fun b => b.pages.map BatchPage.shadow ++ stageIdx b)

/-- The next n free shadow indices from i on. -/
def takeShadows (used : List Nat) : Nat → Nat → Nat → List Nat
  | 0, _, _ => []
  | _, 0, _ => []
  | f + 1, n + 1, i =>
    let k := i % 131072
    if used.contains k then takeShadows used f (n + 1) (k + 1) else k :: takeShadows used f n (k + 1)

/-- The first of `n` consecutive free indices from i on. (DEDUCED, log 27) -/
def takeRun (used : List Nat) (n : Nat) : Nat → Nat → Nat
  | 0, i => i % 131072
  | f + 1, i =>
    if (List.range n).any (fun k => used.contains ((i + k) % 131072)) then takeRun used n f (i + 1) else i % 131072

/-- One page image of a batch (B1): the page's plaintext with the chosen groups from the overlay; slots of a
group that failed authentication and have no overlay entry become poison images (R107). -/
def batchPage (s : State) (page shadow : Nat) : BatchPage :=
  let groups := pageGroups s page
  let inG := fun (n : Nat) => groups.contains (n / 16 % 8)
  let slots := (List.range 128).map (fun k => page * 128 + k)
  let noted := slots.filterMap (fun n => if inG n then (overlayOf s n).map (fun e => (n, e.jsn)) else none)
  let plain := slots.flatMap (fun n =>
    match (if inG n then overlayOf s n else none) with
    | some e => wordBytes e.img
    | none => if inG n && pageBad s n && (quarOf s n).isSome then wordBytes poisonRec else wordBytes (homeRec s n))
  let count := match s.jn.abandoned.find? (fun a => a.page == page) with
    | some a => a.count + 1
    | none => (node2 s page).count + 1
  { page := page, groups := groups, shadow := shadow, count := count, noted := noted, plain := plain }

/-- Levels 3 to 7: how many nodes a set of pages changes. -/
def upperCount (pages : List Nat) : Nat :=
  let up := fun (l : List Nat) => (l.map (fun i => i / 8)).eraseDups
  let l3 := up pages
  let l4 := up l3
  let l5 := up l4
  let l6 := up l5
  l3.length + l4.length + l5.length + l6.length + (up l6).length

/-- Append entries in order. -/
def appendAll (es : List (List Word)) (s : State) : State := es.foldl (fun t e => append e t) s

/-- The frame of the newest entry appended. -/
def lastFrame (s : State) : Nat := if s.jn.openEntries.isEmpty then s.jn.openNo - 1 else s.jn.openNo

/-- The current page of a batch authenticates as a whole (B1). -/
def pageSound (s : State) (page : Nat) : Bool :=
  !formatBad s page && (List.range 64).all (fun k => (climb s (128 * page + 2 * k)).1)

/-- B1 and B2 of a batch of the given pages, of which `failed` do not authenticate (R107): as many entries of B2 as the
tick still takes, the others later (R127). -/
def openBatch (pages failed : List Nat) (s0 : State) : State :=
  let s := (pages.filter (fun p => failed.contains p || !pageSound s0 p)).foldl (fun t p => pageFail p t)
    (countN 8 0 (pages.length + 2 * (pages.filter (fun p => failed.contains p || !pageSound s0 p)).length) s0)
  let used := shadowsUsed s
  let sh := takeShadows used (used.length + pages.length + 1) pages.length s.led.shadowNext
  let ps := (pages.zip sh).map (fun p => batchPage s p.1 p.2)
  let n := max 1 (ceilDiv (upperCount pages) 56)
  let first := takeRun (used ++ sh) n (used.length + sh.length + n + 1) ((sh.getLast?.getD 0) + 1)
  let no := s.jn.nextBatch
  let openF := s.jn.openNo
  let es := batchEntry 1 no ps.length first n ::
    ps.map (fun q => switchEntry q.page (q.groups.foldl (fun a g => a + 2 ^ g) 0) q.shadow q.count no)
  let k := otherLeft s
  let s2 := appendAll (es.take k) (useOther (min k es.length) s)
  { s2 with
    led := { s2.led with shadowNext := (first + n) % 131072 }
    jn := { s2.jn with
      nextBatch := no + 1, compactNow := false
      abandoned := s2.jn.abandoned.map (fun a => if pages.contains a.page && a.again.isNone then { a with again := some no } else a)
      batches := s2.jn.batches ++ [{ no := no, pages := ps, stageFirst := first, stageCount := n, openFrame := openF
                                     unsent := es.drop k, waitFrame := lastFrame s2, step := .opened, staged := []
                                     newRoot := none }] } }

/-- A batch replaced. -/
def setBatch (b : Batch) (s : State) : State :=
  { s with jn := { s.jn with batches := s.jn.batches.map (fun x => if x.no = b.no then b else x) } }

/-- Further SWITCH entries of a batch, as the tick takes them. -/
def sendSwitches (b : Batch) (s : State) : State :=
  let k := otherLeft s
  let t := appendAll (b.unsent.take k) (useOther (min k b.unsent.length) s)
  setBatch { b with unsent := b.unsent.drop k, waitFrame := lastFrame t } t

/-- A batch may be opened. -/
def mayOpen (s : State) : Bool :=
  decide (s.jn.batches.length < 2) && !(batchPages s).isEmpty && decide (0 < otherLeft s)

/-- BATCH_OPEN: `failed` are pages that fail their three reads as they are built. -/
def batchOpen (failed : List Nat) (s : State) : State :=
  if !mayWrite s then s else
  match s.jn.batches.find? (fun b => !b.unsent.isEmpty) with
  | some b => if otherLeft s = 0 then s else sendSwitches b s
  | none =>
    let s := compactionOn s
    if mayOpen s then openBatch (batchPages s) failed s
    else if (batchPages s).isEmpty then compactionOn { s with jn := { s.jn with compactNow := false } }
    else s

/-- The batch has passed its COMMIT. -/
def pastCommit (b : Batch) : Bool := b.step == .committed || b.step == .copied || b.step == .closing

/-- The plaintext of a staging page of up to 56 upper nodes, keyed as in `Led.upper` (R88). -/
def stagePlain (ns : List (Nat × Node)) : List Byte :=
  padTo 4096 0 (padTo 3584 0 (ns.flatMap (fun p => nodeBytes p.2)) ++
    ns.flatMap (fun p => beBytes 1 (p.1 / 4294967296) ++ beBytes 3 (p.1 % 4294967296)))

/-- The cipher of a staging page at a shadow index (R88). -/
def stageCipher (i no : Nat) (m : List Byte) : List Byte :=
  ctr pageKey (beBytes 4 (0x80000000 + i) ++ beBytes 6 no ++ [0, 0]) 4 0 m

/-- A batch's staging pages with their indices. -/
def stagePages (b : Batch) (ns : List (Nat × Node)) : List (Nat × List Byte) :=
  (stageIdx b).zipIdx.map (fun p => (p.1, stageCipher p.1 b.no (stagePlain ((ns.drop (56 * p.2)).take 56))))

/-- B3: shadow pages, nodes and staged upper nodes are written. -/
def stageBatch (b : Batch) (s : State) : State :=
  let made := b.pages.map (fun q => (q, newNode2 s q))
  let (staged, root) := raiseAll s 6 3 (made.map (fun m => (m.1.page, nodeTag 2 m.1.page m.2.2)))
  let l := made.foldl (fun (l : Led) m =>
    { l with shadowPages := mput l.shadowPages m.1.shadow (pageCipher m.1.page m.1.count m.1.plain)
             shadowL1 := mset [] l.shadowL1 m.1.shadow m.2.1
             shadowL2 := mset none l.shadowL2 m.1.shadow (some m.2.2) }) s.led
  setBatch { b with step := .staged, staged := staged, newRoot := root }
    { s with led := { l with staging := (stagePages b staged).foldl (fun m p => mput m p.1 p.2) l.staging }
             jn := { s.jn with abandoned := s.jn.abandoned.filter (fun a => a.again ≠ some b.no) } }

/-- BATCH_STAGE_WRITE: the oldest batch whose OPEN and SWITCH entries are durable, once the batch before it is
committed. -/
def batchStage (s : State) : State :=
  if !mayWrite s then s else
  match s.jn.batches.find? (fun b => !pastCommit b) with
  | some b => if b.step = .opened ∧ b.unsent = [] ∧ b.waitFrame ≤ s.jn.durable then stageBatch b s else s
  | none => s

/-- BATCH_COMMIT: COMMIT is appended once staging is durable. -/
def batchCommit (s : State) : State :=
  if !mayWrite s then s else
  match s.jn.batches.find? (fun b => b.step == .staged) with
  | some b => if otherLeft s = 0 then s else
    let f := s.jn.openNo
    setBatch { b with step := .committing, waitFrame := f }
      (append (batchEntry 2 b.no b.pages.length b.stageFirst b.stageCount) (useOther 1 s))
  | none => s

/-- B5 of a batch: shadows and staged nodes to their home addresses. -/
def copyBack (b : Batch) (s : State) : State :=
  let l := b.pages.foldl (fun (l : Led) q =>
    let l1s := mget [] l.shadowL1 q.shadow
    { l with
      pages := match mfind l.shadowPages q.shadow with
        | some p => mput l.pages q.page p
        | none => l.pages
      l1 := (q.groups.zip l1s).foldl (fun m p => mput m (8 * q.page + p.1) p.2) l.l1
      l2 := match mget none l.shadowL2 q.shadow with
        | some n => mput l.l2 q.page n
        | none => l.l2 }) s.led
  setBatch { b with step := .copied } { s with led := { l with
    upperCopy := b.staged.foldl (fun m p => mput m p.1 p.2) l.upperCopy } }

/-- BATCH_COPY_BACK. -/
def batchCopy (s : State) : State :=
  if !mayWrite s then s else
  match s.jn.batches.find? (fun b => b.step == .committed) with
  | some b => copyBack b s
  | none => s

/-- Append DONE of a batch. -/
def closeBatch (b : Batch) (s : State) : State :=
  let f := s.jn.openNo
  setBatch { b with step := .closing, waitFrame := f }
    (append (batchEntry 3 b.no b.pages.length b.stageFirst b.stageCount) (useOther 1 s))

/-- BATCH_DONE: the oldest batch, once copied back. -/
def batchDone (s : State) : State :=
  if !mayWrite s then s else
  match s.jn.batches with
  | b :: _ => if b.step = .copied ∧ 0 < otherLeft s then closeBatch b s else s
  | [] => s

end Sys2Proof.Machine
end

