-- ==== Sys2Proof/Machine/Recovery.lean ====
section
/-! DEFINITION. Reading the journal back, and what each phase of recovery does (R85, R90, R103 to R106). Which
phase runs when is with start-up. -/

namespace Sys2Proof.Machine

/-! ### Reading a frame (R73 to R77) -/

/-- What an authentic frame holds. -/
structure FrameRead where
  no : Nat
  prev : List Byte
  start : Bool
  mac : List Byte
  entries : List (List Word)
  deriving DecidableEq, Repr

/-- Frame q from the ring, where its FRAME_MAC and every field of it are good. -/
def readFrame (s : State) (q : Nat) : Option FrameRead :=
  match mfind s.jn.ring (q % ringSize) with
  | none => none
  | some b =>
    let c := b.take 2016
    if b.length ≠ 2048 ∨ b.drop 2016 ≠ frameMac q c then none else
    let p := frameCipher q c
    let ctl := leNat ((p.drop 40).take 2)
    let n := bits ctl 5 0
    let es := (chunks 32 ((p.drop 64).take (32 * n))).map bytesWords
    let good := decide (leNat (p.take 8) = q) && decide (bits ctl 15 14 = 0 ∧ bits ctl 11 8 = 1 ∧ bits ctl 7 6 = 0) &&
      decide (1 ≤ n ∧ n ≤ 60) && decide (bits (leNat ((p.drop 48).take 2)) 15 8 = 0) &&
      allZero ((p.drop 54).take 10) && allZero (p.drop (64 + 32 * n)) && es.all entryOk && pairsOk es
    if good then some { no := q, prev := (p.drop 8).take 32, start := bit ctl 13, mac := b.drop 2016, entries := es }
    else none

/-- The chain from frame q to `last`, as R104 verifies it: each frame names the MAC of the one before; only a
START frame may follow a gap, of four numbers (R105). Where such a START frame stands, a frame in the gap was never
anchored and is passed over (R102). Left: the number at which the chain fails. -/
def chainFrom (s : State) (last : Nat) : Nat → Nat → Option (List Byte) → Except Nat (List FrameRead)
  | 0, q, _ => if last < q then .ok [] else .error q
  | f + 1, q, prev =>
    if last < q then .ok [] else
    let ok := fun (r : FrameRead) => match prev with
      | some m => decide (r.prev = m)
      | none => true
    let after := if q + 4 ≤ last then (readFrame s (q + 4)).filter (fun r => r.start && ok r) else none
    let next := match after with
      | some r => some r
      | none => (readFrame s q).filter ok
    match next with
    | none => .error q
    | some r =>
      match chainFrom s last f (r.no + 1) (some r.mac) with
      | .ok rs => .ok (r :: rs)
      | .error e => .error e

/-! ### Anchor phase (R85) -/

/-- The cell that Chesevia leaves (R85); its OUT_NEXT_PAGE, PEND_FIRST, PEND_COUNT and SEALED, which R85 does not
give, are 0, and ROOT is the shipped root. (DESIGN CHOICE, log 105) -/
def shippedAnchor : Anchor :=
  { cellNo := 0, frameNo := 0, mac := List.replicate 32 0, tail := 1, out := 1, root := none, nextBatch := 1
    pendFirst := 0, pendCount := 0, outNextPage := 0, sealed := false }

/-- What the cell at a place of the ring says: cell 0 is as shipped until it is written. -/
def anchorCell (s : State) (k : Nat) : Option Anchor :=
  match mget none s.jn.anchors k with
  | some b => cellRead b
  | none => if k = 0 ∧ s.jn.anchorsWiped = false then some shippedAnchor else none

/-- Cells that a power collapse tore: none of their bytes is left (R85). -/
def tearCells (torn : List Nat) (s : State) : State :=
  { s with jn := { s.jn with
    anchors := (torn.filter (fun k => decide (k < 64))).foldl (fun m k => mset none m k (some [])) s.jn.anchors } }

/-- The valid anchor: the highest CELL_NO. -/
def bestAnchor (s : State) : Option Anchor :=
  (List.range 64).foldl (fun (a : Option Anchor) k =>
    match a, anchorCell s k with
    | some x, some y => if x.cellNo < y.cellNo then some y else some x
    | none, y => y
    | x, none => x) none

/-- Start-up stops with an L3 (R106); the log names what failed: 1 no anchor, 2 the frame, 3 the node as it is keyed in
`Led.upper`, 4 the shadow index of the page. -/
def recoveryStop (kind n : Nat) (s : State) : State :=
  alarm 0x20 0 3 0 (logEvent 2 3 (kind :: leNats 4 n) { s with start := { s.start with stopped := true } })

/-- RECOVERY_ANCHOR: `torn` are the cells that a power collapse tore. -/
def recAnchor (torn : List Nat) (s0 : State) : State :=
  let s := tearCells torn s0
  match bestAnchor s with
  | none => recoveryStop 1 0 s
  | some a => { s with
    led := { s.led with root := a.root }
    jn := { s.jn with
      anchorSel := some a, cellNo := a.cellNo, durable := a.frameNo, durableMac := a.mac, lastMac := a.mac
      outFrame := a.out, nextBatch := a.nextBatch, outNextPage := a.outNextPage, lastSealed := a.sealed
      cellSealed := a.sealed, openNo := a.frameNo + 5, first := true } }

/-! ### Chain phase -/

/-- The frames from min(TAIL_FRAME, OUT_FRAME) to FRAME_NO. -/
def recFrames (s : State) : Except Nat (List FrameRead) :=
  match s.jn.anchorSel with
  | none => .error 0
  | some a =>
    let q := min a.tail a.out
    match chainFrom s a.frameNo (a.frameNo + 1 - q) q none with
    | .error e => .error e
    | .ok rs =>
      match rs.getLast? with
      | none => .ok []
      | some r => if r.mac = a.mac ∧ r.no = a.frameNo then .ok rs else .error a.frameNo

/-- The frames that the chain phase found good. -/
def chainFrames (s : State) : List FrameRead :=
  match recFrames s with
  | .ok rs => rs
  | .error _ => []

/-- RECOVERY_CHAIN: `lost` are frames that the Warp stack no longer holds. -/
def recChain (lost : List Nat) (s0 : State) : State :=
  let s := { s0 with jn := { s0.jn with ring := lost.foldl (fun m q => mdel m (q % ringSize)) s0.jn.ring } }
  match recFrames s with
  | .error q => recoveryStop 2 q s
  | .ok rs => { s with jn := { s.jn with
      spanFrames := rs.foldl (fun m r => mput m r.no r.entries.length) s.jn.spanFrames } }

/-! ### Batches found in the chain (R87, R90, R103) -/

/-- Entries of a batch: OPEN and its SWITCH entries, with the frame and index of OPEN. -/
structure BatchRead where
  no : Nat
  openFrame : Nat
  openJsn : Nat
  first : Nat
  count : Nat
  /-- Page, groups, shadow and new WRITE_COUNT of each SWITCH. -/
  pages : List (Nat × List Nat × Nat × Nat)
  committed : Bool
  done : Bool
  deriving DecidableEq, Repr

/-- A 48-bit number in three words. -/
def threeAt (e : List Word) (i : Nat) : Nat := wd e i + 65536 * wd e (i + 1) + 4294967296 * wd e (i + 2)

/-- One entry read into the list of batches. -/
def readBatch (jsn : Nat) (l : List BatchRead) (e : List Word) : List BatchRead :=
  if eKind e = 8 then
    let n := threeAt e 1
    match bits (wd e 0) 11 8 with
    | 1 => l ++ [⟨n, jsn / 64, jsn, wd e 5 + 65536 * wd e 6, wd e 7, [], false, false⟩]
    | 2 => l.map (fun b => if b.no = n then { b with committed := true } else b)
    | _ => l.map (fun b => if b.no = n then { b with done := true } else b)
  else if eKind e = 7 then
    let gs := (List.range 8).filter (fun g => bit (bits (wd e 0) 11 4) g)
    let page := bits (wd e 0) 1 0 * 65536 + wd e 1
    l.map (fun b => if b.no = threeAt e 7 then { b with pages := b.pages ++ [(page, gs, wd e 2 + 65536 * wd e 3, threeAt e 4)] } else b)
  else l

/-- Every entry of the chain with its JSN. -/
def chainEntries (s : State) : List (Nat × List Word) :=
  (chainFrames s).flatMap (fun r => r.entries.zipIdx.map (fun p => (r.no * 64 + p.2, p.1)))

/-- The batches whose OPEN stands in the chain. -/
def chainBatches (s : State) : List BatchRead := (chainEntries s).foldl (fun l p => readBatch p.1 l p.2) []

/-- The nodes that a staging page holds, keyed as in `Led.upper`: none where its layout is not that of R88. -/
def stageNodes (i no : Nat) (b : List Byte) : Option (List (Nat × Node)) :=
  let p := stageCipher i no b
  let loc := fun (j : Nat) => ((p.drop (3584 + 4 * j)).take 4)
  let level := fun (j : Nat) => beNat ((loc j).take 1)
  if b.length = 4096 ∧ allZero (p.drop 3808) = true ∧ ((List.range 56).all (fun j => decide (level j = 0 ∨ (3 ≤ level j ∧ level j ≤ 7)))) = true then
    some (((List.range 56).filter (fun j => level j != 0)).map (fun j =>
      (upKey (level j) (beNat ((loc j).drop 1)), nodeOf ((p.drop (64 * j)).take 64))))
  else none

/-- The staging pages of a batch, by shadow index, and what each holds. -/
def stagedIn (s : State) (b : BatchRead) : List (Nat × Option (List (Nat × Node))) :=
  (List.range b.count).map (fun k =>
    let i := (b.first + k) % 131072
    (i, (mfind s.led.staging i).bind (stageNodes i b.no)))

/-- The staged nodes of a batch, in order. -/
def stagedOf (s : State) (b : BatchRead) : List (Nat × Node) := (stagedIn s b).flatMap (fun p => p.2.getD [])

/-- A committed batch that is not DONE, as it stands again (R103). The images it merged are those of the
newest entries before its OPEN. (DEDUCED, log 100) -/
def pendingBatch (b : BatchRead) (s : State) : Batch :=
  { no := b.no, stageFirst := b.first, stageCount := b.count, openFrame := b.openFrame, waitFrame := b.openFrame
    step := .committed, staged := stagedOf s b, newRoot := none
    pages := b.pages.map (fun p =>
                                         { page := p.1, groups := p.2.1, shadow := p.2.2.1, count := p.2.2.2, plain := []
                                           noted := (s.led.overlay.filter (fun o => o.1 / 128 == p.1 && p.2.1.contains (o.1 / 16 % 8))).filterMap (fun o =>
        match o.2 with
        | some e => ((e.since.filter (fun j => decide (j < b.openJsn))).getLast?).map (fun j => (o.1, j))
        | none => none) }) }

/-! ### Tree phase -/

/-- The first listed upper node whose tag its parent does not hold, or whose byte 63 is not 0. -/
def treeFault (s : State) : Option Nat :=
  (s.led.upper.find? (fun p =>
    let level := p.1 / 4294967296
    let i := p.1 % 4294967296
    let parent := if level = 7 then s.led.root else mfind s.led.upper (upKey (level + 1) (i / 8))
    !parent.any (fun n => nodeGood level i p.2 n))).map Prod.fst

/-- The listed upper nodes reproduce the tags of their listed parents. -/
def treeOk (s : State) : Bool := (treeFault s).isNone

/-- The committed batches that are not DONE. -/
def pendingReads (s : State) : List BatchRead := (chainBatches s).filter (fun b => b.committed && !b.done)

/-- The frame that opened the first pending batch with a staging page, or a shadow page, that does not authenticate (R106):
a staging page by its layout, a shadow page by every tag over it. (DEDUCED, log 138) -/
def pendingFault (s : State) : Option Nat :=
  match (pendingReads s).find? (fun b => (stagedIn s b).any (fun p => p.2.isNone)) with
  | some b => some b.openFrame
  | none => (s.jn.batches.find? (fun b => b.pages.any (fun q =>
      (mfind s.led.shadowPages q.shadow).isNone || !(List.range 64).all (fun k => (climb s (128 * q.page + 2 * k)).1)))).map Batch.openFrame

/-- The levels of the tree from their copy, then the staged nodes of pending batches in order (R104). -/
def loadTree (s : State) : State :=
  let pend := pendingReads s
  { s with led := { s.led with upper := pend.foldl (fun m b => (stagedOf s b).foldl (fun m p => mput m p.1 p.2) m) s.led.upperCopy }
           jn := { s.jn with batches := pend.map (fun b => pendingBatch b s) } }

/-- RECOVERY_TREE: `lost` are the shadow indices of shadow and staging pages that the Warp stack no longer holds. -/
def recTree (lost : List Nat) (s0 : State) : State :=
  let s := loadTree { s0 with led := { s0.led with
    shadowPages := lost.foldl (fun m i => mdel m i) s0.led.shadowPages
    staging := lost.foldl (fun m i => mdel m i) s0.led.staging } }
  match treeFault s, pendingFault s with
  | _, some i => recoveryStop 4 i s
  | some k, none => recoveryStop 3 k s
  | none, none => s

/-! ### Replay phase -/

/-- One ledger entry into the overlay; an IMAGE_TAIL needs its IMAGE_HEAD. -/
def replayEntry (s : State) (head : Option (List Word)) (jsn : Nat) (e : List Word) : State :=
  let put := fun (slot : Nat) (r : List Word) (j : Nat) =>
    { s with led := { s.led with overlay := ovAdd slot r j s.led.overlay } }
  match eKind e, head with
  | 1, _ => put (eSlot e) (applyDelta (imageAt s (eSlot e)) e) jsn
  | 3, some h => put (eSlot e) (imageOf h e) (jsn - 1)
  | _, _ => s

/-- The QUOTA cut of an entry that retires a record (R46), on the image before it. -/
def replayCut (s : State) (head : Option (List Word)) (e : List Word) (t : RealmTable) : RealmTable :=
  let old := imageAt s (eSlot e)
  let cut := fun r => setRow r { rowOf t r with quota := (rowOf t r).quota - 1 } t
  match eKind e, head with
  | 1, _ => if bits (wd e 3) 15 12 = stRetired then cut (rRealm old) else t
  | 3, some h => if bits (wd h 3) 15 12 = stRetired ∧ checkOk old = true ∧ counted old = true then cut (rRealm old) else t
  | _, _ => t

/-- Replay of entries in JSN order: the overlay from TAIL_FRAME on, the realm table after its stamp. -/
def replayAll (tail stamp : Nat) : Option (List Word) → List (Nat × List Word) → State → State
  | _, [], s => s
  | head, (j, e) :: es, s =>
    let t := s.realms.live
    let t := if stamp < jsnFrame j then replayCut s head e (applyTableEntry e t) else t
    let s1 := if tail ≤ jsnFrame j then replayEntry s head j e else s
    replayAll tail stamp (if eKind e = 2 then some e else none) es { s1 with realms := { s1.realms with live := t } }

/-- A realm-table copy that authenticates: its number, its stamp and its table (R18, R91). -/
def copyRead (copy : Nat) (c : Option RealmCopy) : Option (Nat × Nat × RealmTable) :=
  c.bind (fun c => (copyTable copy c).map (fun t => (c.seq, c.stamp, t)))

/-- The newest realm-table copy that authenticates; the table as shipped where there is none. -/
def bestCopy (s : State) : Nat × RealmTable :=
  match copyRead 0 s.realms.copyA, copyRead 1 s.realms.copyB with
  | some a, some b => if a.1 < b.1 then b.2 else a.2
  | some a, none => a.2
  | none, some b => b.2
  | none, none => (0, {})

/-- Every slot whose record may differ from the shipped one, ascending. -/
def touchedSlots (s : State) : List Nat :=
  let ps := (mkeys s.led.pages ++ (s.jn.batches.flatMap Batch.pages).map BatchPage.page).foldl (fun l p => insSorted p l) []
  (mkeys s.led.overlay).foldl (fun l n => insSorted n l) (ps.flatMap (fun p => (List.range 128).map (fun k => p * 128 + k)))

/-- A quarantined slot's part in the counts (R48). -/
def recount (s : State) (l : Led) (e : QEntry) : Led :=
  let r := imageAt s e.slot
  if e.held || (!e.checkOk && decide (9 ≤ rState r)) then { l with hold := l.hold.erase e.slot }
  else { countOut r l with hold := l.hold.erase e.slot }

/-- HELD, the counts of generations and epochs, the hold-timer list and the free pool from the records (R104).
The quarantine list is kept, and no record is read for it: R29 quarantines a record when it is read. The free
pool keeps its order; slots that are free again and stand in no place of it join its tail. (DEDUCED, log 18) -/
def rebuildCounts (s : State) : State :=
  let slots := touchedSlots s
  let l0 := { s.led with free := slotCount - slots.length, retired := 0, held := [], agCount := [], kgCount := []
                         epCount := [], hold := [], prefetched := [] }
  let l1 := slots.foldl (fun (l : Led) n =>
    let r := imageAt s n
    let l := if !checkOk r && decide (9 ≤ rState r) then l else countIn r l
    { l with hold := watch n r l.hold }) l0
  let isFree := fun n => rState (imageAt s n) == stFree && (quarOf s n).isNone
  let kept := s.led.released.filter isFree
  let back := slots.filter (fun n => decide (n < s.led.virgin) && isFree n && !kept.contains n)
  { s with led := { s.led.quarantine.foldl (recount s) l1 with released := kept ++ back } }

/-- The pages whose last batch in the chain was never committed (R90). -/
def abandonedPages (bs : List BatchRead) : List AbPage :=
  let all := bs.flatMap (fun b => b.pages.map (fun p => (b, p)))
  ((all.map (fun x => x.2.1)).eraseDups).filterMap (fun page =>
    match (all.filter (fun x => x.2.1 == page)).getLast? with
    | some (b, p) => if b.committed then none else some { page := page, count := p.2.2.2, openFrame := b.openFrame }
    | none => none)

/-- The frames of entries, each once. -/
def framesOf (es : List (Nat × List Word)) : List Nat := (es.map (fun p => jsnFrame p.1)).eraseDups

/-- STAMP_FRAME of the newest directory copy that authenticates (R315). -/
def dirStamp (s : State) : Nat := (bestDir s).elim 0 DirRead.stamp

/-- Copies that the Warp stack no longer holds: 0 and 1 the realm table's, 2 and 3 the directory's. Their page MACs fail,
and neither is used (R18). (DESIGN CHOICE, log 106) -/
def loseCopies (lost : List Nat) (s : State) : State :=
  { s with
    realms := { s.realms with
      copyA := if lost.contains 0 then none else s.realms.copyA
      copyB := if lost.contains 1 then none else s.realms.copyB }
    keys := { s.keys with
      dirA := if lost.contains 2 then none else s.keys.dirA
      dirB := if lost.contains 3 then none else s.keys.dirB } }

/-- RECOVERY_REPLAY. -/
def recReplay (lost : List Nat) (s0 : State) : State :=
  let s := loseCopies lost s0
  match s.jn.anchorSel with
  | none => s
  | some a =>
    let (stamp, table) := bestCopy s
    let es := chainEntries s
    let s1 := replayAll a.tail stamp none es { s with realms := { s.realms with live := table } }
    let s2 := { s1 with
      realms := { s1.realms with durable := s1.realms.live }
      jn := { s1.jn with
        replayDone := true, replayed := (es.filter (fun p => decide (a.tail ≤ jsnFrame p.1))).length
        realmFrames := framesOf (es.filter (fun p => tableEntry p.2 && decide (stamp < jsnFrame p.1)))
        keyFrames := framesOf (es.filter (fun p => eKind p.2 == 5 && decide (dirStamp s1 < jsnFrame p.1)))
        batches := (pendingReads s1).map (fun b => pendingBatch b s1)
        abandoned := abandonedPages (chainBatches s1) } }
    compactionOn (rebuildCounts s2)

/-! ### Outcomes and Writes phases -/

/-- JSN of the newest record in a written outcome page; its frame may have further records that no page holds yet. -/
def pagedJsn (s : State) : Option Nat :=
  let i := (s.jn.outNextPage + 196608 - 1) % 196608
  (mfind s.jn.outPages i).bind (fun p => ((outPageRecs i p.1 p.2).getLast?).map OutRec.jsn)

/-- RECOVERY_OUTCOMES: the open outcome page from the frames at and after OUT_FRAME, without what the last written page
holds of them (R94). -/
def recOutcomes (s : State) : State :=
  let rs := (chainFrames s).filter (fun r => decide (s.jn.outFrame ≤ r.no))
  let before := (readFrame s (s.jn.outFrame - 1)).bind (fun r => r.entries.getLast?)
  let all := (rs.foldl (fun (a : List OutRec × Option (List Word)) r =>
    (a.1 ++ outcomesOf r.no 0 (if r.start then none else a.2) r.entries, r.entries.getLast?)) ([], before)).1
  let open_ := if all.isEmpty then all else match pagedJsn s with
    | some j => all.filter (fun r => decide (j < r.jsn))
    | none => all
  { s with jn := { s.jn with outOpen := open_ } }

/-- A batch of abandoned pages is opened where two others do not stand in its way (R90). -/
def restage (s : State) : State := if !s.jn.abandoned.isEmpty && mayOpen s then openBatch (batchPages s) [] s else s

/-- READY waits for every abandoned page to be staged again (R90). -/
def restageWaits (s : State) : Bool := s.glb.holdupOk && !s.jn.abandoned.isEmpty

/-- RECOVERY_WRITES, only while HOLDUP_OK is 1: B5 and DONE of pending batches, the open outcome page, the pages
of abandoned batches again, and an anchor (R90, R103, R104). What the journal takes no more of in one tick, and staging,
which waits for the journal, follow at their own rows before READY. -/
def recWrites (s : State) : State :=
  if !s.glb.holdupOk then s else
  let s1 := s.jn.batches.foldl (fun t b => if b.step == .committed then copyBack b t else t) s
  let s2 := match s1.jn.batches with
    | b :: _ => if b.step = .copied ∧ 0 < otherLeft s1 then closeBatch b s1 else s1
    | [] => s1
  let s3 := writeOutPage (s2.jn.durable + 1) s2
  writeAnchor false (restage (restage s3))

end Sys2Proof.Machine
end

