-- ==== Sys2Proof/Machine/Tamper.lean ====
section
/-! DEFINITION. The tamper system: alarms, their escalation and their responses (R430 to R444), and `settle`, what
comes about by itself at the end of every command. -/

namespace Sys2Proof.Machine

/-! ### Lockdown and scuttle (R437, R439) -/

/-- Every fetched packet ends with a status, its reply written whether the CQ has room or not (DESIGN CHOICE, log 119);
nothing more is fetched. -/
def endFetched (status : Nat) (s : State) : State :=
  s.host.fns.foldl (fun t f => (mkeys f.2.pairs).foldl (fun t p =>
    let q := getPair t f.1 p
    let t1 := q.fetched.foldl (fun u w => pushReply (headReply f.1 p w (status, []) false u) u) t
    setPairOf f.1 p { q with fetched := [], fetching := [], headAt := none, decided := none, flushLeft := 0 } t1) t) s

/-- Engine states and keys, context keys, session keys and the key store's memory are gone; lanes stop (R345, R381,
R437). -/
def zeroiseVolatile (s : State) : State :=
  let t := (mkeys s.lanes).foldl (fun u l => abortLine l u) (keysZeroise s)
  { t with
    engs := { t.engs with
      dg := t.engs.dg.map (fun p => (p.1, { p.2 with chans := [] }))
      ci := t.engs.ci.map (fun p => (p.1, { p.2 with chans := [] }))
      sg := t.engs.sg.map (fun p => (p.1, { p.2 with queue := [], cur := none, keyWait := false, denied := false, key := [], keyKind := 0 })) }
    lanes := mmap {} (fun _ x => { unlinked x with retryAt := none }) t.lanes
    card := { t.card with enrol := none, named := t.card.named.map (fun p => (p.1, p.2.map (fun c => { c with newKey := [] }))) } }

/-- A realm table in memory without the cards' pairing keys. -/
def dropCardKeys (t : RealmTable) : RealmTable :=
  { t with cards := t.cards.map (fun p => (p.1, p.2.map (fun e => { e with key := [] }))) }

/-- The ledger key, every device key of core crypto, and the pairing keys in memory are gone (R295, R394, R437). -/
def zeroiseCore (s : State) : State :=
  { s with realms := { s.realms with live := dropCardKeys s.realms.live, durable := dropCardKeys s.realms.durable }
           keys := { s.keys with ledgerIn := false, deviceIn := false, attestIn := false }
           tm := { s.tm with zeroiseDue := false } }

/-- The open frame closes with SEAL 1 (R97); held replies take their instant from it. -/
def beginSeal (s : State) : State :=
  if s.jn.stopped then s else
  let t := if s.jn.openEntries.isEmpty then
      { s with cmds := { s.cmds with replies := closeReplies s.now s.cmds.replies } }
    else closeFrame true s
  { t with jn := { t.jn with stopped := true, sealing := true } }

/-- Detect and Alarm out: counters and trace stop, ALARM_N is asserted, start-up stops (R437, R444, R485). -/
def detectAlarm (level : Nat) (s : State) : State :=
  { s with
    tm := { s.tm with tripped := true, tripAt := s.now, alarmN := true, active := []
                      outLevels := s.tm.outLevels ||| (1#5 <<< level) }
    ob := { s.ob with intake := [], pendingLost := 0 }
    start := { s.start with stopped := true } }

/-- Lockdown up to the Seal phase (R437): packets and commands end as R176 gives. (DEDUCED, log 79) -/
def lockdown (s : State) : State :=
  if s.tm.tripped then s else
  let s1 := endFetched sQuiescedAlarm (beginSeal (detectAlarm 3 s))
  let s2 := (s1.cmds.admitted.filter (fun c => c.jsn.isNone)).foldl (fun t c => endCmd c sAbortedAlarm t) s1
  let s3 := zeroiseVolatile s2
  { s3 with tm := { s3.tm with zeroiseDue := true } }

/-- The ledger key and the device keys go at once, or, where a seal is under way, once its frames are sealed (R437, R443). -/
def zeroiseAfterSeal (s : State) : State :=
  if s.jn.sealing && s.jn.flight.any (fun f => f.stage == .closed) then { s with tm := { s.tm with zeroiseDue := true } }
  else zeroiseCore s

/-- Scuttle, S1 and S2 (R439): everything stops, every key is gone, the lifecycle fuses read 0xFF. Packets and
commands are lost (R176). (DEDUCED, log 80) -/
def scuttle (s : State) : State :=
  if s.glb.lifecycle = lcScuttled then s else
  let s0 := detectAlarm 4 s
  let s1 := { s0 with jn := { s0.jn with stopped := true, inhibit := s0.jn.inhibit || !s0.jn.sealing } }
  let s2 := s1.host.fns.foldl (fun t f => (mkeys f.2.pairs).foldl (fun t p =>
    let q := getPair t f.1 p
    setPairOf f.1 p { q with fetched := [], fetching := [], headAt := none, decided := none, flushLeft := 0 } t) t) s1
  let s3 := s2.cmds.admitted.foldl (fun t c => loseCmd c t) s2
  let s4 := zeroiseAfterSeal (zeroiseVolatile s3)
  { s4 with
    cmds := { s4.cmds with replies := [] }
    glb := { s4.glb with lifecycle := lcScuttled }
    host := { s4.host with vfEnable := false }
    tm := { s4.tm with scuttleStep := 2 } }

/-- Lockdown ends in LOCKDOWN: the stack is inhibited, the keys are gone, and every reply that can be written has
been, or its 100 µs are over (R437). -/
def lockdownEnd (s : State) : State :=
  if s.tm.tripped && s.glb.lifecycle ≠ lcScuttled && s.glb.service ≠ svLockdown && s.jn.inhibit && !s.tm.zeroiseDue &&
      (s.cmds.replies.all (fun r => !replyReady s r && !r.held) || decide (s.tm.tripAt + 101 ≤ s.now)) then
    setService svLockdown s
  else s

/-! ### Alarms (R431, R434 to R436, R440) -/

/-- A signed value in two words, least significant first. -/
def intWords (v : Int) : List Nat := leNats 2 ((v % 4294967296).toNat)

/-- Whether an alarm's measured value is logged: supplies, clocks, temperatures, the Envelope (R483). -/
def valueLogged (sensor : Nat) : Bool := sensor ∈ [0x01, 0x02, 0x03, 0x04, 0x05, 0x06, 0x07, 0x09, 0x0A, 0x0B, 0x0C]

/-- The length in µs of the pulse that OUT_PULSE selects. -/
def pulseLen (s : State) : Nat := if s.tm.outPulse = 1 then 1000 else 10000

/-- The service-ball alarm outputs act (R449). (DEDUCED, log 82) -/
def outsAct (s : State) : Bool := s.tm.enable && s.tm.fault == 0

/-- An alarm is noted: its log entry, counts, trace message, TM_LAST and the sources of R448; a pulse starts where its
level is selected. `orig` is the sensor that tripped. -/
def noteAlarm (r : Raise) (orig : Nat) (s : State) : State :=
  let args := [r.level * 256 + r.region] ++ intWords (if valueLogged orig then r.value else 0) ++
    [if r.sensor = 0x13 then orig else 0]
  let s1 := trace 8 (r.level * 256 + r.region) [r.sensor] (count 0x11 r.level (logEvent 1 r.sensor args s))
  let tm := s1.tm
  let tm := if r.level = 0 then tm else { tm with lastSensor := r.sensor, lastLevel := r.level, lastRegion := r.region }
  let tm := if r.level = 1 then { tm with l1Count := satInc tm.l1Count 0xFFFF }
    else if r.level = 2 then { tm with l2Count := satInc tm.l2Count 0xFFFF, outLevels := tm.outLevels ||| 4#5 } else tm
  let tm := if orig = 2 then { tm with envMismatch := satInc tm.envMismatch 0xFFFF }
    else if orig = 3 ∨ orig = 6 then { tm with glitches := satInc tm.glitches 0xFFFF }
    else if orig = 0x0F then { tm with laneMac := satInc tm.laneMac 0xFFFF }
    else if orig = 0x10 then { tm with engineFaults := satInc tm.engineFaults 0xFFFF }
    else tm
  let tm := if outsAct s1 && (tm.outPulse == 1 || tm.outPulse == 2) && bit tm.outSel r.level then
      { tm with pulseEnd := some (s1.now + pulseLen s1) } else tm
  let s2 := { s1 with tm := tm }
  let s3 := if r.level = 2 then icRaise 385 s2 else s2
  if orig = 2 then icRaise 386 s3 else if orig = 0x0F then icRaise 389 s3 else if orig = 0x10 then icRaise 390 s3 else s3

/-- The kind under which an alarm counts towards an escalation (R434): 1 an L1 of a loom, 2 ENGINE_FAULT of a heddle, 3
of a signature engine, 4 LANE_INTEGRITY, 5 ENV_MISMATCH; with the key it is counted by. -/
def escalationKind (r : Raise) : Option (Nat × Nat) :=
  if r.sensor = 0x02 then some (5, 0)
  else if r.sensor = 0x0F then some (4, r.region)
  else if r.sensor = 0x10 then (if 0x20 ≤ r.region then some (2, r.region) else some (3, r.value.toNat))
  else if r.level = 1 ∧ 0x10 ≤ r.region ∧ r.region ≤ 0x13 then some (1, r.region)
  else none

/-- Count and window in µs of a kind. -/
def escalationLimit (kind : Nat) : Nat × Nat :=
  if kind = 1 then (8, 3600000000) else if kind = 2 ∨ kind = 3 then (4, 1000000)
  else if kind = 4 then (16, 1000000) else (16, 3600000000)

/-- The alarm that a repetition becomes. (DEDUCED, log 77) -/
def escalated (kind : Nat) (r : Raise) : Raise :=
  if kind = 5 then ⟨0x11, 0, 3, 0⟩ else if kind = 4 then ⟨0x11, r.region, 1, 0⟩ else ⟨0x11, r.region, 2, 0⟩

/-- Count an alarm towards its escalation: the escalated alarm, where it is reached. -/
def escalate (r : Raise) (s : State) : Option Raise × State :=
  match escalationKind r with
  | none => (none, s)
  | some (k, key) =>
    let (n, w) := escalationLimit k
    let kept := (k, key, s.now) :: s.tm.recent.filter (fun p => decide (s.now - p.2.2 ≤ 3600000000))
    let hits := (kept.filter (fun p => p.1 == k && p.2.1 == key && decide (s.now - p.2.2 ≤ w))).length
    (if n ≤ hits then some (escalated k r) else none, { s with tm := { s.tm with recent := kept } })

/-- A policy condition of R440 turns this L3 into an L4. -/
def policyTurns (s : State) (r : Raise) : Bool :=
  r.level == 3 && ((r.sensor == 8 && bit s.tm.policy 0) || ((r.sensor == 9 || r.sensor == 10) && bit s.tm.policy 1) ||
    ([3, 5, 6, 7].contains r.sensor && r.region == 0 && bit s.tm.policy 2))

/-- An L3 that enters the lockdown history (R438). -/
def inHistory (r : Raise) : Bool := r.level == 3 && ((3 ≤ r.sensor && r.sensor ≤ 0x0A) || r.sensor == 0x11)

/-- The history with a new entry, newest first. -/
def addHistory (r : Raise) (s : State) : State :=
  let e : L3Entry := ⟨r.sensor, r.region, s.clk.cal⟩
  if inHistory r then { s with tm := { s.tm with history := (e :: s.tm.history).take 32 } } else s

/-- REPEAT (R440): the entries within the last WINDOW_H hours number COUNT or more. -/
def repeatTurns (s : State) : Bool :=
  bit s.tm.policy 4 && decide (s.tm.policyCount ≤
    (s.tm.history.filter (fun e => decide (s.clk.cal - e.calendar ≤ 3600 * s.tm.policyWindow))).length)

/-- One alarm is taken: policy, history, log. Answers the alarm as it stands. -/
def takeAlarm (r : Raise) (s : State) : Raise × State :=
  let s1 := addHistory r s
  let r1 : Raise := if policyTurns s1 r || (inHistory r && repeatTurns s1) then { r with sensor := 0x13, level := 4 } else r
  (r1, noteAlarm r1 r.sensor s1)

/-- The cause of an L1 that has gone as soon as it is found. (DEDUCED, log 78) -/
def momentary (sensor : Nat) : Bool := sensor ∈ [0x02, 0x11, 0x12, 0x20, 0x21, 0x22]

/-- A loom throttled while it runs a job: that command's re-dispatch allowance is spent (R132). -/
def spendAllowance (loom : Nat) (s : State) : State :=
  (mkeys s.cells.shuttles).foldl (fun t sh =>
    match (getSh t sh).job with
    | some j => if sh / 48 != loom then t else
        match cmdOf t j.cmd with
        | some c => setCmd { c with redispatched := 1 } t
        | none => t
    | none => t) s

/-- The response to an L1 (R435). -/
def actL1 (r : Raise) (s : State) : State :=
  let gone := if momentary r.sensor then some s.now else none
  let a : L1 := ⟨r.sensor, r.region, gone⟩
  let others := s.tm.active.filter (fun b => !(b.sensor == r.sensor && b.region == r.region))
  let s0 := if 0x10 ≤ r.region ∧ r.region < 0x14 then noteLevels s else s
  let s1 := { s0 with tm := { s0.tm with active := others ++ [a] } }
  if 0x40 ≤ r.region ∧ r.region < 0x80 then
    let l := r.region - 0x40
    endLink l 4 { s1 with tm := { s1.tm with laneHold := mput s1.tm.laneHold l (s1.now + 1000000) } }
  else if 0x10 ≤ r.region ∧ r.region < 0x14 then spendAllowance (r.region - 0x10) s1
  else s1

/-- The looms in service. -/
def loomsIn (s : State) : Nat := ((List.range 4).filter (loomInService s)).length

/-- The response to an L2 (R435): the cell is removed, and an L2 of a loom clears every L1 of it (R436). -/
def actL2 (r : Raise) (s : State) : State :=
  if 0x20 ≤ r.region ∧ r.region < 0x38 then
    if heddleInService s (r.region - 0x20) then removeCell 2 (r.region - 0x20) 3 s else s
  else if 0x10 ≤ r.region ∧ r.region < 0x14 then
    let s0 := noteLevels s
    let s1 := { s0 with tm := { s0.tm with active := s0.tm.active.filter (fun a => a.region ≠ r.region) } }
    if loomInService s1 (r.region - 0x10) then removeCell 1 (r.region - 0x10) 3 s1 else s1
  else s

/-- Take a list of alarms: the alarms as they stand, and those that they escalate to. (DEDUCED, log 76) -/
def takeAll : List Raise → State → List Raise × List Raise × State
  | [], s => ([], [], s)
  | r :: rs, s =>
    let (r1, s1) := takeAlarm r s
    let (e, s2) := escalate r s1
    let (l, es, s3) := takeAll rs s2
    (r1 :: l, (match e with
      | some x => x :: es
      | none => es), s3)

/-- The levels act (R435, R436): an L4 or L3 in place of all lower ones, and once one has
tripped only an L4 acts; an L2 that leaves fewer than two looms in
service becomes an L3 (R434). -/
def act (l : List Raise) (s : State) : State :=
  if l.any (fun r => r.level == 4) then scuttle s
  else if l.any (fun r => r.level == 3) then lockdown s
  else if s.tm.tripped then s
  else
    let l2 := l.filter (fun r => r.level == 2)
    let s1 := l2.foldl (fun t r => actL2 r t) s
    if !l2.isEmpty && inService s1 && decide (loomsIn s1 < 2) then
      let (r, s2) := takeAlarm ⟨0x11, 0, 3, 0⟩ s1
      if r.level = 4 then scuttle s2 else lockdown s2
    else (l.filter (fun r => r.level == 1 && !l2.any (fun x => x.region == r.region))).foldl (fun t r => actL1 r t) s1

/-- The tamper system answers what has been raised. -/
def respond (s : State) : State :=
  match s.tm.raised with
  | [] => s
  | rs =>
    let (l, es, s1) := takeAll rs { s with tm := { s.tm with raised := [] } }
    let (l2, _, s2) := takeAll es s1
    act (l ++ l2) s2

/-! ### Interrupt conditions (R426, R427, R448, R470, R486) -/

/-- 24 h of READY service have passed since the last plan: the next one is being made (R466). -/
def replanDue (s : State) : Bool :=
  decide (s.glb.service = svReady) && decide (s.ag.planAt + 86400000000 ≤ s.clk.readyUs)

/-- The hottest sensor of a range, in 0.125 °C, among those that have been read; 0 before the first reading (R449). -/
def hottest (s : State) (ns : List Nat) : Int :=
  match ns.filterMap (mfind s.tm.temps) with
  | [] => 0
  | t :: r => r.foldl max t

/-- TM_TEMP (R449). -/
def tmTemp (s : State) : Int := hottest s (List.range 20)

/-- Source 387's condition. -/
def tempWarn (s : State) : Bool := s.tm.enable && decide ((s.tm.warn : Int) * 8 < tmTemp s)

/-- CC_PENDING (R403). -/
def pendingMap (s : State) : Nat :=
  (List.range 16).foldl (fun a i => a + (match mget none s.realms.live.cards i with
    | some e => if e.txn.isSome then 2 ^ i else 0
    | none => 0)) 0

/-- The addresses given to cards, bit a − 1 (R403). -/
def presentMap (s : State) : Nat :=
  (List.range 8).foldl (fun a i => a + (if (mget none s.card.named (i + 1)).isSome then 2 ^ i else 0)) 0

/-- CORRUPT_PRESENT (R321). -/
def corruptPresent (s : State) : Bool := s.keys.slots.any (fun p => p.2.state == ksCorrupt)

/-- The bits of the sources whose condition holds. -/
def rawBits (l : List (Nat × Bool)) : BitVec 512 := l.foldl (fun b p => if p.2 then b ||| srcBit p.1 else b) 0

/-- The conditions of the LEVEL sources, from the Registers phase on. -/
def rawNow (s : State) : BitVec 512 :=
  if !s.start.done.contains .registers then 0 else
  let sv := inService s
  let lanes := s.lanes.map (fun p => (288 + p.1, laneAttn s p.2))
  let hds := (List.range 24).map (fun h => (352 + h, sv && !heddleInService s h))
  let looms := (List.range 4).map (fun l => (376 + l, sv && !s.glb.loomIn.getLsbD l))
  rawBits (lanes ++ hds ++ looms ++
    [(382, s.host.cfgMismatch != 0), (384, !s.tm.active.isEmpty), (387, tempWarn s),
     (388, s.tm.active.any (fun a => a.sensor == 0x0D)),
     (417, s.ag.enable && decide (s.ag.warnPermil ≤ s.ag.lifeUsed)),
     (418, s.ag.countedOut != 0 || s.ag.centralEol || s.ag.centralNow),
     (419, s.clk.calSource == 2), (422, s.clk.smbFault),
     (449, decide (3072 ≤ (s.ob.logNext + 4294967296 - s.ob.mark) % 4294967296)),
     (464, backstop s), (465, reenrolDue s), (466, corruptPresent s), (468, pendingMap s != 0)])

/-- The conditions are sampled: a rise sets PEND on both sides; a lane's ATTN also sends the message of its realm's
function (R426, R429). -/
def sampleRaw (s : State) : State :=
  let r := rawNow s
  if r = s.ic.raw then s else
  let rise := r &&& ~~~ s.ic.raw
  let s1 := { s with ic := { s.ic with raw := r, pend := s.ic.pend ||| rise, pendSteward := s.ic.pendSteward ||| rise } }
  (mkeys s.lanes).foldl (fun t l =>
    let f := laneRealm t l
    if rise.getLsbD (288 + l) && f ≠ 0 && (getFn t f).evtEnable then msixSend f (getFn t f).evtLaneVec t else t) s1

/-- Source 467: the cards present have changed (R427). -/
def samplePresent (s : State) : State :=
  let p := presentMap s
  if p = s.card.presSeen then s else icRaise 467 { s with card := { s.card with presSeen := p } }

/-- An L1 of CFG_MISMATCH loses its cause when no bit of it is set (R435). -/
def sampleCfg (s : State) : State :=
  if s.host.cfgMismatch = 0 ∧ s.tm.active.any (fun a => a.sensor == 0x0E && a.goneAt.isNone) then
    { s with tm := { s.tm with active := s.tm.active.map (fun a =>
      if a.sensor = 0x0E then { a with goneAt := some s.now } else a) } }
  else s

/-! ### What comes about at the end of every command -/

/-- Units that run by themselves go on: the queues, the admitted commands' stages, flips, custody and the lanes. -/
def pump (s : State) : State :=
  pumpLanes (custodyAdvance (flipAll (askSignatures (advanceAll (pumpQueues (discardReplies (stewardsFree (quiesceCheck s))))))))

/-- The end of every command while the part is supplied: alarms are answered, units go on, conditions are sampled and
interrupts delivered. (DESIGN CHOICE, log 6) -/
def settle (s : State) : State :=
  if !s.clk.supply then s else
  let s1 := respond s
  let s2 := if alive s1 then respond (pump s1) else s1
  icDeliver (samplePresent (sampleRaw (writeLog (sampleCfg (lockdownEnd s2)))))

end Sys2Proof.Machine
end

