-- ==== Sys2Proof/Machine/Sensors.lean ====
section
/-! DEFINITION. The tamper rows (R431 to R433, R435, R437, R439, R442, R448, R449, R457): what each sensor trips on,
what a standing L1 waits for, and the steps of lockdown and scuttle that follow their trip. Every operand is what the
sensor measured. -/

namespace Sys2Proof.Machine

/-! ### Trips -/

/-- An L1 of a sensor stands in a region, its cause not gone. -/
def standing (s : State) (sensor region : Nat) : Bool :=
  s.tm.active.any (fun a => a.sensor == sensor && a.region == region && a.goneAt.isNone)

/-- The cause of a sensor's L1 in a region has gone. -/
def causeGone (sensor region : Nat) (s : State) : State :=
  { s with tm := { s.tm with active := s.tm.active.map (fun a =>
    if a.sensor = sensor ∧ a.region = region ∧ a.goneAt.isNone then { a with goneAt := some s.now } else a) } }

/-- A sensor with a standing condition: it trips at L1 when the condition comes, and loses its cause when it goes. -/
def sense (on : Bool) (sensor region : Nat) (value : Int) (s : State) : State :=
  if on then (if standing s sensor region then s else alarm sensor region 1 value s) else causeGone sensor region s

/-- The region of an island or of a monitored clock's domain, and whether there is one: central, a loom, a heddle. -/
def islandRegion (i : Nat) : Nat := if i < 4 then 0x10 + i else 0
def clockRegion (r : Nat) : Bool := r == 0 || (decide (0x10 ≤ r) && decide (r < 0x14)) || (decide (0x20 ≤ r) && decide (r < 0x38))

/-- The level of a supply glitch or a clock alarm: 3 for central, else 2 (R431). -/
def cellLevel (region : Nat) : Nat := if region = 0 then 3 else 2

/-! ### The Envelope (R432, R442) -/

/-- Consecutive mismatches of the nets after a comparison. -/
def runsAfter (nets : List Nat) (s : State) : KMap Nat :=
  nets.foldl (fun m n => mput m n (mget 0 s.tm.netRuns n + 1)) []

/-- ENVELOPE_COMPARE: the nets that differ. With the main supplies off and VBAT_TM present, a breach sets the retained
latch. -/
def envelopeCompare (nets : List Nat) (s : State) : State :=
  let ns := (nets.filter (fun n => n < 64)).eraseDups
  let runs := runsAfter ns s
  let breach := decide (4 ≤ ns.length) || runs.any (fun p => decide (3 ≤ p.2))
  let s1 := { s with tm := { s.tm with netRuns := runs } }
  if s.clk.supply then
    if breach then alarm 0x01 0 4 ns.length { s1 with tm := { s1.tm with envOk := false } }
    else if ns.isEmpty then s1
    else alarm 0x02 0 1 ns.length s1
  else if s.tm.checkPattern then
    if breach then { s1 with tm := { s1.tm with breach := true } } else s1
  else s

/-! ### Supplies and clocks -/

/-- GLITCH_ISLAND: the supply's deviation from its set point in mV; within 1 µs before power-fail detection it is only
logged (R431). -/
def glitchIsland (island : Nat) (mv : Int) (failing : Bool) (s : State) : State :=
  if !s.clk.supply || decide (4 < island) || !(decide (mv < -80) || decide (100 < mv)) then s
  else alarm 0x03 (islandRegion island) (if failing then 0 else cellLevel (islandRegion island)) mv s

/-- The lowest and highest voltage of a rail in mV: islands 0 to 4, then VDD_NV, VDD_PHY, VDD_IO, VDD_AUX and VBAT_TM
(R431, R495). -/
def railRange (s : State) (rail : Nat) : Option (Int × Int) :=
  let v : Int := Int.ofNat (mget 850 s.clk.vset rail)
  if rail < 5 then some (v - 40, v + 40)
  else if rail = 5 then some (1164, 1236)
  else if rail = 6 then some (873, 927)
  else if rail = 7 then some (1710, 1890)
  else if rail = 8 then some (1746, 1854)
  else if rail = 9 then some (2500, 3600)
  else none

/-- The measured supply of an island, which CP_VMEAS shows (R471). -/
def measured (rail : Nat) (mv : Int) (s : State) : State :=
  if rail < 5 then { s with clk := { s.clk with vmeas := mset 0 s.clk.vmeas rail (min 1023 mv.toNat) } } else s

/-- SUPPLY_RANGE: what a rail has measured for 10 µs. The L1 of central stands while any rail of it is out.
(DEDUCED, log 81) -/
def supplyRange (rail : Nat) (mv : Int) (s : State) : State :=
  match railRange s rail with
  | some (lo, hi) =>
    if !s.clk.supply then s else
    let b : BitVec 10 := 1#10 <<< rail
    let out := if lo ≤ mv ∧ mv ≤ hi then s.tm.railsOut &&& ~~~ b else s.tm.railsOut ||| b
    let s1 := measured rail mv { s with tm := { s.tm with railsOut := out } }
    let r := islandRegion rail
    sense ((List.range 10).any (fun k => islandRegion k == r && out.getLsbD k)) 0x04 r mv s1
  | none => s

/-- CLOCK_WINDOW: a clock's deviation from its expected frequency, and the reference's from the tamper oscillator,
in 0.01 % (R431, R433). -/
def clockWindow (region : Nat) (dev osc : Int) (s : State) : State :=
  if !s.clk.running || !clockRegion region then s else
  let s1 := if 200 < osc ∨ osc < -200 then alarm 0x07 0 3 osc { s with tm := { s.tm with oscOk := false } } else s
  if 100 < dev ∨ dev < -300 then alarm 0x05 region (cellLevel region) dev s1 else s1

/-- The length of a clock's phase, and the level of a glitch there: L0 within 1 µs before power-fail detection. -/
def phaseLen : ClockPhase → Int
  | .usual n => n
  | .failing n => n
def glitchLevel (region : Nat) : ClockPhase → Nat
  | .usual _ => cellLevel region
  | .failing _ => 0

/-- CLOCK_GLITCH: a phase of a monitored clock that is too short (R431). -/
def clockGlitch (region : Nat) (seen : ClockPhase) (s : State) : State :=
  if !s.clk.running || !clockRegion region || decide (4000 ≤ phaseLen seen) then s
  else alarm 0x06 region (glitchLevel region seen) (phaseLen seen) s

/-- LIGHT: the irradiance of a photodiode in µW/cm² over 1 µs. -/
def light (uw : Nat) (s : State) : State :=
  if s.clk.supply ∧ 20 < uw then alarm 0x08 0 3 0 s else s

/-! ### Temperature -/

/-- A sensor's reading in 0.125 °C. -/
def setTemp (n : Nat) (t : Int) (s : State) : State :=
  if 20 ≤ n then s else
  let s1 := { s with tm := { s.tm with temps := mput s.tm.temps n t } }
  { s1 with tm := { s1.tm with tempMax := some (s1.tm.tempMax.elim (tmTemp s1) (max (tmTemp s1))) } }

/-- The region of a temperature sensor, and the sensors of a region. -/
def tempRegion (n : Nat) : Nat := if n < 16 then 0x10 + n / 4 else 0
def tempSensors (region : Nat) : List Nat :=
  if region = 0 then [16, 17, 18, 19] else (List.range 4).map (fun i => 4 * (region - 0x10) + i)

/-- Outside the operating range (R3), and beyond the trip limits. -/
def tempOut (t : Int) : Bool := decide (t < -80) || decide (840 < t)
def tempTripped (t : Int) : Bool := decide (t < -200) || decide (960 < t)

/-- TEMP_TRIP: a sensor's reading, filtered over 1 ms. -/
def tempTrip (n : Nat) (t : Int) (s : State) : State :=
  if !s.clk.supply || decide (20 ≤ n) then s
  else if tempTripped t then alarm 0x09 0 3 t (setTemp n t s) else setTemp n t s

/-- TEMP_RATE: a sensor's change in 0.125 °C per second over 100 ms. -/
def tempRate (n : Nat) (rate : Int) (s : State) : State :=
  if s.clk.supply ∧ n < 20 ∧ (160 < rate ∨ rate < -160) then alarm 0x0A 0 3 rate s else s

/-- TEMP_RANGE: the L1 of a region stands while any sensor of it is out of range. -/
def tempRange (n : Nat) (t : Int) (s : State) : State :=
  if !s.clk.supply || decide (20 ≤ n) then s else
  let s1 := setTemp n t s
  let r := tempRegion n
  if tempTripped t then s1
  else sense ((tempSensors r).any (fun k => tempOut (mget 0 s1.tm.temps k))) 0x0B r t s1

/-- TEMP_WARN: a sensor's reading; source 387 follows TM_TEMP (R448). -/
def tempWarnRow (n : Nat) (t : Int) (s : State) : State := if s.clk.supply then setTemp n t s else s

/-! ### Neighbouring regions (R457) -/

/-- The two regions of a pair: looms 0 to 3 and 4 for central. -/
def pairRegions (p : Nat) : Nat × Nat := if p < 4 then (p, 4) else (p - 4, (p - 3) % 4)

/-- The distance of two values. -/
def apart (a b : Int) : Int := if a ≤ b then b - a else a - b

/-- The looms that a pair over a limit affects, by the values of the five regions. -/
def affectedLooms (vs : List Int) (p : Nat) : List Nat :=
  let (a, b) := pairRegions p
  if p < 4 then [a]
  else
    let da := apart (vs.getD a 0) (vs.getD 4 0)
    let db := apart (vs.getD b 0) (vs.getD 4 0)
    if db < da then [a] else if da < db then [b] else [a, b]

/-- The difference of a pair in a list of values. -/
def pairDiff (vs : List Int) (p : Nat) : Int :=
  let (a, b) := pairRegions p
  apart (vs.getD a 0) (vs.getD b 0)

/-- A bitmap of the pairs that satisfy a test. -/
def pairMap (f : Nat → Bool) : BitVec 8 := (List.range 8).foldl (fun b p => if f p then b ||| (1#8 <<< p) else b) 0

/-- One loom after a comparison: it is throttled when a pair affects it, and loses its cause when none does. -/
def neighbourLoom (before after : BitVec 32) (value : Nat → Int) (l : Nat) (s : State) : State :=
  let has := fun (b : BitVec 32) => (List.range 8).find? (fun p => b.getLsbD (8 * l + p))
  match has after, has before with
  | some p, none => alarm 0x0C (0x10 + l) 1 (value p) s
  | none, some _ => causeGone 0x0C (0x10 + l) s
  | _, _ => s

/-- NEIGHBOUR: the islands' supplies in mV filtered over 10 µs, and the regions' hottest readings in 0.125 °C filtered
over 1 ms: VDD_L0 to VDD_L3, then central. -/
def neighbour (mv : List Nat) (temp : List Int) (s : State) : State :=
  if !s.clk.running then s else
  let vs := mv.map Int.ofNat
  let volt := pairMap (fun p => decide (50 < pairDiff vs p))
  let hot := pairMap (fun p => decide (160 < pairDiff temp p))
  let cool := fun p => decide (pairDiff vs p ≤ 45) && decide (pairDiff temp p ≤ 144)
  let hits := fun p => (if volt.getLsbD p then affectedLooms vs p else []) ++ (if hot.getLsbD p then affectedLooms temp p else [])
  let nbr := (List.range 8).foldl (fun (b : BitVec 32) p =>
    let kept := if cool p then (List.range 4).foldl (fun (b : BitVec 32) l => b &&& ~~~ (1#32 <<< (8 * l + p))) b else b
    (hits p).foldl (fun b l => b ||| (1#32 <<< (8 * l + p))) kept) s.tm.nbr
  let value := fun p => if volt.getLsbD p then pairDiff vs p else pairDiff temp p
  let s1 := { s with
    clk := { s.clk with
      voltOver := volt
      tempOver := hot
      vmeas := (List.range 5).foldl (fun m i => mset 0 m i (mv.getD i 0 % 1024)) s.clk.vmeas }
    tm := { s.tm with nbr := nbr } }
  (List.range 4).foldl (fun t l => neighbourLoom s.tm.nbr nbr value l t) s1

/-! ### Reserve and configuration -/

/-- Hold-up time in µs at 55 W of a reserve of `nf` nF and `mohm` mΩ between two voltages in mV: the lower one is met
behind the series resistance. (DESIGN CHOICE, log 117) -/
def holdupOf (nf mohm hi lo : Nat) : Nat :=
  let least := lo + 55000 * mohm / lo
  nf * (hi * hi - least * least) / 110000000000

/-- The continuous estimate in µs, from the reserve's voltage at HU_SENSE and the capacitance measured at the most recent
start (R498). -/
def holdupNow (s : State) (mv : Nat) : Nat := holdupOf s.jn.reserveNf s.jn.reserveMohm mv s.jn.reserveLeast

/-- BALLAST_LOW: the reserve's voltage in mV over 1 ms, and whether a sensing ball is open (R431, R498). -/
def ballastLow (mv : Nat) (isOpen : Bool) (s : State) : State :=
  if s.clk.running then sense (decide (holdupNow s mv < 450) || isOpen) 0x0D 0 0 s else s

/-- CFG_MISMATCH: a bit that has been set for 10 ms (R431). -/
def cfgMismatchRow (s : State) : State :=
  if s.clk.running && s.host.cfgSince.any (fun p => match p.2 with
      | some t => decide (t + 10000 ≤ s.now)
      | none => false) then sense true 0x0E 0 0 s else s

/-! ### Ends -/

/-- L1_END: every L1 whose cause has been gone for 10 ms ends (R435). -/
def l1End (s0 : State) : State :=
  let s := noteLevels s0
  { s with tm := { s.tm with active := s.tm.active.filter (fun a => match a.goneAt with
    | some t => decide (s.now < t + 10000)
    | none => true) } }

/-- ALARM_PULSE_END (R449). -/
def pulseEnd (s : State) : State :=
  match s.tm.pulseEnd with
  | some t => if t ≤ s.now then { s with tm := { s.tm with pulseEnd := none } } else s
  | none => s

/-! ### Lockdown and scuttle, after their trip -/

/-- LOCKDOWN_ZEROISE_CORE: after the Seal phase (R437). -/
def lockdownZeroise (s : State) : State :=
  if s.tm.zeroiseDue && s.jn.flight.all (fun f => f.stage != .closed) then zeroiseCore s else s

/-- S3 (R439). -/
def s3Fuses (s : State) : State := { s with keys := { s.keys with helperFuses := false }, tm := { s.tm with scuttleStep := 3 } }

/-- S4: the anchor ring reads zeros; nothing is written any more. -/
def s4Anchors (s : State) : State :=
  { s with jn := { s.jn with anchors := [], anchorsWiped := true, inhibit := true, flight := [] }
           tm := { s.tm with scuttleStep := 4 } }

/-- S5: the helper copies and the ledger-key copies are overwritten with zeros. -/
def s5Copies (s : State) : State :=
  { s with keys := { s.keys with
             helperA := some (List.replicate 16448 0), helperB := some (List.replicate 16448 0)
             ledgerA := some (List.replicate 128 0), ledgerB := some (List.replicate 128 0) }
           tm := { s.tm with scuttleStep := 5 } }

/-- SCUTTLE_HELPER_FUSES, SCUTTLE_ANCHOR_WIPE, SCUTTLE_COPY_WIPE: each as soon as the step before it is done. -/
def scuttleStepRow (n : Nat) (f : State → State) (s : State) : State :=
  if s.clk.supply ∧ s.glb.lifecycle = lcScuttled ∧ s.tm.scuttleStep = n then f s else s

end Sys2Proof.Machine
end

