-- ==== Sys2Proof/Machine/StartUp.lean ====
section
/-! DEFINITION. Power, resets and start-up (R98, R99, R458 to R465), the key store's start (R291 to R297, R313 to R316),
and the margin plan and ageing (R456, R466 to R469). Every operand is what the environment gives: what a test found, what
a monitor read, how long a phase took. -/

namespace Sys2Proof.Machine

/-! ### What a start keeps (R459) -/

/-- Everything volatile is as after reset; the fuses, the Warp stack, the anchor ring and the retained cells stand.
(DEDUCED, log 85) -/
def coldStart (s : State) : State :=
  { pending := s.pending, now := s.now, free := s.free, out := s.out
    glb := { lifecycle := s.glb.lifecycle }
    cmds := { nextId := s.cmds.nextId }
    adm := { startNo := s.adm.startNo }
    led := { pages := s.led.pages, l1 := s.led.l1, l2 := s.led.l2, upperCopy := s.led.upperCopy
             shadowPages := s.led.shadowPages, shadowL1 := s.led.shadowL1, shadowL2 := s.led.shadowL2
             staging := s.led.staging, virgin := s.led.virgin, released := s.led.released, removed := s.led.removed
             quarantine := s.led.quarantine ++ s.led.retiring.map Prod.snd }
    jn := { ring := s.jn.ring, anchors := s.jn.anchors, anchorsWiped := s.jn.anchorsWiped, outPages := s.jn.outPages }
    realms := { copyA := s.realms.copyA, copyB := s.realms.copyB }
    cells := { warp := s.cells.warp }
    keys := { images := s.keys.images, dirA := s.keys.dirA, dirB := s.keys.dirB, wiped := s.keys.wiped
              ledgerA := s.keys.ledgerA, ledgerB := s.keys.ledgerB, helperA := s.keys.helperA, helperB := s.keys.helperB
              helperFuses := s.keys.helperFuses, copyDue := s.keys.copyDue }
    card := { pres := s.card.pres }
    tm := { history := s.tm.history, policy := s.tm.policy, policyCount := s.tm.policyCount
            policyWindow := s.tm.policyWindow, breach := s.tm.breach, checkPattern := s.tm.checkPattern }
    clk := { calRetained := s.clk.calRetained, everSet := s.clk.everSet, pfCount := s.clk.pfCount, cal := s.clk.cal
             calNs := s.clk.calNs, resetCause := s.clk.nextCause, kept := s.clk.kept, supply := s.clk.supply
             resetN := s.clk.resetN, perstN := s.clk.perstN, testEn := s.clk.testEn, startAt := s.now }
    ag := { sumsRetained := s.ag.sumsRetained, lifeUsed := s.ag.lifeUsed }
    pm := { levels := s.pm.levels }
    tap := s.tap
    fws := { slots := s.fws.slots } }

/-- The Tamper phase: the BREACH latch, the check pattern, the Envelope's enrolled values (R432, R442, R444). -/
def tamperPhase (dt : Nat) (envBad : Bool) (s0 : State) : State :=
  let s := passTime (min 2000 dt) (coldStart s0)
  let s1 := { s with
    start := { s.start with done := [.tamper], ends := [(.tamper, s.clk.startAt + min 2000 dt)] }
    tm := { s.tm with watchGapNoted := !s.tm.checkPattern, checkPattern := false
                      envOk := !s.tm.breach && !envBad, alarmN := decide (s.glb.lifecycle = lcScuttled) } }
  if s.tm.breach || envBad then alarm 0x01 0 4 0 s1 else s1

/-- Supply good is reached: every rail lies in its range, the islands at the 0.85 V with which their regulators start, and
HU_SENSE has stood above 0.630 V for 1 ms (R456, R458, R495). -/
def supplyOk (x : SupplyIn) (s : State) : Bool :=
  (List.range 10).all (fun k => match x.rails.getD k none, railRange (coldStart s) k with
    | some v, some (lo, hi) => decide (lo ≤ v) && decide (v ≤ hi)
    | _, _ => k == 9) && decide (630 < x.huSense) && decide (1000 ≤ x.huUs)

/-- SUPPLY_GOOD: the supplies are good after they were off. A device that a line holds in reset waits, and its start keeps
the cause that it then has. (DESIGN CHOICE, log 13) -/
def supplyGood (dt : Nat) (x : SupplyIn) (envBad : Bool) (s : State) : State :=
  if s.clk.supply || !supplyOk x s then s else
  let s1 := { s with clk := { s.clk with supply := true, powerFailHold := false, kept := s.clk.kept && x.kept } }
  if heldReset s1 then
    let t := coldStart s1
    { t with clk := { t.clk with resetCause := s.clk.resetCause, nextCause := s.clk.nextCause } }
  else tamperPhase dt envBad s1

/-! ### Phases (R460) -/

/-- A phase may end now: those that it waits for have ended, and it has not. -/
def phaseDue (s : State) (after : List Phase) (p : Phase) : Bool :=
  s.clk.supply && !heldReset s && !s.start.stopped && after.all (fun q => s.start.done.contains q) && !s.start.done.contains p

/-- The instant at which a phase begins: when the last of the phases that it waits for has ended. -/
def phaseBegin (s : State) (after : List Phase) : Nat :=
  after.foldl (fun m q => max m ((s.start.ends.find? (fun e => e.1 == q)).elim 0 Prod.snd)) 0

/-- A phase ends, having taken dt µs since it began, never less than its least nor more than its most (R104, R316, R460).
Of phases that run side by side, the one that ends later passes the time that is left. -/
def phase (p : Phase) (after : List Phase) (least most dt : Nat) (f : State → State) (s : State) : State :=
  if phaseDue s after p then
    let e := phaseBegin s after + max least (min most dt)
    let t := passTime (e - s.now) s
    f { t with start := { t.start with done := t.start.done ++ [p], ends := t.start.ends ++ [(p, e)] } }
  else s

/-- START_FUSES: in SCUTTLED, S3 to S5 are repeated (R439, R460). -/
def startFuses (dt : Nat) (s : State) : State :=
  phase .fuses [.tamper] 0 (if s.glb.lifecycle = lcScuttled then 500 else 100) dt (fun t =>
    if t.glb.lifecycle = lcScuttled then
      let u := s5Copies (s4Anchors (s3Fuses t))
      { u with tm := { u.tm with tripped := true, alarmN := true, outLevels := u.tm.outLevels ||| 16#5 }
               jn := { u.jn with stopped := true } }
    else t) s

/-- CALENDAR_S of the frame that the valid anchor names (R454); none for the shipped anchor. -/
def anchoredCal (s : State) : Nat :=
  match bestAnchor s with
  | some a => match mfind s.jn.ring (a.frameNo % ringSize) with
    | some b => leNat (((frameCipher a.frameNo (b.take 2016)).drop 50).take 4)
    | none => 0
  | none => 0

/-- START_CLOCKS: the PLL is locked at the reset spread setting, time of service starts at 0, calendar time is taken
(R433, R453, R454). The reference is checked to lie within ±50 ppm (R450). -/
def startClocks (dt : Nat) (found : ClocksIn) (s : State) : State :=
  phase .clocks [.fuses] 200 1000 dt (fun t0 =>
    let t := tearCells found.torn t0
    let keep := t.clk.kept && !t.tm.watchGapNoted
    let c := { t.clk with
      running := true, refOk := decide (-50 ≤ found.ppm) && decide (found.ppm ≤ 50), pllLock := true, sscActive := t.clk.sscDepth, tos := 0, era := 0
      retainAt := t.now + 60000000 }
    let c := if keep then { c with calSource := 1 }
      else { c with calSource := 2, cal := max c.calRetained (anchoredCal t), calNs := 0 }
    { t with clk := c, tm := { t.tm with oscOk := true } }) s

/-- The largest sum of an island in equivalent µs, and LIFE_USED (R468). -/
def lifeOf (sums : KMap Nat) : Nat := min 0xFFFF ((List.range 5).foldl (fun m i => max m (mget 0 sums i)) 0 / 315360000000)

/-- START_REGISTERS: START_NO advances, BAR0 answers, the counters take their first selections, 60 s of equivalent
ageing are added; an undefined lifecycle raises L3, and SCUTTLED ends the start (R19, R141, R463, R468, R479). -/
def startRegisters (dt : Nat) (s : State) : State :=
  phase .registers [.clocks] 0 5000 dt (fun t =>
    let sums := (List.range 5).foldl (fun m i => mset 0 m i (mget 0 t.ag.sumsRetained i + 60000000)) []
    let sel : Nat → Counter := fun v => { event := v }
    let u := { t with
      adm := { t.adm with startNo := (t.adm.startNo + 1) % 4294967296 }
      ag := { t.ag with sums := sums, lifeUsed := lifeOf sums, tickAt := t.now, planning := true }
      ob := { t.ob with counters := [(0, sel 0x01FF), (1, sel 0x02FF), (2, sel 0x06FF), (3, sel 0x1200)] }
      pm := { t.pm with allParked := false } }
    let u := capChanged u
    if u.glb.lifecycle = lcScuttled then { u with start := { u.start with stopped := true } }
    else if u.glb.lifecycle ∉ [lcUnprovisioned, lcProvisioned, lcDecommissioned] then alarm 0x21 0 3 0 u
    else u) s

/-- START_BALLAST: a draw of 1.00 A for 100 µs lowers the reserve by `step` µV at once and by `drop` µV along its slope;
`trip` and `least` are the reserve's voltages in mV at detection and where the regulators drop out. The series resistance
in mΩ, the capacitance in nF and the hold-up time at 55 W follow (R99, R498). -/
def startBallast (dt step drop trip least : Nat) (s : State) : State :=
  phase .ballast [.registers] 100 2000 dt (fun t =>
    let mohm := step / 1000
    let nf := 100000000000 / drop
    let us := holdupOf nf mohm trip least
    { t with
      jn := { t.jn with reserveNf := nf, reserveMohm := mohm, reserveLeast := least, holdupUs := min 0xFFFF us }
      glb := { t.glb with holdupOk := decide (450 ≤ us) } }) s

/-! ### The margin plan (R456, R466, R467, R469) -/

/-- What a plan reads: the fused V0 of each island in mV, the 96 monitors in 0.01 %, v_eol_mv as R468 tests it past the
rated life (which the spec does not compute), what each island's regulator answers, none where it does not acknowledge
(R456), and the forecast of R469 (which the spec does not compute). -/
structure PlanIn where
  v0 : List Nat
  deltas : List Nat
  eol30 : List Nat
  vout : List (Option Regulator)
  forecast : Nat

/-- The least n with p n, below 2^k from lo, where p is upward closed. -/
def leastUp (p : Nat → Bool) : Nat → Nat → Nat
  | 0, lo => lo
  | k + 1, lo => if p (lo + 2 ^ k - 1) then leastUp p k lo else leastUp p k (lo + 2 ^ k)

/-- Δ_now of an island: the largest of its monitors (R466). -/
def islandDelta (deltas : List Nat) (i : Nat) : Nat :=
  let ms := if i < 4 then (List.range 20).map (fun k => 20 * i + k) else (List.range 12).map (fun k => 80 + k)
  ms.foldl (fun m k => max m (deltas.getD k 0 % 65536)) 0

/-- v_now_mv, rounded up. -/
def vNow (v0 d : Nat) : Nat := v0 + 20 + ceilDiv (6 * d) 100

/-- v_eol_mv, rounded up: the least n with n ≥ 6 d / (100 f), f being the fourth root of u / 1000, and at least 6 times
6.00. -/
def vEol (u v0 d : Nat) : Nat :=
  v0 + 20 + max 36 (leastUp (fun n => decide (1000 * (6 * d) ^ 4 ≤ (100 * n) ^ 4 * max u 10)) 20 0)

/-- Raise set points until neighbours lie within 40 mV (R457, R466). -/
def raiseSet (vs : List Nat) : List Nat :=
  let near := fun i => (List.range 8).filterMap (fun p =>
    let (a, b) := pairRegions p
    if a = i then some b else if b = i then some a else none)
  (List.range 5).map (fun i => (near i).foldl (fun m j => max m (vs.getD j 0 - 40)) (vs.getD i 0))

/-- The set points of a plan with the islands that are held at 850 mV. -/
def setPoints (x : PlanIn) (held : List Nat) : List Nat :=
  let own := (List.range 5).map (fun i => if held.contains i then 850
    else min 850 (max 700 (vNow (x.v0.getD i 0) (islandDelta x.deltas i))))
  (raiseSet (raiseSet (raiseSet (raiseSet own)))).map (min 850)

/-- The islands whose regulator does not acknowledge. -/
def silentIslands (x : PlanIn) : List Nat := (List.range 5).filter (fun i => (x.vout.getD i none).isNone)

/-- Millivolts as a word of a regulator's VOUT_MODE, to the nearest step, and back: the linear mode scales volts by two to
the exponent in bits 4 to 0; the steps of another mode are mV here. (PRESUMED, log 137) -/
def voutWord (mode mv : Nat) : Nat :=
  if 32 ≤ mode % 256 then mv
  else if mode % 32 < 16 then (mv + 500 * 2 ^ (mode % 32)) / (1000 * 2 ^ (mode % 32))
  else (mv * 2 ^ (32 - mode % 32) + 500) / 1000
def voutMv (r : Regulator) : Nat :=
  if 32 ≤ r.mode % 256 then r.vout
  else if r.mode % 32 < 16 then r.vout * 1000 * 2 ^ (r.mode % 32)
  else r.vout * 1000 / 2 ^ (32 - r.mode % 32)

/-- The islands that the plan treats as held at 0.85 V: no acknowledgement, or READ_VOUT more than 10 mV from the command
(R456). -/
def heldIslands (x : PlanIn) : List Nat :=
  let sp := setPoints x (silentIslands x)
  (List.range 5).filter (fun i => match x.vout.getD i none with
    | some r => decide (sp.getD i 850 + 10 < voutMv r ∨ voutMv r + 10 < sp.getD i 850)
    | none => true)

/-- A PMBus byte, and a write with its PEC, the CRC-8 of R386 over address, command and data, as SMBus has it. -/
def busByte (n : Nat) : Byte := BitVec.ofNat 8 n
def busWrite (addr code word : Nat) : List Byte :=
  let bs := [busByte (2 * addr), busByte code, busByte word, busByte (word / 256)]
  bs ++ [crc8 bs]
def busRead (addr code : Nat) : List Byte := [busByte (2 * addr), busByte code, busByte (2 * addr + 1)]

/-- An island's regulator, at the address that CP_SMB_ADDR gives: VOUT_MODE is read, and where it is answered VOUT_COMMAND
is written in that mode and READ_VOUT read (R456). (PRESUMED, log 137) -/
def sendPoint (x : PlanIn) (mv i : Nat) (s : State) : State :=
  let a := mget (0x40 + i) s.clk.smbAddr i
  let t := emit (.pmbus (busRead a 0x20)) s
  match x.vout.getD i none with
  | some r => emit (.pmbus (busRead a 0x8B)) (emit (.pmbus (busWrite a 0x21 (voutWord r.mode mv))) t)
  | none => t

/-- The set points go to every island's regulator. -/
def sendPoints (x : PlanIn) (sp : List Nat) (s : State) : State :=
  (List.range 5).foldl (fun t i => sendPoint x (sp.getD i 850) i t) s

/-- Bits of the looms that satisfy a test. -/
def loomBits (p : Nat → Bool) : BitVec 4 := (List.range 4).foldl (fun b l => if p l then b ||| (1#4 <<< l) else b) 0

/-- A plan is made (R466 to R469). -/
def makePlan (dt : Nat) (x : PlanIn) (s0 : State) : State :=
  let s := noteLevels s0
  let u := s.ag.lifeUsed
  let d := islandDelta x.deltas
  let v0 := fun i => x.v0.getD i 0
  let now_ := fun i => vNow (v0 i) (d i)
  let eol := fun i => if 1000 ≤ u then x.eol30.getD i 0 else vEol u (v0 i) (d i)
  let held := heldIslands x
  let sp := setPoints x held
  let s1 := { s with
    ag := { s.ag with
      countedOut := loomBits (fun l => decide (850 < eol l) || decide (850 < now_ l))
      centralEol := decide (850 < eol 4), centralNow := decide (850 < now_ 4)
      planning := false, planTime := s.clk.cal, planCount := satInc s.ag.planCount 0xFFFF, planAt := s.clk.readyUs
      deltas := (List.range 96).foldl (fun m k => mset 0 m k (x.deltas.getD k 0 % 65536)) []
      eolMv := (List.range 5).foldl (fun m i => mset 0 m i (min 2047 (eol i))) []
      pufForecast := x.forecast % 65536
      dNowMax := (List.range 5).foldl (fun m i => max m (d i)) 0
      lastPlanMs := min 0xFFFF (dt / 1000) }
    clk := { s.clk with
      vset := (List.range 5).foldl (fun m i => mset 850 m i (sp.getD i 850)) []
      throttlePlan := loomBits (fun l => decide (850 < now_ l))
      smbFault := !held.isEmpty }
    keys := { s.keys with reenrolHeld := false } }
  let s2 := sendPoints x (setPoints x (silentIslands x)) s1
  let s2 := if held = silentIslands x then s2 else sendPoints x sp s2
  let s2 := ((List.range 4).filter (fun l => s1.clk.throttlePlan.getLsbD l && !s.clk.throttlePlan.getLsbD l)).foldl
    (fun t l => spendAllowance l t) s2
  let s3 := held.foldl (fun t i => logEvent 8 4 [i] t) s2
  icRaise 416 (logEvent 8 3 [u, (capRecordNow s3).looms] s3)

/-- START_PLAN: the plan gives the start's first capability record, which counts no loom (R142, R461). -/
def startPlan (dt : Nat) (x : PlanIn) (s : State) : State :=
  phase .plan [.registers] 1000 20000 dt (fun t =>
    let u := makePlan (max 1000 (min 20000 dt)) x t
    { u with adm := { u.adm with published := capRecordNow u } }) s

/-- MARGIN_REPLAN: every 24 h of READY service. -/
def marginReplan (dt : Nat) (x : PlanIn) (s : State) : State :=
  let t := passTime dt s
  if alive t && replanDue t then makePlan dt x t else t

/-! ### Ageing (R468) -/

/-- exp of x / 10^15, times 10^15: six terms at x / 1024, squared ten times. (DEDUCED, log 87) -/
def expFix (x : Int) : Int :=
  let S : Int := 1000000000000000
  let y := x / 1024
  let t := fun (p : Int × Int) (k : Int) => (p.1 * y / (S * k), p.2 + p.1 * y / (S * k))
  let e := ([1, 2, 3, 4, 5, 6].foldl t (S, S)).2
  (List.range 10).foldl (fun e _ => e * e / S) e

/-- Equivalent µs of one second at a temperature in 0.125 °C and a set point in mV. -/
def ageing (t8 : Int) (mv : Nat) : Nat :=
  let S : Int := 1000000000000000
  let k := max 1 (t8 * 125 + 273150)
  let x := S * 6963000 * (k - 358150) / (358150 * k) + S * 12 * ((mv : Int) - 800) / 1000
  ((expFix x) / 1000000000).toNat

/-- AGEING_TICK: a second of service ages every island; each 60th writes the sums to the retained cells. -/
def ageingTick (s : State) : State :=
  if !alive s || !inService s || decide (s.now < s.ag.tickAt + 1000000) then s else
  let sums := (List.range 5).foldl (fun m i =>
    mset 0 m i (mget 0 m i + ageing (hottest s (tempSensors (islandRegion i))) (mget 850 s.clk.vset i))) s.ag.sums
  let keep := decide (59 ≤ s.ag.ticks)
  { s with ag := { s.ag with
    sums := sums, lifeUsed := lifeOf sums, tickAt := s.ag.tickAt + 1000000
    ticks := if keep then 0 else s.ag.ticks + 1
    sumsRetained := if keep then sums else s.ag.sumsRetained } }

/-! ### The key store's start (R316) -/

/-- ENTROPY: the health tests; in DECOMMISSIONED the key area is overwritten first (R317, R463). -/
def entropy (dt : Nat) (good : Bool) (s : State) : State :=
  phase .entropy [.registers] 1000 4000 dt (fun t =>
    let u := if t.glb.lifecycle = lcDecommissioned then wipeKeyArea t else t
    if good then { u with keys := { u.keys with drbgOk := true } } else drbgFail u) s

/-- PUF_READ: the state in which the array's cells settle (R290). -/
def pufRead (dt : Nat) (cells : List Byte) (s : State) : State :=
  phase .pufRead [.entropy] 500 2000 dt (fun t => { t with keys := { t.keys with pufCells := cells } }) s

/-- The helper copy with which a reading regenerates the root secret, in the order of R292. -/
def helperUse (s : State) : Option Nat :=
  let n := helperFirst s
  [n, 1 - n].find? (fun k => regenerates s.keys.pufCells (helperRead s k))

/-- EXTRACT: the root secret is regenerated with a helper copy that reproduces its CHECK; the bits corrected over the
stable cells used are the error rate (R290 to R292). -/
def extract (dt : Nat) (s : State) : State :=
  phase .extract [.pufRead] 0 12000 dt (fun t =>
    let a := helperRead t 0
    let b := helperRead t 1
    let k := { t.keys with helperOkA := a.crcOk, helperOkB := b.crcOk }
    let bits := fun (h : HelperRead) => correctedBits t.keys.pufCells h.offset h.stable % 65536
    match helperUse t with
    | some n => { t with keys := { k with rootIn := true, helperUsed := n, ber := cellErrors k.pufCells (helperRead t n) } }
    | none => alarm 0x21 0 3 0 (logEvent 6 1 (leNats 2 a.gen ++ leNats 2 b.gen ++ [bits a, bits b]) { t with keys := k })) s

/-- Ledger-key copies that the Warp stack no longer holds: 0 and 1. -/
def loseLedgerCopies (lost : List Nat) (s : State) : State :=
  { s with keys := { s.keys with
    ledgerA := if lost.contains 0 then some [] else s.keys.ledgerA
    ledgerB := if lost.contains 1 then some [] else s.keys.ledgerB } }

/-- DERIVE: the device keys, and the ledger key from the first copy that unwraps (R295, R296). `lost` are copies that the
Warp stack no longer holds. -/
def derive (dt : Nat) (lost : List Nat) (s : State) : State :=
  phase .derive [.extract] 0 300 dt (fun t0 =>
    let t := loseLedgerCopies lost t0
    let led := decide (t.glb.lifecycle ≠ lcDecommissioned) && (ledgerUnwraps t).isSome
    let u := { t with keys := { t.keys with deviceIn := true, attestIn := true, rootOk := true, ledgerIn := led } }
    if led || decide (t.glb.lifecycle = lcDecommissioned) then u else alarm 0x21 0 3 0 u) s

/-- What the directory and the KEY entries after its stamp name for each slot: COUNTER, position, the first bytes of
IMAGE_MAC (R315). -/
def slotNames (s : State) : KMap (Option (Nat × Nat × Option (List Byte))) :=
  let dir := bestDir s
  let base := match dir with
    | some d => d.entries.foldl (fun m p => mset none m p.1 (some (p.2.1, p.2.2, none))) []
    | none => []
  let stamp := dir.elim 0 DirRead.stamp
  ((chainEntries s).filter (fun p => decide (eKind p.2 = 5 ∧ stamp < jsnFrame p.1))).foldl (fun m p =>
    let e := p.2
    mset none m (wd e 0 % 1024) (some (pairAt e 5, wd e 1 % 2, some (wordBytes ((e.drop 7).take 3))))) base

/-- One slot's image is read, checked and masked. -/
def restoreSlot (names : KMap (Option (Nat × Nat × Option (List Byte)))) (damaged : List Nat) (n : Nat) (s : State) : State :=
  let (c, p, m) := (mget none names n).getD (0, 0, none)
  match (if damaged.contains n then none else namedSlot s n p c m) with
  | some k =>
    if k.state = ksLive then
      let (mask, t) := drawBytes 0x31 64 s
      { t with keys := { t.keys with slots := mset {} t.keys.slots n (masked k k.share mask) } }
    else { s with keys := { s.keys with slots := mset {} s.keys.slots n k } }
  | none =>
    let k : KeySlot := { state := ksCorrupt, counter := c, pos := p }
    alarm 0x21 0 1 0 (logEvent 6 2 [n] { s with keys := { s.keys with slots := mset {} s.keys.slots n k } })

/-- Step 6 of R293: the helper data in use is written over the older copy. -/
def helperCopy (s : State) : State :=
  let n := s.keys.helperUsed
  let used := helperRead s n
  if !s.keys.copyDue || !s.glb.holdupOk || decide (used.gen < (helperRead s (1 - n)).gen) then s
  else
    let b := some (helperBytes s (1 - n) used.gen used.offset used.stable used.check)
    let k := { s.keys with helperOkA := true, helperOkB := true, copyDue := false }
    { s with keys := if n = 0 then { k with helperB := b } else { k with helperA := b } }

/-- SLOTS: `damaged` are the slots whose named image cannot be read. A directory copy ends a recovery with the reserve
good (R315). -/
def slotsPhase (dt : Nat) (damaged : List Nat) (s : State) : State :=
  phase .slots [.recWrites] 0 30000 dt (fun t =>
    if t.glb.lifecycle = lcDecommissioned then t else
    let names := slotNames t
    let u := (List.range 1024).foldl (fun u n =>
      if (mget none names n).isNone && (mfind t.keys.images (2 * n)).isNone && !damaged.contains n then u
      else restoreSlot names damaged n u) t
    let v := helperCopy u
    if v.glb.holdupOk then compactionOn (writeDirCopy v) else v) s

/-- RELEASE: the key bus opens, the first re-mask pass begins, each realm's context key is drawn (R316, R337). -/
def release (dt : Nat) (s : State) : State :=
  phase .release [.slots] 0 100 dt (fun t =>
    let u := (List.range 32).foldl (fun u r =>
      let (k, v) := drawBytes 0x32 32 u
      { v with keys := { v.keys with ctxKeys := mset [] v.keys.ctxKeys r k } }) t
    { u with keys := { u.keys with busOpen := true, remaskNext := 0, remaskAt := u.now } }) s

/-! ### Firmware and recovery -/

/-- START_FIRMWARE: the slot that authenticates and has the higher ACT_SEQ; `damaged` are slots whose image the firmware
area's MACs refuse (R464; DESIGN CHOICE, log 106). Where none does, the log names both slots, each by the
entry of a corrupt slot (DESIGN CHOICE, log 124). -/
def startFirmware (dt : Nat) (damaged : List Nat) (s : State) : State :=
  phase .firmware [.derive] 0 15000 dt (fun t =>
    let ok := fun n => (fwSlot t n).valid && fwHeadOk (fwSlot t n) && fwPartsOk n (fwSlot t n) && !damaged.contains n
    let pick := if ok 0 && ok 1 then (if (fwSlot t 0).actSeq < (fwSlot t 1).actSeq then some 1 else some 0)
      else if ok 0 then some 0 else if ok 1 then some 1 else none
    match pick with
    | some n => { t with fws := { t.fws with running := some n } }
    | none => alarm 0x21 0 3 0 (logEvent 6 2 [1] (logEvent 6 2 [0] t))) s

/-- A recovery phase; without a ledger key there is nothing to recover (R463). -/
def recPhase (p : Phase) (after : List Phase) (most dt : Nat) (f : State → State) (s : State) : State :=
  phase p after 0 most dt (fun t => if t.keys.ledgerIn then f t else t) s

def recoveryAnchor (dt : Nat) (torn : List Nat) (s : State) : State := recPhase .recAnchor [.derive] 200 dt (recAnchor torn) s
def recoveryChain (dt : Nat) (lost : List Nat) (s : State) : State := recPhase .recChain [.recAnchor] 20000 dt (recChain lost) s
def recoveryTree (dt : Nat) (lost : List Nat) (s : State) : State := recPhase .recTree [.recChain] 8000 dt (recTree lost) s

/-- JN_REPLAY_US stops at 0xFFFF, which R110 states of JN_HOLDUP_US only (DESIGN CHOICE, log 115). -/
def recoveryReplay (dt : Nat) (lost : List Nat) (s : State) : State :=
  recPhase .recReplay [.recTree] 60000 dt (fun t =>
    let u := recReplay lost t
    { u with jn := { u.jn with replayUs := min 0xFFFF (min 60000 dt), tickAt := u.now } }) s
def recoveryOutcomes (dt : Nat) (s : State) : State := recPhase .recOutcomes [.recReplay] 2000 dt recOutcomes s
def recoveryWrites (dt : Nat) (s : State) : State := recPhase .recWrites [.recOutcomes, .ballast] 40000 dt recWrites s

/-! ### Cells and READY -/

/-- START_STEWARD: `failed` are looms whose steward shuttle fails its self-test. Steward firmware starts and packet
fetch opens (R461). (DEDUCED, log 84) -/
def startSteward_ (dt : Nat) (failed : List Nat) (s : State) : State :=
  phase .steward [.firmware, .release, .plan] 0 5000 dt (fun t =>
    let u := (failed.filter (fun l => l < 4)).foldl (fun u l => removeCell 3 (48 * l) 2 u) t
    let v := loadSteward u
    { v with glb := { v.glb with fwVer := ((fwRunning v).map FwSlot.version).getD 0 }
             adm := { v.adm with opened := true } }) s

/-- A cell that exists: 1 a loom, 2 a heddle, 3 a shuttle. -/
def cellExists (p : Nat × Nat) : Bool :=
  (p.1 == 1 && decide (p.2 < 4)) || (p.1 == 2 && decide (p.2 < 24)) || (p.1 == 3 && decide (p.2 < 192))

/-- START_SELF_TEST: the cells that fail, by kind and number, leave service (R286, R460). -/
def startSelfTest (dt : Nat) (failed : List (Nat × Nat)) (s : State) : State :=
  phase .selfTest [.plan] 0 600000 dt (fun t => (failed.filter cellExists).foldl (fun u p => removeCell p.1 p.2 2 u) t) s

/-- A bank whose stored image matches its newest BANK entry is loaded; any other is empty (R269). -/
def startBank (k : Nat) (s : State) : State :=
  match (mget none s.cells.warp k).bind (readBank k), bankOf (realmRow s (k / 2)) (k % 2) with
  | some b, some e =>
    if (sha256 b).take e.hash.length = e.hash then
      loadBank k (bytesWords b) { s with cells := { s.cells with store := mset none s.cells.store k (some ⟨bytesWords b, sha256 b⟩) } }
    else s
  | _, _ => s

/-- Banks of the applet store that the Warp stack no longer holds as they were written (R18). (DESIGN CHOICE, log 106) -/
def loseBanks (lost : List Nat) (s : State) : State :=
  { s with cells := { s.cells with warp := lost.foldl (fun m k => mset none m k none) s.cells.warp } }

/-- START_APPLETS: `lost` are the banks, 2 × realm + bank, whose pages are lost; of the others every page must
authenticate. -/
def startApplets (dt : Nat) (lost : List Nat) (s : State) : State :=
  phase .applets [.release, .selfTest] 0 250000 dt (fun t => (List.range 64).foldl (fun u k => startBank k u) (loseBanks lost t)) s

/-- The capability record as the device stands is published, with which increases take effect and revoked heddles return
to the pools; CHANGE advances where a field of it changes (R141, R273). (DEDUCED, log 36) -/
def publish (s : State) : State :=
  let t := noteLevels s
  let u := { t with adm := { t.adm with revoked := [] } }
  if capStale s then capAdvance { u with adm := { u.adm with published := capRecordNow s } } else u

/-- CAP_PUBLISH. -/
def capPublish (s : State) : State := if alive s && s.start.done.contains .plan then publish s else s

/-- The realm table's scuttle policy, where recovery has found the table, prevails over the retained copy; a difference
is an L1 (R441, R463). -/
def comparePolicy (s : State) : State :=
  let t := s.realms.live
  if s.keys.ledgerIn = false then s
  else if s.tm.policy = t.policy ∧ s.tm.policyCount = t.policyCount ∧ s.tm.policyWindow = t.policyWindow then s
  else alarm 0x12 0 1 0 (takePolicy t s)

/-- WATCH_GAP, where the check pattern was absent: L1, or L4 under policy (R442, R448). (DEDUCED, log 83) -/
def raiseWatchGap (s : State) : State :=
  if s.tm.watchGapNoted then
    icRaise 391 (alarm 0x12 0 (if bit s.tm.policy 3 then 4 else 1) 0 { s with tm := { s.tm with watchGap := true } })
  else s

/-- START_READY (R22, R460), once every abandoned page is staged again (R90). LOOM_IN is 1 for every loom in service, also for
one that is throttled or counted out (DESIGN CHOICE, log 116). -/
def startReady (dt : Nat) (s : State) : State :=
  if restageWaits s then s else
  phase .ready [.applets, .steward] 0 1000 dt (fun t =>
    let u := noteLevels (raiseWatchGap (comparePolicy t))
    let u := { u with
      glb := { u.glb with loomIn := loomBits (loomInService u) }
      clk := { u.clk with startMs := min 0xFFFF ((u.now - u.clk.startAt) / 1000) } }
    let v := publish u
    setService (if v.glb.lifecycle ≠ lcDecommissioned ∧ v.glb.holdupOk then svReady else svReadOnly) v) s

/-! ### Power-fail detection, resets and power-down (R97, R98, R442, R459) -/

/-- Queues lose what is queued and fetched; admitted commands with nothing appended end with no reply (R176). -/
def loseWork (s : State) : State :=
  let s1 := s.host.fns.foldl (fun t f => (mkeys f.2.pairs).foldl (fun t p =>
    let q := getPair t f.1 p
    setPairOf f.1 p { q with fetched := [], fetching := [], headAt := none, decided := none, flushLeft := 0 } t) t) s
  (s1.cmds.admitted.filter (fun c => c.jsn.isNone)).foldl (fun t c => loseCmd c t) s1

/-- A seal begins for a reset: the service state ends (R22, R97). In LOCKDOWN there is nothing left to seal. -/
def sealForReset (s : State) : State :=
  let t := loseWork (beginSeal s)
  { t with
    glb := { t.glb with service := svStarting }
    clk := { t.clk with running := false }
    ob := { t.ob with intake := [], pendingLost := 0 } }

/-- POWER_FAIL_DETECT (R97, R458): reset is held until the supplies fall and rise again. (DEDUCED, log 86) -/
def powerFail (s : State) : State :=
  if !s.clk.supply || s.clk.powerFailHold then s else
  let t := sealForReset s
  { t with clk := { t.clk with powerFailHold := true, pfCount := satInc t.clk.pfCount 0xFFFF, nextCause := 2 } }

/-- SEAL_DRAIN_DONE (R97). -/
def sealDrainDone (s : State) : State :=
  if s.clk.supply && s.jn.sealing then sealEnd { s with jn := { s.jn with drained := true } } else s

/-- DEVICE_RESET: RESET_N or PERST_N has been low for 10 µs, or TEST_EN high, which counts as RESET_N low (R459, R490). -/
def deviceReset (line : ResetLine) (s : State) : State :=
  let pins := fun (c : Clk) => match line with
    | .resetN => { c with resetN := true }
    | .perstN => { c with perstN := true }
    | .testEn => { c with testEn := true }
  if !s.clk.supply || heldReset s then { s with clk := pins s.clk } else
  let t := sealForReset s
  { t with
    host := { t.host with linkUp := false }
    clk := { pins t.clk with nextCause := if line = .perstN then 4 else 3 } }

/-- The Seal, Drain, Program, Anchor and Inhibit phases run to their end (R97). (DEDUCED, log 88) -/
def finishSeal : Nat → State → State
  | 0, s => s
  | f + 1, s => if s.jn.inhibit || !s.jn.sealing then s else finishSeal f (frameAnchor (frameProgram (frameSeal (sealDrainDone s))))

/-- RESET_RELEASE: no line holds the part any more; once the seal is complete, start-up begins from its first phase. -/
def resetRelease (dt : Nat) (envBad : Bool) (s : State) : State :=
  let held := heldReset s
  let t := { s with clk := { s.clk with resetN := false, perstN := false, testEn := false } }
  if !t.clk.supply || !held || heldReset t then t
  else tamperPhase dt envBad (finishSeal (t.jn.flight.length + 1) t)

/-- POWER_DOWN: the main supplies go off; with VBAT_TM present the tamper domain writes its check pattern and keeps
watch (R442). The TAP powers up in Test-Logic-Reset (R510). -/
def powerDown (vbat : Bool) (s : State) : State :=
  if !s.clk.supply then s else
  let t := if s.clk.running then loseWork s else s
  { t with
    glb := { t.glb with service := svStarting }
    host := { t.host with linkUp := false }
    tap := {}
    jn := { t.jn with stopped := true, inhibit := true }
    tm := { t.tm with checkPattern := vbat, netRuns := [] }
    clk := { t.clk with
      running := false, supply := false, kept := vbat, nextCause := if t.clk.powerFailHold then 2 else 1 } }

/-! ### Calendar (R454, R455) -/

/-- CALENDAR_RETAIN_WRITE: every 60 s. -/
def calRetain (s : State) : State :=
  if alive s && decide (s.clk.retainAt ≤ s.now) then
    { s with clk := { s.clk with calRetained := s.clk.cal, retainAt := s.now + 60000000 } } else s

/-- CAL_SLEW_END: the calendar has reached the count that it slews to. -/
def calSlewEnd (s : State) : State :=
  match s.clk.slew with
  | some (t, ns) =>
    if s.clk.cal = t ∧ s.clk.calNs = ns then
      { s with clk := { s.clk with slew := none, calLast := if s.clk.calLast = 2 then 1 else s.clk.calLast } }
    else s
  | none => s

/-- A write of 1 to CP_CAL_APPLY (R455). -/
def calApply (s : State) : State :=
  let t := s.clk.calSet
  let n := s.clk.cal
  let c := { s.clk with calSteps := satInc s.clk.calSteps 0xFFFF }
  let set_ := { c with everSet := true, calSource := 0 }
  let c := if n ≤ t then { set_ with cal := t, calNs := if t = n then c.calNs else 0, slew := none, calLast := 1 }
    else if n ≤ t + 600 then { set_ with slew := some (t, 0), calLast := 2 }
    else { c with calLast := 3 }
  icRaise 421 (logEvent 8 2 (leNats 2 t ++ [c.calLast]) { s with clk := c })

/-! ### SMBus and the scrubber -/

/-- SMBUS_READ_WORD: a Read Word at the D64's target address (R456). -/
def smbusRead (addr cmd : Nat) (s : State) : State :=
  if !s.clk.running || s.clk.smbTarget ≠ addr then s
  else emit (.smbus (if cmd = 0 then some ((tmTemp s % 65536).toNat)
    else if cmd = 1 then some ((s.tm.tempMax.getD 0 % 65536).toNat)
    else if cmd = 2 then some (serviceWord s) else none)) s

/-- SCRUBBER_ERROR: an uncorrectable word of a shuttle's private memory, of its mailbox output or input, or of a heddle's
shared memory reads POISON (R214). Kind 0 private, 1 mailbox output, 2 shared, 3 mailbox input, with the shuttle or
heddle and the word's address. -/
def scrubberError (kind n addr : Nat) (s : State) : State :=
  if !alive s then s
  else
    let x := getSh s n
    if kind = 0 ∧ n < 192 ∧ addr < 0x8000 then setSh n { x with priv := mset {} x.priv addr ⟨7, 0⟩ } s
    else if kind = 1 ∧ n < 192 ∧ 0xE800 ≤ addr ∧ addr < 0xEB20 then setSh n { x with outMb := mset {} x.outMb addr ⟨7, 0⟩ } s
    else if kind = 2 ∧ n < 24 ∧ addr < 24576 then
      { s with cells := { s.cells with shared := mset {} s.cells.shared (n * 24576 + addr) ⟨7, 0⟩ } }
    else if kind = 3 ∧ n < 192 then
      match x.job with
      | some j =>
        if (mfind j.mbox addr).isSome ∨ (0xE080 ≤ addr ∧ addr < 0xE400) then
          setSh n { x with job := some { j with mbox := mput j.mbox addr ⟨7, 0⟩ } } s
        else s
      | none => s
    else s

end Sys2Proof.Machine
end

