-- ==== Sys2Proof/Machine/Balls.lean ====
section
/-! DEFINITION. The balls of the package: the place of every signal and rail (R489 to R494), the supplies' currents (R495),
and what the output balls show (R444, R490, R504 to R506, R510). -/

namespace Sys2Proof.Machine

/-! ### Places (R489) -/

/-- The letters of row names; I, O, Q, R, S, X and Z are not used. -/
def rowLetters : List Char := ['A', 'B', 'C', 'D', 'E', 'F', 'G', 'H', 'J', 'K', 'L', 'M', 'N', 'P', 'T', 'U', 'V', 'W', 'Y']

/-- The name of row index 1 to 64. -/
def rowName (r : Nat) : List Char :=
  let c := rowLetters.getD ((r - 1) % 19) 'A'
  match (r - 1) / 19 with
  | 0 => [c]
  | 1 => ['A', c]
  | 2 => ['B', c]
  | _ => ['C', c]

/-- The 64 × 66 positions, row index first. -/
def positions : List (Nat × Nat) := (List.range 64).flatMap (fun r => (List.range 66).map (fun c => (r + 1, c + 1)))

/-- The core field: rows 8 to 55, columns 10 to 57. -/
def inCore (r c : Nat) : Bool := decide (8 ≤ r ∧ r ≤ 55 ∧ 10 ≤ c ∧ c ≤ 57)

/-! ### Signal and reserved balls (R490 to R493) -/

/-- The signal balls by group. `diff` numbers a pair's polarity: 0 P, 1 N. -/
inductive Signal where
  | ccClk | ccCmd | ccDat (n : Nat) | ccPresN
  | tck | tms | tdi | tdo | trstN
  | smbClk | smbDat | smbAlertN
  | resetN | sgood | testEn | alarmN | thermN | stat (n : Nat) | loomOk (n : Nat)
  | refclk (diff : Nat) | huSense | huLoad | huKelvin (diff : Nat) | tdiode (diff : Nat) | atest
  /-- Remote sense of island n and of its ground. -/
  | vs (n : Nat) | gs (n : Nat)
  | laneTx (lane diff : Nat) | laneRx (lane diff : Nat) | laneWakeN (lane : Nat)
  | pet (m diff : Nat) | per (m diff : Nat) | pcieRefclk (diff : Nat) | perstN | pcieRcal (diff : Nat)
  | svc (n : Nat)
  | reserved
  deriving DecidableEq, Repr

/-- The balls of R490: row, column, signal. -/
def controlBalls : List (Nat × Nat × Signal) :=
  [(1, 2, .ccClk), (1, 4, .ccCmd), (1, 6, .ccDat 0), (1, 8, .ccDat 1), (3, 2, .ccDat 2), (3, 4, .ccDat 3), (3, 6, .ccPresN),
   (3, 8, .tck), (5, 2, .tms), (5, 4, .tdi), (5, 6, .tdo), (5, 8, .trstN),
   (7, 2, .smbClk), (7, 4, .smbDat), (7, 6, .smbAlertN), (7, 8, .resetN)] ++
  [(2, 3, .sgood), (2, 5, .testEn), (2, 7, .alarmN), (2, 9, .thermN), (4, 3, .stat 0), (4, 5, .stat 1), (4, 7, .stat 2),
   (4, 9, .loomOk 0), (6, 3, .loomOk 1), (6, 5, .loomOk 2), (6, 7, .loomOk 3)] ++
  [(1, 59, .refclk 0), (1, 60, .refclk 1), (1, 62, .huSense), (1, 64, .huLoad), (3, 59, .huKelvin 0), (3, 60, .huKelvin 1),
   (3, 62, .tdiode 0), (3, 63, .tdiode 1), (3, 65, .atest),
   (5, 59, .vs 0), (5, 60, .gs 0), (5, 62, .vs 1), (5, 63, .gs 1), (5, 65, .vs 4),
   (7, 59, .vs 2), (7, 60, .gs 2), (7, 62, .vs 3), (7, 63, .gs 3), (7, 65, .gs 4)]

/-- The five balls of a lane (R491): TX_P, TX_N, RX_P, RX_N, LANE_WAKE_N. -/
def laneBalls (n : Nat) : List (Nat × Nat × Signal) :=
  let k := n % 16
  let c := 10 + 3 * k
  let r := 8 + 3 * k
  let put := fun (tp tn rp rn w : Nat × Nat) =>
    [(tp.1, tp.2, .laneTx n 0), (tn.1, tn.2, .laneTx n 1), (rp.1, rp.2, .laneRx n 0), (rn.1, rn.2, .laneRx n 1),
     (w.1, w.2, Signal.laneWakeN n)]
  match n / 16 with
  | 0 => put (1, c) (1, c + 1) (3, c) (3, c + 1) (2, c + 2)
  | 1 => put (r, 66) (r + 1, 66) (r, 64) (r + 1, 64) (r + 2, 65)
  | 2 => put (64, c) (64, c + 1) (62, c) (62, c + 1) (63, c + 2)
  | _ => put (r, 1) (r + 1, 1) (r, 3) (r + 1, 3) (r + 2, 2)

/-- The 37 balls of PCI Express (R492). -/
def pcieBalls : List (Nat × Nat × Signal) :=
  (List.range 8).flatMap (fun m =>
    let c := 2 * (m % 4) + 1
    let t := if m < 4 then 64 else 62
    let r := if m < 4 then 60 else 58
    [(t, c, .pet m 0), (t, c + 1, .pet m 1), (r, c, .per m 0), (r, c + 1, .per m 1)]) ++
  [(57, 2, .pcieRefclk 0), (57, 3, .pcieRefclk 1), (57, 5, .perstN), (57, 7, .pcieRcal 0), (57, 8, .pcieRcal 1)]

/-- The service balls and the 45 reserved balls (R493). -/
def serviceBalls : List (Nat × Nat × Signal) :=
  (List.range 64).map (fun n => (if n < 32 then 5 else 7, 10 + n % 32, .svc n))
def reservedBalls : List (Nat × Nat × Signal) :=
  ([56, 57, 59, 61, 63].flatMap (fun r => [58, 60, 62, 64, 66].map (fun c => (r, c)))).map (fun p => (p.1, p.2, .reserved)) ++
  ([5, 7].flatMap (fun r => (List.range 10).map (fun i => (r, 43 + i)))).map (fun p => (p.1, p.2, .reserved))

/-- Every signal and reserved ball. -/
def signalBalls : List (Nat × Nat × Signal) :=
  controlBalls ++ (List.range 64).flatMap laneBalls ++ pcieBalls ++ serviceBalls ++ reservedBalls

/-! ### Power and ground balls (R494, R495) -/

/-- The rails. -/
inductive Rail where
  | vss | loom (n : Nat) | central | nv | phy | io | aux | vbat
  deriving DecidableEq, Repr

/-- The rail of a position that no signal takes: the first row of R494's table that matches. -/
def railAt (r c : Nat) : Rail :=
  if inCore r c then
    if (r + c) % 2 = 0 then .vss
    else if r = 8 ∨ r = 55 ∨ c = 10 ∨ c = 57 then .phy
    else if 30 ≤ r ∧ r ≤ 33 ∧ 22 ≤ c ∧ c ≤ 45 then .nv
    else if 20 ≤ r ∧ r ≤ 43 ∧ 22 ≤ c ∧ c ≤ 45 then .central
    else if r ≤ 31 ∧ c ≤ 33 then .loom 0
    else if r ≤ 31 then .loom 1
    else if 34 ≤ c then .loom 2
    else .loom 3
  else if r = 6 ∧ 10 ≤ c ∧ c ≤ 41 then .io
  else if r = 2 ∧ 58 ≤ c then .aux
  else if r = 4 ∧ (c = 65 ∨ c = 66) then .vbat
  else .vss

/-- What stands at a position: a signal, or else a rail. -/
def ballAt (r c : Nat) : Signal ⊕ Rail :=
  match signalBalls.find? (fun b => b.1 == r && b.2.1 == c) with
  | some b => .inl b.2.2
  | none => .inr (railAt r c)

/-- The greatest current of a rail alone, in µA; VBAT_TM's with the main supplies off, since it gives none with them on (R495). -/
def railMax : Rail → Nat
  | .loom _ => 16000000
  | .central => 23000000
  | .nv => 4500000
  | .phy => 6000000
  | .io => 600000
  | .aux => 600000
  | .vbat => 12
  | .vss => 0

/-! ### What the output balls show -/

/-- SGOOD: high from supply good until power-fail detection. -/
def sgoodOut (s : State) : Bool := s.clk.supply && !s.clk.powerFailHold

/-- STAT0 to STAT2: GLB_SERVICE.STATE, 0 during reset and in SCUTTLED. -/
def statOut (s : State) : Nat :=
  if !s.clk.supply || heldReset s || s.glb.lifecycle == lcScuttled then 0 else s.glb.service % 8

/-- LOOM_OK0 to LOOM_OK3. -/
def loomOkOut (s : State) : BitVec 4 := if s.clk.supply && !heldReset s then s.glb.loomIn else 0

/-- ALARM_N, THERM_N and SMB_ALERT_N sink while they are asserted. -/
def alarmSinks (s : State) : Bool := s.clk.supply && s.tm.alarmN
def thermSinks (s : State) : Bool := s.clk.supply && s.tm.temps.any (fun p => tempOut p.2)
def smbAlertSinks (s : State) : Bool := s.clk.supply && s.clk.smbFault

/-- The levels that stand (R444, R449). -/
def levelsStand (s : State) : Nat := s.tm.outLevels.toNat ||| (if s.tm.active.isEmpty then 0 else 2)

/-- The extra alarm function is asserted: it acts, and its level stands or its pulse runs. -/
def alarmAsserted (s : State) : Bool :=
  outsAct s && (if s.tm.outPulse = 0 then decide (levelsStand s &&& s.tm.outSel ≠ 0) else s.tm.pulseEnd.isSome)

/-- INVERT of a service ball's setting in force. -/
def ballInvert (s : State) (n : Nat) : Bool := bit (mget 0x0041 s.pm.inForce n) 2

/-- What the boundary register drives on a service ball under EXTEST and CLAMP, of its three cells the output's level and
its enable (R510). (DESIGN CHOICE, log 95) -/
def scanDrives (s : State) (n : Nat) : Option Bool :=
  if s.tap.boundary.getLsbD (3 * (22 + n) + 1) then some (s.tap.boundary.getLsbD (3 * (22 + n))) else none

/-- What a service ball's driver does: none while it is off, or the level driven (R504 to R506, R510). A trace ball outside
a message carries IDLE, and is low in lockdown. -/
def svcDrives (s : State) (n : Nat) : Option Bool :=
  if !s.clk.supply then none
  else if s.tap.instr = 0x04 ∨ s.tap.instr = 0x05 then scanDrives s n
  else if s.tap.instr = 0x06 ∨ svcParked s n = true then none
  else match ballFunc s n with
    | 1 => some (s.pm.gpioOut.getLsbD n != ballInvert s n)
    | 2 => some false
    | 3 => some (alarmAsserted s == ballInvert s n)
    | _ => none

/-- A service-ball alarm output is asserted: a ball carries the function and is not parked. -/
def alarmOut (s : State) : Bool := alarmAsserted s && (List.range 64).any (fun n => ballFunc s n == 3 && !svcParked s n)

/-- What PM_GPIO_IN reads for ball n (R504). -/
def gpioIn (s : State) (n : Nat) : Bool :=
  if svcParked s n then false
  else if ballFunc s n = 0 then s.pm.levels.getLsbD n
  else if ballFunc s n = 1 then svcDrives s n == some true
  else false

end Sys2Proof.Machine
end

