-- ==== Sys2Proof/Machine/RegMap.lean ====
section
/-! DEFINITION. What every register reads (R24, R25, R63 to R70, R108 to R111, R143 to R145, R153, R161, R288, R321,
R322, R348 to R350, R382, R383, R403, R411, R415, R421, R425, R428, R449, R471, R472, R487, R507), configuration groups
(R423, R424) and multi-word values (R419). A location that no register fills reads none. -/

namespace Sys2Proof.Machine

/-- Word k of a number. -/
def wordOf (v k : Nat) : Nat := v / 65536 ^ k % 65536

/-- A signed value as a word. -/
def intWord (v : Int) : Nat := (v % 65536).toNat

/-! ### Device blocks -/

/-- Words of the most recent error record: GLB_HOST_ERR, ADDR_LO, ADDR_HI (R415). -/
def errWord (s : State) (k : Nat) : Nat :=
  let h := s.host
  if k = 0 then h.errKind * 16384 + b2n h.errIndirect * 8192 + h.errFn * 256
  else if k = 1 then h.errAddr % 65536
  else h.errBar * 256 + h.errAddr / 65536 % 256

/-- GLB_ (R24, R25, R415). -/
def glbReg (s : State) (off : Nat) : Option Nat :=
  match off with
  | 0x00 => some 0x0D64
  | 0x04 => some Config.siliconStep.toNat
  | 0x08 => some s.glb.fwVer
  | 0x20 => some s.glb.lifecycle
  | 0x24 => some (serviceWord s)
  | 0x28 => some (errWord s 0)
  | 0x2C => some (errWord s 1)
  | 0x30 => some (errWord s 2)
  | 0x34 => some (wordOf s.host.errCnt 0)
  | 0x38 => some (wordOf s.host.errCnt 1)
  | _ => none

/-- CQ_FULL (R114, R153). -/
def cqFull (s : State) (fn p : Nat) : Bool :=
  let q := getPair s fn p
  q.live && decide (q.cqSize + 1 ≤ q.unconsumed + owed s fn p)

/-- A pair's registers (R153). -/
def pairReg (s : State) (fn p off : Nat) : Option Nat :=
  let q := getPair s fn p
  if off < 0x10 then some (wordOf q.sqBase (off / 4))
  else if off < 0x20 then some (wordOf q.cqBase (off / 4 - 4))
  else match off with
    | 0x20 => some q.sqSize
    | 0x24 => some q.cqSize
    | 0x28 => some (q.vector * 256 + b2n q.enable)
    | 0x2C => some (q.ign * 256 + q.fault * 16 + b2n (cqFull s fn p) * 8 + b2n (!q.enable && decide (0 < owed s fn p)) * 4 +
        b2n q.live)
    | 0x30 => some 0
    | 0x34 => some 0
    | 0x38 => some q.sqHead
    | 0x3C => some (b2n q.phase * 4096 + q.cqTail)
    | _ => none

/-- A window's registers (R161). -/
def winReg (s : State) (fn w off : Nat) : Option Nat :=
  let v := getWin s fn w
  if off < 0x10 then some (wordOf v.base (off / 4))
  else match off with
    | 0x10 => some (wordOf v.pages 0)
    | 0x14 => some (wordOf v.pages 1)
    | 0x18 => some (b2n v.write * 4 + b2n v.read * 2 + b2n v.enable)
    | 0x1C => some (v.ign * 256 + v.fault * 16 + b2n (v.live && winInUse s fn v) * 2 + b2n v.live)
    | _ => none

/-- A function's queue block, offsets 0x0400 to 0x0FFF. -/
def queueReg (s : State) (fn off : Nat) : Option Nat :=
  if 0x400 ≤ off ∧ off < 0x640 then pairReg s fn ((off - 0x400) / 0x40) (off % 0x40)
  else if 0x800 ≤ off ∧ off < 0xC00 then winReg s fn ((off - 0x800) / 0x40) (off % 0x40)
  else none

/-- VF_ (R411). -/
def vfReg (s : State) (fn off : Nat) : Option Nat :=
  let f := getFn s fn
  match off with
  | 0x00 => some fn
  | 0x04 => some (serviceWord s)
  | 0x08 => some (f.evtCapVec * 8 + f.evtLaneVec * 2 + b2n f.evtEnable)
  | 0x0C => some (f.evtIgn * 256)
  | 0x10 => some f.hostErrCnt
  | _ => none

/-- A source has IC_ state: an EVENT or a LEVEL (R426, R427). -/
def icHas (n : Nat) : Bool := srcKind n == .event || srcKind n == .level

/-- The sixteen bits of a group view. -/
def groupBits (f : Nat → Bool) (g : Nat) : Nat :=
  (List.range 16).foldl (fun a i => a + (if f (16 * g + i) then 2 ^ i else 0)) 0

/-- IC_ROUTE of a source (R428). -/
def routeWord (s : State) (n : Nat) : Nat :=
  match srcKind n with
  | .queue => 0x8000 + (getPair s (n / 9) (n % 9)).vector
  | .event => (icRoute s n &&& 0xC03F) + 0x1000
  | .level => (icRoute s n &&& 0xC03F) + 0x2000
  | .reserved => 0x3000

/-- IC_SUM: the groups that hold an INSVC source. -/
def icSum (s : State) (from_ : Nat) : Nat :=
  (List.range 16).foldl (fun a i =>
    a + (if (s.ic.insvc >>> (16 * (from_ + i))).toNat % 65536 ≠ 0 then 2 ^ i else 0)) 0

/-- IC_ (R428). -/
def icReg (s : State) (off : Nat) : Option Nat :=
  let c := s.ic
  let view := fun (b : BitVec 512) => some (groupBits (fun n => icHas n && b.getLsbD n) c.group)
  match off with
  | 0x00 => some (b2n c.enable)
  | 0x04 => some (c.ign * 256)
  | 0x08 => some c.group
  | 0x0C => view c.mask
  | 0x10 => some 0
  | 0x14 => some 0
  | 0x18 => view c.pend
  | 0x1C => some 0
  | 0x20 => some 0
  | 0x24 => view c.raw
  | 0x28 => view c.insvc
  | 0x2C => some (icSum s 0)
  | 0x30 => some (icSum s 16)
  | 0x34 => some 0
  | 0x38 => some c.routeSel
  | 0x3C => some (routeWord s c.routeSel)
  | _ => none

/-- IND_ but for IND_DATA (R421). -/
def indReg (s : State) (off : Nat) : Option Nat :=
  match off with
  | 0x00 => some (s.host.indAddr % 65536)
  | 0x04 => some (s.host.indAddr / 65536)
  | 0x0C => some (b2n s.host.autoInc)
  | _ => none

/-! ### Ledger, journal, admission, keys -/

/-- LG_ (R63 to R70). The counts read 0 until start-up reaches READY or READ_ONLY. (DEDUCED, log 91) -/
def lgReg (s : State) (off : Nat) : Option Nat :=
  let l := s.led
  let fmt := ((fwRunning s).map FwSlot.writeFormat).getD 1
  let up := fun v => if s.start.done.contains .ready then v else 0
  let pair := fun v k => some (wordOf (up v) k)
  match off with
  | 0x00 => some (fmt * 16 + oldestFormat s)
  | 0x04 => pair l.free 0
  | 0x08 => pair l.free 1
  | 0x0C => pair l.retired 0
  | 0x10 => pair l.retired 1
  | 0x14 => some (up l.quarantine.length)
  | 0x18 => pair l.overlay.length 0
  | 0x1C => pair l.overlay.length 1
  | 0x20 => pair l.sweep 0
  | 0x24 => pair l.sweep 1
  | 0x28 => pair (oldPages s fmt) 0
  | 0x2C => pair (oldPages s fmt) 1
  | _ => none

/-- JN_STATUS (R108). -/
def jnStatus (s : State) : Nat :=
  let j := s.jn
  j.batches.length * 64 + b2n (backstop s) * 32 + b2n (j.compacting && mayWrite s) * 16 + b2n (!j.abandoned.isEmpty) * 8 +
    b2n (j.batches.any (fun b => b.step == .committed)) * 4 + b2n j.lastSealed * 2 + b2n j.replayDone

/-- JN_ (R108 to R111). -/
def jnReg (s : State) (off : Nat) : Option Nat :=
  let j := s.jn
  let up := fun v => if j.replayDone then v else 0
  if 0x04 ≤ off ∧ off < 0x14 then some (wordOf (up j.durable) (off / 4 - 1))
  else if 0x14 ≤ off ∧ off < 0x24 then some (wordOf (up (tailFrame s)) (off / 4 - 5))
  else match off with
    | 0x00 => some (jnStatus s)
    | 0x24 => some (wordOf (up (spanEntries s)) 0)
    | 0x28 => some (wordOf (up (spanEntries s)) 1)
    | 0x2C => some (wordOf (up (spanFrameCount s)) 0)
    | 0x30 => some (wordOf (up (spanFrameCount s)) 1)
    | 0x34 => some j.replayUs
    | 0x38 => some (wordOf j.replayed 0)
    | 0x3C => some (wordOf j.replayed 1)
    | 0x40 => some j.holdupUs
    | 0x44 => some 0x01C2
    | _ => none

/-- CAP of R117, per ms: four looms, nothing granted, a Gen5 x8 link. -/
def fullCap (res : Nat) : Nat :=
  match res with
  | 0 => 64000
  | 1 => 8000
  | 2 => 18000000
  | 3 => 18000000
  | 4 => 6000000
  | 5 => 69000000
  | 6 => 72000000
  | 7 => 3000000
  | 8 => 27566000
  | _ => 3938000

/-- AD_STATUS (R143). -/
def adStatus (s : State) : Nat :=
  b2n (decide (capNow s 8 < 2048 * 1000)) * 4 +
    b2n ((List.range 10).any (fun k => decide (capNow s k < fullCap k))) * 2 +
    b2n (s.adm.opened && !s.jn.stopped)

/-- AD_ (R143 to R145). -/
def adReg (s : State) (off : Nat) : Option Nat :=
  let a := s.adm
  if 0x14 ≤ off ∧ off < 0x34 then some (wordOf (mget 0 a.refused ((off - 0x14) / 8)) (off / 4 % 2 + 1 - 2 * (off / 4 % 2)))
  else match off with
    | 0x00 => some (adStatus s)
    | 0x04 => some (wordOf a.startNo 0)
    | 0x08 => some (wordOf a.startNo 1)
    | 0x0C => some (wordOf a.change 0)
    | 0x10 => some (wordOf a.change 1)
    | 0x34 => some (wordOf a.late 0)
    | 0x38 => some (wordOf a.late 1)
    | 0x3C => some a.peakAdmit
    | 0x40 => some (mget 0 a.peaks 0)
    | 0x44 => some (mget 0 a.peaks 1)
    | 0x48 => some (mget 0 a.peaks 2)
    | 0x4C => some (mget 0 a.peaks 3)
    | 0x50 => some (wordOf a.redispatch 0)
    | 0x54 => some (wordOf a.redispatch 1)
    | 0x58 => some (wordOf a.abort2 0)
    | 0x5C => some (wordOf a.abort2 1)
    | _ => none

/-- KS_STATUS (R321). -/
def ksStatus (s : State) : Nat :=
  let k := s.keys
  b2n (corruptPresent s) * 128 + b2n (!k.reenrolReads.isEmpty) * 64 + b2n (reenrolDue s) * 32 + b2n k.helperOkB * 16 + b2n k.helperOkA * 8 + k.helperUsed * 4 +
    b2n k.drbgOk * 2 + b2n k.rootOk

/-- KS_ (R321, R322). -/
def ksReg (s : State) (off : Nat) : Option Nat :=
  let k := s.keys
  let gen := if k.rootIn then (helperRead s k.helperUsed).gen else 0
  let cnt := fun (l : List Nat) => some (if k.rootOk then (l.map (slotTally s)).sum else 0)
  if 0x04 ≤ off ∧ off < 0x24 then
    let i := 2 * (off / 4 - 1)
    some ((Config.deviceId.getD i 0).toNat + 256 * (Config.deviceId.getD (i + 1) 0).toNat)
  else match off with
    | 0x00 => some (ksStatus s)
    | 0x24 => cnt [ksEmpty]
    | 0x28 => cnt [ksAssigned]
    | 0x2C => cnt [ksLive]
    | 0x30 => cnt [ksRetired, ksSaturated]
    | 0x34 => cnt [ksCorrupt]
    | 0x38 => some k.ber
    | 0x3C => some 0x0258
    | 0x40 => some (wordOf gen 0)
    | 0x44 => some (wordOf gen 1)
    | 0x48 => some k.reenrolCount
    | 0x4C => some k.remaskUs
    | 0x50 => some (wordOf k.denied 0)
    | 0x54 => some (wordOf k.denied 1)
    | _ => none

/-! ### Tamper, clocks, ageing -/

/-- TM_ACTIVE (R449). -/
def tmActive (s : State) : Nat :=
  let a := s.tm.active
  (loomBits (loomL1 s)).toNat * 256 + b2n (a.any (fun x => x.region == 0)) * 128 +
    b2n (a.any (fun x => decide (0x40 ≤ x.region) && decide (x.region < 0x80))) * 64 + b2n (alarmSinks s || alarmOut s) * 32 +
    b2n s.tm.watchGap * 16 + b2n s.tm.envOk * 8 + b2n s.tm.oscOk * 4

/-- TM_ (R449). -/
def tmReg (s : State) (off : Nat) : Option Nat :=
  let t := s.tm
  match off with
  | 0x00 => some (t.outPulse * 256 + b2n t.enable)
  | 0x04 => some t.outSel
  | 0x08 => some t.warn
  | 0x0C => some (t.ign * 256 + t.fault * 64)
  | 0x10 => some (tmActive s)
  | 0x14 => some (t.lastSensor * 256 + t.lastLevel)
  | 0x18 => some t.lastRegion
  | 0x1C => some t.l1Count
  | 0x20 => some t.l2Count
  | 0x24 => some t.history.length
  | 0x28 => some ((t.history.head?.map (fun e => e.sensor * 256 + e.region)).getD 0)
  | 0x2C => some t.policy
  | 0x30 => some t.policyCount
  | 0x34 => some t.policyWindow
  | 0x38 => some (intWord (tmTemp s))
  | 0x3C => some (intWord (t.tempMax.getD 0))
  | 0x40 => some t.envMismatch
  | 0x44 => some t.glitches
  | 0x48 => some t.laneMac
  | 0x4C => some t.engineFaults
  | _ => none

/-- CP_ (R471). -/
def cpReg (s : State) (off : Nat) : Option Nat :=
  let c := s.clk
  if 0x10 ≤ off ∧ off < 0x24 then some (mget 850 c.vset (off / 4 - 4))
  else if 0x24 ≤ off ∧ off < 0x38 then some (mget 0 c.vmeas (off / 4 - 9))
  else if 0x38 ≤ off ∧ off < 0x44 then some (wordOf c.tos (off / 4 - 14))
  else if 0x70 ≤ off ∧ off < 0x84 then some (mget (0x40 + (off / 4 - 28)) c.smbAddr (off / 4 - 28))
  else match off with
    | 0x00 => some (c.sscDepth * 2 + b2n c.sscEnable)
    | 0x04 => some (c.ign * 256 + c.fault * 64 + c.sscActive * 16 + b2n c.refOk * 8 + b2n c.pllLock * 4 + b2n c.smbFault * 2)
    | 0x08 => some (c.throttlePlan.toNat * 16 + (c.throttlePlan ||| loomBits (loomL1 s)).toNat)
    | 0x0C => some (c.tempOver.toNat * 256 + c.voltOver.toNat)
    | 0x44 => some c.era
    | 0x48 => some (wordOf c.cal 0)
    | 0x4C => some (wordOf c.cal 1)
    | 0x50 => some (wordOf c.calSet 0)
    | 0x54 => some (wordOf c.calSet 1)
    | 0x58 => some 0
    | 0x5C => some (b2n c.everSet * 16 + c.calLast * 4 + c.calSource)
    | 0x60 => some c.calSteps
    | 0x64 => some c.resetCause
    | 0x68 => some c.startMs
    | 0x6C => some c.pfCount
    | 0x84 => some c.smbTarget
    | _ => none

/-- AG_ (R472). -/
def agReg (s : State) (off : Nat) : Option Nat :=
  let a := s.ag
  if 0x20 ≤ off ∧ off < 0x34 then some (mget 0 a.eolMv (off / 4 - 8))
  else match off with
    | 0x00 => some (a.warnPermil * 2 + b2n a.enable)
    | 0x04 => some (a.ign * 256 + b2n a.centralEol * 128 + b2n a.centralNow * 64 + b2n (a.planning || replanDue s) * 32 +
        b2n (decide (1000 ≤ a.lifeUsed)) * 16 + a.countedOut.toNat)
    | 0x08 => some a.lifeUsed
    | 0x0C => some (wordOf a.planTime 0)
    | 0x10 => some (wordOf a.planTime 1)
    | 0x14 => some a.planCount
    | 0x18 => some a.monSel
    | 0x1C => some (if a.monSel < 96 then mget 0 a.deltas a.monSel else 0)
    | 0x34 => some a.pufForecast
    | 0x38 => some a.dNowMax
    | 0x3C => some a.lastPlanMs
    | _ => none

/-! ### Observation, balls, custody -/

/-- OB_ (R487). -/
def obReg (s : State) (off : Nat) : Option Nat :=
  let o := s.ob
  let c := (mget {} o.counters o.cntSel : Counter)
  if 0x4C ≤ off ∧ off < 0x8C then some (o.win.getD (off / 4 - 19) 0)
  else match off with
    | 0x00 => some (o.traceTypes * 2 + b2n o.traceEnable)
    | 0x04 => some (o.traceIgn * 256 + b2n (!o.intake.isEmpty && tracePortOpen s))
    | 0x08 => some (wordOf o.traceLost 0)
    | 0x0C => some (wordOf o.traceLost 1)
    | 0x10 => some (b2n o.cntEnable)
    | 0x14 => some (o.cntIgn * 256 + o.cntFault * 64)
    | 0x18 => some o.cntSel
    | 0x1C => some c.event
    | 0x20 => some (wordOf c.count 0)
    | 0x24 => some (wordOf c.count 1)
    | 0x28 => some (wordOf c.count 2)
    | 0x2C => some (wordOf o.logNext 0)
    | 0x30 => some (wordOf o.logNext 1)
    | 0x34 => some (wordOf (logOldest s) 0)
    | 0x38 => some (wordOf (logOldest s) 1)
    | 0x3C => some (wordOf o.mark 0)
    | 0x40 => some (wordOf o.mark 1)
    | 0x44 => some (wordOf o.sel 0)
    | 0x48 => some (wordOf o.sel 1)
    | 0x8C => some (b2n o.winHeld)
    | 0x90 => some o.logDropped
    | _ => none

/-- PM_IO_CTRL. -/
def ioWord (s : State) : Nat := s.pm.miscSlew * 16 + s.pm.ccDrive * 4 + s.pm.ccSlew

/-- PM_ (R507). -/
def pmReg (s : State) (off : Nat) : Option Nat :=
  let p := s.pm
  if 0x10 ≤ off ∧ off < 0x20 then some (wordOf p.gpioOut.toNat (off / 4 - 4))
  else if 0x20 ≤ off ∧ off < 0x30 then some (groupBits (gpioIn s) (off / 4 - 8))
  else if 0x40 ≤ off ∧ off < 0x140 then some (mget 0x0041 p.svc (off / 4 - 16))
  else match off with
    | 0x00 => some (b2n p.enable)
    | 0x04 => some (p.ign * 256 + p.fault * 64 + b2n (p.allParked || p.parked != 0) * 32)
    | 0x08 => some p.faultBall
    | 0x0C => some (ioWord s)
    | _ => none

/-- CC_ENROLLED. -/
def enrolledMap (s : State) : Nat :=
  (List.range 16).foldl (fun a i => a + (if (mget none s.realms.live.cards i).isSome then 2 ^ i else 0)) 0

/-- A custody command uses the bus: the resolution of a transaction is none. -/
def custodyUse : CardUse → Bool
  | .cmd _ => true
  | .finish _ _ => true
  | _ => false

/-- CC_ (R403). -/
def ccReg (s : State) (off : Nat) : Option Nat :=
  let c := s.card
  match off with
  | 0x00 => some (c.clkDiv * 2 + b2n c.enable)
  | 0x04 => some (c.ign * 256 + c.fault * 64 + b2n c.pres * 32 + b2n (custodyUse c.use) * 16 + (addrs s).length)
  | 0x08 => some (presentMap s)
  | 0x0C => some (enrolledMap s)
  | 0x10 => some (pendingMap s)
  | 0x14 => some ((entriesIn s).length * 16 + s.realms.live.threshold)
  | 0x18 => some c.crcErr
  | 0x1C => some c.timeouts
  | 0x20 => some c.removals
  | 0x24 => some c.resolved
  | _ => none

/-! ### Configuration groups (R423, R424) -/

/-- EVENT and LEVEL routes, as their RWD bits. -/
def cfgRoutes (s : State) : List Nat :=
  (List.range 512).map (fun n => if icHas n then icRoute s n &&& 0xC03F else 0)

/-- A block's registers in ascending address order, each as its RWD bits: none of a place that no register fills, and
sixteen zeros of a register without RWD bits. -/
def cfgBlock (n : Nat) (reg : Nat → Option Nat) (words : Nat → List Nat) : List Nat :=
  (List.range n).flatMap (fun i => if (reg (4 * i)).isSome then words (4 * i) else [])

/-- A pair's register as its RWD bits. -/
def cfgPair (q : QPair) (off : Nat) : Nat :=
  if off < 0x10 then wordOf q.sqBase (off / 4)
  else if off < 0x20 then wordOf q.cqBase (off / 4 - 4)
  else match off with
    | 0x20 => q.sqSize
    | 0x24 => q.cqSize
    | 0x28 => q.vector * 256
    | _ => 0

/-- A window's register as its RWD bits. -/
def cfgWin (v : Window) (off : Nat) : Nat :=
  if off < 0x10 then wordOf v.base (off / 4)
  else match off with
    | 0x10 => wordOf v.pages 0
    | 0x14 => wordOf v.pages 1
    | 0x18 => b2n v.write * 4 + b2n v.read * 2
    | _ => 0

/-- The registers of the PF's pairs and windows. -/
def cfgQueues (s : State) : List Nat :=
  let f := getFn s 0
  (List.range 9).flatMap (fun p => cfgBlock 16 (pairReg s 0 p) (fun o => [cfgPair (mget {} f.pairs p) o])) ++
  (List.range 16).flatMap (fun w => cfgBlock 16 (winReg s 0 w) (fun o => [cfgWin (mget {} f.windows w) o]))

/-- LN_PHY_CTRL's RWD fields. -/
def phyWord (x : Lane) : Nat := x.txSwing * 32 + x.txDeemph * 8 + x.rxEq * 2

/-- The selection of counter k. -/
def cntEvent (s : State) (k : Nat) : Nat := (mget {} s.ob.counters k : Counter).event

/-- A register of PM_, CP_ or TM_ as its RWD bits. -/
def cfgPm (s : State) (off : Nat) : Nat :=
  if 0x40 ≤ off ∧ off < 0x140 then mget 0x0041 s.pm.svc (off / 4 - 16) else if off = 0x0C then ioWord s else 0
def cfgCp (s : State) (off : Nat) : Nat :=
  if 0x70 ≤ off ∧ off < 0x84 then mget (0x40 + (off / 4 - 28)) s.clk.smbAddr (off / 4 - 28)
  else if off = 0x00 then s.clk.sscDepth * 2 else if off = 0x84 then s.clk.smbTarget else 0
def cfgTm (s : State) (off : Nat) : Nat :=
  if off = 0x00 then s.tm.outPulse * 256 else if off = 0x04 then s.tm.outSel else if off = 0x08 then s.tm.warn else 0

/-- A register of OB_ as its RWD bits: OB_CNT_EVENT as the selection of each of the 256 counters. -/
def cfgOb (s : State) (off : Nat) : List Nat :=
  if off = 0x00 then [s.ob.traceTypes * 2] else if off = 0x1C then (List.range 256).map (cntEvent s) else [0]

/-- The registers of a group in the order of R423, each as its RWD bits. (DEDUCED, log 89) -/
def cfgWords (s : State) (g : Nat) : List Nat :=
  match g with
  | 0 => cfgRoutes s
  | 1 => cfgQueues s
  | 2 => (List.range 32).map (fun l => phyWord (getLane s l))
  | 3 => (List.range 32).map (fun l => phyWord (getLane s (32 + l)))
  | 4 => cfgBlock 0x400 (ccReg s) (fun o => [if o = 0 then s.card.clkDiv * 2 else 0])
  | 5 => cfgBlock 0x400 (pmReg s) (fun o => [cfgPm s o])
  | 6 => cfgBlock 0x200 (cpReg s) (fun o => [cfgCp s o])
  | 7 => cfgBlock 0x200 (agReg s) (fun o => [if o = 0 then s.ag.warnPermil * 2 else 0])
  | 8 => cfgBlock 0x400 (tmReg s) (fun o => [cfgTm s o])
  | 9 => cfgBlock 0x400 (obReg s) (cfgOb s)
  | _ => []

/-- A group's CRC now; 0 for a reserved group. -/
def cfgCrc (s : State) (g : Nat) : Nat :=
  if 10 ≤ g then 0 else (crc32 ((cfgWords s g).flatMap (leBytes 2))).toNat

/-- The selections that every start gives the counters (R479). -/
def firstCounters : KMap Counter :=
  [(0, { event := 0x01FF }), (1, { event := 0x02FF }), (2, { event := 0x06FF }), (3, { event := 0x1200 })]

/-- A group's CRC with every register at its reset value. -/
def cfgResetCrc (g : Nat) : Nat :=
  cfgCrc { ({} : State) with ob := { counters := firstCounters } } g

/-- The reference of a group. -/
def cfgRefOf (s : State) (g : Nat) : Nat := (mget none s.host.cfgRef g).getD (cfgResetCrc g)

/-- CFG_ (R425). -/
def cfgReg (s : State) (off : Nat) : Option Nat :=
  let h := s.host
  match off with
  | 0x00 => some 0
  | 0x04 => some h.cfgMismatch.toNat
  | 0x08 => some h.cfgSel
  | 0x0C => some (wordOf (cfgRefOf s h.cfgSel) 0)
  | 0x10 => some (wordOf (cfgRefOf s h.cfgSel) 1)
  | 0x14 => some (wordOf ((mget none h.cfgCur h.cfgSel).getD 0) 0)
  | 0x18 => some (wordOf ((mget none h.cfgCur h.cfgSel).getD 0) 1)
  | 0x1C => some h.cfgPass
  | _ => none

/-- A register of the PF's BAR0, IND_DATA apart (R409). -/
def pfReg (s : State) (off : Nat) : Option Nat :=
  if off < 0x400 then glbReg s off
  else if off < 0x1000 then queueReg s 0 off
  else if off < 0x1800 then icReg s (off - 0x1000)
  else if off < 0x2000 then cfgReg s (off - 0x1800)
  else if off < 0x3000 then indReg s (off - 0x2000)
  else if off < 0x3400 then lgReg s (off - 0x3000)
  else if off < 0x4000 then jnReg s (off - 0x3400)
  else if off < 0x5000 then adReg s (off - 0x4000)
  else if off < 0x6000 then ksReg s (off - 0x5000)
  else if off < 0x7000 then tmReg s (off - 0x6000)
  else if off < 0x7800 then cpReg s (off - 0x7000)
  else if off < 0x8000 then agReg s (off - 0x7800)
  else if off < 0x9000 then obReg s (off - 0x8000)
  else if off < 0xA000 then pmReg s (off - 0x9000)
  else if off < 0xB000 then ccReg s (off - 0xA000)
  else none

/-- A register of a function's BAR0. -/
def barReg (s : State) (fn off : Nat) : Option Nat :=
  if off % 4 ≠ 0 then none
  else if fn = 0 then pfReg s off
  else if off < 0x400 then vfReg s fn off
  else if off < 0x1000 then queueReg s fn off
  else none

/-! ### Indirect registers (R412) -/

/-- A lane's registers (R382, R383). -/
def laneReg (s : State) (l off : Nat) : Option Nat :=
  let x := getLane s l
  if 0x30 ≤ off ∧ off < 0x40 then
    let i := 2 * (off / 4 - 12)
    some ((x.stationId.getD i 0).toNat + 256 * (x.stationId.getD (i + 1) 0).toNat)
  else match off with
    | 0x00 => some (laneStatusWord s l)
    | 0x04 => some (x.ign * 256 + b2n x.lock)
    | 0x08 => some (x.reserved * 256 + x.places.length * 16 + freePlaces s l)
    | 0x0C => some (wordOf x.nextSeq 0)
    | 0x10 => some (wordOf x.nextSeq 1)
    | 0x14 => some (wordOf x.ackSeq 0)
    | 0x18 => some (wordOf x.ackSeq 1)
    | 0x1C => some (wordOf (failOldest x) 0)
    | 0x20 => some (wordOf (failOldest x) 1)
    | 0x24 => some (x.dropped * 256 + x.fails.length)
    | 0x28 => some (min 0xFFFF ((errorBound s x).getD 0))
    | 0x2C => some x.delayNs
    | 0x40 => some (x.ppmSeen * 256 + x.keyGen)
    | 0x44 => some x.crcErr
    | 0x48 => some x.macErr
    | 0x4C => some x.retx
    | 0x50 => some x.linkups
    | 0x54 => some (phyWord x + b2n x.phyEnable)
    | _ => none

/-- A heddle in service as the registers show it: from its self-test on. -/
def heddleShown (s : State) (h : Nat) : Bool := s.start.done.contains .selfTest && heddleInService s h

/-- Bits of the channels that hold an operation. -/
def busyChans (s : State) (ci : Bool) (h : Nat) : Nat :=
  (List.range 12).foldl (fun a c => a + (if (getChan s ci h c).busy then 2 ^ c else 0)) 0

/-- The digest or cipher engine's registers, offsets from DG_STATUS or CI_STATUS (R348, R349). -/
def engReg (s : State) (ci : Bool) (h off : Nat) : Option Nat :=
  let e := getEng s ci h
  match off with
  | 0x00 => some (b2n (heddleShown s h) * 4096 + busyChans s ci h)
  | 0x04 => some (wordOf e.ops 0)
  | 0x08 => some (wordOf e.ops 1)
  | 0x0C => some (wordOf e.blocks 0)
  | 0x10 => some (wordOf e.blocks 1)
  | 0x14 => some e.clears
  | 0x18 => some e.denied
  | 0x1C => some e.extra
  | _ => none

/-- The signature engine's registers (R350). -/
def sgReg (s : State) (g off : Nat) : Option Nat :=
  let e := getSg s g
  match off with
  | 0x00 => some (b2n e.cur.isSome * 2 + b2n (s.start.done.contains .selfTest && loomInService s (g / 2)))
  | 0x04 => some (wordOf e.signs 0)
  | 0x08 => some (wordOf e.signs 1)
  | 0x0C => some (wordOf e.verifies 0)
  | 0x10 => some (wordOf e.verifies 1)
  | 0x14 => some e.rejects
  | 0x18 => some e.clears
  | 0x1C => some e.denials
  | _ => none

/-- A heddle's registers (R288, R348 to R350). -/
def heddleReg (s : State) (h off : Nat) : Option Nat :=
  let x := getHd s h
  if 0x20 ≤ off ∧ off < 0x40 then engReg s false h (off - 0x20)
  else if 0x40 ≤ off ∧ off < 0x60 then engReg s true h (off - 0x40)
  else if 0x60 ≤ off ∧ off < 0x80 then sgReg s (2 * (h / 6) + h % 6 % 2) (off - 0x60)
  else match off with
    | 0x00 => some ((grantOf s h).getD 0 * 64 + b2n (grantOf s h).isSome * 32 +
        b2n (heddlesLoading s && heddleInService s h) * 16 + b2n (heddleShown s h))
    | 0x04 => some ((List.range 8).foldl (fun a i =>
        a + (if s.start.done.contains .selfTest && shuttleInService s (8 * h + i) then 2 ^ i else 0)) 0)
    | 0x08 => some (if s.start.done.contains .applets then 448 - (progUsed s.cells).length else 0)
    | 0x0C => some (if s.start.done.contains .applets then 352 - (segUsed s.cells).length else 0)
    | 0x10 => some x.traps
    | 0x14 => some x.timeouts
    | 0x18 => some ((List.range 8).filter (fun i => (getSh s (8 * h + i)).lock.any (fun k => decide (k < 64)))).length
    | 0x1C => some x.jobs
    | _ => none

/-- The register at an indirect address. -/
def indirectReg (s : State) (a : Nat) : Option Nat :=
  if a % 4 ≠ 0 then none
  else if 0x100000 ≤ a ∧ a < 0x104000 then laneReg s ((a - 0x100000) / 0x100) (a % 0x100)
  else if 0x200000 ≤ a ∧ a < 0x206000 then heddleReg s ((a - 0x200000) / 0x400) (a % 0x400)
  else none

/-! ### Multi-word values (R419) -/

/-- The registers of the multi-word value that ends at this most significant one, least significant first.
(DEDUCED, log 90) -/
def run4 (a n : Nat) : List Nat := (List.range n).map (fun i => a + 4 * i)

/-- The multi-word values of the PF's BAR0 outside its queue block: first register and count. -/
def pfValues : List (Nat × Nat) :=
  [(0x0028, 3), (0x0034, 2), (0x102C, 2), (0x180C, 2), (0x1814, 2), (0x2000, 2), (0x3004, 2), (0x300C, 2), (0x3018, 2),
   (0x3020, 2), (0x3028, 2), (0x3404, 4), (0x3414, 4), (0x3424, 2), (0x342C, 2), (0x3438, 2), (0x4004, 2), (0x400C, 2),
   (0x4014, 2), (0x401C, 2), (0x4024, 2), (0x402C, 2), (0x4034, 2), (0x4050, 2), (0x4058, 2), (0x5040, 2), (0x5050, 2),
   (0x7038, 3), (0x7048, 2), (0x7050, 2), (0x780C, 2), (0x8008, 2), (0x8020, 3), (0x802C, 2), (0x8034, 2), (0x803C, 2),
   (0x8044, 2)]

/-- The multi-word values of a lane's and of a heddle's block. -/
def laneValues : List (Nat × Nat) := [(0x0C, 2), (0x14, 2), (0x1C, 2), (0x30, 4)]
def heddleValues : List (Nat × Nat) := [(0x24, 2), (0x2C, 2), (0x44, 2), (0x4C, 2), (0x64, 2), (0x6C, 2)]

/-- The value in a list whose most significant word stands at an offset. -/
def valueEnding (l : List (Nat × Nat)) (off : Nat) : Option (Nat × Nat) := l.find? (fun p => p.1 + 4 * (p.2 - 1) == off)

/-- The other words of the multi-word value whose most significant word a function reads at an offset. -/
def latchedWith (fn off : Nat) : List Nat :=
  let of_ := fun (base : Nat) (l : List (Nat × Nat)) (o : Nat) => match valueEnding l o with
    | some (a, n) => run4 (base + a) (n - 1)
    | none => []
  if 0x400 ≤ off ∧ off < 0x640 then of_ (off - off % 0x40) [(0, 4), (0x10, 4)] (off % 0x40)
  else if 0x800 ≤ off ∧ off < 0xC00 then of_ (off - off % 0x40) [(0, 4), (0x10, 2)] (off % 0x40)
  else if fn = 0 then of_ 0 pfValues off
  else []

/-- The same for an indirect address. -/
def latchedInd (a : Nat) : List Nat :=
  let of_ := fun (base : Nat) (l : List (Nat × Nat)) (o : Nat) => match valueEnding l o with
    | some (x, n) => run4 (base + x) (n - 1)
    | none => []
  if 0x100000 ≤ a ∧ a < 0x104000 then of_ (a - a % 0x100) laneValues (a % 0x100)
  else if 0x200000 ≤ a ∧ a < 0x206000 then of_ (a - a % 0x400) heddleValues (a % 0x400)
  else []

end Sys2Proof.Machine
end

