-- ==== Sys2Proof/Machine/RegWrite.lean ====
section
/-! DEFINITION. Host reads and writes of registers: reserved locations (R413 to R415), multi-word reads (R419), the
configuration rule (R420), the indirect window (R421, R422), configuration groups (R423 to R425), the interrupt
controller's registers (R426 to R429) and what a write of each block does. -/

namespace Sys2Proof.Machine

/-! ### Reserved locations (R414, R415) -/

/-- A record: the three error words change together, the counts advance, source 383 is raised. -/
def recordErr (kind fn bar addr : Nat) (ind : Bool) (s : State) : State :=
  let s1 := icRaise 383 { s with host := { s.host with
    errKind := kind, errIndirect := ind, errFn := fn, errBar := bar, errAddr := addr
    errCnt := satInc s.host.errCnt 0xFFFFFFFF } }
  if fn = 0 then s1
  else
    let f := getFn s1 fn
    setFn fn { f with hostErrCnt := satInc f.hostErrCnt 0xFFFF } s1

/-- GLB_, TM_ and OB_, which stay readable in LOCKDOWN (R21). -/
def lockReadable (fn off : Nat) : Bool :=
  fn == 0 && (decide (off < 0x400) || (decide (0x6000 ≤ off) && decide (off < 0x7000)) ||
    (decide (0x8000 ≤ off) && decide (off < 0x9000)))

/-- Reads complete normally with 0 here: everywhere in SCUTTLED, outside the readable blocks in LOCKDOWN (R19, R21). -/
def readsZero (s : State) (fn off : Nat) : Bool :=
  s.glb.lifecycle == lcScuttled || (s.glb.service == svLockdown && !lockReadable fn off)

/-- A read of a reserved location is aborted and recorded. -/
def reservedRead (fn bar addr : Nat) (ind : Bool) (s : State) : State :=
  if s.glb.lifecycle == lcScuttled || (s.glb.service == svLockdown && (ind || bar != 0 || !lockReadable fn addr)) then
    emit (.readValue fn 0) s
  else emit (.completerAbort fn) (aerLog fn 15 (recordErr 1 fn bar addr ind s))

/-- Writes to BAR0 that are dropped without record: every one in SCUTTLED, all but three in LOCKDOWN. -/
def writesDropped (s : State) (fn off : Nat) : Bool :=
  s.glb.lifecycle == lcScuttled ||
    (s.glb.service == svLockdown && !(fn == 0 && (off == 0x8018 || off == 0x8044 || off == 0x8048)))

/-- A write to a reserved location, or a poisoned write to any, is dropped and recorded, in AER too; the ERR_NONFATAL
message goes out for the Unsupported Request. (DEDUCED, log 93) -/
def reservedWrite (fn bar addr : Nat) (ind poisoned : Bool) (s : State) : State :=
  if bar = 0 ∧ (s.glb.lifecycle = lcScuttled ∨ s.glb.service = svLockdown) then s
  else
    let t := emit (.aer fn poisoned) (aerLog fn (if poisoned then 12 else 20)
      (recordErr (if poisoned then 3 else 2) fn bar addr ind s))
    if poisoned then t else reportErr fn t

/-! ### BAR2: the MSI-X table and PBA (R404, R408) -/

/-- The vectors of a function, and the offset of its PBA. -/
def fnVectors (fn : Nat) : Nat := if fn = 0 then 64 else 4
def pbaAt (fn : Nat) : Nat := if fn = 0 then 0x1000 else 0x800

/-- A DWORD of BAR2. -/
def bar2Reg (s : State) (fn off : Nat) : Option Nat :=
  let f := getFn s fn
  if off % 4 ≠ 0 then none
  else if off < 16 * fnVectors fn then
    if off % 16 = 12 then some (b2n (f.vecMask.getLsbD (off / 16))) else some (mget 0 f.msix (off / 4))
  else if off = pbaAt fn then some (f.pba.toNat % 4294967296)
  else if off = pbaAt fn + 4 then some (f.pba.toNat / 4294967296)
  else none

/-- A QWORD of BAR2: two DWORDs at an 8-byte-aligned offset (R413). -/
def bar2Quad (s : State) (fn off : Nat) : Option Nat :=
  match bar2Reg s fn off, bar2Reg s fn (off + 4) with
  | some a, some b => if off % 8 = 0 then some (a + 4294967296 * b) else none
  | _, _ => none

/-- Messages held in the PBA whose masks are clear are sent, lowest vector first. -/
def sendHeld (fn : Nat) (s : State) : State :=
  (List.range 64).foldl (fun t v =>
    let f := getFn t fn
    if msixOn f && !f.fnMask && f.pba.getLsbD v && !f.vecMask.getLsbD v then
      emit (.msix fn v) (setFn fn { f with pba := f.pba &&& ~~~ (1#64 <<< v) } t)
    else t) s

/-- A vector's mask bit is written. -/
def setVecMask (fn vec : Nat) (on : Bool) (s : State) : State :=
  let f := getFn s fn
  let b := 1#64 <<< vec
  sendHeld fn (setFn fn { f with vecMask := if on then f.vecMask ||| b else f.vecMask &&& ~~~ b } s)

/-- A DWORD write to BAR2. -/
def bar2Write (fn off v : Nat) (s : State) : State :=
  if (bar2Reg s fn off).isNone then reservedWrite fn 2 off false false s
  else if 16 * fnVectors fn ≤ off then s
  else if off % 16 = 12 then setVecMask fn (off / 16) (bit v 0) s
  else
    let f := getFn s fn
    setFn fn { f with msix := mset 0 f.msix (off / 4) (v % 4294967296) } s

/-- A QWORD write to BAR2. -/
def bar2QuadWrite (fn off v : Nat) (s : State) : State :=
  if (bar2Quad s fn off).isNone then reservedWrite fn 2 off false false s
  else bar2Write fn (off + 4) (v / 4294967296) (bar2Write fn off (v % 4294967296) s)

/-! ### Reads (R413, R414, R416, R419) -/

/-- A register's read completes: the latched word of a multi-word value where there is one, and the latches that a read of
a most significant word sets. -/
def readDone (fn key v : Nat) (others : List (Nat × Nat)) (s : State) : State :=
  let f := getFn s fn
  let ls := others.foldl (fun m p => mput m p.1 p.2) f.latches
  emit (.readValue fn ((mfind ls key).getD v)) (setFn fn { f with latches := ls } s)

/-- Key of an indirect address in a function's latches. -/
def indKey (a : Nat) : Nat := 0x1000000 + a

/-- A read of the indirect register at an address. -/
def indirectRead (a : Nat) (s : State) : State :=
  match indirectReg s a with
  | none => reservedRead 0 0 a true s
  | some v =>
    if readsZero s 0 0x2008 then emit (.readValue 0 0) s
    else readDone 0 (indKey a) v ((latchedInd a).map (fun b => (indKey b, (indirectReg s b).getD 0))) s

/-- The address advances after an access to IND_DATA, a faulted one too (R421, R422). -/
def indAdvance (s : State) : State :=
  if s.host.autoInc then { s with host := { s.host with indAddr := (s.host.indAddr + 4) % 16777216 } } else s

/-- A read of BAR2 that finds a value or nothing there. -/
def bar2Read (fn off : Nat) (found : Option Nat) (s : State) : State :=
  match found with
  | none => reservedRead fn 2 off false s
  | some v => if readsZero s fn 0x2000 then emit (.readValue fn 0) s else emit (.readValue fn v) s

/-- A read of a DWORD of a function's BAR0 or BAR2, or of a QWORD of BAR2. -/
def hostRead (fn : Nat) (bar : Bar) (off : Nat) (s : State) : State :=
  if !barOpen s fn then disabledBar fn false s
  else if bar = .bar2 then bar2Read fn off (bar2Reg s fn off) s
  else if bar = .bar2Quad then bar2Read fn off (bar2Quad s fn off) s
  else if fn = 0 ∧ off = 0x2008 then indAdvance (indirectRead s.host.indAddr s)
  else match barReg s fn off with
    | none => reservedRead fn 0 off false s
    | some v =>
      if readsZero s fn off && !(s.glb.lifecycle == lcScuttled && fn == 0 && off == 0x20) then emit (.readValue fn 0) s
      else readDone fn off v ((latchedWith fn off).map (fun b => (b, (barReg s fn b).getD 0))) s

/-! ### The configuration rule (R420) -/

/-- A write of RWD fields, judged against ENABLE: taken with ENABLE 0; with ENABLE 1 ignored, and counted and logged
where it would have changed a field. -/
def rwd (enable changed : Bool) (fn addr : Nat) (ign take : State → State) (s : State) : State :=
  if enable then (if changed then ignLog fn addr (ign s) else s) else take s

/-- Word k of a number replaced. -/
def putWord (old k v : Nat) : Nat := old - wordOf old k * 65536 ^ k + v % 65536 * 65536 ^ k

/-! ### Queue block (R153, R154, R161) -/

/-- A write to a pair's register. -/
def pairWrite (fn p off v : Nat) (s : State) : State :=
  let q := getPair s fn p
  let addr := pairAddr p + off
  let put := fun (q1 : QPair) => rwd q.enable (decide (q1 ≠ q)) fn addr (pairIgn fn p) (setPairOf fn p q1) s
  if off < 0x10 then put { q with sqBase := putWord q.sqBase (off / 4) v }
  else if off < 0x20 then put { q with cqBase := putWord q.cqBase (off / 4 - 4) v }
  else match off with
    | 0x20 => put { q with sqSize := v % 4096 }
    | 0x24 => put { q with cqSize := v % 4096 }
    | 0x28 => if bit v 0 then qpEnableWrite fn p v s else qpDisableWrite fn p v s
    | 0x30 => sqTailWrite fn p v s
    | 0x34 => cqHeadWrite fn p v s
    | _ => s

/-- A write to a window's register. -/
def winWrite (fn w off v : Nat) (s : State) : State :=
  let x := getWin s fn w
  let ign := fun (t : State) => let y := getWin t fn w
                                setWin fn w { y with ign := satInc y.ign 0xFF } t
  let put := fun (x1 : Window) => rwd x.enable (decide (x1 ≠ x)) fn (winAddr w + off) ign (setWin fn w x1) s
  if off < 0x10 then put { x with base := putWord x.base (off / 4) v }
  else match off with
    | 0x10 => put { x with pages := putWord x.pages 0 v }
    | 0x14 => put { x with pages := putWord x.pages 1 v }
    | 0x18 => if bit v 0 then winEnableWrite fn w v s else winDisableWrite fn w v s
    | _ => s

/-- A write to a function's queue block. -/
def queueWrite (fn off v : Nat) (s : State) : State :=
  if off < 0x640 then pairWrite fn ((off - 0x400) / 0x40) (off % 0x40) v s
  else winWrite fn ((off - 0x800) / 0x40) (off % 0x40) v s

/-- A write to the VF_ block (R411). -/
def vfWrite (fn off v : Nat) (s : State) : State :=
  let f := getFn s fn
  if off = 0x08 then
    let f1 := { f with evtCapVec := bits v 4 3, evtLaneVec := bits v 2 1 }
    let s1 := rwd f.evtEnable (decide (f1 ≠ f)) fn 0x08 (setFn fn { f with evtIgn := satInc f.evtIgn 0xFF }) (setFn fn f1) s
    setFn fn { getFn s1 fn with evtEnable := bit v 0 } s1
  else s

/-! ### Interrupt controller (R426 to R428) -/

/-- The sources of the selected group that a word's bits name. -/
def groupSel (s : State) (v : Nat) : BitVec 512 :=
  (List.range 16).foldl (fun b i => if bit v i && icHas (16 * s.ic.group + i) then b ||| srcBit (16 * s.ic.group + i) else b) 0

/-- IC_MASK_SET. -/
def icMaskSet (v : Nat) (s : State) : State := { s with ic := { s.ic with mask := s.ic.mask ||| groupSel s v } }

/-- IC_MASK_CLR. -/
def icMaskClr (v : Nat) (s : State) : State := { s with ic := { s.ic with mask := s.ic.mask &&& ~~~ groupSel s v } }

/-- IC_PEND_SET raises sources as an event would: on the steward side too, and source 380 for the VFs (R429). -/
def icPendSet (v : Nat) (s : State) : State :=
  let t := { s with ic := { s.ic with pend := s.ic.pend ||| groupSel s v, pendSteward := s.ic.pendSteward ||| groupSel s v } }
  if (groupSel s v).getLsbD 380 then capMessages t else t

/-- IC_PEND_CLR discards the host's pending sources. -/
def icPendClr (v : Nat) (s : State) : State := { s with ic := { s.ic with pend := s.ic.pend &&& ~~~ groupSel s v } }

/-- IC_EOI: an INSVC source completes; a LEVEL source whose RAW is 1 is pending again. -/
def icEoi (v : Nat) (s : State) : State :=
  let n := v % 512
  if s.ic.insvc.getLsbD n then
    let p := if srcKind n == .level && s.ic.raw.getLsbD n then s.ic.pend ||| srcBit n else s.ic.pend
    { s with ic := { s.ic with insvc := s.ic.insvc &&& ~~~ srcBit n, pend := p } }
  else s

/-- IC_ROUTE of the selected source; a QUEUE or reserved source's is read-only. -/
def icRouteWrite (v : Nat) (s : State) : State :=
  let n := s.ic.routeSel
  let r := v &&& 0xC03F
  if !icHas n then s
  else rwd s.ic.enable (decide (r ≠ (icRoute s n &&& 0xC03F))) 0 0x103C
    (fun t => { t with ic := { t.ic with ign := satInc t.ic.ign 0xFF } })
    (fun t => { t with ic := { t.ic with routes := mset 0x4000 t.ic.routes n r } }) s

/-- A write to the IC_ block. -/
def icWrite (off v : Nat) (s : State) : State :=
  match off with
  | 0x00 => { s with ic := { s.ic with enable := bit v 0 } }
  | 0x08 => { s with ic := { s.ic with group := v % 32 } }
  | 0x10 => icMaskSet v s
  | 0x14 => icMaskClr v s
  | 0x1C => icPendSet v s
  | 0x20 => icPendClr v s
  | 0x34 => icEoi v s
  | 0x38 => { s with ic := { s.ic with routeSel := v % 512 } }
  | 0x3C => icRouteWrite v s
  | _ => s

/-! ### Configuration groups (R423 to R425) -/

/-- CFG_MISMATCH bit g as a comparison leaves it. -/
def setMismatch (g : Nat) (bad : Bool) (s : State) : State :=
  let b := 1#16 <<< g
  let h := s.host
  { s with host := { h with
    cfgMismatch := if bad then h.cfgMismatch ||| b else h.cfgMismatch &&& ~~~ b
    cfgSince := mset none h.cfgSince g (if !bad then none else if h.cfgMismatch.getLsbD g then mget none h.cfgSince g
      else some s.now) } }

/-- One group's present CRC becomes its reference, and is compared with the last completed walk. -/
def commitGroup (g : Nat) (s : State) : State :=
  let r := cfgCrc s g
  let s1 := { s with host := { s.host with cfgRef := mset none s.host.cfgRef g (some r) } }
  match mget none s.host.cfgCur g with
  | some c => setMismatch g (c != r) s1
  | none => s1

/-- CFG_COMMIT; bits of reserved groups are ignored. -/
def cfgCommit (v : Nat) (s : State) : State :=
  (List.range 10).foldl (fun t g => if bit v g then commitGroup g t else t) s

/-- CFG_WALK: the walker ends a group, compares it with its reference, and goes on to the next. -/
def cfgWalk (s : State) : State :=
  if !s.start.done.contains .registers then s else
  let g := s.host.cfgWalk
  let c := cfgCrc s g
  let s1 := setMismatch g (decide (g < 10) && c != cfgRefOf s g) s
  { s1 with host := { s1.host with
    cfgCur := mset none s1.host.cfgCur g (some c), cfgWalk := (g + 1) % 16
    cfgPass := if g = 15 then (s1.host.cfgPass + 1) % 65536 else s1.host.cfgPass } }

/-- A write to the CFG_ block. -/
def cfgWrite (off v : Nat) (s : State) : State :=
  match off with
  | 0x00 => cfgCommit v s
  | 0x08 => { s with host := { s.host with cfgSel := v % 16 } }
  | _ => s

/-- A write to the IND_ block, IND_DATA apart (R421). -/
def indWrite (off v : Nat) (s : State) : State :=
  let h := s.host
  match off with
  | 0x00 => { s with host := { h with indAddr := h.indAddr / 65536 * 65536 + v % 65536 / 4 * 4 } }
  | 0x04 => { s with host := { h with indAddr := v % 256 * 65536 + h.indAddr % 65536 } }
  | 0x0C => { s with host := { h with autoInc := bit v 0 } }
  | _ => s

/-! ### Tamper, clocks, ageing (R449, R452, R455, R471, R472) -/

/-- An ignored write of the TM_ block. -/
def tmIgn (s : State) : State := { s with tm := { s.tm with ign := satInc s.tm.ign 0xFF } }

/-- The checks at the rise of TM_CTRL.ENABLE. -/
def tmFault (t : Tm) : Nat := if t.outPulse = 3 then 1 else if t.warn < 60 ∨ 105 < t.warn then 2 else 0

/-- TM_CTRL. -/
def tmCtrl (v : Nat) (s : State) : State :=
  let was := s.tm.enable
  let s1 := rwd was (decide (bits v 9 8 ≠ s.tm.outPulse)) 0 0x6000 tmIgn
    (fun t => { t with tm := { t.tm with outPulse := bits v 9 8 } }) s
  if bit v 0 then (if was then s1 else { s1 with tm := { s1.tm with enable := true, fault := tmFault s1.tm } })
  else { s1 with tm := { s1.tm with enable := false, fault := 0, pulseEnd := none } }

/-- A write to the TM_ block. -/
def tmWrite (off v : Nat) (s : State) : State :=
  match off with
  | 0x00 => tmCtrl v s
  | 0x04 => rwd s.tm.enable (decide (v % 32 ≠ s.tm.outSel)) 0 0x6004 tmIgn
      (fun t => { t with tm := { t.tm with outSel := v % 32 } }) s
  | 0x08 => rwd s.tm.enable (decide (v % 256 ≠ s.tm.warn)) 0 0x6008 tmIgn
      (fun t => { t with tm := { t.tm with warn := v % 256 } }) s
  | _ => s

/-- An ignored write of the CP_ block. -/
def cpIgn (s : State) : State := { s with clk := { s.clk with ign := satInc s.clk.ign 0xFF } }

/-- CP_CTRL: the spread modulation turns on at the depth then set, or off (R452). (DEDUCED, log 98) -/
def cpCtrl (v : Nat) (s : State) : State :=
  let was := s.clk.sscEnable
  let s1 := rwd was (decide (bits v 2 1 ≠ s.clk.sscDepth)) 0 0x7000 cpIgn
    (fun t => { t with clk := { t.clk with sscDepth := bits v 2 1 } }) s
  if bit v 0 then
    if was then s1
    else
      let bad := decide (s1.clk.sscDepth = 3)
      { s1 with clk := { s1.clk with sscEnable := true, fault := b2n bad, sscActive := if bad then 0 else s1.clk.sscDepth } }
  else { s1 with clk := { s1.clk with sscEnable := false, fault := 0, sscActive := 0 } }

/-- A write to the CP_ block. -/
def cpWrite (off v : Nat) (s : State) : State :=
  let c := s.clk
  if 0x70 ≤ off ∧ off < 0x84 then
    let i := off / 4 - 28
    rwd c.sscEnable (decide (v % 128 ≠ mget (0x40 + i) c.smbAddr i)) 0 (0x7000 + off) cpIgn
      (fun t => { t with clk := { t.clk with smbAddr := mset (0x40 + i) t.clk.smbAddr i (v % 128) } }) s
  else match off with
    | 0x00 => cpCtrl v s
    | 0x50 => { s with clk := { c with calSet := putWord c.calSet 0 v } }
    | 0x54 => { s with clk := { c with calSet := putWord c.calSet 1 v } }
    | 0x58 => if bit v 0 then calApply s else s
    | 0x84 => rwd c.sscEnable (decide (v % 128 ≠ c.smbTarget)) 0 0x7084 cpIgn
        (fun t => { t with clk := { t.clk with smbTarget := v % 128 } }) s
    | _ => s

/-- A write to the AG_ block. -/
def agWrite (off v : Nat) (s : State) : State :=
  match off with
  | 0x00 =>
    let s1 := rwd s.ag.enable (decide (bits v 10 1 ≠ s.ag.warnPermil)) 0 0x7800
      (fun t => { t with ag := { t.ag with ign := satInc t.ag.ign 0xFF } })
      (fun t => { t with ag := { t.ag with warnPermil := bits v 10 1 } }) s
    { s1 with ag := { s1.ag with enable := bit v 0 } }
  | 0x18 => { s with ag := { s.ag with monSel := v % 128 } }
  | _ => s

/-! ### Observation (R474, R478, R479, R484, R487) -/

/-- The SYNC with which the trace is enabled (R474). -/
def traceSyncMsg (s : State) : State :=
  if s.ob.traceEnable && !s.tm.tripped then syncMsg s.clk.tos s.clk.era s else s

/-- OB_TRACE_CTRL; a SYNC is sent when the trace is enabled. -/
def traceCtrl (v : Nat) (s : State) : State :=
  let was := s.ob.traceEnable
  let s1 := rwd was (decide (bits v 8 1 ≠ s.ob.traceTypes)) 0 0x8000
    (fun t => { t with ob := { t.ob with traceIgn := satInc t.ob.traceIgn 0xFF } })
    (fun t => { t with ob := { t.ob with traceTypes := bits v 8 1 } }) s
  let s2 := { s1 with ob := { s1.ob with traceEnable := bit v 0 } }
  if bit v 0 && !was then traceSyncMsg s2 else s2

/-- A selection that R479 allows. -/
def cntSelOk (v : Nat) : Bool :=
  let q := v % 256
  let row := fun (top : Nat) => decide (q ≤ top) || q == 0xFF
  match v / 256 % 256 with
  | 0x00 => q == 0
  | 0x01 => row 31
  | 0x02 => row 31
  | 0x03 => row 3
  | 0x04 => row 8
  | 0x05 => row 8 && q != 0
  | 0x06 => row 0
  | 0x07 => row 0
  | 0x08 => row 0
  | 0x09 => row 0
  | 0x0A => row 23
  | 0x0B => row 23
  | 0x0C => row 0x27 && !(decide (24 ≤ q) && decide (q < 0x20))
  | 0x0D => row 1
  | 0x0E => row 63
  | 0x0F => row 63
  | 0x10 => row 63
  | 0x11 => row 4
  | 0x12 => row 0
  | _ => false

/-- OB_CNT_EVENT of the selected counter. (DEDUCED, log 94) -/
def cntEventWrite (v : Nat) (s : State) : State :=
  let k := s.ob.cntSel
  rwd s.ob.cntEnable (decide (v % 65536 ≠ cntEvent s k)) 0 0x801C
    (fun t => { t with ob := { t.ob with cntIgn := satInc t.ob.cntIgn 0xFF } })
    (fun t =>
      if cntSelOk (v % 65536) then
        { t with ob := { t.ob with counters := mset {} t.ob.counters k { count := 0, event := v % 65536 } } }
      else { t with ob := { t.ob with cntFault := 1 } }) s

/-- OB_LOG_SEL_LO: the entry that OB_LOG_SEL names is latched; the window of an entry that is not held is left open. -/
def logSelLo (v : Nat) (s : State) : State :=
  let i := putWord s.ob.sel 0 v
  let s1 := { s with ob := { s.ob with sel := i } }
  match logFind s1 i with
  | some e => { s1 with ob := { s1.ob with win := e, winHeld := true } }
  | none =>
    let (b, s2) := drawBytes 0x60 32 s1
    { s2 with ob := { s2.ob with win := (bytesWords b).map BitVec.toNat, winHeld := false } }

/-- A write to the OB_ block. -/
def obWrite (off v : Nat) (s : State) : State :=
  let o := s.ob
  match off with
  | 0x00 => traceCtrl v s
  | 0x10 => { s with ob := { o with cntEnable := bit v 0, cntFault := if bit v 0 then o.cntFault else 0 } }
  | 0x18 => { s with ob := { o with cntSel := v % 256 } }
  | 0x1C => cntEventWrite v s
  | 0x3C => { s with ob := { o with mark := putWord o.mark 0 v } }
  | 0x40 => { s with ob := { o with mark := putWord o.mark 1 v } }
  | 0x44 => logSelLo v s
  | 0x48 => { s with ob := { o with sel := putWord o.sel 1 v } }
  | _ => s

/-! ### Service balls and the custody bus (R403, R504 to R507) -/

/-- An ignored write of the PM_ block. -/
def pmIgn (s : State) : State := { s with pm := { s.pm with ign := satInc s.pm.ign 0xFF } }

/-- A ball's setting. -/
def svcOf (m : KMap Nat) (n : Nat) : Nat := mget 0x0041 m n

/-- The fault of a ball's setting: 1 a reserved FUNC or PULL, 2 FUNC 2 outside SVC_00 to SVC_16; 0 none. -/
def ballFault (w n : Nat) : Nat := if 4 ≤ bits w 5 3 ∨ bits w 7 6 = 3 then 1 else if bits w 5 3 = 2 ∧ 16 < n then 2 else 0

/-- PM_ENABLE: every ball is checked; the settings take force, and a ball whose FUNC or INVERT changes is parked. -/
def pmEnable (s : State) : State :=
  if s.pm.enable then s else
  let p := { s.pm with enable := true }
  match (List.range 64).find? (fun n => ballFault (svcOf p.svc n) n != 0) with
  | some n => { s with pm := { p with fault := ballFault (svcOf p.svc n) n, faultBall := n } }
  | none =>
    let moved := fun n => bits (svcOf p.svc n) 5 2 != bits (svcOf p.inForce n) 5 2
    { s with pm := { p with
      inForce := p.svc
      parked := (List.range 64).foldl (fun (b : BitVec 64) n => if moved n then b ||| (1#64 <<< n) else b) p.parked } }

/-- A write to the PM_ block. -/
def pmWrite (off v : Nat) (s : State) : State :=
  let p := s.pm
  if 0x10 ≤ off ∧ off < 0x20 then
    { s with pm := { p with gpioOut := BitVec.ofNat 64 (putWord p.gpioOut.toNat (off / 4 - 4) v) } }
  else if 0x40 ≤ off ∧ off < 0x140 then
    let n := off / 4 - 16
    rwd p.enable (decide (v % 1024 ≠ svcOf p.svc n)) 0 (0x9000 + off) pmIgn
      (fun t => { t with pm := { t.pm with svc := mset 0x0041 t.pm.svc n (v % 1024) } }) s
  else match off with
    | 0x00 => if bit v 0 then pmEnable s else { s with pm := { p with enable := false, fault := 0, faultBall := 0 } }
    | 0x0C => rwd p.enable (decide (v % 64 ≠ ioWord s)) 0 0x900C pmIgn
        (fun t => { t with pm := { t.pm with miscSlew := bits v 5 4, ccDrive := bits v 3 2, ccSlew := bits v 1 0 } }) s
    | _ => s

/-- SVC_PARK_END: 16 CK_PERIPH cycles later the parked balls take their functions. -/
def svcParkEnd (s : State) : State := { s with pm := { s.pm with parked := 0 } }

/-- CC_CTRL (R403). -/
def ccCtrl (v : Nat) (s : State) : State :=
  let was := s.card.enable
  let s1 := rwd was (decide (bits v 8 1 ≠ s.card.clkDiv)) 0 0xA000
    (setCardBus (fun c => { c with ign := satInc c.ign 0xFF })) (setCardBus (fun c => { c with clkDiv := bits v 8 1 })) s
  if bit v 0 then
    if was then s1
    else setCardBus (fun c => { c with enable := true, fault := if c.clkDiv < 7 then 1 else 0, rollDue := c.pres }) s1
  else ccDisable s1

/-! ### Lanes (R381, R383) -/

/-- LN_PHY_CTRL of a lane, at its indirect address. -/
def phyWrite (l addr v : Nat) (s : State) : State :=
  let x := getLane s l
  let s1 := rwd x.phyEnable (decide (bits v 6 1 * 2 ≠ phyWord x)) 0 addr (onLane l (fun y => { y with ign := satInc y.ign 0xFF }))
    (onLane l (fun y => { y with txSwing := bits v 6 5, txDeemph := bits v 4 3, rxEq := bits v 2 1 })) s
  if bit v 0 then onLane l (fun y => { y with phyEnable := true }) s1
  else if x.phyEnable then phyDisable l s1 else s1

/-- A write to the indirect register at an address; read-only ones are ignored. -/
def indirectWrite (a v : Nat) (s : State) : State :=
  if (indirectReg s a).isNone then reservedWrite 0 0 a true false s
  else if 0x100000 ≤ a ∧ a < 0x104000 ∧ a % 0x100 = 0x54 then phyWrite ((a - 0x100000) / 0x100) a v s
  else s

/-! ### Every write -/

/-- A write to a register of the PF. -/
def pfWrite (off v : Nat) (s : State) : State :=
  if off < 0x400 then s
  else if off < 0x1000 then queueWrite 0 off v s
  else if off < 0x1800 then icWrite (off - 0x1000) v s
  else if off < 0x2000 then cfgWrite (off - 0x1800) v s
  else if off < 0x3000 then indWrite (off - 0x2000) v s
  else if off < 0x6000 then s
  else if off < 0x7000 then tmWrite (off - 0x6000) v s
  else if off < 0x7800 then cpWrite (off - 0x7000) v s
  else if off < 0x8000 then agWrite (off - 0x7800) v s
  else if off < 0x9000 then obWrite (off - 0x8000) v s
  else if off < 0xA000 then pmWrite (off - 0x9000) v s
  else if off = 0xA000 then ccCtrl v s
  else s

/-- A DWORD write to a function's BAR0 or BAR2, or a QWORD write to BAR2 (R413, R416, R420). Bits 31 to 16 of a BAR0 write are ignored. -/
def hostWrite (fn : Nat) (bar : Bar) (off value : Nat) (s : State) : State :=
  let v := value % 65536
  if !barOpen s fn then disabledBar fn true s
  else if bar = .bar2 then bar2Write fn off value s
  else if bar = .bar2Quad then bar2QuadWrite fn off value s
  else if writesDropped s fn off then s
  else if fn = 0 ∧ off = 0x2008 then indAdvance (indirectWrite s.host.indAddr v s)
  else if (barReg s fn off).isNone then reservedWrite fn 0 off false false s
  else if fn = 0 then pfWrite off v s
  else if off < 0x400 then vfWrite fn off v s
  else queueWrite fn off v s

/-- RESERVED_LOCATION_ACCESS: kind 0 a read, 1 a write, 2 a poisoned write. A read or a write is one of a location that no
register fills, or one that is malformed: not a single aligned DWORD with all byte enables (R413, R414). An access to
IND_DATA that is dropped counts as one of the indirect address, which then advances (R421, R422). -/
def reservedAccess (fn : Nat) (bar : Bar) (addr kind : Nat) (malformed : Bool) (s : State) : State :=
  let viaInd := fn == 0 && bar == .bar0 && addr == 0x2008
  let isReserved := match bar with
    | .bar0 => malformed || ((barReg s fn addr).isNone && !viaInd)
    | .bar2 => (bar2Reg s fn addr).isNone
    | .bar2Quad => (bar2Quad s fn addr).isNone
  let n := if bar = .bar0 then 0 else 2
  if !barOpen s fn then disabledBar fn (decide (kind ≠ 0)) s
  else if kind = 2 ∨ (isReserved = true ∧ kind ≤ 1) then
    let act := fun (a : Nat) (t : State) =>
      if kind = 0 then reservedRead fn n a viaInd t else reservedWrite fn n a viaInd (decide (kind = 2)) t
    if viaInd then indAdvance (act s.host.indAddr s) else act addr s
  else s

/-- IND_DATA: a read, or a write of a value. -/
def indData (w : Option Nat) (s : State) : State :=
  match w with
  | none => hostRead 0 .bar0 0x2008 s
  | some v => hostWrite 0 .bar0 0x2008 v s

end Sys2Proof.Machine
end

