-- ==== Sys2Proof/Machine/HostCtl.lean ====
section
/-! DEFINITION. Function controls and resets of the PCIe endpoint (R177, R404 to R408), the trace port's own messages
(R474, R476), the era wrap (R453) and the TAP (R510). -/

namespace Sys2Proof.Machine

/-! ### Resets of functions (R176, R177, R408) -/

/-- FLR of a function. The PF's clears VF Enable and returns IC_, CFG_ and IND_ to reset, with the references of groups 0
and 1; the steward side of the interrupt controller and the conditions it samples stay. -/
def flr (fn : Nat) (s : State) : State :=
  if fn ≠ 0 then resetFn fn s
  else
    let t := resetFn 0 (resetVfs 1 s)
    { t with
      host := { t.host with
        vfEnable := false, numVfs := 0, indAddr := 0, autoInc := true
        cfgRef := mset none (mset none t.host.cfgRef 0 none) 1 none
        cfgCur := [], cfgMismatch := 0, cfgSince := [], cfgSel := 0, cfgPass := 0 }
      ic := { pendSteward := t.ic.pendSteward, insvcSteward := t.ic.insvcSteward, raw := t.ic.raw } }

/-- FLR as a row: of a function that exists. -/
def flrRow (fn : Nat) (s : State) : State := if s.clk.supply && fnThere s fn then flr fn s else s

/-- HOT_RESET: a hot reset, or the link goes down; each function is handled as by its own FLR (R459). -/
def hotReset (s : State) : State :=
  if s.clk.supply && s.host.linkUp then
    let t := flr 0 s
    { t with host := { t.host with linkUp := false } }
  else s

/-- Bus Master Enable is written. At 0 every live pair ends as by ENABLE 0; at 1 no pair resumes, and messages that the
PBA holds unmasked go out. -/
def busMaster (fn : Nat) (on : Bool) (s : State) : State :=
  let f := getFn s fn
  let s1 := setFn fn { f with busEn := on } s
  if on then sendHeld fn s1
  else if !f.busEn then s1
  else (mkeys f.pairs).foldl (fun t p => if (getPair t fn p).live then endPair fn p t else t) s1

/-- BUS_MASTER_DISABLE: a control of a function in configuration space is written (R404, R408); a Max Payload Size or a
Max Read Request Size that R404 does not have is not taken. -/
def controlWrite (fn : Nat) (w : FnControl) (s : State) : State :=
  if !s.clk.supply || !fnThere s fn then s else
  let f := getFn s fn
  match w with
  | .command v => busMaster fn (bit v 2) (setFn fn { f with memEn := bit v 1 } s)
  | .device v => setFn fn { f with
      errReport := bit v 1, extTags := bit v 8
      maxPayload := if bits v 7 5 ≤ 2 then bits v 7 5 else f.maxPayload
      maxReadReq := if bits v 14 12 ≤ 5 then bits v 14 12 else f.maxReadReq } s
  | .aerControl v => setFn fn { f with ecrcGen := bit v 6, ecrcCheck := bit v 8 } s
  | .aerStatus v => setFn fn { f with aer := f.aer &&& ~~~ BitVec.ofNat 32 v } s

/-- What configuration space identifies a function by (R404): Vendor ID, Device ID, Class Code, Revision ID, and the bytes
of the Device Serial Number. -/
def fnIdent (fn : Nat) : Nat × Nat × Nat × Nat × List Byte :=
  (0x1D9A, if fn = 0 then 0x0D64 else 0x0D65, 0x108000, Config.siliconStep.toNat, Config.deviceId.take 8)

/-- D3HOT_ENTRY: nothing is fetched. -/
def d3hot (fn : Nat) (s : State) : State :=
  if s.clk.supply && fnThere s fn then setFn fn { getFn s fn with d3 := true } s else s

/-- D0_RETURN acts as an FLR. -/
def d0Return (fn : Nat) (s : State) : State :=
  if s.clk.supply && fnThere s fn && (getFn s fn).d3 then flr fn s else s

/-- VF_ENABLE_WRITE: VF Enable and NumVFs, 0 to 31; outside PROVISIONED VF Enable is ignored and reads 0 (R405). VFs that
are no longer enabled end as FLR gives. -/
def vfEnableWrite (enable : Bool) (num : Nat) (s : State) : State :=
  if !s.clk.supply then s else
  let n := if num ≤ 31 then num else s.host.numVfs
  let e := enable && s.glb.lifecycle == lcProvisioned
  let t := resetVfs (if e then n + 1 else 1) s
  { t with host := { t.host with vfEnable := e, numVfs := n } }

/-- MSIX_UNMASK: Message Control (none: bit 15 MSI-X Enable, bit 14 Function Mask) or a vector's Vector Control (bit 0 its
mask) is written; what the PBA holds unmasked is sent (R408). (PRESUMED, log 136) -/
def maskWrite (fn : Nat) (vec : Option Nat) (w : Nat) (s : State) : State :=
  if !s.clk.supply || !fnThere s fn then s else
  match vec with
  | none => sendHeld fn (setFn fn { getFn s fn with msixEn := bit w 15, fnMask := bit w 14 } s)
  | some v => if v < fnVectors fn then setVecMask fn v (bit w 0) s else s

/-- Time in which the link carried no writes is excluded from the bound of every command not yet answered (R138). -/
def excludeTime (dt : Nat) (s : State) : State :=
  { s with cmds := { s.cmds with
    admitted := s.cmds.admitted.map (fun c => { c with away := c.away + min dt (s.now - c.admitAt) })
    replies := s.cmds.replies.map (fun r => { r with away := r.away + min dt (s.now - r.admitAt) }) } }

/-- PCIE_LINK_UP: after dt µs in which it carried no writes, the link has trained or left Recovery, at a width and a speed
(R404, R138). -/
def linkTrained (dt width gen : Nat) (s : State) : State :=
  if s.clk.supply && !heldReset s && (width == 1 || width == 2 || width == 4 || width == 8) && decide (1 ≤ gen) &&
      decide (gen ≤ 5) then
    let t := noteLevels (excludeTime dt s)
    { t with host := { t.host with linkUp := true, linkWidth := width, linkGen := gen } }
  else s

/-! ### Trace and era (R453, R474, R476) -/

/-- TRACE_SYNC: a microsecond of time of service passes, which ends in its SYNC. -/
def traceSync (s : State) : State := passTime 1 s

/-- TRACE_LOST: the intake has room for a LOST message, which carries the messages dropped since the previous one. -/
def traceLost (s : State) : State :=
  let used := (s.ob.intake.map List.length).foldl (fun a b => a + b) 0
  let o := s.ob
  if 0 < o.pendingLost ∧ used + 3 ≤ 2048 ∧ o.traceEnable = true ∧ bit o.traceTypes 7 = true ∧ s.tm.tripped = false then
    icRaise 450 { s with ob := { o with intake := o.intake ++ [0x9000 :: leNats 2 o.pendingLost], pendingLost := 0 } }
  else s

/-! ### The TAP (R510) -/

/-- What the data register that an instruction selects holds: the IDCODE, the boundary cells, or the bypass bit. -/
def tapData (s : State) (code : Nat) : Nat :=
  if code = 0x01 then Config.siliconStep.toNat % 16 * 2 ^ 28 + 0x0D64 * 2 ^ 12 + 0x4E7 * 2 + 1
  else if 0x02 ≤ code ∧ code ≤ 0x04 then s.tap.boundary.toNat
  else 0

/-- A TAP instruction is loaded; outside UNPROVISIONED only IDCODE is taken, anything else is BYPASS. -/
def tapLoad (code : Nat) (s : State) : State :=
  let c := if code = 0x01 ∨ s.glb.lifecycle = lcUnprovisioned then code else 0x3F
  let t := { s with tap := { s.tap with instr := c } }
  emit (.tap c (tapData t c)) t

/-- A TAP instruction, while the part is supplied. -/
def tapRow (code : Nat) (s : State) : State := if s.clk.supply then tapLoad code s else s

/-- The boundary cells, taken by an instruction that UNPROVISIONED offers. (DEDUCED, log 95) -/
def tapCells (cells : Nat) (s : State) : State :=
  if s.clk.supply ∧ s.glb.lifecycle = lcUnprovisioned then
    { s with tap := { s.tap with boundary := BitVec.ofNat 453 cells } } else s

/-- EXTEST, CLAMP and HIGHZ hold the device in device reset until Test-Logic-Reset. The reset's cause is left open. -/
def tapHold (code : Nat) (s : State) : State :=
  if !s.clk.supply then s
  else if s.glb.lifecycle ≠ lcUnprovisioned ∨ heldReset s = true then
    let t := tapLoad code s
    if s.glb.lifecycle = lcUnprovisioned then { t with tap := { t.tap with heldReset := true } } else t
  else
    let (c, t) := draw 0x61 (sealForReset (tapLoad code s))
    { t with
      tap := { t.tap with heldReset := true }
      host := { t.host with linkUp := false }
      clk := { t.clk with nextCause := c % 4 + 1 } }

/-- TEST_LOGIC_RESET: IDCODE is selected; the device reset that the TAP held is released, and start-up begins where
nothing else holds it. -/
def testLogicReset (dt : Nat) (envBad : Bool) (s : State) : State :=
  let t := { s with tap := { s.tap with instr := 0x01, heldReset := false } }
  if !s.clk.supply || !s.tap.heldReset || heldReset t then t
  else tamperPhase dt envBad (finishSeal (t.jn.flight.length + 1) t)

end Sys2Proof.Machine
end

