-- ==== Sys2Proof/Machine/Flags.lean ====
section
/-! DEFINITION. Karef's computations: results and flags (R244 to R246, R249, R250). Words are numbers
below 65,536; each operation computes exactly and narrows at the end. -/

namespace Sys2Proof.Machine

/-- A result with its carry and overflow; Z and N follow from the value (R244). -/
structure Alu where
  val : Nat
  c : Bool := false
  v : Bool := false
  deriving DecidableEq, Repr

def Alu.z (a : Alu) : Bool := decide (a.val = 0)
def Alu.n (a : Alu) : Bool := bit a.val 15

/-- A word as a signed number. -/
def sgn (w : Nat) : Int := if w < 32768 then w else (w : Int) - 65536

/-- A signed number as a word. -/
def toWord (i : Int) : Nat := (i % 65536).toNat

/-- A signed result does not fit. -/
def overflows (i : Int) : Bool := decide (i < -32768 ∨ 32767 < i)

def aluAdd (a b : Nat) : Alu := { val := (a + b) % 65536, c := decide (65536 ≤ a + b), v := overflows (sgn a + sgn b) }
def aluAdc (a b : Nat) (cin : Bool) : Alu :=
  { val := (a + b + b2n cin) % 65536, c := decide (65536 ≤ a + b + b2n cin), v := overflows (sgn a + sgn b + b2n cin) }
def aluSub (a b : Nat) : Alu := { val := (a + 65536 - b) % 65536, c := decide (a < b), v := overflows (sgn a - sgn b) }
def aluSbc (a b : Nat) (cin : Bool) : Alu :=
  { val := (a + 131072 - b - b2n cin) % 65536, c := decide (a < b + b2n cin), v := overflows (sgn a - sgn b - b2n cin) }
def aluNeg (a : Nat) : Alu := { val := (65536 - a) % 65536, c := decide (a ≠ 0), v := decide (a = 0x8000) }
def aluMul (a b : Nat) : Alu := { val := a * b % 65536, c := decide (0xFFFF < a * b), v := overflows (sgn a * sgn b) }
def aluMulhu (a b : Nat) : Alu := { val := a * b / 65536 % 65536 }
def aluMulhs (a b : Nat) : Alu := { val := toWord ((sgn a * sgn b) / 65536) }
def aluDivu (a b : Nat) : Alu := { val := a / b }

/-- The signed quotient, truncated toward zero. -/
def quotS (a b : Nat) : Int := Int.tdiv (sgn a) (sgn b)

def aluDivs (a b : Nat) : Alu := { val := toWord (quotS a b), v := decide (a = 0x8000 ∧ b = 0xFFFF) }
def aluRemu (a b : Nat) : Alu := { val := a % b }
def aluRems (a b : Nat) : Alu := { val := toWord (sgn a - sgn b * quotS a b) }

def aluAnd (a b : Nat) : Alu := { val := a &&& b }
def aluOr (a b : Nat) : Alu := { val := a ||| b }
def aluXor (a b : Nat) : Alu := { val := a ^^^ b }
def aluAndn (a b : Nat) : Alu := { val := a &&& (65535 - b) }
def aluNot (a : Nat) : Alu := { val := 65535 - a }

/-- The shift count: bits 4 to 0 (R245). -/
def shCount (b : Nat) : Nat := b % 32

def aluLsl (a b : Nat) : Alu :=
  let k := shCount b
  { val := a * 2 ^ k % 65536, c := decide (1 ≤ k ∧ k ≤ 16) && bit a (16 - k) }
def aluLsr (a b : Nat) : Alu :=
  let k := shCount b
  { val := a / 2 ^ k, c := decide (1 ≤ k ∧ k ≤ 16) && bit a (k - 1) }
def aluAsr (a b : Nat) : Alu :=
  let k := shCount b
  { val := toWord (sgn a / 2 ^ k), c := if k = 0 then false else if k ≤ 16 then bit a (k - 1) else bit a 15 }

/-- A word rotated left by k below 16. -/
def rotl (a k : Nat) : Nat := (a * 2 ^ k + a / 2 ^ (16 - k)) % 65536

def aluRol (a b : Nat) : Alu :=
  let k := shCount b % 16
  { val := rotl a k, c := decide (k ≠ 0) && bit (rotl a k) 0 }
def aluRor (a b : Nat) : Alu :=
  let k := shCount b % 16
  let r := rotl a ((16 - k) % 16)
  { val := r, c := decide (k ≠ 0) && bit r 15 }

/-- Least significant bit and width of a field (R246). -/
def fieldP (c : Nat) : Nat := bits c 7 4
def fieldW (c : Nat) : Nat := bits c 3 0 + 1

def aluBfext (signed : Bool) (a ctl : Nat) : Alu :=
  let w := fieldW ctl
  let f := a / 2 ^ fieldP ctl % 2 ^ w
  { val := if signed && bit f (w - 1) then f + (65536 - 2 ^ w) else f }

def aluBfins (d s ctl : Nat) : Alu :=
  let p := fieldP ctl
  let w := min (fieldW ctl) (16 - p)
  let keep := d - d / 2 ^ p % 2 ^ w * 2 ^ p
  { val := keep + s % 2 ^ w * 2 ^ p }

/-- Leading zero bits of a word. -/
def clz16 (a : Nat) : Nat := ((List.range 16).find? (fun i => bit a (15 - i))).getD 16

def aluClz (a : Nat) : Alu := { val := clz16 a, c := decide (clz16 a = 16) }

def aluBperm (sz a b : Nat) : Alu :=
  let byte := fun i => (match i with
    | 0 => bits a 7 0
    | 1 => bits a 15 8
    | 2 => bits b 7 0
    | _ => bits b 15 8)
  { val := byte (bits sz 3 2) * 256 + byte (bits sz 1 0) }

/-- The conditions of BR (R250). -/
def brCond (sz : Nat) (z n c v : Bool) : Bool :=
  match sz with
  | 0 => true
  | 1 => z
  | 2 => !z
  | 3 => c
  | 4 => !c
  | 5 => n
  | 6 => !n
  | 7 => v
  | 8 => !v
  | 9 => !c && !z
  | 10 => c || z
  | 11 => n == v
  | 12 => n != v
  | 13 => !z && n == v
  | _ => z || n != v

end Sys2Proof.Machine
end

