-- ==== Sys2Proof/Machine/Operands.lean ====
section
/-! DEFINITION. Karef operands: fetching (R203, R220, R260), operand specifiers (R221), addresses and the
checks of step 5 of R241 (R204, R209, R278 to R282, R330, R340), reading and writing words with their
tags (R214 to R217), and the ports. -/

namespace Sys2Proof.Machine

/-! ### Causes (R229) -/

def cReservedOpcode : Nat := 0x01
def cReservedField : Nat := 0x02
def cReservedMode : Nat := 0x03
def cDivideZero : Nat := 0x04
def cLoopDepth : Nat := 0x05
def cRptTarget : Nat := 0x06
def cRptLimit : Nat := 0x07
def cImmDest : Nat := 0x08
def cProtNoMatch : Nat := 0x09
def cProtOverlap : Nat := 0x0A
def cProtPermission : Nat := 0x0B
def cMap : Nat := 0x0C
def cEngineFault : Nat := 0x0D
def cInterrupt : Nat := 0x0F
def cTagOperand : Nat := 0x10
def cTagSecret : Nat := 0x11
def cTagPlace : Nat := 0x12
def cTagReserved : Nat := 0x13
def cPoison : Nat := 0x14
def cRetNotCode : Nat := 0x15
def cFetch : Nat := 0x16

/-! ### An instruction in progress -/

/-- The machine within one instruction of a shuttle. -/
structure KS where
  st : State
  /-- BP0 to BP3 as the post-increments so far leave them (R222). -/
  bps : List Nat
  /-- Cycles of shared slots, service waits and gathered elements (R242). -/
  acc : Nat
  /-- Cycles that a wait for service takes in this instruction, until it is used (R218). -/
  wait : Nat
  /-- JOB_DONE was written (R235). -/
  fin : Option Nat
  opc : Nat
  deriving Repr

/-- Why an instruction does not complete. -/
inductive KStop where
  /-- A trap: cause, TINFO, cycles of accesses made, and the state that stands where elements before the
  trap do, or an operation has ended (R222, R248, R252). -/
  | trap (cause tinfo acc : Nat) (base : Option State)
  /-- It waits for service: nothing has happened yet. -/
  | blocked
  /-- It waits for lock k. -/
  | lockWait (k : Nat)
  deriving Repr

/-- A step of an instruction. -/
abbrev K (α : Type) := Except KStop α

def ktrap {α : Type} (k : KS) (cause tinfo : Nat) : K α := .error (.trap cause tinfo k.acc none)

/-- A service wait is counted once (R218, R242). -/
def useWait (k : KS) : KS := { k with acc := k.acc + k.wait, wait := 0 }

/-- The job of a shuttle, where one runs. -/
def kJob (k : KS) (sh : Nat) : Option Job := (getSh k.st sh).job

/-! ### Fetching (R203, R260) -/

/-- The program word of the heddle at a physical address. -/
def progWord (s : State) (h a : Nat) : Nat :=
  match mget none s.cells.progOwn (h * 32768 + a) with
  | some w => w
  | none => if 28672 ≤ a ∧ h % 6 = 0 then stewardCode s (a - 28672) else mget 0 s.cells.prog a

/-- The word at a job's program address: none at or beyond its code length. -/
def kFetch (s : State) (sh : Nat) (j : Job) (a : Nat) : Option Nat :=
  if j.codeLen ≤ a then none
  else (j.blocks[a / 64]?).map (fun b => progWord s (sh / 8) (b * 64 + a % 64) % 16384)

/-- Fetch, or the end of the job with cause FETCH; TINFO is the PC. -/
def fetchK (sh : Nat) (j : Job) (a : Nat) (k : KS) : K Nat :=
  match kFetch k.st sh j a with
  | some w => .ok w
  | none => ktrap k cFetch (getSh k.st sh).pc

/-! ### Heddle shared memory (R218, R242, R278, R280) -/

/-- Cycles until the shuttle's own slot, the slot included: shuttle i of the heddle owns slot i of each
round of 8 cycles since its job started. (DEDUCED, log 51) -/
def slotWait (k : KS) (sh : Nat) : Nat := (sh % 8 + 8 - ((getSh k.st sh).cyc + k.acc) % 8) % 8 + 1

/-- The regions that a job address lies in. -/
def regionsAt (j : Job) (a : Nat) : List Region :=
  j.regions.filter (fun g => decide (g.vbase ≤ a ∧ a < g.vbase + g.len))

/-- The physical shared word of a job address, or the cause of R280. -/
def sharedPhys (sh : Nat) (j : Job) (a : Nat) (wr : Bool) : Except Nat Nat :=
  if isSteward sh then .ok (a - 0x8000) else
  match regionsAt j a with
  | [] => .error cProtNoMatch
  | [g] => if (if wr then g.w else g.r) then .ok (g.blocks.getD ((a - g.vbase) / 64) 0 * 64 + (a - g.vbase) % 64)
           else .error cProtPermission
  | _ => .error cProtOverlap

/-- The key of a shared word of a shuttle's heddle. -/
def sharedKey (sh phys : Nat) : Nat := sh / 8 * 24576 + phys

/-! ### Ports -/

/-- Whether address a is a register port, for which TINFO reads 0 (R229). -/
def regPort (a : Nat) : Bool := decide (0xF000 ≤ a ∧ a ≤ 0xF016)

/-- TINFO of a tag cause at an address. -/
def tagInfo (a : Nat) : Nat := if regPort a then 0 else a

/-- The lock index of a lock port: the image's locks, or the steward locks (R281). -/
def lockIndex (sh : Nat) (j : Job) (p : Nat) : Option Nat :=
  if p < 0x400 ∨ 0x4FF < p then none
  else if isSteward sh then (if 0x440 ≤ p ∧ p < 0x480 then some (p - 0x400) else none)
  else if p - 0x400 < j.locks then some (p - 0x400) else none

/-- The steward ports that can be read and written as plain words (R259). -/
def stewardWord (p : Nat) : Bool :=
  decide ((0x500 ≤ p ∧ p ≤ 0x503) ∨ (0x510 ≤ p ∧ p ≤ 0x513) ∨ (0x520 ≤ p ∧ p ≤ 0x523) ∨ p = 0x550 ∨ p = 0x551)

/-- The shuttle holds a lock other than k (R282). -/
def holdsOther (x : Shuttle) (k : Nat) : Bool :=
  match x.lock with
  | some m => decide (m ≠ k)
  | none => false

/-- A port may be read (R209, R281, R282, R330, R340); a write-only one reads INT 0, as the access codes of chapter 00 say. -/
def portReadable (x : Shuttle) (sh : Nat) (j : Job) (p : Nat) : Bool :=
  if p ≤ 0x14 then true
  else if p = 0x15 then isSteward sh
  else if p = 0x16 then true
  else if p < 0x100 then false
  else if p < 0x180 then
    decide (p ≤ 0x109 ∨ (0x130 ≤ p ∧ p < 0x150)) || ((decide (p = 0x10A) || decide (0x110 ≤ p ∧ p < 0x130)) && !x.dgOut)
  else if p < 0x200 then
    decide (p ≤ 0x186) || ((decide (0x187 ≤ p ∧ p ≤ 0x190)) && !x.ciOut)
  else if p < 0x210 then x.lrUsed
  else if p = 0x300 then true
  else match lockIndex sh j p with
    | some k => !holdsOther x k
    | none => isSteward sh && (stewardWord p || decide (p = 0x530 ∨ p = 0x540))

/-- A port may be written. -/
def portWritable (x : Shuttle) (sh : Nat) (j : Job) (p : Nat) : Bool :=
  if p ≤ 0x14 then true
  else if p = 0x15 then isSteward sh
  else if p = 0x16 then true
  else if p < 0x100 then false
  else if p < 0x180 then x.dgOut && (decide (0x101 ≤ p ∧ p ≤ 0x10A) || decide (0x110 ≤ p ∧ p < 0x150))
  else if p < 0x200 then x.ciOut && decide (0x181 ≤ p ∧ p ≤ 0x190)
  else if p < 0x210 then true
  else if p = 0x300 then true
  else (lockIndex sh j p).isSome || (isSteward sh && (stewardWord p || decide (p = 0x530 ∨ p = 0x540)))

/-- Step 5 of R241 for one access: the cause it raises, if any. -/
def accessCause (x : Shuttle) (sh : Nat) (j : Job) (a : Nat) (wr : Bool) : Option Nat :=
  if a < 0x8000 then none
  else if a < 0xE000 then
    match sharedPhys sh j a wr with
    | .ok _ => none
    | .error c => some c
  else if a < 0xE800 then
    if wr then some cMap
    else if (mfind j.mbox a).isSome ∨ (0xE080 ≤ a ∧ a < 0xE400) then none else some cMap
  else if a < 0xEB20 then none
  else if a < 0xF000 then some cMap
  else if a < 0xF800 then
    if (if wr then portWritable x sh j (a - 0xF000) else portReadable x sh j (a - 0xF000)) then none else some cMap
  else some cMap

/-- The check of an access: a faulting shared access waits for its slot too (R242). -/
def checkK (sh a : Nat) (wr : Bool) (k : KS) : K Unit :=
  match kJob k sh with
  | none => .error .blocked
  | some j =>
    match accessCause (getSh k.st sh) sh j a wr with
    | none => .ok ()
    | some c =>
      if c = cMap then ktrap k c a else .error (.trap c a (k.acc + slotWait k sh) none)

/-! ### Reading -/

/-- ESTAT as its port shows it (R212). -/
def estat (x : Shuttle) : Nat :=
  b2n x.trapping * 32768 + x.ldepth * 1024 + b2n x.rpta * 512 + b2n x.v * 8 + b2n x.c * 4 + b2n x.n * 2 + b2n x.z

/-- DG_STATE and CI_STATE (R330). -/
def chanState (out : Bool) (c : Chan) : Nat :=
  if !out then 0 else if c.done || c.fault || c.cleared then 3 else if c.fin then 2 else 1

/-- Read a register port. -/
def regRead (k : KS) (sh p : Nat) : Nat :=
  let x := getSh k.st sh
  if p = 0 then estat x
  else if p ≤ 4 then k.bps.getD (p - 1) 0
  else if p ≤ 7 then mget 0 x.ls (p - 5)
  else if p ≤ 10 then mget 0 x.le (p - 8)
  else if p ≤ 13 then mget 0 x.lc (p - 11)
  else match p with
    | 14 => x.rptc
    | 15 => x.gidx
    | 16 => x.tcause
    | 17 => x.tinfo
    | 18 => b2n x.rpti
    | 19 => x.left
    | 21 => cellPath sh
    | 22 => 1
    | _ => 0

/-- Read a digest port (R330, R334). -/
def dgRead (k : KS) (sh p : Nat) : TW × KS :=
  let u := shUnit sh
  let ch := shChan sh
  let c := getChan k.st false u ch
  let out := (getSh k.st sh).dgOut
  let n := if out then chanCount k.st false c else c.cnt
  if p < 0x107 ∨ 0x130 ≤ p then ({}, k)
  else if p = 0x107 then (⟨0, chanState out c⟩, k)
  else if p = 0x108 then (⟨0, n % 65536⟩, k)
  else if p = 0x109 then (⟨0, n / 65536⟩, k)
  else if p = 0x10A then
    if c.poison then (poisonTW, k)
    else match c.ctxOut[c.outAt]? with
      | some w => (⟨1, w⟩, { k with st := setChan false u ch { c with outAt := c.outAt + 1 } k.st })
      | none => ({}, k)
  else if c.poison then (poisonTW, k) else (c.res.getD (p - 0x110) {}, k)

/-- Read a cipher port (R340, R342). -/
def ciRead (k : KS) (sh p : Nat) : TW × KS :=
  let u := shUnit sh
  let ch := shChan sh
  let c := getChan k.st true u ch
  let out := (getSh k.st sh).ciOut
  if p < 0x185 then ({}, k)
  else if p = 0x185 then (⟨0, chanState out c⟩, k)
  else if p = 0x186 then (⟨0, if out then chanCount k.st true c else c.cnt⟩, k)
  else if p = 0x187 then (⟨0, if c.poison then 0 else c.res.length - c.outAt⟩, k)
  else if c.poison then (poisonTW, k)
  else if p = 0x190 then
    match c.res[c.outAt]? with
    | some w => (w, { k with st := setChan true u ch { c with outAt := c.outAt + 1 } k.st })
    | none => ({}, k)
  else (c.ivOut.getD (p - 0x188) {}, k)

/-- Read a lock port: a free lock is taken (R282). -/
def lockRead (k : KS) (sh n : Nat) : TW × KS :=
  let x := getSh k.st sh
  if x.lock = some n then (⟨0, 1⟩, k)
  else if lockFree k.st sh n then (⟨0, 1⟩, { k with st := setSh sh (takeLock n x) k.st })
  else ({}, k)

/-- STREAM_ADDR moves past a word. -/
def streamNext (sh at_ : Nat) (s : State) : State :=
  { s with cells := { s.cells with
    ports := mset 0 (mset 0 s.cells.ports (sh * 2048 + 0x520) ((at_ + 2) % 65536)) (sh * 2048 + 0x521)
      ((at_ + 2) / 65536 % 65536) } }

/-- Read a steward port: SH_DATA shows the shared word of SH_HEDDLE and SH_ADDR, STREAM_DATA the next two
bytes of the command's first IN descriptor; the others the word last written. -/
def stewardRead (k : KS) (sh p : Nat) : TW × KS :=
  let w := fun q => mget 0 k.st.cells.ports (sh * 2048 + q)
  if p = 0x512 then (mget {} k.st.cells.shared (w 0x510 % 24 * 24576 + w 0x511 % 24576), k)
  else if p = 0x522 then
    let at_ := w 0x520 + 65536 * w 0x521
    let d := (kJob k sh).bind (fun j => (cmdOf k.st j.cmd).bind (fun c => inData c 0))
    (⟨0, leNat (((d.getD []).drop at_).take 2)⟩, { k with st := streamNext sh at_ k.st })
  else (⟨0, w p⟩, k)

/-- Read the word at an address that step 5 has allowed. -/
def readK (sh a : Nat) (k : KS) : K (TW × KS) :=
  let x := getSh k.st sh
  match x.job with
  | none => .error .blocked
  | some j =>
    if a < 0x8000 then .ok (mget {} x.priv a, k)
    else if a < 0xE000 then
      match sharedPhys sh j a false with
      | .ok p => .ok (mget {} k.st.cells.shared (sharedKey sh p), { k with acc := k.acc + slotWait k sh })
      | .error c => ktrap k c a
    else if a < 0xE800 then .ok (((mfind j.mbox a).getD (if 0xE080 ≤ a then ⟨1, 0⟩ else {})), k)
    else if a < 0xEB20 then .ok (mget {} x.outMb a, k)
    else
      let p := a - 0xF000
      if p < 0x100 then .ok (⟨0, regRead k sh p⟩, k)
      else if p < 0x180 then .ok (dgRead k sh p)
      else if p < 0x200 then .ok (ciRead k sh p)
      else if p < 0x210 then
        if x.lrBusy then .error .blocked else .ok (⟨0, wd x.lr (p - 0x200)⟩, useWait k)
      else match lockIndex sh j p with
        | some n => .ok (lockRead k sh n)
        | none => .ok (stewardRead k sh p)

/-! ### Tags (R214 to R216) -/

/-- TAG_RESERVED or POISON of a word read. -/
def tagRead (t : Nat) : Option Nat := if t = 6 then some cTagReserved else if t = 7 then some cPoison else none

/-- The tag rule of a computing operand, of a divide or compare operand, of an address part, count, target
or trace word, of RET, and of LRD's reference (R215). -/
def tagCompute (t : Nat) : Option Nat := if 3 ≤ t then some cTagOperand else none
def tagStrict (t : Nat) : Option Nat := if t = 2 then some cTagSecret else if 3 ≤ t then some cTagOperand else none
def tagPlace (t : Nat) : Option Nat := if t = 2 then some cTagSecret else if 3 ≤ t then some cTagPlace else none
def tagRet (t : Nat) : Option Nat := if t = 5 then none else some cRetNotCode
def tagLref (t : Nat) : Option Nat := if t = 4 then none else if t = 2 then some cTagSecret else some cTagPlace
def tagAny (_ : Nat) : Option Nat := none

/-- What a destination accepts (R216): the cause of a refusal. -/
def acceptCause (a t : Nat) : Option Nat :=
  let open_ : Option Nat := if t ≤ 1 then none else if t = 2 then some cTagSecret else some cTagPlace
  if a < 0x8000 then none
  else if a = 0xF101 ∨ a = 0xF181 then (if t = 3 then none else if t = 2 then some cTagSecret else some cTagPlace)
  else if a = 0xF200 then (if t = 4 then none else if t = 2 then some cTagSecret else some cTagPlace)
  else if (0xF102 ≤ a ∧ a ≤ 0xF104) ∨ (0xF130 ≤ a ∧ a ≤ 0xF14F) ∨ (0xF182 ≤ a ∧ a ≤ 0xF184) ∨
      (0xF188 ≤ a ∧ a ≤ 0xF18F) then (if t ≤ 2 then none else some cTagPlace)
  else open_

/-- Step 8 of R241 for a destination address. -/
def acceptK (a t : Nat) (k : KS) : K Unit :=
  match acceptCause a t with
  | some c => ktrap k c (tagInfo a)
  | none => .ok ()

/-! ### Writing -/

/-- An engine operation of the shuttle is outstanding that has still to finish: its final write is made (R235). -/
def opRunning (s : State) (sh : Nat) : Bool :=
  let x := getSh s sh
  let run := fun (c : Chan) => c.fin && !c.done && !c.fault && !c.cleared
  (x.dgOut && run (getChan s false (shUnit sh) (shChan sh))) || (x.ciOut && run (getChan s true (shUnit sh) (shChan sh)))

/-- Write a register port (R209, R210, R212). JOB_DONE waits for the outstanding operations (R235). (DEDUCED, log 48) -/
def regWrite (sh p v : Nat) (k : KS) : K KS :=
  let x := getSh k.st sh
  if p = 0 then
    if bits v 14 12 ≠ 0 ∨ bits v 8 4 ≠ 0 then ktrap k cReservedField k.opc
    else .ok { k with st := setSh sh { x with v := bit v 3, c := bit v 2, n := bit v 1, z := bit v 0 } k.st }
  else if p ≤ 4 then .ok { k with bps := k.bps.set (p - 1) v, st := setSh sh { x with bp := mset 0 x.bp (p - 1) v } k.st }
  else if p = 0x12 then
    if bits v 15 1 ≠ 0 then ktrap k cReservedField k.opc
    else .ok { k with st := setSh sh { x with rpti := bit v 0 } k.st }
  else if p = 0x14 then
    if opRunning k.st sh then .error .blocked
    else .ok { (if x.dgOut || x.ciOut then useWait k else k) with fin := some v }
  else .ok k

/-- The data ports on which a write waits while the intake is full. -/
def dataPort (p : Nat) : Bool := decide ((0x102 ≤ p ∧ p ≤ 0x104) ∨ (0x182 ≤ p ∧ p ≤ 0x184))

/-- Write an engine port (R330, R332, R340, R341). -/
def engWrite (sh p : Nat) (w : TW) (k : KS) : K KS :=
  let ci := decide (0x180 ≤ p)
  let u := shUnit sh
  let ch := shChan sh
  let c := getChan k.st ci u ch
  if dataPort p && intakeFull k.st ci c then .error .blocked
  else
    let k := if dataPort p then useWait k else k
    let q := if ci then p - 0x180 else p - 0x100
    if q = 1 then
      if c.fault then .ok k
      else if c.cleared then .ok { k with st := setChan ci u ch (if keyPlace ci c then { c with keyed := true } else faulted c) k.st }
      else if keyPlace ci c then
        let slot := match kJob k sh with
          | some j => (j.keys.getD w.val none)
          | none => none
        .ok { k with st := chanKey ci u ch c slot k.st }
      else .ok { k with st := setChan ci u ch (faulted c) k.st }
    else
      let c1 := if ci then ciPut c q w else dgPut c q w
      let c2 := if c1.fin && !c.fin && finalBad k.st ci c1 then faulted c1 else c1
      .ok { k with st := setChan ci u ch c2 k.st }

/-- Write a lock port (R282). -/
def lockWrite (sh n v a : Nat) (k : KS) : K KS :=
  let x := getSh k.st sh
  if v = 1 then
    if holdsOther x n then ktrap k cMap a
    else if x.lock = some n then .ok (useWait k)
    else if lockFree k.st sh n then .ok (useWait { k with st := setSh sh (takeLock n x) k.st })
    else .error (.lockWait n)
  else if v = 0 then
    if x.lock = some n then .ok { k with st := setSh sh { x with lock := none } k.st }
    else ktrap k cMap a
  else ktrap k cReservedField k.opc

/-- INT_DONE: the handler of a source has completed; a LEVEL source is sampled again (R259, R426). -/
def intDone (n : Nat) (s : State) : State :=
  if s.ic.insvcSteward.getLsbD n then
    let p := if srcKind n == .level && s.ic.raw.getLsbD n then s.ic.pendSteward ||| srcBit n else s.ic.pendSteward
    { s with ic := { s.ic with insvcSteward := s.ic.insvcSteward &&& ~~~ srcBit n, pendSteward := p } }
  else s

/-- LOCK_BREAK: the job that holds the named heddle's lock entry is aborted (R232, R283). An entry is
numbered by the shuttle that holds it: bits 7 to 3 the heddle, bits 2 to 0 the entry. -/
def stewardBreak (v : Nat) (s : State) : State :=
  let sh := v % 256
  if isSteward sh || (getSh s sh).lock.isNone then s else abortJob s sh s

/-- A write of STREAM_DATA: the word goes to the first OUT descriptor of the steward's command, at STREAM_ADDR.
(DESIGN CHOICE, log 113) -/
def streamOut (sh v : Nat) (s : State) : State :=
  let at_ := mget 0 s.cells.ports (sh * 2048 + 0x520) + 65536 * mget 0 s.cells.ports (sh * 2048 + 0x521)
  match (getSh s sh).job.bind (fun j => cmdOf s j.cmd) with
  | none => s
  | some c =>
    match (descDirs c.words).zipIdx.find? Prod.fst with
    | some (_, d) =>
      if at_ + 2 ≤ descLen c.words d then
        streamNext sh at_ (emit (.hostWrite c.fn (descAddr c.words d + at_) (leBytes 2 v)) s)
      else s
    | none => s

/-- A write of 1 to SVC_CTRL removes the cell that SVC_CELL names in TARGET form, where it is in service (R259, R287).
(DESIGN CHOICE, log 113) -/
def svcRemove (cell v : Nat) (s : State) : State :=
  let k := bits cell 15 13
  let heddle := 6 * bits cell 7 6 + bits cell 5 3
  if bit v 0 = false ∨ (2 ≤ k ∧ 6 ≤ bits cell 5 3) then s
  else if k = 1 then (if loomInService s (bits cell 7 6) then removeCell 1 (bits cell 7 6) 3 s else s)
  else if k = 2 then (if heddleInService s heddle then removeCell 2 heddle 3 s else s)
  else if k = 3 then
    (if shuttleInService s (8 * heddle + bits cell 2 0) then removeCell 3 (8 * heddle + bits cell 2 0) 3 s else s)
  else s

/-- Write a steward port (R259): PM_DATA and SH_DATA write the word at the address held beside them.
(DEDUCED, log 50) -/
def stewardWrite (sh p v : Nat) (k : KS) : KS :=
  let s := k.st
  let w := fun q => mget 0 s.cells.ports (sh * 2048 + q)
  let keep := fun (s : State) => { s with cells := { s.cells with ports := mset 0 s.cells.ports (sh * 2048 + p) v } }
  if p = 0x530 then { k with st := stewardBreak v s }
  else if p = 0x540 then { k with st := intDone (v % 512) s }
  else if p = 0x502 then
    { k with st := keep { s with cells := { s.cells with
        progOwn := mset none s.cells.progOwn (w 0x500 % 24 * 32768 + w 0x501 % 32768) (some (v % 16384)) } } }
  else if p = 0x512 then
    { k with st := keep { s with cells := { s.cells with
        shared := mset {} s.cells.shared (w 0x510 % 24 * 24576 + w 0x511 % 24576) ⟨0, v⟩ } } }
  else if p = 0x522 then { k with st := streamOut sh v s }
  else if p = 0x551 then { k with st := svcRemove (w 0x550) v (keep s) }
  else { k with st := keep s }

/-- A TOUT message, where the realm's word allows it (R475). -/
def toutMsg (sh ch : Nat) (w : TW) (s : State) : State :=
  match (getSh s sh).job with
  | some j => if bit j.mode 0 then trace 2 (ch * 256 + w.tag * 128 + j.realm) [cellPath sh, w.val] s else s
  | none => s

/-- Write a word to an address that step 5 has allowed and whose tag step 8 has accepted. -/
def writeK (sh a : Nat) (w : TW) (k : KS) : K KS :=
  let x := getSh k.st sh
  match x.job with
  | none => .error .blocked
  | some j =>
    if a < 0x8000 then .ok { k with st := setSh sh { x with priv := mset {} x.priv a w } k.st }
    else if a < 0xE000 then
      match sharedPhys sh j a true with
      | .ok p => .ok { k with acc := k.acc + slotWait k sh, st := { k.st with cells := { k.st.cells with
          shared := mset {} k.st.cells.shared (sharedKey sh p) w } } }
      | .error c => ktrap k c a
    else if a < 0xEB20 then .ok { k with st := setSh sh { x with outMb := mset {} x.outMb a w } k.st }
    else
      let p := a - 0xF000
      if p < 0x100 then regWrite sh p w.val k
      else if p < 0x200 then engWrite sh p w k
      else if p = 0x200 then
        .ok { k with st := setSh sh { x with lrUsed := true, lrBusy := true } k.st }
      else if p < 0x210 then .ok k
      else if p = 0x300 then .ok { k with st := toutMsg sh 0 w k.st }
      else match lockIndex sh j p with
        | some n => lockWrite sh n w.val a k
        | none => .ok (stewardWrite sh p w.val k)

/-! ### Operand specifiers (R221) -/

/-- A decoded operand. `kind` is that of OPKIND: 1 address, 2 immediate, 3 raw specifier (R230). -/
structure Opd where
  spec : Nat := 0
  mode : Nat := 0
  kind : Nat := 1
  val : Nat := 0
  /-- The tag and the address of a mode-3 pointer word. -/
  ptag : Nat := 0
  pa : Nat := 0
  /-- RESERVED_FIELD or RESERVED_MODE of the specifier; 0 none. -/
  err : Nat := 0
  deriving DecidableEq, Repr

/-- A signed field of n bits as an addend modulo 65,536. -/
def sext (v n : Nat) : Nat := if v < 2 ^ (n - 1) then v else v + 65536 - 2 ^ n

/-- Operand words after the specifier. -/
def specExt (spec : Nat) : Nat := if spec / 2048 = 6 then 2 else 0

/-- An operand whose specifier holds a reserved value keeps the raw specifier (R230). -/
def rawOpd (spec err : Nat) : Opd := { spec := spec, mode := spec / 2048, kind := 3, val := spec, err := err }

/-- Decode one specifier with its extension words; post-increments are staged (R221, R222). Mode 6 with x = 3 raises
RESERVED_MODE whatever its reserved bits hold. (DESIGN CHOICE, log 121) -/
def decodeOpd (sh spec e1 e2 : Nat) (k : KS) : Opd × KS :=
  let x := getSh k.st sh
  let f := spec % 2048
  let m := spec / 2048
  let bp := fun b => k.bps.getD b 0
  let o : Opd := { spec := spec, mode := m }
  match m with
  | 0 => ({ o with val := f }, k)
  | 1 => ({ o with val := (bp (f / 512) + sext (f % 512) 9) % 65536 }, k)
  | 2 => ({ o with val := bp (f / 512) }, { k with bps := k.bps.set (f / 512) ((bp (f / 512) + sext (f % 512) 9) % 65536) })
  | 3 =>
    let w := mget {} x.priv f
    ({ o with val := w.val, ptag := w.tag, pa := f }, k)
  | 4 =>
    let n := f / 512
    if n = 3 ∨ x.ldepth ≤ n then (rawOpd spec cReservedMode, k)
    else ({ o with val := (bp (bits f 8 7) + f % 128 + mget 0 x.lc n + 65535) % 65536 }, k)
  | 5 => ({ o with kind := 2, val := sext f 11 }, k)
  | 6 =>
    let n := f / 512
    let v := e1 + e2 % 4 * 16384
    if n = 3 then (rawOpd spec cReservedMode, k)
    else if f % 128 ≠ 0 ∨ e2 / 4 ≠ 0 then (rawOpd spec cReservedField, k)
    else if n = 1 then ({ o with kind := 2, val := v }, k)
    else ({ o with val := if n = 0 then v else (bp (bits f 8 7) + v) % 65536 }, k)
  | _ => ({ o with val := 0xF000 + f }, k)

/-- Fetch and decode n operands from a program address: the operands and the address after them. -/
def decodeOpds (sh : Nat) (j : Job) : Nat → Nat → KS → K (List Opd × Nat × KS)
  | 0, at_, k => .ok ([], at_, k)
  | n + 1, at_, k => do
    let spec ← fetchK sh j at_ k
    let ext := specExt spec
    let e1 ← if ext = 0 then .ok 0 else fetchK sh j (at_ + 1) k
    let e2 ← if ext = 0 then .ok 0 else fetchK sh j (at_ + 2) k
    let (o, k1) := decodeOpd sh spec e1 e2 k
    let (os, e, k2) ← decodeOpds sh j n (at_ + 1 + ext) k1
    .ok (o :: os, e, k2)

/-- The address after n operand specifiers. -/
def specsEnd (s : State) (sh : Nat) (j : Job) : Nat → Nat → Option Nat
  | 0, at_ => some at_
  | n + 1, at_ => (kFetch s sh j at_).bind (fun spec => specsEnd s sh j n (at_ + 1 + specExt spec))

/-- The length of the instruction at an address, found by decoding its head word (R220, R223). -/
def lengthAt (s : State) (sh : Nat) (j : Job) (a : Nat) : Option Nat :=
  (kFetch s sh j a).bind (fun h => (specsEnd s sh j (h / 16 % 4) (a + 1)).map (fun e => e - a))

/-! ### Sources -/

/-- Read a source: TAG_RESERVED or POISON, then the rule given (step 6 of R241). An immediate is INT. -/
def srcK (sh : Nat) (rule : Nat → Option Nat) (o : Opd) (k : KS) : K (TW × KS) :=
  if o.kind = 2 then
    match rule 0 with
    | some c => ktrap k c 0
    | none => .ok (⟨0, o.val⟩, k)
  else do
    let (w, k1) ← readK sh o.val k
    match tagRead w.tag with
    | some c => ktrap k1 c (tagInfo o.val)
    | none =>
      match rule w.tag with
      | some c => ktrap k1 c (tagInfo o.val)
      | none => .ok (w, k1)

end Sys2Proof.Machine
end

