-- ==== Sys2Proof/Machine/KarefRun.lean ====
section
/-! DEFINITION. One Karef instruction from fetch to completion: encodings and roles (R237, R238, R240),
the trap order (R241), cycles (R242), trap entry (R228, R230), repeats (R226, R227), the loop-end test (R224)
and the budget (R232, R234). Every Karef row calls `karefRow` with its own body. -/

namespace Sys2Proof.Machine

/-! ### Encodings (R237, R243 to R254) -/

/-- Roles of operands (R240). -/
inductive Role where
  | src | dst | mod | base1 | base16 | base | loopEnd
  deriving DecidableEq, Repr

/-- A row of the instruction reference: allowed OPN, largest SZ, BASE, roles by OPN. -/
structure OpInfo where
  opns : List Nat
  szMax : Nat
  cycles : Nat
  roles : Nat → List Role

/-- Roles of the two- and three-operand computing form. -/
def rolesCompute (n : Nat) : List Role := if n = 2 then [.mod, .src] else [.dst, .src, .src]
def rolesUnary (n : Nat) : List Role := if n = 1 then [.mod] else [.dst, .src]

/-- The defined opcodes of revision 0x0001. -/
def opInfo (opc : Nat) : Option OpInfo :=
  if opc = 0x00 then some ⟨[0], 0, 1, fun _ => []⟩
  else if opc = 0x01 ∨ opc = 0x03 then some ⟨[2], 0, 2, fun _ => [.dst, .src]⟩
  else if opc = 0x02 then some ⟨[1], 0, 1, fun _ => [.dst]⟩
  else if (0x10 ≤ opc ∧ opc ≤ 0x13) ∨ (0x20 ≤ opc ∧ opc ≤ 0x23) ∨ (0x28 ≤ opc ∧ opc ≤ 0x2C) then
    some ⟨[2, 3], 0, 2, rolesCompute⟩
  else if opc = 0x14 ∨ opc = 0x24 ∨ opc = 0x32 then some ⟨[1, 2], 0, 2, rolesUnary⟩
  else if 0x15 ≤ opc ∧ opc ≤ 0x17 then some ⟨[2, 3], 0, 3, rolesCompute⟩
  else if 0x18 ≤ opc ∧ opc ≤ 0x1B then some ⟨[2, 3], 0, 18, rolesCompute⟩
  else if opc = 0x30 then some ⟨[2, 3], 1, 3, rolesCompute⟩
  else if opc = 0x31 then some ⟨[3], 0, 3, fun _ => [.mod, .src, .src]⟩
  else if opc = 0x33 then some ⟨[2, 3], 15, 2, rolesCompute⟩
  else if opc = 0x34 then some ⟨[3], 15, 2, fun _ => [.base1, .base, .base]⟩
  else if opc = 0x40 ∨ opc = 0x41 then some ⟨[2], 0, 2, fun _ => [.src, .src]⟩
  else if opc = 0x48 then some ⟨[1], 14, 2, fun _ => [.src]⟩
  else if opc = 0x49 then some ⟨[2], 0, 3, fun _ => [.dst, .src]⟩
  else if opc = 0x4A then some ⟨[1], 0, 3, fun _ => [.src]⟩
  else if opc = 0x50 then some ⟨[1, 2], 15, 2, fun n => if n = 1 then [.src] else [.src, .loopEnd]⟩
  else if opc = 0x51 then some ⟨[1], 0, 1, fun _ => [.src]⟩
  else if opc = 0x58 then some ⟨[0], 15, 1, fun _ => []⟩
  else if opc = 0x59 then some ⟨[0], 15, 6, fun _ => []⟩
  else if opc = 0x60 then some ⟨[1], 1, 2, fun _ => [.src]⟩
  else if opc = 0x61 then some ⟨[1], 1, 2, fun _ => [.dst]⟩
  else if opc = 0x68 then some ⟨[2], 0, 18, fun _ => [.base16, .src]⟩
  else if opc = 0x70 then some ⟨[1], 15, 2, fun _ => [.src]⟩
  else none

/-- Instructions that may not follow RPT (R226). -/
def rptBarred (opc : Nat) : Bool := opc ∈ [0x34, 0x48, 0x49, 0x4A, 0x50, 0x51, 0x58, 0x59]

/-! ### The operand stage -/

/-- An instruction with its operands decoded. -/
structure Ins where
  head : Nat := 0
  opc : Nat := 0
  opn : Nat := 0
  sz : Nat := 0
  pc : Nat
  ops : List Opd := []
  roles : List Role := []
  /-- Length in words, and the address after it. -/
  len : Nat := 0
  after : Nat
  /-- BASE + X + I (R242). -/
  cost : Nat := 0
  deriving DecidableEq, Repr

/-- Step 3 of R241 for one operand: a reserved role use makes it raw. -/
def roleErr (after : Nat) (r : Role) (o : Opd) : Opd :=
  if o.err ≠ 0 then o
  else match r with
  | .loopEnd =>
    if o.kind ≠ 2 then { o with kind := 3, val := o.spec, err := cReservedMode }
    else if o.val < after ∨ 0x8000 ≤ o.val then { o with kind := 3, val := o.spec, err := cReservedField }
    else o
  | .base => if o.kind = 2 ∨ o.mode = 7 then { o with kind := 3, val := o.spec, err := cReservedMode } else o
  | .base1 | .base16 => if o.mode = 7 then { o with kind := 3, val := o.spec, err := cReservedMode } else o
  | _ => o

/-- A destination in an immediate mode: IMM_DEST at step 4. -/
def immDest (r : Role) (o : Opd) : Bool :=
  decide (o.kind = 2) && (match r with
    | .dst | .mod | .base1 | .base16 => true
    | _ => false)

/-- LRD's sixteen destinations are all checked at step 5 (R254). -/
def checkRun (sh : Nat) : Nat → Nat → KS → K Unit
  | 0, _, _ => .ok ()
  | n + 1, a, k => do
    checkK sh (a % 65536) true k
    checkRun sh n (a + 1) k

/-- Step 5 for one operand: the pointer word's tag, then the access it will make. (DESIGN CHOICE, log 133) -/
def stageOpd (sh : Nat) (r : Role) (o : Opd) (k : KS) : K Unit := do
  if o.mode = 3 then
    match tagRead o.ptag with
    | some c => ktrap k c (tagInfo o.pa)
    | none => match tagPlace o.ptag with
      | some c => ktrap k c (tagInfo o.pa)
      | none => .ok ()
  if o.kind ≠ 1 then .ok ()
  else match r with
    | .src => checkK sh o.val false k
    | .dst => checkK sh o.val true k
    | .mod => do
      checkK sh o.val false k
      checkK sh o.val true k
    | .base16 => checkRun sh 16 o.val k
    | _ => .ok ()

/-- Step 5 over the operands in order: how many had their addresses reached, and the stop. -/
def stageOpds (sh : Nat) (k : KS) : List (Role × Opd) → Nat → Nat × Option KStop
  | [], n => (n, none)
  | (r, o) :: os, n =>
    match stageOpd sh r o k with
    | .error e => (n + 1, some e)
    | .ok () => stageOpds sh k os (n + 1)

/-! ### Trap entry (R228, R230) -/

/-- OPD and OPKIND of one operand: 0 where its address was not reached, or its pointer word is neither INT
nor BYTES. (DEDUCED, log 46) -/
def frameOpd (reached i : Nat) (o : Opd) : Nat × Nat :=
  if o.kind = 1 ∧ (reached ≤ i ∨ (o.mode = 3 ∧ 2 ≤ o.ptag)) then (0, 0) else (o.val % 65536, o.kind)

/-- The trap frame's nine words (R230). -/
def frameWords (x : Shuttle) (i : Ins) (reached : Nat) (bare : Bool) (ret : Nat) : List TW :=
  let f := fun n => if bare then (0, 0) else
    match i.ops[n]? with
    | some o => frameOpd reached n o
    | none => (0, 0)
  let kinds := (f 0).2 + (f 1).2 * 4 + (f 2).2 * 16
  [⟨0, i.head⟩, ⟨0, (f 0).1⟩, ⟨0, (f 1).1⟩, ⟨0, (f 2).1⟩, ⟨0, i.len % 16 * 4096 + kinds⟩, ⟨0, x.rptc⟩,
   ⟨0, x.gidx⟩, ⟨0, estat x⟩, ⟨5, ret % 32768⟩]

/-- The vector of a cause: its program word; none where the cause has none. -/
def vectorOf (cause : Nat) : Option Nat :=
  if 1 ≤ cause ∧ cause ≤ 15 then some cause else if 0x20 ≤ cause ∧ cause ≤ 0x2F then some (cause - 16) else none

/-- Take a trap from a state: through its vector, or the end of the job (R228). -/
def takeTrap (sh cause tinfo : Nat) (i : Ins) (reached : Nat) (bare : Bool) (ret : Nat) (s : State) : State :=
  let x := getSh s sh
  match x.job with
  | none => s
  | some j =>
    if x.trapping then endTrap sh 0x17 cause i.pc s
    else match vectorOf cause with
    | none => endTrap sh cause tinfo i.pc s
    | some v =>
      let h := (kFetch s sh j v).getD 0
      if h = 0 then endTrap sh 0x18 cause i.pc s
      else
        let priv := (frameWords x i reached bare ret).zipIdx.foldl (fun m p => mset {} m (0x7FF7 + p.2) p.1) x.priv
        setSh sh { x with priv := priv, tcause := cause, tinfo := tinfo, trapping := true, rpta := false
                          gidx := 0, gath := none, pc := h * 2 % 32768 } s

/-- A trap with a handler costs ten cycles more (R242). -/
def trapCycles (s : State) (sh cause : Nat) : Nat :=
  let x := getSh s sh
  match x.job, vectorOf cause with
  | some j, some v => if !x.trapping && (kFetch s sh j v).getD 0 != 0 then 10 else 0
  | _, _ => 0

/-! ### Completion -/

/-- Charge cycles to the job. -/
def spend (sh n : Nat) (s : State) : State :=
  let x := getSh s sh
  setSh sh { x with left := x.left - n, cyc := x.cyc + n } s

/-- The budget reaches 0 within these cycles (R232); steward jobs have none. -/
def overBudget (s : State) (sh n : Nat) (done : Bool) : Bool :=
  let x := getSh s sh
  !isSteward sh && (decide (x.left < n) || (decide (x.left = n) && !done))

/-- The loop-end test of R224, at most three loops deep: the next PC and the shuttle. -/
def loopEnd : Nat → Nat → Nat → Shuttle → Nat × Shuttle
  | 0, _, next, x => (next, x)
  | f + 1, pc, next, x =>
    if x.ldepth = 0 ∨ mget 0 x.le (x.ldepth - 1) ≠ pc then (next, x)
    else
      let d := x.ldepth - 1
      let n := mget 0 x.lc d
      if 1 < n then (mget 0 x.ls d, { x with lc := mset 0 x.lc d (n - 1) })
      else loopEnd f pc next { x with lc := mset 0 x.lc d 0, ldepth := d }

/-- A taken branch ends each loop whose body does not contain its target (R225). (DESIGN CHOICE, log 132) -/
def branchOut : Nat → Nat → Shuttle → Shuttle
  | 0, _, x => x
  | f + 1, target, x =>
    if x.ldepth = 0 then x
    else
      let d := x.ldepth - 1
      if mget 0 x.ls d ≤ target ∧ target ≤ mget 0 x.le d then x
      else branchOut f target { x with lc := mset 0 x.lc d 0, ldepth := d }

/-- What a completed instruction does next: the address, and where the loop-end test is made. -/
structure Next where
  target : Nat
  test : Option Nat
  deriving DecidableEq, Repr

/-- Straight on, with the loop-end test at the instruction. -/
def onward (i : Ins) : Next := ⟨i.after, some i.pc⟩

/-- Finish a completed instruction: its repeat, the loop-end test, PC, cycles, and JOB_DONE. -/
def complete (sh : Nat) (i : Ins) (rep : Bool) (n : Next) (k : KS) : State :=
  let x := getSh k.st sh
  if x.job.isNone then k.st else
  let more := rep && decide (1 < x.rptc)
  let x := if rep then { x with rptc := x.rptc - 1, rpta := more } else x
  let (npc, x) := if more then (i.pc, x) else
    match n.test with
    | some pc => if k.fin.isSome then (n.target, x) else loopEnd 4 pc n.target x
    | none => (n.target, x)
  let s := spend sh (i.cost + k.acc) (setSh sh { x with pc := npc % 65536 } k.st)
  match k.fin with
  | none => s
  | some 0 => endDone sh s
  | some v => endTrap sh 0x19 v i.pc s

/-- The instruction's stop, from the state before it. -/
def stopped (sh : Nat) (i : Ins) (reached : Nat) (early : List Nat) (rep : Bool) (e : KStop) (s : State) : State :=
  match e with
  | .blocked => s
  | .lockWait n =>
    let x := getSh s sh
    { setSh sh { x with lockWait := some n, waitNo := s.cells.waitNo } s with
      cells := { (setSh sh { x with lockWait := some n, waitNo := s.cells.waitNo } s).cells with
        waitNo := s.cells.waitNo + 1 } }
  | .trap cause tinfo acc base =>
    let b := base.getD s
    let isEarly := cause = cReservedOpcode ∨ cause = cReservedField ∨ cause = cReservedMode
    let b := if isEarly then
        let x := getSh b sh
        setSh sh { x with bp := early.zipIdx.foldl (fun m p => mset 0 m p.2 p.1) x.bp } b
      else b
    let cost := i.cost + acc + trapCycles b sh cause
    if overBudget s sh cost false then endTimeout sh b
    else
      let after := decide (0x20 ≤ cause)
      let ret := if after then i.after else if rep then (getSh b sh).rptPc else i.pc
      takeTrap sh cause tinfo i reached after ret (spend sh cost b)

/-- What a row's body computes from the instruction, once steps 1 to 5 of R241 have passed. -/
abbrev Body := Nat → Ins → KS → K (Next × KS)

/-- Begin an instruction: the machine with the base pointers of the shuttle. -/
def beginK (sh wait opc : Nat) (s : State) : KS :=
  let x := getSh s sh
  { st := s, bps := (List.range 4).map (fun b => mget 0 x.bp b), acc := 0, wait := wait, fin := none, opc := opc }

/-- The shuttle can execute: it is in service, runs a job, and waits for no lock; the array has not
stopped for a lockdown. -/
def shuttleRuns (s : State) (sh : Nat) : Bool :=
  shuttleInService s sh && decide (sh < 192) && (getSh s sh).lockWait.isNone && decide (s.glb.service ≠ svLockdown)

/-- The operands of a later GATHER element: the addresses that the first one's operand stage fixed (R247). -/
def gathOps (x : Shuttle) (ops : List Opd) : List Opd :=
  match x.gath with
  | some (d, t, y) => List.zipWith (fun (o : Opd) v => { o with val := v, ptag := 0 }) ops [d, t, y]
  | none => ops

/-- Execute the instruction at PC of a shuttle, when its opcode satisfies the row; of a GATHER, its next element, whose
operand stage and BASE are the first one's (R242, R248). A fetch beyond the code ends the job in any row (R228). -/
def karefRow (row : Nat → Bool) (sh wait : Nat) (body : Body) (s : State) : State :=
  let x := getSh s sh
  match x.job with
  | none => s
  | some j =>
    if !shuttleRuns s sh then s else
    match kFetch s sh j x.pc with
    | none => takeTrap sh cFetch x.pc { pc := x.pc, after := x.pc } 0 true x.pc s
    | some head =>
      let opc := head / 64
      let opn := head / 16 % 4
      if !row opc then s else
      let k := beginK sh wait opc s
      match decodeOpds sh j opn (x.pc + 1) k with
      | .error _ => takeTrap sh cFetch x.pc { head := head, pc := x.pc, after := x.pc } 0 true x.pc s
      | .ok (ops, after, k1) =>
        let n := ops.length
        let info := opInfo opc
        let extra := (ops.filter (fun o => o.mode == 6 || o.mode == 3)).length
        let more := opc == 0x34 && x.gath.isSome
        let ops := if more then gathOps x ops else ops
        let roles := ((info.map (fun q => q.roles opn)).getD [])
        let rep := x.rpta && opc != 0x51
        let i0 : Ins := { head := head, opc := opc, opn := opn, sz := head % 16, pc := x.pc, ops := ops, roles := roles
                          len := after - x.pc, after := after
                          cost := if more then 0 else ((info.map OpInfo.cycles).getD 1) + extra }
        let early := fun (i : Ins) (c : Nat) => stopped sh i n k1.bps rep (.trap c opc 0 none) s
        match info with
        | none => early i0 cReservedOpcode
        | some q =>
          if !q.opns.contains opn || decide (q.szMax < i0.sz) || (opc == 0x50 && opn == 2 && i0.sz != 0) then
            early i0 cReservedField
          else
            let ops' := List.zipWith (roleErr after) roles ops
            let i := { i0 with ops := ops' }
            match ops'.find? (fun o => o.err ≠ 0) with
            | some o => early i o.err
            | none =>
              if (List.zipWith immDest roles ops').any id then stopped sh i 0 [] rep (.trap cImmDest opc 0 none) s
              else
                let resume := opc == 0x51 && x.rpta
                let (reached, e) := if resume || more then (0, none) else stageOpds sh k1 (roles.zip ops') 0
                match e with
                | some e => stopped sh i reached k1.bps rep e s
                | none =>
                  match body sh i (if resume then k else k1) with
                  | .error e => stopped sh i n k1.bps rep e s
                  | .ok (nx, k2) =>
                    if overBudget s sh (i.cost + k2.acc) (k2.fin == some 0) then endTimeout sh s
                    else complete sh i rep nx k2

/-- The row of one opcode. -/
def karefOp (opc sh wait : Nat) (body : Body) (s : State) : State := karefRow (fun o => o == opc) sh wait body s

/-! ### Shared parts of bodies -/

/-- Operand n. -/
def opd (i : Ins) (n : Nat) : Opd := i.ops.getD n {}

/-- The staged base pointers come into force. -/
def commitBps (sh : Nat) (k : KS) : KS :=
  let x := getSh k.st sh
  { k with st := setSh sh { x with bp := k.bps.zipIdx.foldl (fun m p => mset 0 m p.2 p.1) x.bp } k.st }

/-- The flags V, C, N and Z of a result. -/
def setFlags (sh : Nat) (a : Alu) (k : KS) : KS :=
  let x := getSh k.st sh
  { k with st := setSh sh { x with z := a.z, n := a.n, c := a.c, v := a.v } k.st }

/-- Commit with a destination: acceptance (step 8), post-increments, flags, then the write (R222). -/
def writeTo (sh : Nat) (o : Opd) (w : TW) (flags : Option Alu) (k : KS) : K KS := do
  acceptK o.val w.tag k
  let k1 := commitBps sh k
  let k2 := match flags with
    | some a => setFlags sh a k1
    | none => k1
  writeK sh o.val w k2

/-- A computed result: flags only when it is INT or BYTES (R215). -/
def computeTo (sh : Nat) (i : Ins) (a : Alu) (tag : Nat) (k : KS) : K (Next × KS) := do
  let k1 ← writeTo sh (opd i 0) ⟨tag, a.val⟩ (if tag ≤ 1 then some a else none) k
  .ok (onward i, k1)

/-- The two value operands of a computing form: d op s, or a op b (R238). -/
def binarySrc (sh : Nat) (rule : Nat → Option Nat) (i : Ins) (k : KS) : K (TW × TW × KS) := do
  let p := if i.opn = 3 then 1 else 0
  let (a, k1) ← srcK sh rule (opd i p) k
  let (b, k2) ← srcK sh rule (opd i (p + 1)) k1
  .ok (a, b, k2)

/-- A binary computation (R238, R244, R245). -/
def binary (f : Nat → Nat → Bool → Alu) : Body := fun sh i k => do
  let (a, b, k1) ← binarySrc sh tagCompute i k
  computeTo sh i (f a.val b.val (getSh k.st sh).c) (max a.tag b.tag) k1

/-- A division: SECRET operands trap, and a divisor of 0 raises DIVIDE_ZERO after the tag checks. -/
def division (f : Nat → Nat → Alu) : Body := fun sh i k => do
  let (a, b, k1) ← binarySrc sh tagStrict i k
  if b.val = 0 then ktrap k1 cDivideZero k.opc
  else computeTo sh i (f a.val b.val) (max a.tag b.tag) k1

/-- A unary computation: op d, or op s. -/
def unary (f : Nat → Alu) : Body := fun sh i k => do
  let (a, k1) ← srcK sh tagCompute (opd i (i.opn - 1)) k
  computeTo sh i (f a.val) a.tag k1

/-- A comparison: flags alone (R249). -/
def compare2 (f : Nat → Nat → Alu) : Body := fun sh i k => do
  let (a, k1) ← srcK sh tagStrict (opd i 0) k
  let (b, k2) ← srcK sh tagStrict (opd i 1) k1
  .ok (onward i, setFlags sh (f a.val b.val) (commitBps sh k2))

/-- A branch target: an immediate, or the word read (R240). -/
def targetSrc (sh : Nat) (o : Opd) (k : KS) : K (Nat × KS) :=
  if o.kind = 2 then .ok (o.val, k)
  else do
    let (w, k1) ← srcK sh tagPlace o k
    .ok (w.val, k1)

end Sys2Proof.Machine
end

