-- ==== Sys2Proof/Machine/KarefAlu.lean ====
section
/-! DEFINITION. Karef moves, arithmetic, logic, shifts and character instructions (R243 to R246) and the
comparisons of R249. -/

namespace Sys2Proof.Machine

/-! ### Moves (R243) -/

def nopBody : Body := fun sh i k => .ok (onward i, commitBps sh k)

def movBody : Body := fun sh i k => do
  let (w, k1) ← srcK sh tagAny (opd i 1) k
  let k2 ← writeTo sh (opd i 0) w none k1
  .ok (onward i, k2)

def clrBody : Body := fun sh i k => do
  let k1 ← writeTo sh (opd i 0) {} none k
  .ok (onward i, k1)

def tagofBody : Body := fun sh i k => do
  let (w, k1) ← srcK sh tagAny (opd i 1) k
  let k2 ← writeTo sh (opd i 0) ⟨0, w.tag⟩ none k1
  .ok (onward i, k2)

def kNop (sh wait : Nat) (s : State) : State := karefOp 0x00 sh wait nopBody s
def kMov (sh wait : Nat) (s : State) : State := karefOp 0x01 sh wait movBody s
def kClr (sh wait : Nat) (s : State) : State := karefOp 0x02 sh wait clrBody s
def kTagof (sh wait : Nat) (s : State) : State := karefOp 0x03 sh wait tagofBody s

/-! ### Arithmetic (R244) -/

def kAdd (sh wait : Nat) (s : State) : State := karefOp 0x10 sh wait (binary (fun a b _ => aluAdd a b)) s
def kAdc (sh wait : Nat) (s : State) : State := karefOp 0x11 sh wait (binary aluAdc) s
def kSub (sh wait : Nat) (s : State) : State := karefOp 0x12 sh wait (binary (fun a b _ => aluSub a b)) s
def kSbc (sh wait : Nat) (s : State) : State := karefOp 0x13 sh wait (binary aluSbc) s
def kNeg (sh wait : Nat) (s : State) : State := karefOp 0x14 sh wait (unary aluNeg) s
def kMul (sh wait : Nat) (s : State) : State := karefOp 0x15 sh wait (binary (fun a b _ => aluMul a b)) s
def kMulhu (sh wait : Nat) (s : State) : State := karefOp 0x16 sh wait (binary (fun a b _ => aluMulhu a b)) s
def kMulhs (sh wait : Nat) (s : State) : State := karefOp 0x17 sh wait (binary (fun a b _ => aluMulhs a b)) s
def kDivu (sh wait : Nat) (s : State) : State := karefOp 0x18 sh wait (division aluDivu) s
def kDivs (sh wait : Nat) (s : State) : State := karefOp 0x19 sh wait (division aluDivs) s
def kRemu (sh wait : Nat) (s : State) : State := karefOp 0x1A sh wait (division aluRemu) s
def kRems (sh wait : Nat) (s : State) : State := karefOp 0x1B sh wait (division aluRems) s

/-! ### Logic and shifts (R245) -/

def kAnd (sh wait : Nat) (s : State) : State := karefOp 0x20 sh wait (binary (fun a b _ => aluAnd a b)) s
def kOr (sh wait : Nat) (s : State) : State := karefOp 0x21 sh wait (binary (fun a b _ => aluOr a b)) s
def kXor (sh wait : Nat) (s : State) : State := karefOp 0x22 sh wait (binary (fun a b _ => aluXor a b)) s
def kAndn (sh wait : Nat) (s : State) : State := karefOp 0x23 sh wait (binary (fun a b _ => aluAndn a b)) s
def kNot (sh wait : Nat) (s : State) : State := karefOp 0x24 sh wait (unary aluNot) s
def kLsl (sh wait : Nat) (s : State) : State := karefOp 0x28 sh wait (binary (fun a b _ => aluLsl a b)) s
def kLsr (sh wait : Nat) (s : State) : State := karefOp 0x29 sh wait (binary (fun a b _ => aluLsr a b)) s
def kAsr (sh wait : Nat) (s : State) : State := karefOp 0x2A sh wait (binary (fun a b _ => aluAsr a b)) s
def kRol (sh wait : Nat) (s : State) : State := karefOp 0x2B sh wait (binary (fun a b _ => aluRol a b)) s
def kRor (sh wait : Nat) (s : State) : State := karefOp 0x2C sh wait (binary (fun a b _ => aluRor a b)) s

/-! ### Character instructions (R246) -/

/-- BFEXT takes its sign from SZ. -/
def bfextBody : Body := fun sh i k => binary (fun a b _ => aluBfext (i.sz == 1) a b) sh i k

/-- BFINS reads operand 1 as well as writing it. -/
def bfinsBody : Body := fun sh i k => do
  let (d, k1) ← srcK sh tagCompute (opd i 0) k
  let (a, k2) ← srcK sh tagCompute (opd i 1) k1
  let (b, k3) ← srcK sh tagCompute (opd i 2) k2
  computeTo sh i (aluBfins d.val a.val b.val) (max d.tag (max a.tag b.tag)) k3

/-- BPERM takes its permutation from SZ. -/
def bpermBody : Body := fun sh i k => binary (fun a b _ => aluBperm i.sz a b) sh i k

def kBfext (sh wait : Nat) (s : State) : State := karefOp 0x30 sh wait bfextBody s
def kBfins (sh wait : Nat) (s : State) : State := karefOp 0x31 sh wait bfinsBody s
def kClz (sh wait : Nat) (s : State) : State := karefOp 0x32 sh wait (unary aluClz) s
def kBperm (sh wait : Nat) (s : State) : State := karefOp 0x33 sh wait bpermBody s

/-! ### Comparisons (R249) -/

def kCmp (sh wait : Nat) (s : State) : State := karefOp 0x40 sh wait (compare2 aluSub) s
def kTst (sh wait : Nat) (s : State) : State := karefOp 0x41 sh wait (compare2 aluAnd) s

end Sys2Proof.Machine
end

