-- ==== Sys2Proof/Machine/KarefFlow.lean ====
section
/-! DEFINITION. Karef GATHER, branches, loops, repeats, traps, engine and ledger-read instructions, trace
output (R247 to R254), reserved opcodes (R237), and interrupts on steward shuttles (R232). -/

namespace Sys2Proof.Machine

/-! ### GATHER (R247, R248) -/

/-- One access of an element: its address may not lie in the port range. -/
def elemCheck (sh a : Nat) (wr : Bool) (k : KS) : K Unit :=
  if 0xF000 ≤ a ∧ a < 0xF800 then ktrap k cMap a else checkK sh a wr k

/-- Read one word of an element: address, TAG_RESERVED or POISON, and the rule. -/
def elemRead (sh : Nat) (rule : Nat → Option Nat) (a : Nat) (k : KS) : K (TW × KS) := do
  elemCheck sh a false k
  srcK sh rule { val := a } k

/-- Element n: index word, table word, destination. -/
def gatherElem (sh d t x n : Nat) (k : KS) : K KS := do
  let (ix, k1) ← elemRead sh tagPlace ((x + n) % 65536) k
  let (w, k2) ← elemRead sh tagAny ((t + ix.val) % 65536) k1
  let a := (d + n) % 65536
  elemCheck sh a true k2
  acceptK a w.tag k2
  let k3 ← writeK sh a w k2
  .ok { k3 with acc := k3.acc + 3 }

/-- A GATHER stands between two elements, or at its end. -/
def gatherAt (sh n : Nat) (g : Option (Nat × Nat × Nat)) (s : State) : State :=
  setSh sh { getSh s sh with gidx := n, gath := g } s

/-- GATHER: the element at GIDX. After the last one the post-increments are applied; before it the instruction goes on at
the next element, and an interrupt may be taken first. -/
def gatherBody : Body := fun sh i k =>
  let x := getSh k.st sh
  let (d, t, x0) := x.gath.getD ((opd i 0).val, (opd i 1).val, (opd i 2).val)
  if i.sz < x.gidx then .ok (onward i, commitBps sh { k with st := gatherAt sh 0 none k.st })
  else do
    let k1 ← gatherElem sh d t x0 x.gidx k
    if x.gidx = i.sz then .ok (onward i, commitBps sh { k1 with st := gatherAt sh 0 none k1.st })
    else .ok (⟨i.pc, none⟩, { k1 with st := gatherAt sh (x.gidx + 1) (some (d, t, x0)) k1.st })

def kGather (sh wait : Nat) (s : State) : State := karefOp 0x34 sh wait gatherBody s

/-! ### Branches (R249, R250) -/

def brBody : Body := fun sh i k => do
  let (t, k1) ← targetSrc sh (opd i 0) k
  let x := getSh k1.st sh
  let k2 := commitBps sh k1
  if brCond i.sz x.z x.n x.c x.v then
    .ok (⟨t, none⟩, { k2 with st := setSh sh (branchOut 4 t (getSh k2.st sh)) k2.st })
  else .ok (onward i, k2)

def callBody : Body := fun sh i k => do
  let (t, k1) ← targetSrc sh (opd i 1) k
  let k2 ← writeTo sh (opd i 0) ⟨5, i.after % 32768⟩ none k1
  .ok (⟨t, none⟩, k2)

def retBody : Body := fun sh i k => do
  let (w, k1) ← srcK sh tagRet (opd i 0) k
  .ok (⟨w.val, none⟩, commitBps sh k1)

def kBr (sh wait : Nat) (s : State) : State := karefOp 0x48 sh wait brBody s
def kCall (sh wait : Nat) (s : State) : State := karefOp 0x49 sh wait callBody s
def kRet (sh wait : Nat) (s : State) : State := karefOp 0x4A sh wait retBody s

/-! ### Loops and repeats (R223, R226, R227) -/

/-- The address after the instruction at a; the address itself where its words run beyond the code. -/
def skipAt (sh a : Nat) (k : KS) : Nat :=
  match kJob k sh with
  | some j => a + (lengthAt k.st sh j a).getD 0
  | none => a

def loopBody : Body := fun sh i k => do
  let (w, k1) ← srcK sh tagPlace (opd i 0) k
  let le := if i.opn = 1 then i.after + i.sz else (opd i 1).val
  let x := getSh k1.st sh
  if x.ldepth = 3 then ktrap k1 cLoopDepth k.opc
  else
    let k2 := commitBps sh k1
    if w.val = 0 then .ok (⟨skipAt sh le k2, some i.pc⟩, k2)
    else
      let x := getSh k2.st sh
      let d := x.ldepth
      .ok (onward i, { k2 with st := setSh sh { x with
        ls := mset 0 x.ls d i.after, le := mset 0 x.le d le, lc := mset 0 x.lc d w.val, ldepth := d + 1 } k2.st })

/-- The repeat begins, or goes on, with n iterations to run; none skips the instruction. -/
def rptGo (sh : Nat) (i : Ins) (n : Nat) (k : KS) : Next × KS :=
  let x := getSh k.st sh
  if n = 0 then
    (⟨skipAt sh i.after k, some i.after⟩, { k with st := setSh sh { x with rpta := false, rptc := 0 } k.st })
  else (⟨i.after, none⟩, { k with st := setSh sh { x with rpta := true, rptc := n, rptPc := i.pc } k.st })

/-- The instruction after the prefix may not be repeated. -/
def rptTarget (sh : Nat) (i : Ins) (k : KS) : Bool :=
  match kJob k sh with
  | some j => match kFetch k.st sh j i.after with
    | some h => rptBarred (h / 64)
    | none => false
  | none => false

def rptBody : Body := fun sh i k =>
  let x := getSh k.st sh
  if x.rpta then .ok (rptGo sh i x.rptc k)
  else do
    let (w, k1) ← srcK sh tagPlace (opd i 0) k
    if rptTarget sh i k1 then ktrap k1 cRptTarget k.opc
    else if !x.rpti && decide (64 < w.val) then ktrap k1 cRptLimit k.opc
    else .ok (rptGo sh i w.val (commitBps sh k1))

def kLoop (sh wait : Nat) (s : State) : State := karefOp 0x50 sh wait loopBody s
def kRpt (sh wait : Nat) (s : State) : State := karefOp 0x51 sh wait rptBody s

/-! ### Traps and return (R231, R251) -/

def trapBody : Body := fun _ i k => ktrap k (0x20 + i.sz) k.opc

/-- The cause that a word of the trap frame raises when TRET takes it into a register port: TAG_RESERVED or POISON of a
read (R214), or the port's refusal of the tag (R216). (DEDUCED, log 110) -/
def frameCause (w : TW) : Option Nat :=
  match tagRead w.tag with
  | some c => some c
  | none => tagPlace w.tag

def tretBody : Body := fun sh i k =>
  let x := getSh k.st sh
  let w := fun a => mget {} x.priv a
  if !x.trapping then ktrap k cRetNotCode 0x7FFF
  else match tagRead (w 0x7FFF).tag with
  | some c => ktrap k c 0x7FFF
  | none =>
    if (w 0x7FFF).tag ≠ 5 then ktrap k cRetNotCode 0x7FFF
    else match [0x7FFC, 0x7FFD, 0x7FFE].find? (fun a => (frameCause (w a)).isSome) with
    | some a => ktrap k ((frameCause (w a)).getD 0) a
    | none =>
      let e := (w 0x7FFE).val
      let skip := decide (i.sz ≠ 0)
      .ok (⟨(w 0x7FFF).val + i.sz, none⟩, { k with st := setSh sh { x with
        v := bit e 3, c := bit e 2, n := bit e 1, z := bit e 0, rpta := bit e 9 && !skip
        rptc := if skip then 0 else (w 0x7FFC).val, gidx := (w 0x7FFD).val % 32
        trapping := false, tcause := 0, tinfo := 0 } k.st })

def kTrap (sh wait : Nat) (s : State) : State := karefOp 0x58 sh wait trapBody s
def kTret (sh wait : Nat) (s : State) : State := karefOp 0x59 sh wait tretBody s

/-! ### Engines (R252) -/

/-- The port base of the engine that SZ selects. -/
def engBase (i : Ins) : Nat := if i.sz % 2 = 1 then 0xF180 else 0xF100

/-- An operation is outstanding on the engine that SZ selects. -/
def engOut (i : Ins) (x : Shuttle) : Bool := if i.sz % 2 = 1 then x.ciOut else x.dgOut

/-- Whether one is. -/
def setOut (i : Ins) (b : Bool) (x : Shuttle) : Shuttle := if i.sz % 2 = 1 then { x with ciOut := b } else { x with dgOut := b }

def esubBody : Body := fun sh i k => do
  let (w, k1) ← srcK sh tagPlace (opd i 0) k
  let x := getSh k1.st sh
  if engOut i x then ktrap k1 cEngineFault (engBase i)
  else
    let k2 := commitBps sh k1
    let x := getSh k2.st sh
    let realm := (x.job.map Job.realm).getD 0
    let dl := (x.job.map Job.deadline).getD 0
    let ci := i.sz % 2 == 1
    let cmd := if isSteward sh then setDummy ci w.val else w.val
    let s1 := chanSubmit ci (shUnit sh) (shChan sh) cmd realm dl k2.st
    let s2 := setSh sh (setOut i true x) s1
    .ok (onward i, { k2 with st := s2 })

/-- EWAIT on an operation that faulted or was cleared, or where none is outstanding: none is, and the result ports read
POISON (R252). -/
def ewaitFault (sh : Nat) (i : Ins) (s : State) : State :=
  let ci := i.sz % 2 == 1
  let c := getChan s ci (shUnit sh) (shChan sh)
  let s1 := keyDropReqs (b2n ci) (shUnit sh) (shChan sh) s
  let s2 := setChan ci (shUnit sh) (shChan sh) { cnt := if engOut i (getSh s sh) then chanCount s ci c else c.cnt, poison := true } s1
  setSh sh (setOut i false (getSh s2 sh)) s2

def ewaitBody : Body := fun sh i k =>
  let x := getSh k.st sh
  let ci := i.sz % 2 == 1
  let c := getChan k.st ci (shUnit sh) (shChan sh)
  if !engOut i x then .error (.trap cEngineFault (engBase i) k.acc (some (ewaitFault sh i k.st)))
  else if c.fault || c.cleared || !c.fin then
    .error (.trap cEngineFault (engBase i) (useWait k).acc (some (ewaitFault sh i k.st)))
  else if !c.done then .error .blocked
  else do
    let k1 := useWait k
    let s1 := setChan ci (shUnit sh) (shChan sh) { c with busy := false } k1.st
    let k2 ← writeTo sh (opd i 0) ⟨0, c.status⟩ none { k1 with st := setSh sh (setOut i false (getSh s1 sh)) s1 }
    .ok (onward i, k2)

def kEsub (sh wait : Nat) (s : State) : State := karefOp 0x60 sh wait esubBody s
def kEwait (sh wait : Nat) (s : State) : State := karefOp 0x61 sh wait ewaitBody s

/-! ### Ledger read and trace output (R254) -/

/-- Write words as INT to consecutive addresses. -/
def writeRun (sh : Nat) : List Nat → Nat → KS → K KS
  | [], _, k => .ok k
  | w :: ws, a, k => do
    let k1 ← writeK sh (a % 65536) ⟨0, w⟩ k
    writeRun sh ws (a + 1) k1

/-- Every destination of LRD accepts INT. -/
def acceptRun : Nat → Nat → KS → K Unit
  | 0, _, _ => .ok ()
  | n + 1, a, k => do
    acceptK (a % 65536) 0 k
    acceptRun n (a + 1) k

/-- The command of a job depends on the image that it reads (R49). -/
def jobNeeds (j : Job) (s : State) : State :=
  { s with cmds := { s.cmds with admitted := s.cmds.admitted.map (fun d =>
    if d.id = j.cmd then needs d (imageFrame s j.slot) else d) } }

def lrdBody : Body := fun sh i k => do
  let (_, k1) ← srcK sh tagLref (opd i 1) k
  acceptRun 16 (opd i 0).val k1
  match kJob k1 sh with
  | none => .error .blocked
  | some j =>
    let k2 := commitBps sh (useWait k1)
    let k3 ← writeRun sh ((padTo 16 0 (imageAt k2.st j.slot)).map BitVec.toNat) (opd i 0).val
      { k2 with st := jobNeeds j (countRead j.slot k2.st) }
    .ok (onward i, k3)

def toutBody : Body := fun sh i k => do
  let (w, k1) ← srcK sh tagPlace (opd i 0) k
  let k2 := commitBps sh k1
  .ok (onward i, { k2 with st := toutMsg sh i.sz w k2.st })

def kLrd (sh wait : Nat) (s : State) : State := karefOp 0x68 sh wait lrdBody s
def kTout (sh wait : Nat) (s : State) : State := karefOp 0x70 sh wait toutBody s

/-! ### Reserved opcodes (R237) -/

/-- RESERVED_OPCODE: the operand stage completes, and the vector of cause 1 is taken. -/
def kReserved (sh wait : Nat) (s : State) : State :=
  karefRow (fun o => (opInfo o).isNone) sh wait nopBody s

/-! ### Interrupts (R232) -/

/-- A source is due on the steward side: pending, not in service, and routed to the stewards. (DEDUCED, log 52) -/
def stewardDue (s : State) (n : Nat) : Bool :=
  s.ic.pendSteward.getLsbD n && !s.ic.insvcSteward.getLsbD n && bit (icRoute s n) 14 &&
    (srcKind n == .event || srcKind n == .level)

/-- STEWARD_INTERRUPT: cause 0x0F between instructions, between iterations of an interruptible repeat, or between elements
of a GATHER, whose address and next element are saved (R232, R248); a handler that runs is not interrupted. (DESIGN CHOICE, log 134) -/
def stewardInterrupt (sh source : Nat) (s : State) : State :=
  let x := getSh s sh
  match x.job with
  | none => s
  | some j =>
    if !isSteward sh || !shuttleRuns s sh || x.trapping || (x.rpta && !x.rpti) || !stewardDue s source then s
    else
      let s1 := { s with ic := { s.ic with pendSteward := s.ic.pendSteward &&& ~~~ srcBit source
                                           insvcSteward := s.ic.insvcSteward ||| srcBit source } }
      let i : Ins := { head := (kFetch s sh j x.pc).getD 0, pc := x.pc, len := (lengthAt s sh j x.pc).getD 0, after := x.pc }
      takeTrap sh cInterrupt source i 0 true (if x.rpta then x.rptPc else x.pc) s1

end Sys2Proof.Machine
end

