-- ==== Sys2Proof/Machine/Serve.lean ====
section
/-! DEFINITION. How a row's effect becomes a step: what comes about by itself follows it, activities of the units need
them alive, and an event that comes by lapse of time lets that time pass first. -/

namespace Sys2Proof.Machine

/-- The outcome of a row. -/
abbrev Answer := Host.Outcome State Fault Refusal

/-- An event from outside: it takes effect, and what follows by itself follows. -/
def answer (f : State → State) (s : State) : Answer := .next (settle (f s))

/-- An activity of the part: nothing where the units do not run. -/
def serve (f : State → State) (s : State) : Answer := .next (settle (if alive s then f s else s))

/-- An event after dt µs. (DESIGN CHOICE, log 3; DESIGN CHOICE, log 4) -/
def lapse (dt : Nat) (f : State → State) (s : State) : Answer := answer f (passTime dt s)

/-- An activity of the part after dt µs. -/
def lapseServe (dt : Nat) (f : State → State) (s : State) : Answer := serve f (passTime dt s)

/-- An event of a lane that exists. -/
def onRealLane (l : Nat) (f : State → State) (s : State) : State := if l < 64 then f s else s

/-- LANE_PHY_DISABLE: LN_PHY_CTRL of a lane is written through the indirect window with ENABLE 0 (R381, R422). -/
def lanePhyOff (l word : Nat) (s : State) : State :=
  if l < 64 ∧ barOpen s 0 = true then
    hostWrite 0 .bar0 0x2008 (word / 2 * 2) { s with host := { s.host with indAddr := 0x100054 + 0x100 * l } }
  else s

end Sys2Proof.Machine
end

