-- ==== Sys2Proof/Machine/RowsCard.lean ====
section
/-! DEFINITION. The meaning of each row of the custody bus: one definition a row, named after it. -/

namespace Sys2Proof.Machine

/-- CARD_INSERTION (R393): A falling edge of CC_PRES_N starts a roll-call round. -/
def execCardInsertion (s : State) : Host.Outcome State Fault Refusal :=
  answer cardInsertion s

/-- CARD_REMOVAL_ALL (R393): A rising edge of CC_PRES_N removes every card. -/
def execCardRemovalAll (s : State) : Host.Outcome State Fault Refusal :=
  answer cardRemovalAll s

/-- ROLL_CALL_ROUND (R389): A roll-call round names unnamed cards through ROLL slots and NAME calls. -/
def execRollCallRound (dt : Nat) (frames : List (Nat × List Byte × List Byte)) (s : State) :
    Host.Outcome State Fault Refusal :=
  lapseServe dt (rollCall frames) s

/-- CARD_POLL (R393): Every 100 µs each named card is PINGed and missing cards removed. -/
def execCardPoll (dt : Nat) (answers : List (Nat × List Byte)) (s : State) : Host.Outcome State Fault Refusal :=
  lapseServe dt (cardPoll answers) s

/-- CARD_BLOCK_TRANSFER (R390): A FETCH or STORE exchange of a data block with a card completes with its receipt. -/
def execCardBlockTransfer (addr : Nat) (kind : Nat) (answer : List Byte) (data : List Byte) (s : State) :
    Host.Outcome State Fault Refusal :=
  serve (blockTransfer addr kind answer data) s

/-- CARD_HOLD_END (R390): A card releases CC_DAT3 after writing a stored block. -/
def execCardHoldEnd (s : State) : Host.Outcome State Fault Refusal :=
  answer cardHoldEnd s

/-- CARD_DEBIT (R400): Once PREPARE is durable, DEBIT is stored and the card's STATE decides COMMIT or refusal. -/
def execCardDebit (cmd : Nat) (s : State) : Host.Outcome State Fault Refusal :=
  serve (onCmd 0x72 cmd cardDebit) s

/-- CARD_FINISH (R400): Once COMMIT is durable, FINISH is stored and the pending transaction closes. -/
def execCardFinish (s : State) : Host.Outcome State Fault Refusal :=
  serve cardFinish s

/-- CARD_RESOLVE (R402): A pending card transaction is resolved by RESTORE, FINISH or close when its card is found
present. -/
def execCardResolve (index : Nat) (s : State) : Host.Outcome State Fault Refusal :=
  serve (cardResolve index) s

/-- APPROVAL_EXPIRY (R396): An unused RETIRE_SLOT or DRAW approval expires after 60 s of READY service. -/
def execApprovalExpiry (dt : Nat) (s : State) : Host.Outcome State Fault Refusal :=
  lapseServe dt approvalExpiry s

end Sys2Proof.Machine
end

