-- ==== Sys2Proof/Machine/RowsCells.lean ====
section
/-! DEFINITION. The meaning of each row of jobs, engines and the key store: one definition a row, named after it. -/

namespace Sys2Proof.Machine

/-- JOB_START (R255): A free shuttle takes the earliest-deadline job of its queues and starts it at its entry. -/
def execJobStart (heddle : Nat) (shuttle : Nat) (s : State) : Host.Outcome State Fault Refusal :=
  serve (jobStart heddle shuttle) s

/-- CYCLE_BUDGET_EXHAUSTED (R232): An applet job's cycle budget reaches 0 and the job ends with APPLET_TIMEOUT. -/
def execCycleBudgetExhausted (sh : Nat) (s : State) : Host.Outcome State Fault Refusal :=
  serve (budgetOut sh) s

/-- STEWARD_INTERRUPT (R232): An interrupt is taken on a steward shuttle as cause INTERRUPT. -/
def execStewardInterrupt (sh : Nat) (source : Nat) (s : State) : Host.Outcome State Fault Refusal :=
  serve (stewardInterrupt sh source) s

/-- LOCK_GRANT (R282): A job waiting on a hardware lock is granted it in deadline order. -/
def execLockGrant (heddle : Nat) (realm : Nat) (k : Nat) (s : State) : Host.Outcome State Fault Refusal :=
  serve (lockGrant heddle realm k) s

/-- LR_READ_DONE (R253): A ledger read started by an LREF write completes and fills the ledger-read ports. -/
def execLrReadDone (sh : Nat) (s : State) : Host.Outcome State Fault Refusal :=
  serve (lrReadDone sh) s

/-- ENGINE_BLOCK_DONE (R323): An engine core finishes one block of one channel and takes the next ready block. -/
def execEngineBlockDone (unit : Nat) (isCipher : Bool) (s : State) : Host.Outcome State Fault Refusal :=
  serve (engineBlock unit isCipher) s

/-- ENGINE_OP_DONE (R333): A digest or cipher operation completes and its status and results become readable. -/
def execEngineOpDone (unit : Nat) (isCipher : Bool) (ch : Nat) (s : State) : Host.Outcome State Fault Refusal :=
  serve (engineOp unit isCipher ch) s

/-- SIGNATURE_OP_DONE (R343): A signature engine finishes a sign or verify operation. -/
def execSignatureOpDone (sg : Nat) (s : State) : Host.Outcome State Fault Refusal :=
  serve (signatureDone sg) s

/-- KEY_DELIVERY (R310): The key bus completes a delivery or denial to an engine after arbitration, check and
transfer. -/
def execKeyDelivery (s : State) : Host.Outcome State Fault Refusal :=
  serve keyDelivery s

/-- ENGINE_CLEAR (R345): An integrity, parity or comparator fault clears an engine channel and re-runs a dispatcher
operation. -/
def execEngineClear (kind : Nat) (unit : Nat) (ch : Nat) (s : State) : Host.Outcome State Fault Refusal :=
  serve (engineClear kind unit ch) s

/-- REMASK_STEP (R309): The key store re-masks the next slot with a fresh DRBG mask. -/
def execRemaskStep (dt : Nat) (s : State) : Host.Outcome State Fault Refusal :=
  lapseServe dt remaskStep s

/-- DRBG_HEALTH_FAILURE (R297): An entropy health test fails, clearing DRBG_OK and raising L3. -/
def execDrbgHealthFailure (s : State) : Host.Outcome State Fault Refusal :=
  serve drbgFail s

/-- REENROL (R293): Background re-enrolment reads the PUF 31 times and writes new helper data. -/
def execReenrol (dt : Nat) (cells : List Byte) (s : State) : Host.Outcome State Fault Refusal :=
  lapseServe dt (reenrol cells) s

/-- SCRUBBER_ERROR (R214): The memory scrubber finds an uncorrectable error and marks the word POISON. -/
def execScrubberError (kind : Nat) (n : Nat) (addr : Nat) (s : State) : Host.Outcome State Fault Refusal :=
  answer (scrubberError kind n addr) s

end Sys2Proof.Machine
end

