-- ==== Sys2Proof/Machine/RowsHost.lean ====
section
/-! DEFINITION. The meaning of each row of the opcodes that host software sends (chapters 01 to 05, 08 to 13): one
definition a row, named after it. -/

namespace Sys2Proof.Machine

/-- ECHO (R175): Command that returns its parameter words W8–W14 unchanged in the reply. -/
def execEcho (cmd : Nat) (s : State) : Host.Outcome State Fault Refusal :=
  serve (onCmd 0x01 cmd echo) s

/-- GET_CAPABILITY (R139): Command that writes the 256-byte capability record to a host window and returns START_NO
and CHANGE. -/
def execGetCapability (cmd : Nat) (s : State) : Host.Outcome State Fault Refusal :=
  serve (onCmd 0x02 cmd getCapability) s

/-- LEDGER_RESERVE (R31): Command that takes the head slot of the free pool into RESERVED for the caller's realm
within quota. -/
def execLedgerReserve (cmd : Nat) (s : State) : Host.Outcome State Fault Refusal :=
  serve (onCmd 0x10 cmd ledgerReserve) s

/-- LEDGER_CONFIRM (R31): Command that moves a RESERVED print record or an UNCONFIRMED record to ISSUED. -/
def execLedgerConfirm (cmd : Nat) (s : State) : Host.Outcome State Fault Refusal :=
  serve (onLooked 0x11 cmd ledgerConfirm) s

/-- LEDGER_VOID (R31): Command that moves a RESERVED, UNCONFIRMED, ISSUED or ACTIVE record to VOID. -/
def execLedgerVoid (cmd : Nat) (s : State) : Host.Outcome State Fault Refusal :=
  serve (onLooked 0x12 cmd ledgerVoid) s

/-- LEDGER_READ (R166): Command that returns one record image to an OUT descriptor. -/
def execLedgerRead (cmd : Nat) (s : State) : Host.Outcome State Fault Refusal :=
  serve (onLooked 0x13 cmd ledgerRead) s

/-- LEDGER_GATHER (R167): Command that reads up to 16 records named by an IN list and returns per-element outcome
codes. -/
def execLedgerGather (cmd : Nat) (s : State) : Host.Outcome State Fault Refusal :=
  serve (onLooked 0x14 cmd ledgerGather) s

/-- LEDGER_RELEASE (R31): Command that frees or retires an ended record, or retires a quarantined slot under custody
approval. -/
def execLedgerRelease (cmd : Nat) (s : State) : Host.Outcome State Fault Refusal :=
  serve (onLooked 0x15 cmd ledgerRelease) s

/-- REALM_REBASE (R42): Command that sets the current epoch base or advances the realm to its next epoch. -/
def execRealmRebase (cmd : Nat) (s : State) : Host.Outcome State Fault Refusal :=
  serve (onCmd 0x16 cmd realmRebase) s

/-- TXN_QUERY (R96): Command that looks up the caller's commit of a tag in the outcome store once in-flight frames are
durable. -/
def execTxnQuery (cmd : Nat) (s : State) : Host.Outcome State Fault Refusal :=
  serve (onCmd 0x17 cmd txnQuery) s

/-- ISSUE (R170): Command that composes a credential for a RESERVED record and emits it to the host or hands it to a
lane. -/
def execIssue (cmd : Nat) (s : State) : Host.Outcome State Fault Refusal :=
  serve (onLooked 0x20 cmd issueEnd) s

/-- VALIDATE (R35): Command that checks a presented credential against its record without committing anything. -/
def execValidate (cmd : Nat) (s : State) : Host.Outcome State Fault Refusal :=
  serve (onLooked 0x21 cmd validateEnd) s

/-- VALIDATE_CONSUME (R35): Command that checks a credential and commits one consumption, or EXPIRED or VOID as found.
-/
def execValidateConsume (cmd : Nat) (s : State) : Host.Outcome State Fault Refusal :=
  serve (onLooked 0x22 cmd validateEnd) s

/-- REVALIDATE (R169): Command that checks a credential without the reuse gap and commits nothing. -/
def execRevalidate (cmd : Nat) (s : State) : Host.Outcome State Fault Refusal :=
  serve (onLooked 0x23 cmd validateEnd) s

/-- MAC_GENERATE (R171): Command that computes an HMAC over host data under a key slot. -/
def execMacGenerate (cmd : Nat) (s : State) : Host.Outcome State Fault Refusal :=
  serve (onCmd 0x30 cmd cryptoEnd) s

/-- MAC_VERIFY (R171): Command that verifies an expected HMAC over host data under a key slot. -/
def execMacVerify (cmd : Nat) (s : State) : Host.Outcome State Fault Refusal :=
  serve (onCmd 0x31 cmd cryptoEnd) s

/-- CIPHER (R171): Command that runs AES in CBC, CTR, CFB-128, OFB or CMAC over host data. -/
def execCipher (cmd : Nat) (s : State) : Host.Outcome State Fault Refusal :=
  serve (onCmd 0x32 cmd cryptoEnd) s

/-- SIGN (R171): Command that produces an ECDSA P-256 or Ed25519 signature over host data. -/
def execSign (cmd : Nat) (s : State) : Host.Outcome State Fault Refusal :=
  serve (onCmd 0x33 cmd cryptoEnd) s

/-- SIG_VERIFY (R171): Command that verifies an ECDSA P-256 or Ed25519 signature. -/
def execSigVerify (cmd : Nat) (s : State) : Host.Outcome State Fault Refusal :=
  serve (onCmd 0x34 cmd cryptoEnd) s

/-- DIGEST (R171): Command that computes SHA-256, SHA-384 or SHA-512 of host data. -/
def execDigest (cmd : Nat) (s : State) : Host.Outcome State Fault Refusal :=
  serve (onCmd 0x35 cmd cryptoEnd) s

/-- ASSIGN (R306): KEY_UPDATE operation that gives a key slot a new owner realm and family. -/
def execAssign (cmd : Nat) (s : State) : Host.Outcome State Fault Refusal :=
  serve (onCmd 0x40 cmd (keyUpdate 1)) s

/-- INSTALL (R306): KEY_UPDATE operation that unwraps and installs key material into an ASSIGNED slot. -/
def execInstall (cmd : Nat) (s : State) : Host.Outcome State Fault Refusal :=
  serve (onCmd 0x40 cmd (keyUpdate 2)) s

/-- PROMOTE (R306): KEY_UPDATE operation that makes a slot's KEY_GEN the current generation of its family. -/
def execPromote (cmd : Nat) (s : State) : Host.Outcome State Fault Refusal :=
  serve (onCmd 0x40 cmd (keyUpdate 3)) s

/-- ATTRS (R306): KEY_UPDATE operation that reduces a LIVE slot's attributes. -/
def execAttrs (cmd : Nat) (s : State) : Host.Outcome State Fault Refusal :=
  serve (onCmd 0x40 cmd (keyUpdate 4)) s

/-- KEY_INFO (R307): Command that returns a slot's attribute word, descriptor, KEY_GEN, counter and key length. -/
def execKeyInfo (cmd : Nat) (s : State) : Host.Outcome State Fault Refusal :=
  serve (onCmd 0x41 cmd keyInfo) s

/-- ATTEST (R318): Command that writes a MAC-signed attestation response binding challenge, identity, lifecycle and
capability hash. -/
def execAttest (cmd : Nat) (s : State) : Host.Outcome State Fault Refusal :=
  serve (onCmd 0x42 cmd attest) s

/-- KEY_RETIRE (R307): Command that zeroises a slot and marks it RETIRED or SATURATED. -/
def execKeyRetire (cmd : Nat) (s : State) : Host.Outcome State Fault Refusal :=
  serve (onCmd 0x43 cmd keyRetire) s

/-- APPLET_LOAD (R268): Command that verifies a signed applet image and loads it into an inactive bank. -/
def execAppletLoad (cmd : Nat) (s : State) : Host.Outcome State Fault Refusal :=
  serve (onCmd 0x50 cmd appletLoad) s

/-- APPLET_BANK_WRITE (R269): Once no job of the bank runs, frees its blocks, writes the image to the store and
heddles and appends the bank entry. -/
def execAppletBankWrite (cmd : Nat) (s : State) : Host.Outcome State Fault Refusal :=
  serve (onCmd 0x50 cmd appletBankWrite) s

/-- APPLET_ACTIVATE (R271): Command that makes a loaded bank the realm's active bank. -/
def execAppletActivate (cmd : Nat) (s : State) : Host.Outcome State Fault Refusal :=
  serve (onCmd 0x51 cmd appletActivate) s

/-- APPLET_INFO (R172): Command that returns the realm's bank states, generations and active image hash. -/
def execAppletInfo (cmd : Nat) (s : State) : Host.Outcome State Fault Refusal :=
  serve (onCmd 0x52 cmd appletInfo) s

/-- MODE_ARM (R275): Command that arms a new mode word for the next mode generation. -/
def execModeArm (cmd : Nat) (s : State) : Host.Outcome State Fault Refusal :=
  serve (onCmd 0x58 cmd modeArm) s

/-- MODE_FLIP (R275): Command that commits the armed mode word as the realm's current mode generation. -/
def execModeFlip (cmd : Nat) (s : State) : Host.Outcome State Fault Refusal :=
  serve (onCmd 0x59 cmd modeFlip) s

/-- MODE_FLIP_DEADLINE (R276): 1 ms after a flip, shuttles that have not applied the word are removed and the reply is
written. -/
def execModeFlipDeadline (dt : Nat) (cmd : Nat) (s : State) : Host.Outcome State Fault Refusal :=
  lapseServe dt (onCmd 0x59 cmd modeFlipDeadline) s

/-- LANE_OPEN (R379): Command that opens a closed lane, sets SEQ to 1 and starts a bring-up. -/
def execLaneOpen (cmd : Nat) (s : State) : Host.Outcome State Fault Refusal :=
  serve (onCmd 0x60 cmd laneOpenCmd) s

/-- LANE_SEND (R173): Command that places a DATA frame, optionally timed, into a lane place. -/
def execLaneSend (cmd : Nat) (s : State) : Host.Outcome State Fault Refusal :=
  serve (onCmd 0x61 cmd laneSend) s

/-- LANE_STATUS (R173): Command that returns a lane's link state, version, acknowledgement, failure and place figures.
-/
def execLaneStatus (cmd : Nat) (s : State) : Host.Outcome State Fault Refusal :=
  serve (onCmd 0x62 cmd laneStatusCmd) s

/-- LANE_CLOSE (R379): Command that puts a lane into CLOSING to drain its places for up to 40 ms. -/
def execLaneClose (cmd : Nat) (s : State) : Host.Outcome State Fault Refusal :=
  serve (onCmd 0x63 cmd laneCloseCmd) s

/-- LANE_CLOSE_ABORT (R379): LANE_CLOSE with ABORT that discards every held frame at once and closes the lane. -/
def execLaneCloseAbort (cmd : Nat) (s : State) : Host.Outcome State Fault Refusal :=
  serve (onCmd 0x63 cmd laneAbortCmd) s

/-- CARD_ENUMERATE (R396): Command that reads STATE from every present card and writes the custody table view to OUT.
-/
def execCardEnumerate (cmd : Nat) (s : State) : Host.Outcome State Fault Refusal :=
  serve (onCmd 0x70 cmd cardEnumerate) s

/-- ENROL (R395): CARD_APPROVE operation that pairs and enrols the first custody quorum. -/
def execEnrol (cmd : Nat) (s : State) : Host.Outcome State Fault Refusal :=
  serve (onCmd 0x71 cmd (cardApprove 1)) s

/-- KEK_LOAD (R395): CARD_APPROVE operation that forms realm 0's KEK from approving cards' components and installs it.
-/
def execKekLoad (cmd : Nat) (s : State) : Host.Outcome State Fault Refusal :=
  serve (onCmd 0x71 cmd (cardApprove 2)) s

/-- PROVISION (R20): CARD_APPROVE operation that moves the lifecycle from UNPROVISIONED to PROVISIONED. -/
def execProvision (cmd : Nat) (s : State) : Host.Outcome State Fault Refusal :=
  serve (onCmd 0x71 cmd (cardApprove 3)) s

/-- DECOMMISSION (R317): CARD_APPROVE operation that fuses DECOMMISSIONED and destroys the ledger and slot keys. -/
def execDecommission (cmd : Nat) (s : State) : Host.Outcome State Fault Refusal :=
  serve (onCmd 0x71 cmd (cardApprove 4)) s

/-- RETIRE_SLOT (R395): CARD_APPROVE operation that grants an approval for one quarantine retirement. -/
def execRetireSlot (cmd : Nat) (s : State) : Host.Outcome State Fault Refusal :=
  serve (onCmd 0x71 cmd (cardApprove 5)) s

/-- DRAW (R395): CARD_APPROVE operation that grants an approval for one CARD_QUOTA_DRAW. -/
def execDraw (cmd : Nat) (s : State) : Host.Outcome State Fault Refusal :=
  serve (onCmd 0x71 cmd (cardApprove 6)) s

/-- SCUTTLE_POLICY (R440): CARD_APPROVE operation that replaces the scuttle conditions. -/
def execScuttlePolicy (cmd : Nat) (s : State) : Host.Outcome State Fault Refusal :=
  serve (onCmd 0x71 cmd (cardApprove 7)) s

/-- CARD_ADD (R395): CARD_APPROVE operation that pairs and enrols further present cards. -/
def execCardAdd (cmd : Nat) (s : State) : Host.Outcome State Fault Refusal :=
  serve (onCmd 0x71 cmd (cardApprove 8)) s

/-- CARD_REVOKE (R395): CARD_APPROVE operation that removes a custody-table entry and drops its pending transaction.
-/
def execCardRevoke (cmd : Nat) (s : State) : Host.Outcome State Fault Refusal :=
  serve (onCmd 0x71 cmd (cardApprove 9)) s

/-- SET_THRESHOLD (R395): CARD_APPROVE operation that sets the quorum threshold M. -/
def execSetThreshold (cmd : Nat) (s : State) : Host.Outcome State Fault Refusal :=
  serve (onCmd 0x71 cmd (cardApprove 10)) s

/-- SET_CUSTODY (R397): CARD_APPROVE operation that sets a realm's APPROVE_MASK and DEBIT. -/
def execSetCustody (cmd : Nat) (s : State) : Host.Outcome State Fault Refusal :=
  serve (onCmd 0x71 cmd (cardApprove 11)) s

/-- QUOTA (R46): CARD_QUOTA_DRAW form that sets a realm's ledger QUOTA, with a card debit when required. -/
def execQuota (cmd : Nat) (s : State) : Host.Outcome State Fault Refusal :=
  serve (onCmd 0x72 cmd drawQuota) s

/-- SHARE (R122): CARD_QUOTA_DRAW form that sets a realm's share of one admission resource. -/
def execShare (cmd : Nat) (s : State) : Host.Outcome State Fault Refusal :=
  serve (onCmd 0x72 cmd drawShare) s

/-- LANE_BIND (R15): CARD_QUOTA_DRAW form that binds a closed lane to a realm or unbinds it. -/
def execLaneBind (cmd : Nat) (s : State) : Host.Outcome State Fault Refusal :=
  serve (onCmd 0x72 cmd drawLane) s

/-- HEDDLE_GRANT (R273): CARD_QUOTA_DRAW form that grants or revokes a device heddle for placement. -/
def execHeddleGrant (cmd : Nat) (s : State) : Host.Outcome State Fault Refusal :=
  serve (onCmd 0x72 cmd drawHeddle) s

/-- FLUSH (R176): Command that ends unfetched and undecided packets of named pairs with FLUSHED. -/
def execFlush (cmd : Nat) (s : State) : Host.Outcome State Fault Refusal :=
  serve (onCmd 0x80 cmd flushEnd) s

/-- FIRMWARE_STAGE (R465): Command that writes one part of a firmware image into the non-running slot and checks it
after LAST. -/
def execFirmwareStage (cmd : Nat) (s : State) : Host.Outcome State Fault Refusal :=
  serve (onCmd 0x81 cmd firmwareStage) s

/-- FIRMWARE_ACTIVATE (R464): Command that raises the staged slot's ACT_SEQ in QUIESCED. -/
def execFirmwareActivate (cmd : Nat) (s : State) : Host.Outcome State Fault Refusal :=
  serve (onCmd 0x82 cmd firmwareActivate) s

/-- FIRMWARE_RESTART (R464): Once the ACT_SEQ write is durable, the steward shuttles restart from the staged slot. -/
def execFirmwareRestart (s : State) : Host.Outcome State Fault Refusal :=
  serve firmwareRestart s

/-- QUIESCE (R22): Command that moves the device to QUIESCING. -/
def execQuiesce (cmd : Nat) (s : State) : Host.Outcome State Fault Refusal :=
  serve (onCmd 0x83 cmd serviceEnd) s

/-- RESUME (R22): Command that returns a quiescing or quiesced device to READY or READ_ONLY. -/
def execResume (cmd : Nat) (s : State) : Host.Outcome State Fault Refusal :=
  serve (onCmd 0x84 cmd serviceEnd) s

/-- LOG_READ (R484): Command that copies event-log entries in index order to OUT. -/
def execLogRead (cmd : Nat) (s : State) : Host.Outcome State Fault Refusal :=
  serve (onCmd 0x90 cmd logRead) s

/-- COUNTERS_READ (R480): Command that writes a range of event counters taken at one edge to OUT. -/
def execCountersRead (cmd : Nat) (s : State) : Host.Outcome State Fault Refusal :=
  serve (onCmd 0x91 cmd countersRead) s

/-- COMPACT_NOW (R92): Command that starts compaction at once and returns the replay-span size. -/
def execCompactNow (cmd : Nat) (s : State) : Host.Outcome State Fault Refusal :=
  serve (onCmd 0xA0 cmd compactNow) s

end Sys2Proof.Machine
end

