-- ==== Sys2Proof/Machine/RowsJournal.lean ====
section
/-! DEFINITION. The meaning of each row of the journal, compaction and the ledger's background work: one definition a
row, named after it. -/

namespace Sys2Proof.Machine

/-- JOURNAL_TICK (R80): Every 12,000 CK_CORE cycles the open journal frame closes if not empty. -/
def execJournalTick (dt : Nat) (s : State) : Host.Outcome State Fault Refusal :=
  lapseServe dt (fun t => heldAdvance (journalTick t)) s

/-- FRAME_SEAL (R81): Completion of a closed frame's encryption and FRAME_MAC. -/
def execFrameSeal (s : State) : Host.Outcome State Fault Refusal :=
  answer frameSeal s

/-- FRAME_PROGRAM (R81): Completion of a frame's write and read-back verify in the journal ring. -/
def execFrameProgram (s : State) : Host.Outcome State Fault Refusal :=
  answer frameProgram s

/-- FRAME_ANCHOR (R82): The anchor cell is written in FRAME_NO order, making the frame durable and releasing its
replies. -/
def execFrameAnchor (s : State) : Host.Outcome State Fault Refusal :=
  answer frameAnchor s

/-- REALM_TABLE_COPY_WRITE (R91): A realm-table copy is written in turn, applying REALM and CARD entries. -/
def execRealmTableCopyWrite (s : State) : Host.Outcome State Fault Refusal :=
  serve realmCopyWrite s

/-- DIRECTORY_COPY_WRITE (R315): A key-slot directory copy is written in turn, applying KEY entries. -/
def execDirectoryCopyWrite (s : State) : Host.Outcome State Fault Refusal :=
  serve dirCopyWrite s

/-- BATCH_OPEN (R87): Compaction takes a batch number, builds page images and appends BATCH OPEN and SWITCH entries.
-/
def execBatchOpen (failed : List Nat) (s : State) : Host.Outcome State Fault Refusal :=
  serve (batchOpen failed) s

/-- BATCH_STAGE_WRITE (R87): Once OPEN is durable, shadow pages, nodes and staged upper nodes are written. -/
def execBatchStageWrite (s : State) : Host.Outcome State Fault Refusal :=
  serve batchStage s

/-- BATCH_COMMIT (R87): Once staging is durable, BATCH COMMIT is appended and its anchor carries the new root. -/
def execBatchCommit (s : State) : Host.Outcome State Fault Refusal :=
  serve batchCommit s

/-- BATCH_COPY_BACK (R87): After the COMMIT anchor, shadows and staged nodes are copied to their home addresses. -/
def execBatchCopyBack (s : State) : Host.Outcome State Fault Refusal :=
  serve batchCopy s

/-- BATCH_DONE (R87): Once copy-back is durable and earlier batches are done, BATCH DONE is appended and overlay
entries removed. -/
def execBatchDone (s : State) : Host.Outcome State Fault Refusal :=
  serve batchDone s

/-- HOLD_TIMER_EXPIRY (R38): A RESERVED or UNCONFIRMED record reaching its deadline is committed VOID by the hold
timer. -/
def execHoldTimerExpiry (dt : Nat) (slot : Nat) (s : State) : Host.Outcome State Fault Refusal :=
  lapseServe dt (holdTimer slot) s

/-- EXPIRY_SWEEP (R45): The sweep visits its next slot, applying timeouts and committing EXPIRED. -/
def execExpirySweep (dt : Nat) (pageFailed : Bool) (s : State) : Host.Outcome State Fault Refusal :=
  lapseServe dt (sweepOne pageFailed) s

/-- FREE_POOL_PREFETCH (R47): The ledger unit reads and checks slots near the free-pool head ahead of use. -/
def execFreePoolPrefetch (pageFailed : Bool) (s : State) : Host.Outcome State Fault Refusal :=
  serve (prefetchOne pageFailed) s

end Sys2Proof.Machine
end

