-- ==== Sys2Proof/Machine/RowsKaref.lean ====
section
/-! DEFINITION. The meaning of each row of the instructions of the Karef: one definition a row, named after it. -/

namespace Sys2Proof.Machine

/-- NOP (R243): Karef instruction that does nothing. -/
def execNop (sh : Nat) (wait : Nat) (s : State) : Host.Outcome State Fault Refusal :=
  serve (kNop sh wait) s

/-- MOV (R243): Karef instruction that copies a word with its tag. -/
def execMov (sh : Nat) (wait : Nat) (s : State) : Host.Outcome State Fault Refusal :=
  serve (kMov sh wait) s

/-- CLR (R243): Karef instruction that writes INT 0. -/
def execClr (sh : Nat) (wait : Nat) (s : State) : Host.Outcome State Fault Refusal :=
  serve (kClr sh wait) s

/-- TAGOF (R243): Karef instruction that writes the tag of its source as INT. -/
def execTagof (sh : Nat) (wait : Nat) (s : State) : Host.Outcome State Fault Refusal :=
  serve (kTagof sh wait) s

/-- ADD (R244): Karef addition. -/
def execAdd (sh : Nat) (wait : Nat) (s : State) : Host.Outcome State Fault Refusal :=
  serve (kAdd sh wait) s

/-- ADC (R244): Karef addition with carry. -/
def execAdc (sh : Nat) (wait : Nat) (s : State) : Host.Outcome State Fault Refusal :=
  serve (kAdc sh wait) s

/-- SUB (R244): Karef subtraction. -/
def execSub (sh : Nat) (wait : Nat) (s : State) : Host.Outcome State Fault Refusal :=
  serve (kSub sh wait) s

/-- SBC (R244): Karef subtraction with borrow. -/
def execSbc (sh : Nat) (wait : Nat) (s : State) : Host.Outcome State Fault Refusal :=
  serve (kSbc sh wait) s

/-- NEG (R244): Karef negation. -/
def execNeg (sh : Nat) (wait : Nat) (s : State) : Host.Outcome State Fault Refusal :=
  serve (kNeg sh wait) s

/-- MUL (R244): Karef multiply, low 16 bits. -/
def execMul (sh : Nat) (wait : Nat) (s : State) : Host.Outcome State Fault Refusal :=
  serve (kMul sh wait) s

/-- MULHU (R244): Karef unsigned multiply, high 16 bits. -/
def execMulhu (sh : Nat) (wait : Nat) (s : State) : Host.Outcome State Fault Refusal :=
  serve (kMulhu sh wait) s

/-- MULHS (R244): Karef signed multiply, high 16 bits. -/
def execMulhs (sh : Nat) (wait : Nat) (s : State) : Host.Outcome State Fault Refusal :=
  serve (kMulhs sh wait) s

/-- DIVU (R244): Karef unsigned divide. -/
def execDivu (sh : Nat) (wait : Nat) (s : State) : Host.Outcome State Fault Refusal :=
  serve (kDivu sh wait) s

/-- DIVS (R244): Karef signed divide. -/
def execDivs (sh : Nat) (wait : Nat) (s : State) : Host.Outcome State Fault Refusal :=
  serve (kDivs sh wait) s

/-- REMU (R244): Karef unsigned remainder. -/
def execRemu (sh : Nat) (wait : Nat) (s : State) : Host.Outcome State Fault Refusal :=
  serve (kRemu sh wait) s

/-- REMS (R244): Karef signed remainder. -/
def execRems (sh : Nat) (wait : Nat) (s : State) : Host.Outcome State Fault Refusal :=
  serve (kRems sh wait) s

/-- AND (R245): Karef bitwise AND. -/
def execAnd (sh : Nat) (wait : Nat) (s : State) : Host.Outcome State Fault Refusal :=
  serve (kAnd sh wait) s

/-- OR (R245): Karef bitwise OR. -/
def execOr (sh : Nat) (wait : Nat) (s : State) : Host.Outcome State Fault Refusal :=
  serve (kOr sh wait) s

/-- XOR (R245): Karef bitwise XOR. -/
def execXor (sh : Nat) (wait : Nat) (s : State) : Host.Outcome State Fault Refusal :=
  serve (kXor sh wait) s

/-- ANDN (R245): Karef AND with complement. -/
def execAndn (sh : Nat) (wait : Nat) (s : State) : Host.Outcome State Fault Refusal :=
  serve (kAndn sh wait) s

/-- NOT (R245): Karef bitwise complement. -/
def execNot (sh : Nat) (wait : Nat) (s : State) : Host.Outcome State Fault Refusal :=
  serve (kNot sh wait) s

/-- LSL (R245): Karef logical shift left. -/
def execLsl (sh : Nat) (wait : Nat) (s : State) : Host.Outcome State Fault Refusal :=
  serve (kLsl sh wait) s

/-- LSR (R245): Karef logical shift right. -/
def execLsr (sh : Nat) (wait : Nat) (s : State) : Host.Outcome State Fault Refusal :=
  serve (kLsr sh wait) s

/-- ASR (R245): Karef arithmetic shift right. -/
def execAsr (sh : Nat) (wait : Nat) (s : State) : Host.Outcome State Fault Refusal :=
  serve (kAsr sh wait) s

/-- ROL (R245): Karef rotate left. -/
def execRol (sh : Nat) (wait : Nat) (s : State) : Host.Outcome State Fault Refusal :=
  serve (kRol sh wait) s

/-- ROR (R245): Karef rotate right. -/
def execRor (sh : Nat) (wait : Nat) (s : State) : Host.Outcome State Fault Refusal :=
  serve (kRor sh wait) s

/-- BFEXT (R246): Karef bit-field extract. -/
def execBfext (sh : Nat) (wait : Nat) (s : State) : Host.Outcome State Fault Refusal :=
  serve (kBfext sh wait) s

/-- BFINS (R246): Karef bit-field insert. -/
def execBfins (sh : Nat) (wait : Nat) (s : State) : Host.Outcome State Fault Refusal :=
  serve (kBfins sh wait) s

/-- CLZ (R246): Karef count of leading zeros. -/
def execClz (sh : Nat) (wait : Nat) (s : State) : Host.Outcome State Fault Refusal :=
  serve (kClz sh wait) s

/-- BPERM (R246): Karef byte permutation of two sources. -/
def execBperm (sh : Nat) (wait : Nat) (s : State) : Host.Outcome State Fault Refusal :=
  serve (kBperm sh wait) s

/-- GATHER (R247): Karef instruction that gathers up to 16 table words through index words, restartable from GIDX. -/
def execGather (sh : Nat) (wait : Nat) (s : State) : Host.Outcome State Fault Refusal :=
  serve (kGather sh wait) s

/-- CMP (R249): Karef compare that sets flags as SUB. -/
def execCmp (sh : Nat) (wait : Nat) (s : State) : Host.Outcome State Fault Refusal :=
  serve (kCmp sh wait) s

/-- TST (R249): Karef test that sets flags of AND. -/
def execTst (sh : Nat) (wait : Nat) (s : State) : Host.Outcome State Fault Refusal :=
  serve (kTst sh wait) s

/-- BR (R250): Karef conditional branch. -/
def execBr (sh : Nat) (wait : Nat) (s : State) : Host.Outcome State Fault Refusal :=
  serve (kBr sh wait) s

/-- CALL (R249): Karef call that writes a CODE link word and jumps. -/
def execCall (sh : Nat) (wait : Nat) (s : State) : Host.Outcome State Fault Refusal :=
  serve (kCall sh wait) s

/-- RET (R249): Karef return through a CODE word. -/
def execRet (sh : Nat) (wait : Nat) (s : State) : Host.Outcome State Fault Refusal :=
  serve (kRet sh wait) s

/-- LOOP (R223): Karef instruction that activates a hardware loop set. -/
def execLoop (sh : Nat) (wait : Nat) (s : State) : Host.Outcome State Fault Refusal :=
  serve (kLoop sh wait) s

/-- RPT (R226): Karef prefix that repeats the next instruction a counted number of times. -/
def execRpt (sh : Nat) (wait : Nat) (s : State) : Host.Outcome State Fault Refusal :=
  serve (kRpt sh wait) s

/-- TRAP (R251): Karef instruction that raises software trap n. -/
def execTrap (sh : Nat) (wait : Nat) (s : State) : Host.Outcome State Fault Refusal :=
  serve (kTrap sh wait) s

/-- TRET (R231): Karef return from a trap handler with a skip count. -/
def execTret (sh : Nat) (wait : Nat) (s : State) : Host.Outcome State Fault Refusal :=
  serve (kTret sh wait) s

/-- ESUB (R252): Karef instruction that submits a command word to the digest or cipher engine. -/
def execEsub (sh : Nat) (wait : Nat) (s : State) : Host.Outcome State Fault Refusal :=
  serve (kEsub sh wait) s

/-- EWAIT (R252): Karef instruction that waits for the outstanding engine operation and writes its status. -/
def execEwait (sh : Nat) (wait : Nat) (s : State) : Host.Outcome State Fault Refusal :=
  serve (kEwait sh wait) s

/-- LRD (R254): Karef instruction that reads the record an LREF names into 16 words. -/
def execLrd (sh : Nat) (wait : Nat) (s : State) : Host.Outcome State Fault Refusal :=
  serve (kLrd sh wait) s

/-- TOUT (R475): Karef instruction that writes a word to the trace output on a channel. -/
def execTout (sh : Nat) (wait : Nat) (s : State) : Host.Outcome State Fault Refusal :=
  serve (kTout sh wait) s

/-- RESERVED_OPCODE (R237): Execution of a reserved opcode, which decodes its operands and traps for emulation. -/
def execReservedOpcode (sh : Nat) (wait : Nat) (s : State) : Host.Outcome State Fault Refusal :=
  serve (kReserved sh wait) s

end Sys2Proof.Machine
end

