-- ==== Sys2Proof/Machine/RowsLane.lean ====
section
/-! DEFINITION. The meaning of each row of Tether lanes: one definition a row, named after it. -/

namespace Sys2Proof.Machine

/-- LANE_PLACE_ENTRY (R186): An admitted ISSUE or LANE_SEND frame enters a free lane place and takes its SEQ. -/
def execLanePlaceEntry (cmd : Nat) (s : State) : Host.Outcome State Fault Refusal :=
  serve (lanePlaceEntry cmd) s

/-- WAKE_REQUEST (R353): A low on LANE_WAKE_N from the station starts a bring-up on an open lane. -/
def execWakeRequest (lane : Nat) (s : State) : Host.Outcome State Fault Refusal :=
  serve (onRealLane lane (wakeRequest lane)) s

/-- LANE_RX_LOCK (R355): The D64 receiver locks on the station's IDLEs and sends HELLO_D. -/
def execLaneRxLock (lane : Nat) (s : State) : Host.Outcome State Fault Refusal :=
  serve (onRealLane lane (rxLock lane)) s

/-- HELLO_S (R356): Station hello received, choosing version and key and sending READY_D. -/
def execHelloS (lane : Nat) (frame : List Byte) (s : State) : Host.Outcome State Fault Refusal :=
  serve (onRealLane lane (helloS lane frame)) s

/-- READY_S (R357): Station ready frame received, completing key agreement. -/
def execReadyS (lane : Nat) (frame : List Byte) (s : State) : Host.Outcome State Fault Refusal :=
  serve (onRealLane lane (readyS lane frame)) s

/-- TIME_ECHO (R371): Station echo received, measuring link delay and making the link LINKED. -/
def execTimeEcho (lane : Nat) (rNs : Nat) (frame : List Byte) (s : State) : Host.Outcome State Fault Refusal :=
  serve (onRealLane lane (timeEcho lane rNs frame)) s

/-- ACK (R363): Station acknowledgement that frees places and opens the send window. -/
def execAck (lane : Nat) (frame : List Byte) (s : State) : Host.Outcome State Fault Refusal :=
  serve (onRealLane lane (ackFrame lane frame)) s

/-- SLEEP (R374): Station sleep request answered ACCEPT or DENY. -/
def execSleep (lane : Nat) (frame : List Byte) (s : State) : Host.Outcome State Fault Refusal :=
  serve (onRealLane lane (sleepFrame lane frame)) s

/-- REPORT (R192): Station report of a print or tag outcome, evaluated against the record. -/
def execReport (lane : Nat) (frame : List Byte) (s : State) : Host.Outcome State Fault Refusal :=
  serve (onRealLane lane (reportFrame lane frame)) s

/-- LATE_FAIL (R369): Station report that it cannot act on an acknowledged DATA frame. -/
def execLateFail (lane : Nat) (frame : List Byte) (s : State) : Host.Outcome State Fault Refusal :=
  serve (onRealLane lane (lateFail lane frame)) s

/-- CLOSE (R358): CLOSE frame received from the station, ending the link. -/
def execClose (lane : Nat) (frame : List Byte) (s : State) : Host.Outcome State Fault Refusal :=
  serve (onRealLane lane (closeFrameIn lane frame)) s

/-- TIME_TICK (R371): Every 1 ms a MARK and TIME frame are sent on a linked lane. -/
def execTimeTick (dt : Nat) (lane : Nat) (s : State) : Host.Outcome State Fault Refusal :=
  lapseServe dt (onRealLane lane (timeTick lane)) s

/-- LANE_RETX_TIMEOUT (R362): 500 µs without acknowledgement resends from the oldest unacknowledged frame. -/
def execLaneRetxTimeout (dt : Nat) (lane : Nat) (s : State) : Host.Outcome State Fault Refusal :=
  lapseServe dt (onRealLane lane (retxTimeout lane)) s

/-- LINK_LOSS (R358): Receiver loss of lock or a burst of error symbols ends the link. -/
def execLinkLoss (lane : Nat) (s : State) : Host.Outcome State Fault Refusal :=
  serve (onRealLane lane (linkLoss lane)) s

/-- NO_FRAME_TIMEOUT (R358): 5 ms without a valid frame on a LINKED lane ends the link. -/
def execNoFrameTimeout (dt : Nat) (lane : Nat) (s : State) : Host.Outcome State Fault Refusal :=
  lapseServe dt (onRealLane lane (noFrame lane)) s

/-- BRINGUP_TIMEOUT (R355): A link not LINKED 3 ms after start returns to idle. -/
def execBringupTimeout (dt : Nat) (lane : Nat) (s : State) : Host.Outcome State Fault Refusal :=
  lapseServe dt (onRealLane lane (bringupTimeout lane)) s

/-- BRINGUP_RETRY (R355): After the retry interval a failed lane tries a bring-up again. -/
def execBringupRetry (dt : Nat) (lane : Nat) (s : State) : Host.Outcome State Fault Refusal :=
  lapseServe dt (onRealLane lane (bringupRetry lane)) s

/-- DRIFT_WAKE (R375): A sleeping station's error bound reaching 40 µs, or WAKE_AT passing, wakes the lane. -/
def execDriftWake (dt : Nat) (lane : Nat) (s : State) : Host.Outcome State Fault Refusal :=
  lapseServe dt (onRealLane lane (driftWake lane)) s

/-- SLEEP_IDLE_WAKE (R374): A hand-off after ACCEPT wakes the lane once it has been idle 100 µs. -/
def execSleepIdleWake (dt : Nat) (lane : Nat) (s : State) : Host.Outcome State Fault Refusal :=
  lapseServe dt (onRealLane lane (sleepIdleWake lane)) s

/-- TIMED_WITHDRAW (R366): A held timed DATA frame whose AT comes within 50 µs is withdrawn with TIME_PASSED. -/
def execTimedWithdraw (dt : Nat) (lane : Nat) (s : State) : Host.Outcome State Fault Refusal :=
  lapseServe dt (onRealLane lane (timedWithdraw lane)) s

/-- FAIL_ENTRY_EXPIRY (R369): A failure-list entry leaves the list after 10 s. -/
def execFailEntryExpiry (dt : Nat) (lane : Nat) (s : State) : Host.Outcome State Fault Refusal :=
  lapseServe dt (onRealLane lane (failExpire lane)) s

/-- LANE_CLOSE_TIMEOUT (R379): 40 ms into CLOSING the lane discards what remains and closes. -/
def execLaneCloseTimeout (dt : Nat) (lane : Nat) (s : State) : Host.Outcome State Fault Refusal :=
  lapseServe dt (onRealLane lane (closeTimeout lane)) s

/-- LANE_BAD_FRAME (R361): A lane frame that fails symbols or CRC, or carries a type not defined for its direction,
version or link state, is discarded, counted and may end the link. -/
def execLaneBadFrame (lane : Nat) (symbols : List Nat) (s : State) : Host.Outcome State Fault Refusal :=
  serve (onRealLane lane (rxBad lane symbols)) s

end Sys2Proof.Machine
end

