-- ==== Sys2Proof/Machine/RowsQueue.lean ====
section
/-! DEFINITION. The meaning of each row of queues, windows, admission and replies: one definition a row, named after
it. -/

namespace Sys2Proof.Machine

/-- SQ_TAIL_DOORBELL (R147): Host write of QP_SQ_TAIL that announces new packets and starts their fetch. -/
def execSqTailDoorbell (fn : Nat) (pair : Nat) (value : Nat) (s : State) : Host.Outcome State Fault Refusal :=
  answer (sqTailWrite fn pair value) s

/-- CQ_HEAD_DOORBELL (R147): Host write of QP_CQ_HEAD that frees consumed completion entries. -/
def execCqHeadDoorbell (fn : Nat) (pair : Nat) (value : Nat) (s : State) : Host.Outcome State Fault Refusal :=
  answer (cqHeadWrite fn pair value) s

/-- QP_ENABLE (R154): Write of QP_CTRL.ENABLE 1 that checks a pair and makes it live. -/
def execQpEnable (fn : Nat) (pair : Nat) (word : Nat) (s : State) : Host.Outcome State Fault Refusal :=
  answer (qpEnableWrite fn pair (word / 2 * 2 + 1)) s

/-- QP_DISABLE (R176): Write of QP_CTRL.ENABLE 0 that ends a pair, aborting admitted work without entries. -/
def execQpDisable (fn : Nat) (pair : Nat) (word : Nat) (s : State) : Host.Outcome State Fault Refusal :=
  answer (qpDisableWrite fn pair (word / 2 * 2)) s

/-- WIN_ENABLE (R161): Write of WIN_CTRL.ENABLE 1 that checks and enables a host window. -/
def execWinEnable (fn : Nat) (win : Nat) (word : Nat) (s : State) : Host.Outcome State Fault Refusal :=
  answer (winEnableWrite fn win (word / 2 * 2 + 1)) s

/-- WIN_DISABLE (R160): Write of WIN_CTRL.ENABLE 0 that disables a window unless it is in use. -/
def execWinDisable (fn : Nat) (win : Nat) (word : Nat) (s : State) : Host.Outcome State Fault Refusal :=
  answer (winDisableWrite fn win (word / 2 * 2)) s

/-- PACKET_FETCH_DONE (R148): Completion of the DMA read of a packet into the fetcher. -/
def execPacketFetchDone (fn : Nat) (pair : Nat) (words : Option (List Word)) (s : State) :
    Host.Outcome State Fault Refusal :=
  serve (packetFetched fn pair words) s

/-- DMA_READ_DEADLINE (R406): Expiry of a host read deadline, faulting the pair or the command. -/
def execDmaReadDeadline (dt : Nat) (fn : Nat) (pair : Nat) (cmd : Nat) (fetch : Bool) (s : State) :
    Host.Outcome State Fault Refusal :=
  lapseServe dt ((fun t => if fetch then fetchDeadline fn pair t else descDeadline cmd t)) s

/-- ADMISSION_DECISION (R115): A packet reaching the head of its queue is checked and admitted or refused. -/
def execAdmissionDecision (fn : Nat) (pair : Nat) (s : State) : Host.Outcome State Fault Refusal :=
  serve (admissionDecision fn pair) s

/-- HEAD_DECISION_RELEASE (R164): 1,200 CK_FABRIC cycles after reaching the head, a non-admitted packet's reply is
handed to the reply writer. -/
def execHeadDecisionRelease (dt : Nat) (fn : Nat) (pair : Nat) (s : State) : Host.Outcome State Fault Refusal :=
  lapseServe dt (headRelease fn pair) s

/-- DESCRIPTOR_READ_DONE (R159): Completion of an IN descriptor read after admission, or its failure with cause 4. -/
def execDescriptorReadDone (cmd : Nat) (k : Nat) (data : Option (List Byte)) (s : State) :
    Host.Outcome State Fault Refusal :=
  serve (descriptorRead cmd k data) s

/-- LOOKUP_RELEASE (R446): A record lookup is released to the checks 2.80 µs after the ledger unit begins it. -/
def execLookupRelease (dt : Nat) (cmd : Nat) (failed : List Nat) (s : State) : Host.Outcome State Fault Refusal :=
  lapseServe dt (lookupRelease cmd failed) s

/-- LEDGER_APPLY (R511): When a command's stages complete, the ledger unit re-evaluates the record and appends its
journal entry. -/
def execLedgerApply (cmd : Nat) (s : State) : Host.Outcome State Fault Refusal :=
  serve (ledgerApply cmd) s

/-- NONCOMMIT_REPLY_RELEASE (R446): A non-committing slot or credential reply is released 4.00 µs after the close of
the frame open at its completion. -/
def execNoncommitReplyRelease (dt : Nat) (s : State) : Host.Outcome State Fault Refusal :=
  lapse dt (releaseHeld false) s

/-- REPLY_WRITE (R149): The reply writer writes replies at QP_CQ_TAIL in deadline order and sends MSI-X. -/
def execReplyWrite (s : State) : Host.Outcome State Fault Refusal :=
  answer replyPass s

/-- CAP_PUBLISH (R141): A new capability record is published and CHANGE advances. -/
def execCapPublish (dt : Nat) (s : State) : Host.Outcome State Fault Refusal :=
  lapse dt capPublish s

/-- KEY_UPDATE_REPLY_RELEASE (R447): A KEY_UPDATE reply is written exactly 1.500 ms after its steward job starts,
whatever its status. -/
def execKeyUpdateReplyRelease (dt : Nat) (s : State) : Host.Outcome State Fault Refusal :=
  lapse dt (releaseHeld true) s

end Sys2Proof.Machine
end

