-- ==== Sys2Proof/Machine/RowsReg.lean ====
section
/-! DEFINITION. The meaning of each row of host accesses to registers, function controls, observation, service balls
and the TAP: one definition a row, named after it. -/

namespace Sys2Proof.Machine

/-- HOT_RESET (R459): PCIe hot reset or link down, handled per function as an FLR. -/
def execHotReset (s : State) : Host.Outcome State Fault Refusal :=
  answer hotReset s

/-- FLR (R408): Function-level reset ending the function's queue work and resetting its registers. -/
def execFlr (fn : Nat) (s : State) : Host.Outcome State Fault Refusal :=
  answer (flrRow fn) s

/-- BUS_MASTER_DISABLE (R408): Clearing Bus Master Enable disables every live pair of the function; the row writes the
function's other controls of R404 and R408 too. -/
def execBusMasterDisable (fn : Nat) (write : FnControl) (s : State) : Host.Outcome State Fault Refusal :=
  answer (controlWrite fn write) s

/-- D3HOT_ENTRY (R408): Entry to D3hot that stops fetching for the function. -/
def execD3hotEntry (fn : Nat) (s : State) : Host.Outcome State Fault Refusal :=
  answer (d3hot fn) s

/-- D0_RETURN (R408): Return from D3hot to D0, which acts as an FLR. -/
def execD0Return (fn : Nat) (s : State) : Host.Outcome State Fault Refusal :=
  answer (d0Return fn) s

/-- VF_ENABLE_WRITE (R405): Write of VF Enable and NumVFs that makes realms reachable, ignored outside PROVISIONED. -/
def execVfEnableWrite (enable : Bool) (num : Nat) (s : State) : Host.Outcome State Fault Refusal :=
  answer (vfEnableWrite enable num) s

/-- MSIX_UNMASK (R408): Clearing a function or vector mask sends held MSI-X messages from the PBA. -/
def execMsixUnmask (fn : Nat) (vec : Option Nat) (word : Nat) (s : State) : Host.Outcome State Fault Refusal :=
  answer (maskWrite fn vec word) s

/-- RESERVED_LOCATION_ACCESS (R414): Access to a reserved or unimplemented location, aborted or dropped and recorded.
-/
def execReservedLocationAccess (fn : Nat) (bar : Bar) (addr : Nat) (kind : Nat) (malformed : Bool) (s : State) :
    Host.Outcome State Fault Refusal :=
  answer (reservedAccess fn bar addr kind malformed) s

/-- MULTIWORD_MSW_READ (R419): Read of the most significant word of a multi-word value, latching the other words. -/
def execMultiwordMswRead (fn : Nat) (bar : Bar) (addr : Nat) (s : State) : Host.Outcome State Fault Refusal :=
  answer (hostRead fn bar addr) s

/-- IND_DATA (R422): Access to IND_DATA that acts on the indirect register and auto-increments the address. -/
def execIndData (write : Option Nat) (s : State) : Host.Outcome State Fault Refusal :=
  answer (indData write) s

/-- REGISTER_WRITE (R420): Write to a register without a row of its own, judged against its block's ENABLE. -/
def execRegisterWrite (fn : Nat) (bar : Bar) (addr : Nat) (value : Nat) (s : State) :
    Host.Outcome State Fault Refusal :=
  answer (hostWrite fn bar addr value) s

/-- CFG_COMMIT (R424): Write that makes a configuration group's current CRC its reference. -/
def execCfgCommit (value : Nat) (s : State) : Host.Outcome State Fault Refusal :=
  answer (hostWrite 0 .bar0 0x1800 value) s

/-- CFG_WALK (R424): The background walker completes a group's CRC and compares it with the reference. -/
def execCfgWalk (s : State) : Host.Outcome State Fault Refusal :=
  serve cfgWalk s

/-- IC_EOI (R426): Write that completes an in-service interrupt source and re-samples a LEVEL source. -/
def execIcEoi (value : Nat) (s : State) : Host.Outcome State Fault Refusal :=
  answer (hostWrite 0 .bar0 0x1034 value) s

/-- IC_MASK_SET (R428): Alias write that sets mask bits of the selected source group. -/
def execIcMaskSet (value : Nat) (s : State) : Host.Outcome State Fault Refusal :=
  answer (hostWrite 0 .bar0 0x1010 value) s

/-- IC_MASK_CLR (R428): Alias write that clears mask bits, allowing pending sources to be delivered. -/
def execIcMaskClr (value : Nat) (s : State) : Host.Outcome State Fault Refusal :=
  answer (hostWrite 0 .bar0 0x1014 value) s

/-- IC_PEND_SET (R428): Alias write that raises sources as events. -/
def execIcPendSet (value : Nat) (s : State) : Host.Outcome State Fault Refusal :=
  answer (hostWrite 0 .bar0 0x101C value) s

/-- IC_PEND_CLR (R428): Alias write that discards pending sources. -/
def execIcPendClr (value : Nat) (s : State) : Host.Outcome State Fault Refusal :=
  answer (hostWrite 0 .bar0 0x1020 value) s

/-- CP_CAL_APPLY (R455): Write that steps, slews or refuses calendar time to the value in CP_CAL_SET. -/
def execCpCalApply (value : Nat) (s : State) : Host.Outcome State Fault Refusal :=
  answer (hostWrite 0 .bar0 0x7058 value) s

/-- SSC_ENABLE (R452): CP_CTRL.ENABLE rise that starts spread modulation at the set depth. -/
def execSscEnable (word : Nat) (s : State) : Host.Outcome State Fault Refusal :=
  answer (hostWrite 0 .bar0 0x7000 (word / 2 * 2 + 1)) s

/-- SSC_DISABLE (R452): CP_CTRL.ENABLE fall that returns the PLL to 3.0 GHz. -/
def execSscDisable (word : Nat) (s : State) : Host.Outcome State Fault Refusal :=
  answer (hostWrite 0 .bar0 0x7000 (word / 2 * 2)) s

/-- LANE_PHY_DISABLE (R381): Write of LN_PHY_CTRL.ENABLE 0 that idles the pairs and loses the link. -/
def execLanePhyDisable (lane : Nat) (word : Nat) (s : State) : Host.Outcome State Fault Refusal :=
  answer (lanePhyOff lane word) s

/-- CC_DISABLE (R403): Write of CC_CTRL.ENABLE 0 that idles the custody bus and treats every card as removed. -/
def execCcDisable (word : Nat) (s : State) : Host.Outcome State Fault Refusal :=
  answer (hostWrite 0 .bar0 0xA000 (word / 2 * 2)) s

/-- PM_ENABLE (R505): PM_CTRL.ENABLE rise that checks and applies service-ball settings, parking changed balls. -/
def execPmEnable (s : State) : Host.Outcome State Fault Refusal :=
  answer (hostWrite 0 .bar0 0x9000 1) s

/-- SVC_PARK_END (R505): After 16 CK_PERIPH cycles a parked service ball takes its new function. -/
def execSvcParkEnd (s : State) : Host.Outcome State Fault Refusal :=
  answer svcParkEnd s

/-- OB_LOG_SEL_LO (R484): Write that latches the selected event-log entry into the window. -/
def execObLogSelLo (value : Nat) (s : State) : Host.Outcome State Fault Refusal :=
  answer (hostWrite 0 .bar0 0x8044 value) s

/-- OB_CNT_EVENT (R478): Write of a counter selection that zeroes the count or sets FAULT. -/
def execObCntEvent (value : Nat) (s : State) : Host.Outcome State Fault Refusal :=
  answer (hostWrite 0 .bar0 0x801C value) s

/-- TRACE_SYNC (R474): Each microsecond of time of service a SYNC message is sent on the trace port. -/
def execTraceSync (s : State) : Host.Outcome State Fault Refusal :=
  answer traceSync s

/-- TRACE_LOST (R476): A LOST message is sent once the trace intake has room. -/
def execTraceLost (s : State) : Host.Outcome State Fault Refusal :=
  serve traceLost s

/-- IDCODE (R510): TAP instruction selecting the IDCODE register. -/
def execIdcode (s : State) : Host.Outcome State Fault Refusal :=
  answer (tapRow 0x01) s

/-- SAMPLE (R510): TAP instruction sampling the boundary register, UNPROVISIONED only. -/
def execSample (cells : Nat) (s : State) : Host.Outcome State Fault Refusal :=
  answer ((fun t => tapRow 0x02 (tapCells cells t))) s

/-- PRELOAD (R510): TAP instruction preloading the boundary register, UNPROVISIONED only. -/
def execPreload (cells : Nat) (s : State) : Host.Outcome State Fault Refusal :=
  answer ((fun t => tapRow 0x03 (tapCells cells t))) s

/-- EXTEST (R510): TAP instruction driving balls from the boundary register, holding device reset. -/
def execExtest (s : State) : Host.Outcome State Fault Refusal :=
  answer (tapHold 0x04) s

/-- CLAMP (R510): TAP instruction clamping outputs with bypass selected. -/
def execClamp (s : State) : Host.Outcome State Fault Refusal :=
  answer (tapHold 0x05) s

/-- HIGHZ (R510): TAP instruction floating outputs. -/
def execHighz (s : State) : Host.Outcome State Fault Refusal :=
  answer (tapHold 0x06) s

/-- BYPASS (R510): TAP instruction selecting the bypass register. -/
def execBypass (s : State) : Host.Outcome State Fault Refusal :=
  answer (tapRow 0x3F) s

/-- PCIE_LINK_UP (R138): The PCIe link trains or leaves Recovery at some width and speed, so replies resume and LINK
and BULK capacities follow the negotiated link. -/
def execPcieLinkUp (dt : Nat) (width : Nat) (gen : Nat) (s : State) : Host.Outcome State Fault Refusal :=
  lapse dt (linkTrained dt width gen) s

/-- TEST_LOGIC_RESET (R510): The TAP entering Test-Logic-Reset, through TMS or TRST_N, releases the device reset held
by EXTEST, CLAMP or HIGHZ. -/
def execTestLogicReset (dt : Nat) (envBad : Bool) (s : State) : Host.Outcome State Fault Refusal :=
  answer (testLogicReset dt envBad) s

end Sys2Proof.Machine
end

