-- ==== Sys2Proof/Machine/RowsStart.lean ====
section
/-! DEFINITION. The meaning of each row of power, start-up, clocks and ageing: one definition a row, named after it.
-/

namespace Sys2Proof.Machine

/-- SUPPLY_GOOD (R460): Supply good after power-off starts the Tamper phase of start-up. -/
def execSupplyGood (dt : Nat) (supply : SupplyIn) (envBad : Bool) (s : State) : Host.Outcome State Fault Refusal :=
  answer (supplyGood dt supply envBad) s

/-- START_FUSES (R460): Fuses phase reading the lifecycle state. -/
def execStartFuses (dt : Nat) (s : State) : Host.Outcome State Fault Refusal :=
  answer (startFuses dt) s

/-- START_CLOCKS (R460): Clocks phase locking the PLL and starting time of service and calendar time. -/
def execStartClocks (dt : Nat) (found : ClocksIn) (s : State) : Host.Outcome State Fault Refusal :=
  answer (startClocks dt found) s

/-- START_REGISTERS (R460): Registers phase advancing START_NO and opening BAR0. -/
def execStartRegisters (dt : Nat) (s : State) : Host.Outcome State Fault Refusal :=
  answer (startRegisters dt) s

/-- START_BALLAST (R99): Ballast phase hold-up test that sets HOLDUP_OK. -/
def execStartBallast (dt : Nat) (step : Nat) (drop : Nat) (trip : Nat) (least : Nat) (s : State) : Host.Outcome State Fault Refusal :=
  answer (startBallast dt step drop trip least) s

/-- START_PLAN (R466): Plan phase making the margin plan and writing set points. -/
def execStartPlan (dt : Nat) (v0 : List Nat) (deltas : List Nat) (eol30 : List Nat) (vout : List (Option Regulator)) (forecast : Nat) (s : State) :
    Host.Outcome State Fault Refusal :=
  answer (startPlan dt { v0 := v0, deltas := deltas, eol30 := eol30, vout := vout, forecast := forecast }) s

/-- ENTROPY (R316): Key-store phase running entropy health tests and seeding the DRBG. -/
def execEntropy (dt : Nat) (good : Bool) (s : State) : Host.Outcome State Fault Refusal :=
  answer (entropy dt good) s

/-- PUF_READ (R316): Key-store phase powering and reading the PUF array. -/
def execPufRead (dt : Nat) (cells : List Byte) (s : State) : Host.Outcome State Fault Refusal :=
  answer (pufRead dt cells) s

/-- EXTRACT (R292): Key-store phase regenerating the root secret from a helper copy. -/
def execExtract (dt : Nat) (s : State) : Host.Outcome State Fault Refusal :=
  answer (extract dt) s

/-- DERIVE (R316): Key-store phase deriving device keys and unwrapping the ledger key. -/
def execDerive (dt : Nat) (lost : List Nat) (s : State) : Host.Outcome State Fault Refusal :=
  answer (derive dt lost) s

/-- START_FIRMWARE (R464): Firmware phase choosing and authenticating the firmware slot. -/
def execStartFirmware (dt : Nat) (damaged : List Nat) (s : State) : Host.Outcome State Fault Refusal :=
  answer (startFirmware dt damaged) s

/-- RECOVERY_ANCHOR (R85): Recovery phase selecting the valid anchor cell. -/
def execRecoveryAnchor (dt : Nat) (torn : List Nat) (s : State) : Host.Outcome State Fault Refusal :=
  answer (recoveryAnchor dt torn) s

/-- RECOVERY_CHAIN (R104): Recovery phase authenticating the frame chain up to the anchor. -/
def execRecoveryChain (dt : Nat) (lost : List Nat) (s : State) : Host.Outcome State Fault Refusal :=
  answer (recoveryChain dt lost) s

/-- RECOVERY_TREE (R104): Recovery phase loading upper tree levels and checking the root. -/
def execRecoveryTree (dt : Nat) (lost : List Nat) (s : State) : Host.Outcome State Fault Refusal :=
  answer (recoveryTree dt lost) s

/-- RECOVERY_REPLAY (R104): Recovery phase replaying journal entries into the overlay and rebuilding HELD. -/
def execRecoveryReplay (dt : Nat) (lost : List Nat) (s : State) : Host.Outcome State Fault Refusal :=
  answer (recoveryReplay dt lost) s

/-- RECOVERY_OUTCOMES (R104): Recovery phase rebuilding the open outcome page. -/
def execRecoveryOutcomes (dt : Nat) (s : State) : Host.Outcome State Fault Refusal :=
  answer (recoveryOutcomes dt) s

/-- RECOVERY_WRITES (R104): Recovery phase repeating pending copy-backs, re-staging and writing an anchor when
HOLDUP_OK is 1. -/
def execRecoveryWrites (dt : Nat) (s : State) : Host.Outcome State Fault Refusal :=
  answer (recoveryWrites dt) s

/-- SLOTS (R315): Key-store phase applying directory and KEY entries and checking every slot image. -/
def execSlots (dt : Nat) (damaged : List Nat) (s : State) : Host.Outcome State Fault Refusal :=
  answer (slotsPhase dt damaged) s

/-- RELEASE (R316): Key-store phase opening the key bus. -/
def execRelease (dt : Nat) (s : State) : Host.Outcome State Fault Refusal :=
  answer (release dt) s

/-- START_STEWARD (R461): Steward phase starting steward firmware and opening packet fetch. -/
def execStartSteward (dt : Nat) (failed : List Nat) (s : State) : Host.Outcome State Fault Refusal :=
  answer (startSteward_ dt failed) s

/-- START_SELF_TEST (R460): Self-test phase testing shuttles and engines and removing failures. -/
def execStartSelfTest (dt : Nat) (failed : List (Nat × Nat)) (s : State) : Host.Outcome State Fault Refusal :=
  answer (startSelfTest dt failed) s

/-- START_APPLETS (R460): Applets phase loading banks, setting segments and latching mode words. -/
def execStartApplets (dt : Nat) (lost : List Nat) (s : State) : Host.Outcome State Fault Refusal :=
  answer (startApplets dt lost) s

/-- START_READY (R460): Ready phase comparing scuttle policy, publishing capacity and entering READY or READ_ONLY. -/
def execStartReady (dt : Nat) (s : State) : Host.Outcome State Fault Refusal :=
  answer (startReady dt) s

/-- POWER_FAIL_DETECT (R97): Supply comparator trip that stops admission and closes the open frame with SEAL. -/
def execPowerFailDetect (s : State) : Host.Outcome State Fault Refusal :=
  answer powerFail s

/-- SEAL_DRAIN_DONE (R97): Every Warp stack program operation already started completes during a seal. -/
def execSealDrainDone (s : State) : Host.Outcome State Fault Refusal :=
  answer sealDrainDone s

/-- DEVICE_RESET (R459): RESET_N or PERST_N low for 10 µs seals and restarts the device. -/
def execDeviceReset (line : ResetLine) (s : State) : Host.Outcome State Fault Refusal :=
  answer (deviceReset line) s

/-- CAL_SLEW_END (R455): A slewing calendar reaches the target count and runs at full rate again. -/
def execCalSlewEnd (dt : Nat) (s : State) : Host.Outcome State Fault Refusal :=
  lapse dt calSlewEnd s

/-- SMBUS_READ_WORD (R456): SMBus Read Word addressed to the D64 answered with temperature or service state. -/
def execSmbusReadWord (addr : Nat) (cmd : Nat) (s : State) : Host.Outcome State Fault Refusal :=
  answer (smbusRead addr cmd) s

/-- MARGIN_REPLAN (R466): Every 24 h of READY service the margin plan is remade and set points written. -/
def execMarginReplan (dt : Nat) (v0 : List Nat) (deltas : List Nat) (eol30 : List Nat) (vout : List (Option Regulator)) (forecast : Nat) (s : State) :
    Host.Outcome State Fault Refusal :=
  answer (marginReplan dt { v0 := v0, deltas := deltas, eol30 := eol30, vout := vout, forecast := forecast }) s

/-- AGEING_TICK (R468): Each second the equivalent ageing of every island is accumulated into LIFE_USED. -/
def execAgeingTick (dt : Nat) (s : State) : Host.Outcome State Fault Refusal :=
  lapse dt ageingTick s

/-- CALENDAR_RETAIN_WRITE (R454): Every 60 s the calendar value is written to retained cells. -/
def execCalendarRetainWrite (dt : Nat) (s : State) : Host.Outcome State Fault Refusal :=
  lapse dt calRetain s

/-- ERA_WRAP (R453): Time of service wraps and ERA advances. -/
def execEraWrap (dt : Nat) (s : State) : Host.Outcome State Fault Refusal :=
  lapse dt id s

/-- RESET_RELEASE (R459): When RESET_N and PERST_N are both high again after a device reset, start-up begins from its
first phase. -/
def execResetRelease (dt : Nat) (envBad : Bool) (s : State) : Host.Outcome State Fault Refusal :=
  answer (resetRelease dt envBad) s

/-- POWER_DOWN (R442): When the main supplies go off, the tamper domain writes its check pattern and passes to battery
watch on VBAT_TM. -/
def execPowerDown (vbat : Bool) (s : State) : Host.Outcome State Fault Refusal :=
  answer (powerDown vbat) s

end Sys2Proof.Machine
end

