-- ==== Sys2Proof/Machine/RowsTamper.lean ====
section
/-! DEFINITION. The meaning of each row of sensors and alarms: one definition a row, named after it. -/

namespace Sys2Proof.Machine

/-- ENVELOPE_COMPARE (R432): Periodic comparison of the Envelope nets that can trip ENV_MISMATCH or ENV_BREACH. -/
def execEnvelopeCompare (nets : List Nat) (s : State) : Host.Outcome State Fault Refusal :=
  answer (envelopeCompare nets) s

/-- CLOCK_WINDOW (R433): Each 8 µs window counts clocks against the tamper oscillator, tripping CLOCK_FREQ or
OSC_DIVERGE. -/
def execClockWindow (region : Nat) (dev : Int) (osc : Int) (s : State) : Host.Outcome State Fault Refusal :=
  answer (clockWindow region dev osc) s

/-- GLITCH_ISLAND (R431): An island supply out of its glitch band for 1 ns trips L2 or L3. -/
def execGlitchIsland (island : Nat) (mv : Int) (failing : Bool) (s : State) : Host.Outcome State Fault Refusal :=
  answer (glitchIsland island mv failing) s

/-- SUPPLY_RANGE (R431): A rail out of range for 10 µs trips L1. -/
def execSupplyRange (rail : Nat) (mv : Int) (s : State) : Host.Outcome State Fault Refusal :=
  answer (supplyRange rail mv) s

/-- CLOCK_GLITCH (R431): A short clock phase trips L2 or L3. -/
def execClockGlitch (region : Nat) (seen : ClockPhase) (s : State) : Host.Outcome State Fault Refusal :=
  answer (clockGlitch region seen) s

/-- LIGHT (R431): A photodiode above threshold for 1 µs trips L3, or L4 under policy. -/
def execLight (uw : Nat) (s : State) : Host.Outcome State Fault Refusal :=
  answer (light uw) s

/-- TEMP_TRIP (R431): A temperature sensor beyond −25 °C or 120 °C trips L3. -/
def execTempTrip (n : Nat) (temp : Int) (s : State) : Host.Outcome State Fault Refusal :=
  answer (tempTrip n temp) s

/-- TEMP_RATE (R431): A temperature changing faster than 20 °C/s trips L3. -/
def execTempRate (n : Nat) (rate : Int) (s : State) : Host.Outcome State Fault Refusal :=
  answer (tempRate n rate) s

/-- TEMP_RANGE (R431): A temperature outside the operating range trips L1. -/
def execTempRange (n : Nat) (temp : Int) (s : State) : Host.Outcome State Fault Refusal :=
  answer (tempRange n temp) s

/-- NEIGHBOUR (R457): A neighbouring pair beyond its voltage or temperature limit throttles the affected loom at L1.
-/
def execNeighbour (mv : List Nat) (temp : List Int) (s : State) : Host.Outcome State Fault Refusal :=
  answer (neighbour mv temp) s

/-- BALLAST_LOW (R431): The hold-up estimate below requirement for 1 ms, or a sensing ball open, trips L1. -/
def execBallastLow (mv : Nat) (isOpen : Bool) (s : State) : Host.Outcome State Fault Refusal :=
  answer (ballastLow mv isOpen) s

/-- CFG_MISMATCH (R431): A configuration mismatch standing for 10 ms trips L1. -/
def execCfgMismatch (dt : Nat) (s : State) : Host.Outcome State Fault Refusal :=
  lapse dt cfgMismatchRow s

/-- L1_END (R435): 10 ms after its cause has gone an L1 ends and a loom may return to capacity. -/
def execL1End (dt : Nat) (s : State) : Host.Outcome State Fault Refusal :=
  lapse dt l1End s

/-- LOCKDOWN_ZEROISE_CORE (R437): After the seal, the ledger key and device keys are zeroised. -/
def execLockdownZeroiseCore (s : State) : Host.Outcome State Fault Refusal :=
  answer lockdownZeroise s

/-- SCUTTLE_HELPER_FUSES (R439): Remaining helper-key fuse bits are programmed. -/
def execScuttleHelperFuses (s : State) : Host.Outcome State Fault Refusal :=
  answer (scuttleStepRow 2 s3Fuses) s

/-- SCUTTLE_ANCHOR_WIPE (R439): The anchor ring is overwritten with zeros and verified. -/
def execScuttleAnchorWipe (s : State) : Host.Outcome State Fault Refusal :=
  answer (scuttleStepRow 3 s4Anchors) s

/-- SCUTTLE_COPY_WIPE (R439): Helper copies and ledger-key copies are overwritten with zeros and verified. -/
def execScuttleCopyWipe (s : State) : Host.Outcome State Fault Refusal :=
  answer (scuttleStepRow 4 s5Copies) s

/-- ALARM_PULSE_END (R449): A 1 ms or 10 ms service-ball alarm pulse set by TM_CTRL.OUT_PULSE ends and the output
deasserts. -/
def execAlarmPulseEnd (dt : Nat) (s : State) : Host.Outcome State Fault Refusal :=
  lapse dt pulseEnd s

/-- TEMP_WARN (R448): TM_TEMP crossing TM_WARN.TEMP_C raises or lowers the LEVEL condition of source 387. -/
def execTempWarn (n : Nat) (temp : Int) (s : State) : Host.Outcome State Fault Refusal :=
  answer (tempWarnRow n temp) s

end Sys2Proof.Machine
end

