-- ==== Sys2Proof/Machine/Dispatch.lean ====
section
/-! DEFINITION. The dispatcher: one arm for each constructor of `Instr`. -/

namespace Sys2Proof.Machine

def exec (i : Instr) (s : State) : Host.Outcome State Fault Refusal :=
  match i with
  | .echo cmd => Sys2Proof.Machine.execEcho cmd s
  | .getCapability cmd => Sys2Proof.Machine.execGetCapability cmd s
  | .ledgerReserve cmd => Sys2Proof.Machine.execLedgerReserve cmd s
  | .ledgerConfirm cmd => Sys2Proof.Machine.execLedgerConfirm cmd s
  | .ledgerVoid cmd => Sys2Proof.Machine.execLedgerVoid cmd s
  | .ledgerRead cmd => Sys2Proof.Machine.execLedgerRead cmd s
  | .ledgerGather cmd => Sys2Proof.Machine.execLedgerGather cmd s
  | .ledgerRelease cmd => Sys2Proof.Machine.execLedgerRelease cmd s
  | .realmRebase cmd => Sys2Proof.Machine.execRealmRebase cmd s
  | .txnQuery cmd => Sys2Proof.Machine.execTxnQuery cmd s
  | .issue cmd => Sys2Proof.Machine.execIssue cmd s
  | .validate cmd => Sys2Proof.Machine.execValidate cmd s
  | .validateConsume cmd => Sys2Proof.Machine.execValidateConsume cmd s
  | .revalidate cmd => Sys2Proof.Machine.execRevalidate cmd s
  | .macGenerate cmd => Sys2Proof.Machine.execMacGenerate cmd s
  | .macVerify cmd => Sys2Proof.Machine.execMacVerify cmd s
  | .cipher cmd => Sys2Proof.Machine.execCipher cmd s
  | .sign cmd => Sys2Proof.Machine.execSign cmd s
  | .sigVerify cmd => Sys2Proof.Machine.execSigVerify cmd s
  | .digest cmd => Sys2Proof.Machine.execDigest cmd s
  | .assign cmd => Sys2Proof.Machine.execAssign cmd s
  | .install cmd => Sys2Proof.Machine.execInstall cmd s
  | .promote cmd => Sys2Proof.Machine.execPromote cmd s
  | .attrs cmd => Sys2Proof.Machine.execAttrs cmd s
  | .keyInfo cmd => Sys2Proof.Machine.execKeyInfo cmd s
  | .attest cmd => Sys2Proof.Machine.execAttest cmd s
  | .keyRetire cmd => Sys2Proof.Machine.execKeyRetire cmd s
  | .appletLoad cmd => Sys2Proof.Machine.execAppletLoad cmd s
  | .appletBankWrite cmd => Sys2Proof.Machine.execAppletBankWrite cmd s
  | .appletActivate cmd => Sys2Proof.Machine.execAppletActivate cmd s
  | .appletInfo cmd => Sys2Proof.Machine.execAppletInfo cmd s
  | .modeArm cmd => Sys2Proof.Machine.execModeArm cmd s
  | .modeFlip cmd => Sys2Proof.Machine.execModeFlip cmd s
  | .modeFlipDeadline dt cmd => Sys2Proof.Machine.execModeFlipDeadline dt cmd s
  | .laneOpen cmd => Sys2Proof.Machine.execLaneOpen cmd s
  | .laneSend cmd => Sys2Proof.Machine.execLaneSend cmd s
  | .laneStatus cmd => Sys2Proof.Machine.execLaneStatus cmd s
  | .laneClose cmd => Sys2Proof.Machine.execLaneClose cmd s
  | .laneCloseAbort cmd => Sys2Proof.Machine.execLaneCloseAbort cmd s
  | .cardEnumerate cmd => Sys2Proof.Machine.execCardEnumerate cmd s
  | .enrol cmd => Sys2Proof.Machine.execEnrol cmd s
  | .kekLoad cmd => Sys2Proof.Machine.execKekLoad cmd s
  | .provision cmd => Sys2Proof.Machine.execProvision cmd s
  | .decommission cmd => Sys2Proof.Machine.execDecommission cmd s
  | .retireSlot cmd => Sys2Proof.Machine.execRetireSlot cmd s
  | .draw cmd => Sys2Proof.Machine.execDraw cmd s
  | .scuttlePolicy cmd => Sys2Proof.Machine.execScuttlePolicy cmd s
  | .cardAdd cmd => Sys2Proof.Machine.execCardAdd cmd s
  | .cardRevoke cmd => Sys2Proof.Machine.execCardRevoke cmd s
  | .setThreshold cmd => Sys2Proof.Machine.execSetThreshold cmd s
  | .setCustody cmd => Sys2Proof.Machine.execSetCustody cmd s
  | .quota cmd => Sys2Proof.Machine.execQuota cmd s
  | .share cmd => Sys2Proof.Machine.execShare cmd s
  | .laneBind cmd => Sys2Proof.Machine.execLaneBind cmd s
  | .heddleGrant cmd => Sys2Proof.Machine.execHeddleGrant cmd s
  | .flush cmd => Sys2Proof.Machine.execFlush cmd s
  | .firmwareStage cmd => Sys2Proof.Machine.execFirmwareStage cmd s
  | .firmwareActivate cmd => Sys2Proof.Machine.execFirmwareActivate cmd s
  | .firmwareRestart => Sys2Proof.Machine.execFirmwareRestart s
  | .quiesce cmd => Sys2Proof.Machine.execQuiesce cmd s
  | .resume cmd => Sys2Proof.Machine.execResume cmd s
  | .logRead cmd => Sys2Proof.Machine.execLogRead cmd s
  | .countersRead cmd => Sys2Proof.Machine.execCountersRead cmd s
  | .compactNow cmd => Sys2Proof.Machine.execCompactNow cmd s
  | .sqTailDoorbell fn pair value => Sys2Proof.Machine.execSqTailDoorbell fn pair value s
  | .cqHeadDoorbell fn pair value => Sys2Proof.Machine.execCqHeadDoorbell fn pair value s
  | .qpEnable fn pair word => Sys2Proof.Machine.execQpEnable fn pair word s
  | .qpDisable fn pair word => Sys2Proof.Machine.execQpDisable fn pair word s
  | .winEnable fn win word => Sys2Proof.Machine.execWinEnable fn win word s
  | .winDisable fn win word => Sys2Proof.Machine.execWinDisable fn win word s
  | .packetFetchDone fn pair words => Sys2Proof.Machine.execPacketFetchDone fn pair words s
  | .dmaReadDeadline dt fn pair cmd fetch => Sys2Proof.Machine.execDmaReadDeadline dt fn pair cmd fetch s
  | .admissionDecision fn pair => Sys2Proof.Machine.execAdmissionDecision fn pair s
  | .headDecisionRelease dt fn pair => Sys2Proof.Machine.execHeadDecisionRelease dt fn pair s
  | .descriptorReadDone cmd k data => Sys2Proof.Machine.execDescriptorReadDone cmd k data s
  | .lookupRelease dt cmd failed => Sys2Proof.Machine.execLookupRelease dt cmd failed s
  | .ledgerApply cmd => Sys2Proof.Machine.execLedgerApply cmd s
  | .noncommitReplyRelease dt => Sys2Proof.Machine.execNoncommitReplyRelease dt s
  | .replyWrite => Sys2Proof.Machine.execReplyWrite s
  | .journalTick dt => Sys2Proof.Machine.execJournalTick dt s
  | .frameSeal => Sys2Proof.Machine.execFrameSeal s
  | .frameProgram => Sys2Proof.Machine.execFrameProgram s
  | .frameAnchor => Sys2Proof.Machine.execFrameAnchor s
  | .realmTableCopyWrite => Sys2Proof.Machine.execRealmTableCopyWrite s
  | .directoryCopyWrite => Sys2Proof.Machine.execDirectoryCopyWrite s
  | .batchOpen failed => Sys2Proof.Machine.execBatchOpen failed s
  | .batchStageWrite => Sys2Proof.Machine.execBatchStageWrite s
  | .batchCommit => Sys2Proof.Machine.execBatchCommit s
  | .batchCopyBack => Sys2Proof.Machine.execBatchCopyBack s
  | .batchDone => Sys2Proof.Machine.execBatchDone s
  | .holdTimerExpiry dt slot => Sys2Proof.Machine.execHoldTimerExpiry dt slot s
  | .expirySweep dt pageFailed => Sys2Proof.Machine.execExpirySweep dt pageFailed s
  | .freePoolPrefetch pageFailed => Sys2Proof.Machine.execFreePoolPrefetch pageFailed s
  | .capPublish dt => Sys2Proof.Machine.execCapPublish dt s
  | .jobStart heddle shuttle => Sys2Proof.Machine.execJobStart heddle shuttle s
  | .cycleBudgetExhausted sh => Sys2Proof.Machine.execCycleBudgetExhausted sh s
  | .stewardInterrupt sh source => Sys2Proof.Machine.execStewardInterrupt sh source s
  | .lockGrant heddle realm k => Sys2Proof.Machine.execLockGrant heddle realm k s
  | .lrReadDone sh => Sys2Proof.Machine.execLrReadDone sh s
  | .engineBlockDone unit isCipher => Sys2Proof.Machine.execEngineBlockDone unit isCipher s
  | .engineOpDone unit isCipher ch => Sys2Proof.Machine.execEngineOpDone unit isCipher ch s
  | .signatureOpDone sg => Sys2Proof.Machine.execSignatureOpDone sg s
  | .keyDelivery => Sys2Proof.Machine.execKeyDelivery s
  | .engineClear kind unit ch => Sys2Proof.Machine.execEngineClear kind unit ch s
  | .remaskStep dt => Sys2Proof.Machine.execRemaskStep dt s
  | .drbgHealthFailure => Sys2Proof.Machine.execDrbgHealthFailure s
  | .reenrol dt cells => Sys2Proof.Machine.execReenrol dt cells s
  | .nop sh wait => Sys2Proof.Machine.execNop sh wait s
  | .mov sh wait => Sys2Proof.Machine.execMov sh wait s
  | .clr sh wait => Sys2Proof.Machine.execClr sh wait s
  | .tagof sh wait => Sys2Proof.Machine.execTagof sh wait s
  | .add sh wait => Sys2Proof.Machine.execAdd sh wait s
  | .adc sh wait => Sys2Proof.Machine.execAdc sh wait s
  | .sub sh wait => Sys2Proof.Machine.execSub sh wait s
  | .sbc sh wait => Sys2Proof.Machine.execSbc sh wait s
  | .neg sh wait => Sys2Proof.Machine.execNeg sh wait s
  | .mul sh wait => Sys2Proof.Machine.execMul sh wait s
  | .mulhu sh wait => Sys2Proof.Machine.execMulhu sh wait s
  | .mulhs sh wait => Sys2Proof.Machine.execMulhs sh wait s
  | .divu sh wait => Sys2Proof.Machine.execDivu sh wait s
  | .divs sh wait => Sys2Proof.Machine.execDivs sh wait s
  | .remu sh wait => Sys2Proof.Machine.execRemu sh wait s
  | .rems sh wait => Sys2Proof.Machine.execRems sh wait s
  | .and sh wait => Sys2Proof.Machine.execAnd sh wait s
  | .or sh wait => Sys2Proof.Machine.execOr sh wait s
  | .xor sh wait => Sys2Proof.Machine.execXor sh wait s
  | .andn sh wait => Sys2Proof.Machine.execAndn sh wait s
  | .not sh wait => Sys2Proof.Machine.execNot sh wait s
  | .lsl sh wait => Sys2Proof.Machine.execLsl sh wait s
  | .lsr sh wait => Sys2Proof.Machine.execLsr sh wait s
  | .asr sh wait => Sys2Proof.Machine.execAsr sh wait s
  | .rol sh wait => Sys2Proof.Machine.execRol sh wait s
  | .ror sh wait => Sys2Proof.Machine.execRor sh wait s
  | .bfext sh wait => Sys2Proof.Machine.execBfext sh wait s
  | .bfins sh wait => Sys2Proof.Machine.execBfins sh wait s
  | .clz sh wait => Sys2Proof.Machine.execClz sh wait s
  | .bperm sh wait => Sys2Proof.Machine.execBperm sh wait s
  | .gather sh wait => Sys2Proof.Machine.execGather sh wait s
  | .cmp sh wait => Sys2Proof.Machine.execCmp sh wait s
  | .tst sh wait => Sys2Proof.Machine.execTst sh wait s
  | .br sh wait => Sys2Proof.Machine.execBr sh wait s
  | .call sh wait => Sys2Proof.Machine.execCall sh wait s
  | .ret sh wait => Sys2Proof.Machine.execRet sh wait s
  | .loop sh wait => Sys2Proof.Machine.execLoop sh wait s
  | .rpt sh wait => Sys2Proof.Machine.execRpt sh wait s
  | .trap sh wait => Sys2Proof.Machine.execTrap sh wait s
  | .tret sh wait => Sys2Proof.Machine.execTret sh wait s
  | .esub sh wait => Sys2Proof.Machine.execEsub sh wait s
  | .ewait sh wait => Sys2Proof.Machine.execEwait sh wait s
  | .lrd sh wait => Sys2Proof.Machine.execLrd sh wait s
  | .tout sh wait => Sys2Proof.Machine.execTout sh wait s
  | .reservedOpcode sh wait => Sys2Proof.Machine.execReservedOpcode sh wait s
  | .supplyGood dt supply envBad => Sys2Proof.Machine.execSupplyGood dt supply envBad s
  | .startFuses dt => Sys2Proof.Machine.execStartFuses dt s
  | .startClocks dt found => Sys2Proof.Machine.execStartClocks dt found s
  | .startRegisters dt => Sys2Proof.Machine.execStartRegisters dt s
  | .startBallast dt step drop trip least => Sys2Proof.Machine.execStartBallast dt step drop trip least s
  | .startPlan dt v0 deltas eol30 vout forecast => Sys2Proof.Machine.execStartPlan dt v0 deltas eol30 vout forecast s
  | .entropy dt good => Sys2Proof.Machine.execEntropy dt good s
  | .pufRead dt cells => Sys2Proof.Machine.execPufRead dt cells s
  | .extract dt => Sys2Proof.Machine.execExtract dt s
  | .derive dt lost => Sys2Proof.Machine.execDerive dt lost s
  | .startFirmware dt damaged => Sys2Proof.Machine.execStartFirmware dt damaged s
  | .recoveryAnchor dt torn => Sys2Proof.Machine.execRecoveryAnchor dt torn s
  | .recoveryChain dt lost => Sys2Proof.Machine.execRecoveryChain dt lost s
  | .recoveryTree dt lost => Sys2Proof.Machine.execRecoveryTree dt lost s
  | .recoveryReplay dt lost => Sys2Proof.Machine.execRecoveryReplay dt lost s
  | .recoveryOutcomes dt => Sys2Proof.Machine.execRecoveryOutcomes dt s
  | .recoveryWrites dt => Sys2Proof.Machine.execRecoveryWrites dt s
  | .slots dt damaged => Sys2Proof.Machine.execSlots dt damaged s
  | .release dt => Sys2Proof.Machine.execRelease dt s
  | .startSteward dt failed => Sys2Proof.Machine.execStartSteward dt failed s
  | .startSelfTest dt failed => Sys2Proof.Machine.execStartSelfTest dt failed s
  | .startApplets dt lost => Sys2Proof.Machine.execStartApplets dt lost s
  | .startReady dt => Sys2Proof.Machine.execStartReady dt s
  | .powerFailDetect => Sys2Proof.Machine.execPowerFailDetect s
  | .sealDrainDone => Sys2Proof.Machine.execSealDrainDone s
  | .deviceReset line => Sys2Proof.Machine.execDeviceReset line s
  | .hotReset => Sys2Proof.Machine.execHotReset s
  | .flr fn => Sys2Proof.Machine.execFlr fn s
  | .busMasterDisable fn write => Sys2Proof.Machine.execBusMasterDisable fn write s
  | .d3hotEntry fn => Sys2Proof.Machine.execD3hotEntry fn s
  | .d0Return fn => Sys2Proof.Machine.execD0Return fn s
  | .vfEnableWrite enable num => Sys2Proof.Machine.execVfEnableWrite enable num s
  | .msixUnmask fn vec word => Sys2Proof.Machine.execMsixUnmask fn vec word s
  | .reservedLocationAccess fn bar addr kind malformed => Sys2Proof.Machine.execReservedLocationAccess fn bar addr kind malformed s
  | .multiwordMswRead fn bar addr => Sys2Proof.Machine.execMultiwordMswRead fn bar addr s
  | .indData write => Sys2Proof.Machine.execIndData write s
  | .registerWrite fn bar addr value => Sys2Proof.Machine.execRegisterWrite fn bar addr value s
  | .cfgCommit value => Sys2Proof.Machine.execCfgCommit value s
  | .cfgWalk => Sys2Proof.Machine.execCfgWalk s
  | .icEoi value => Sys2Proof.Machine.execIcEoi value s
  | .icMaskSet value => Sys2Proof.Machine.execIcMaskSet value s
  | .icMaskClr value => Sys2Proof.Machine.execIcMaskClr value s
  | .icPendSet value => Sys2Proof.Machine.execIcPendSet value s
  | .icPendClr value => Sys2Proof.Machine.execIcPendClr value s
  | .cpCalApply value => Sys2Proof.Machine.execCpCalApply value s
  | .calSlewEnd dt => Sys2Proof.Machine.execCalSlewEnd dt s
  | .sscEnable word => Sys2Proof.Machine.execSscEnable word s
  | .sscDisable word => Sys2Proof.Machine.execSscDisable word s
  | .lanePhyDisable lane word => Sys2Proof.Machine.execLanePhyDisable lane word s
  | .ccDisable word => Sys2Proof.Machine.execCcDisable word s
  | .pmEnable => Sys2Proof.Machine.execPmEnable s
  | .svcParkEnd => Sys2Proof.Machine.execSvcParkEnd s
  | .obLogSelLo value => Sys2Proof.Machine.execObLogSelLo value s
  | .obCntEvent value => Sys2Proof.Machine.execObCntEvent value s
  | .traceSync => Sys2Proof.Machine.execTraceSync s
  | .traceLost => Sys2Proof.Machine.execTraceLost s
  | .smbusReadWord addr cmd => Sys2Proof.Machine.execSmbusReadWord addr cmd s
  | .marginReplan dt v0 deltas eol30 vout forecast => Sys2Proof.Machine.execMarginReplan dt v0 deltas eol30 vout forecast s
  | .ageingTick dt => Sys2Proof.Machine.execAgeingTick dt s
  | .calendarRetainWrite dt => Sys2Proof.Machine.execCalendarRetainWrite dt s
  | .eraWrap dt => Sys2Proof.Machine.execEraWrap dt s
  | .envelopeCompare nets => Sys2Proof.Machine.execEnvelopeCompare nets s
  | .clockWindow region dev osc => Sys2Proof.Machine.execClockWindow region dev osc s
  | .glitchIsland island mv failing => Sys2Proof.Machine.execGlitchIsland island mv failing s
  | .supplyRange rail mv => Sys2Proof.Machine.execSupplyRange rail mv s
  | .clockGlitch region seen => Sys2Proof.Machine.execClockGlitch region seen s
  | .light uw => Sys2Proof.Machine.execLight uw s
  | .tempTrip n temp => Sys2Proof.Machine.execTempTrip n temp s
  | .tempRate n rate => Sys2Proof.Machine.execTempRate n rate s
  | .tempRange n temp => Sys2Proof.Machine.execTempRange n temp s
  | .neighbour mv temp => Sys2Proof.Machine.execNeighbour mv temp s
  | .ballastLow mv isOpen => Sys2Proof.Machine.execBallastLow mv isOpen s
  | .cfgMismatch dt => Sys2Proof.Machine.execCfgMismatch dt s
  | .l1End dt => Sys2Proof.Machine.execL1End dt s
  | .lockdownZeroiseCore => Sys2Proof.Machine.execLockdownZeroiseCore s
  | .scuttleHelperFuses => Sys2Proof.Machine.execScuttleHelperFuses s
  | .scuttleAnchorWipe => Sys2Proof.Machine.execScuttleAnchorWipe s
  | .scuttleCopyWipe => Sys2Proof.Machine.execScuttleCopyWipe s
  | .lanePlaceEntry cmd => Sys2Proof.Machine.execLanePlaceEntry cmd s
  | .wakeRequest lane => Sys2Proof.Machine.execWakeRequest lane s
  | .laneRxLock lane => Sys2Proof.Machine.execLaneRxLock lane s
  | .helloS lane frame => Sys2Proof.Machine.execHelloS lane frame s
  | .readyS lane frame => Sys2Proof.Machine.execReadyS lane frame s
  | .timeEcho lane rNs frame => Sys2Proof.Machine.execTimeEcho lane rNs frame s
  | .ack lane frame => Sys2Proof.Machine.execAck lane frame s
  | .sleep lane frame => Sys2Proof.Machine.execSleep lane frame s
  | .report lane frame => Sys2Proof.Machine.execReport lane frame s
  | .lateFail lane frame => Sys2Proof.Machine.execLateFail lane frame s
  | .close lane frame => Sys2Proof.Machine.execClose lane frame s
  | .timeTick dt lane => Sys2Proof.Machine.execTimeTick dt lane s
  | .laneRetxTimeout dt lane => Sys2Proof.Machine.execLaneRetxTimeout dt lane s
  | .linkLoss lane => Sys2Proof.Machine.execLinkLoss lane s
  | .noFrameTimeout dt lane => Sys2Proof.Machine.execNoFrameTimeout dt lane s
  | .bringupTimeout dt lane => Sys2Proof.Machine.execBringupTimeout dt lane s
  | .bringupRetry dt lane => Sys2Proof.Machine.execBringupRetry dt lane s
  | .driftWake dt lane => Sys2Proof.Machine.execDriftWake dt lane s
  | .sleepIdleWake dt lane => Sys2Proof.Machine.execSleepIdleWake dt lane s
  | .timedWithdraw dt lane => Sys2Proof.Machine.execTimedWithdraw dt lane s
  | .failEntryExpiry dt lane => Sys2Proof.Machine.execFailEntryExpiry dt lane s
  | .laneCloseTimeout dt lane => Sys2Proof.Machine.execLaneCloseTimeout dt lane s
  | .cardInsertion => Sys2Proof.Machine.execCardInsertion s
  | .cardRemovalAll => Sys2Proof.Machine.execCardRemovalAll s
  | .rollCallRound dt frames => Sys2Proof.Machine.execRollCallRound dt frames s
  | .cardPoll dt answers => Sys2Proof.Machine.execCardPoll dt answers s
  | .cardBlockTransfer addr kind answer data => Sys2Proof.Machine.execCardBlockTransfer addr kind answer data s
  | .cardHoldEnd => Sys2Proof.Machine.execCardHoldEnd s
  | .cardDebit cmd => Sys2Proof.Machine.execCardDebit cmd s
  | .cardFinish => Sys2Proof.Machine.execCardFinish s
  | .cardResolve index => Sys2Proof.Machine.execCardResolve index s
  | .approvalExpiry dt => Sys2Proof.Machine.execApprovalExpiry dt s
  | .idcode => Sys2Proof.Machine.execIdcode s
  | .sample cells => Sys2Proof.Machine.execSample cells s
  | .preload cells => Sys2Proof.Machine.execPreload cells s
  | .extest => Sys2Proof.Machine.execExtest s
  | .clamp => Sys2Proof.Machine.execClamp s
  | .highz => Sys2Proof.Machine.execHighz s
  | .bypass => Sys2Proof.Machine.execBypass s
  | .resetRelease dt envBad => Sys2Proof.Machine.execResetRelease dt envBad s
  | .powerDown vbat => Sys2Proof.Machine.execPowerDown vbat s
  | .pcieLinkUp dt width gen => Sys2Proof.Machine.execPcieLinkUp dt width gen s
  | .keyUpdateReplyRelease dt => Sys2Proof.Machine.execKeyUpdateReplyRelease dt s
  | .alarmPulseEnd dt => Sys2Proof.Machine.execAlarmPulseEnd dt s
  | .testLogicReset dt envBad => Sys2Proof.Machine.execTestLogicReset dt envBad s
  | .scrubberError kind n addr => Sys2Proof.Machine.execScrubberError kind n addr s
  | .tempWarn n temp => Sys2Proof.Machine.execTempWarn n temp s
  | .laneBadFrame lane symbols => Sys2Proof.Machine.execLaneBadFrame lane symbols s

end Sys2Proof.Machine
end

