-- ==== Sys2Proof/Machine/Step.lean ====
section
/-! DEFINITION. One step: the command at the front of the queue, or a microsecond of idling. -/

namespace Sys2Proof.Machine

/-- The block idles for a microsecond, and what comes about by itself does. -/
def idle (s : State) : Host.Outcome State Fault Refusal := .next (settle (passTime 1 s))

/-- One step. (DESIGN CHOICE, log 2) -/
def step (s : State) : Host.Outcome State Fault Refusal :=
  match s.pending with
  | [] => idle s
  | c :: rest => exec c { s with pending := rest }

/-- The command that a word spells, put at the front of the queue; nothing where it spells none.
(DESIGN CHOICE, log 1) -/
def State.withFetchWord (s : State) (nbits w : Nat) : State :=
  match decodeTableWord nbits w with
  | some c => { s with pending := c :: s.pending }
  | none => s

end Sys2Proof.Machine
end

