-- ==== Sys2Proof/Safety.lean ====
section
/-! DEFINITION. What claims call a settled state and a safe run: interrupts stand delivered (R426), the conditions of
LEVEL sources are shown as they are (R418, R426), and no step stops the machine. -/

namespace Sys2Proof.Machine

/-- No source waits that could be delivered to the host (R426). -/
def Delivered (s : State) : Prop := ∀ n, n < 512 → icDue s n = false

/-- RAW shows the conditions of the LEVEL sources (R418, R426). -/
def RawShown (s : State) : Prop := s.ic.raw = rawNow s

/-- What stands after every command while the part is supplied. -/
def Settled (s : State) : Prop := s.clk.supply = true → Delivered s ∧ RawShown s

/-- A start-up phase has ended: dt µs, between its least and its most, after those that it waits for, and stands among
those done (R460). -/
def phaseEnds (p : Phase) (after : List Phase) (least most dt : Nat) (s : State) : State :=
  { passTime (phaseBegin s after + max least (min most dt) - s.now) s with
    start := { (passTime (phaseBegin s after + max least (min most dt) - s.now) s).start with
      done := (passTime (phaseBegin s after + max least (min most dt) - s.now) s).start.done ++ [p]
      ends := (passTime (phaseBegin s after + max least (min most dt) - s.now) s).start.ends ++
        [(p, phaseBegin s after + max least (min most dt))] } }

/-- A command with an id and an opcode stands admitted in a part whose units run and, where it is of class M, a steward
has taken it (R258). -/
def Admitted (s : State) (op id : Nat) (c : Cmd) : Prop :=
  alive s = true ∧ s.jn.stopped = false ∧ cmdOf s id = some c ∧ cOp c = op ∧ served c = true

/-- Instruction i stands at the PC of a shuttle that runs, has passed steps 1 to 5 of R241, and finds the machine k. A
GATHER that goes on with its next element read its operands with the first one, whose addresses it keeps (R247, R248). -/
def Staged (s : State) (sh wait opc : Nat) (i : Ins) (k : KS) : Prop :=
  ∃ j ops q more, more = (opc == 0x34 && (getSh s sh).gath.isSome) ∧ alive s = true ∧ (getSh s sh).job = some j ∧ shuttleRuns s sh = true ∧ i.pc = (getSh s sh).pc ∧
    kFetch s sh j i.pc = some i.head ∧ i.head / 64 = opc ∧ i.opc = opc ∧ i.opn = i.head / 16 % 4 ∧ i.sz = i.head % 16 ∧
    decodeOpds sh j i.opn (i.pc + 1) (beginK sh wait opc s) = .ok (ops, i.after, k) ∧ i.len = i.after - i.pc ∧
    opInfo opc = some q ∧ i.opn ∈ q.opns ∧ i.sz ≤ q.szMax ∧ ¬(opc = 0x50 ∧ i.opn = 2 ∧ i.sz ≠ 0) ∧
    i.roles = q.roles i.opn ∧
    i.ops = List.zipWith (roleErr i.after) i.roles (if more then gathOps (getSh s sh) ops else ops) ∧ (∀ o ∈ i.ops, o.err = 0) ∧
    (List.zipWith immDest i.roles i.ops).any id = false ∧ ¬(opc = 0x51 ∧ (getSh s sh).rpta = true) ∧
    (more = true ∨ (stageOpds sh k (i.roles.zip i.ops) 0).2 = none) ∧
    i.cost = if more then 0 else q.cycles + (ops.filter (fun o => o.mode == 6 || o.mode == 3)).length

/-- What the instruction comes to fits the budget that is left. -/
def Affords (s : State) (sh : Nat) (i : Ins) (k : KS) : Prop := overBudget s sh (i.cost + k.acc) (k.fin == some 0) = false

/-- The instruction completes: its repeat, the loop-end test, the PC and its cycles. -/
def completes (s : State) (sh : Nat) (i : Ins) (n : Next) (k : KS) : State :=
  settle (complete sh i ((getSh s sh).rpta && i.opc != 0x51) n k)

/-- A step that goes on: it neither faults nor refuses. -/
def GoesOn (o : Host.Outcome State Fault Refusal) : Prop := ∃ t, o = .next t

end Sys2Proof.Machine
end

