-- ==== Sys2Proof/Certificates/Slice0/Obligations.lean ====
section
/-! DEFINITION. The statements for the provers. A statement about a row rests on how the model gives a row its effect, on the
lapse that a row carries and on what comes about after every command (log entries 3, 4 and 6), beside the rules it cites. -/

open Sys2Proof Sys2Proof.Machine

/-! ### The step and what every state keeps -/

/-- A step runs the command at the front of the queue on the state with the queue's rest. On an empty queue the block
idles for 1 µs, which is the model's choice (log entry 2). -/
def Obligations.StepForm : Prop :=
  (∀ (c : Instr) (rest : List Instr) (s : State), step { s with pending := c :: rest } = exec c { s with pending := rest }) ∧
  (∀ s, s.pending = [] → step s = .next (settle (passTime 1 s)))

/-- No command faults and none is refused. The model's choices in it: log entry 3. -/
def Obligations.EveryStepGoesOn : Prop :=
  (∀ s, GoesOn (step s)) ∧ (∀ c s, ∃ t, exec c s = .next (settle t))

/-- What stands before the first power-up, as shipped (R19, R85) and at the reset of the registers (R426, R427, R449).
The model's choices in it: log entry 13. -/
def Obligations.ResetValues : Prop :=
  State.reset.pending = [] ∧ State.reset.clk.supply = false ∧ State.reset.glb.lifecycle = 0x03 ∧
  State.reset.glb.service = 1 ∧ State.reset.led.free = 33554432 ∧ State.reset.led.retired = 0 ∧
  State.reset.led.quarantine = [] ∧ imageAt State.reset 0 = shippedRec ∧ rState shippedRec = stFree ∧
  State.reset.ic.mask = BitVec.allOnes 512 ∧ icRoute State.reset 380 = 0x4000 ∧ State.reset.ic.pend = 0 ∧
  State.reset.ic.insvc = 0 ∧ State.reset.tm.alarmN = false ∧ State.reset.jn.inhibit = false ∧
  State.reset.jn.stopped = false ∧ State.reset.cmds.admitted = [] ∧ Settled State.reset

/-- R426, R418: after every step of a supplied part no deliverable interrupt waits, and RAW shows the LEVEL conditions
as they are. The model's choices in it: log entry 6. -/
def Obligations.SettledKept : Prop :=
  ∀ s t, step s = .next t → Settled t

/-- What comes about by itself at the end of a command passes no time, draws no free value and changes no clock, aging,
firmware, pin or TAP state; where no alarm waits for its response and no shuttle holds a lock it changes no ledger
record, no journal, no budget and no phase of start-up; without supply nothing comes about. The model's choices in it:
log entry 6. -/
def Obligations.SettleFrame : Prop :=
  (∀ s, (settle s).pending = s.pending ∧ (settle s).now = s.now ∧ (settle s).free = s.free ∧ (settle s).clk = s.clk ∧
    (settle s).ag = s.ag ∧ (settle s).fws = s.fws ∧ (settle s).pm = s.pm ∧ (settle s).tap = s.tap) ∧
  (∀ s, s.tm.raised = [] → (∀ sh, (getSh s sh).lock = none) → (settle s).led = s.led ∧ (settle s).jn = s.jn ∧ (settle s).adm = s.adm ∧
    (settle s).start = s.start ∧ ∀ n, imageAt (settle s) n = imageAt s n) ∧
  (∀ s, s.clk.supply = false → settle s = s)

/-- R27, R77: an entry names its slot; a DELTA replayed on a record that differs only in the fields it carries gives
the new record, and an IMAGE pair gives the whole of it; a record with its RECORD_CHECK written passes the check. -/
def Obligations.JournalSpells : Prop :=
  (∀ slot r o st, slot < slotCount → eSlot (deltaEntry slot r o st) = slot ∧ eSlot (headEntry slot r o st) = slot ∧
    eSlot (tailEntry slot r) = slot ∧ eKind (deltaEntry slot r o st) = 1 ∧ eKind (headEntry slot r o st) = 2 ∧
    eKind (tailEntry slot r) = 3) ∧
  (∀ slot old r o st, old.length = 16 → r.length = 16 →
    (∀ i, i ∈ [2, 3, 4, 5, 6, 7, 11, 12] → old.getD i 0 = r.getD i 0) → applyDelta old (deltaEntry slot r o st) = r) ∧
  (∀ slot r o st, r.length = 16 → imageOf (headEntry slot r o st) (tailEntry slot r) = r) ∧
  (∀ r, r.length = 16 → checkOk (fixCheck r) = true)

/-- R49, R53: a committed change is the slot's newest image, in the frame that its JSN names, and every other slot
reads as before; R31: its entry stands in the open frame or has closed it. -/
def Obligations.CommitReads : Prop :=
  (∀ s slot new o st, imageAt (commitDelta slot new o st s).2 slot = fixCheck new ∧
    (∀ n, n ≠ slot → imageAt (commitDelta slot new o st s).2 n = imageAt s n) ∧
    jsnFrame (commitDelta slot new o st s).1 = s.jn.openNo + s.jn.openEntries.length / 64) ∧
  (∀ s slot new o st, mwf none s.led.overlay = true →
    mwf none (commitDelta slot new o st s).2.led.overlay = true) ∧
  (∀ s slot new o st, imageAt (commitImage slot new o st s).2 slot = fixCheck new ∧
    (∀ n, n ≠ slot → imageAt (commitImage slot new o st s).2 n = imageAt s n)) ∧
  (∀ s slot new o st, s.jn.openEntries.length < 59 →
    (commitDelta slot new o st s).2.jn.openEntries = s.jn.openEntries ++ [deltaEntry slot (fixCheck new) o st])

/-- R437, R439, R444: lockdown and scuttle: ALARM_N is asserted, nothing more is admitted or appended, the key store's
memory and the root secret are gone; a scuttle also fuses SCUTTLED and destroys the ledger key, at once or, where a
frame still waits to be sealed (R443), when it no longer does. The model's choices in it: log entries 79, 80, 119. -/
def Obligations.LockdownAndScuttle : Prop :=
  (∀ s, s.tm.tripped = false → ∀ t, t = lockdown s → t.tm.alarmN = true ∧ t.tm.tripped = true ∧ t.jn.stopped = true ∧
    t.keys.slots = [] ∧ t.keys.rootIn = false ∧ t.keys.busOpen = false ∧ t.keys.ctxKeys = [] ∧ t.tm.zeroiseDue = true ∧
    t.glb.lifecycle = s.glb.lifecycle ∧ (∀ c ∈ t.cmds.admitted, c.jsn.isSome = true)) ∧
  (∀ s, s.glb.lifecycle ≠ lcScuttled → ∀ t, t = scuttle s → t.tm.alarmN = true ∧ t.tm.tripped = true ∧
    t.jn.stopped = true ∧ t.keys.slots = [] ∧ t.keys.rootIn = false ∧ t.glb.lifecycle = 0xFF ∧ t.host.vfEnable = false ∧
    t.cmds.replies = [] ∧
    ((s.jn.sealing && s.jn.flight.any (fun f => f.stage == .closed)) = false → t.keys.ledgerIn = false ∧
      t.keys.attestIn = false) ∧
    ((s.jn.sealing && s.jn.flight.any (fun f => f.stage == .closed)) = true → t.tm.zeroiseDue = true)) ∧
  (∀ s, s.tm.tripped = true → lockdown s = s) ∧ (∀ s, s.glb.lifecycle = lcScuttled → scuttle s = s)

/-- R51, R183: the header of a credential carries the record's fields where R51 places them. -/
def Obligations.CredentialHeader : Prop :=
  ∀ slot r auth pay, slot < slotCount → r.length = 16 → rRealm r < 32 → auth < 4 → pay ≤ 32 →
    ∀ b, b = credHeader slot r auth pay → b.length = 14 ∧ crVersion b = 1 ∧ crAuth b = (if auth = 3 then 2 else auth) ∧
    crPayLen b = pay ∧ crRealm b = rRealm r ∧ crSlot b = slot ∧ crGen b = rGen r ∧ crPolicy b = rPolicy r ∧
    crFrom b = rFrom r ∧ crTo b = rTo r ∧ crKeyGen b = rKeyGen r ∧ crRes b = 0

/-! ### Host opcodes -/

/-- R139, R175, R480, R484, R92: ECHO returns its parameter words; GET_CAPABILITY writes the record and returns
START_NO and CHANGE; FLUSH takes at its admission the bitmap of its live pairs and marks what waits in them,
COMPACT_NOW the entries of the replay span, with compaction under way outside READ_ONLY, and each returns what it took;
QUIESCE and RESUME change the service state at their admission, wait for what was not answered then, and return
GLB_SERVICE (R22, R23); COUNTERS_READ writes OUT, and LOG_READ writes the entries from START, at most those below the
sequence number that its steward job took at its start, or OLDEST alone where the first of them is overwritten. The
model's choices in it: log entry 112. -/
def Obligations.ServiceCommands : Prop :=
  (∀ s id c, Admitted s 0x01 id c → exec (.echo id) s = .next (settle (finish c sOk
    ((List.range 7).map (fun i => if i < pParams c.words then wd c.words (8 + i) else 0)) [] s))) ∧
  (∀ s id c, Admitted s 0x02 id c → exec (.getCapability id) s = .next (settle (finish c sOk
    (leNats 2 s.adm.startNo ++ leNats 2 s.adm.change) (outTo c 0 (capBytes s (wd c.words 8 % 32))) s))) ∧
  (∀ s id c, Admitted s 0x80 id c → exec (.flush id) s = .next (settle (finish c sOk c.held [] s))) ∧
  (∀ s id c, Admitted s 0x83 id c → exec (.quiesce id) s =
    .next (settle (finish c (if c.held = [1] then sOkAlready else sOk) [serviceWord s] [] s))) ∧
  (∀ s id c, Admitted s 0x84 id c → exec (.resume id) s =
    .next (settle (finish c (if c.held = [1] then sOkAlready else sOk) [serviceWord s] [] s))) ∧
  (∀ s c, cOp c = 0x83 →
    (s.glb.service = svReady ∨ s.glb.service = svReadOnly → (atAdmission c s).1 = { c with held := [0] } ∧
      (atAdmission c s).2.glb.service = svQuiescing ∧ (atAdmission c s).2.cmds.quiesceWait =
        s.cmds.admitted.map Cmd.id ++ s.cmds.replies.filterMap Reply.id) ∧
    (s.glb.service = svQuiescing ∨ s.glb.service = svQuiesced → atAdmission c s = ({ c with held := [1] }, s))) ∧
  (∀ s c, cOp c = 0x84 →
    (s.glb.service = svQuiescing ∨ s.glb.service = svQuiesced → (atAdmission c s).1 = { c with held := [0] } ∧
      (atAdmission c s).2.glb.service = (if s.glb.holdupOk = true then svReady else svReadOnly) ∧
      (atAdmission c s).2.cmds.quiesceWait = []) ∧
    (s.glb.service = svReady ∨ s.glb.service = svReadOnly → atAdmission c s = ({ c with held := [1] }, s))) ∧
  (∀ s id c, Admitted s 0xA0 id c → exec (.compactNow id) s =
    .next (settle (finish c sOk c.held [] s))) ∧
  (∀ s fn p w, (newCmd s fn p w).held = (if pOpcode w = 0xA0 then leNats 2 (spanEntries s) else [])) ∧
  (∀ s c, cOp c = 0xA0 → atAdmission c s = (c, if s.glb.service = svReadOnly then s else
    { s with jn := { s.jn with compacting := true, compactNow := true } })) ∧
  (∀ s c, cOp c = 0x80 → (atAdmission c s).1 = { c with held := [(flushPairs c.fn (wd c.words 8) s).1] } ∧
    (atAdmission c s).2 = (flushPairs c.fn (wd c.words 8) s).2) ∧
  (∀ s fn p, p < 8 → flushPairs fn (2 ^ p) s = (if (getPair s fn p).live = true then
    (2 ^ p, setPairOf fn p { getPair s fn p with
      flushLeft := (getPair s fn p).fetched.length + sqQueued (getPair s fn p) } s) else (0, s))) ∧
  (∀ s fn m p, (flushPairs fn m s).1.testBit p = (decide (p < 8) && m.testBit p && (getPair s fn p).live)) ∧
  (∀ s id c, Admitted s 0x91 id c → exec (.countersRead id) s = .next (settle (finish c sOk [wd c.words 9]
    (outTo c 0 ((List.range (wd c.words 9)).flatMap (fun i =>
      leBytes 6 (mget {} s.ob.counters (wd c.words 8 + i)).count ++
      leBytes 2 (mget {} s.ob.counters (wd c.words 8 + i)).event))) s))) ∧
  (∀ s id c next first n, Admitted s 0x90 id c → c.held = leNats 2 next → next < 2 ^ 32 →
    first = max (pairAt c.words 8) (next - 4096) → n = min (wd c.words 10) (next - first) →
    (logOldest s ≤ first → exec (.logRead id) s = .next (settle (finish c sOk (n :: leNats 2 (first + n))
      (outTo c 0 ((List.range n).map (fun i => ((logFind s (first + i)).getD []).flatMap (leBytes 2))).flatten) s))) ∧
    (first < logOldest s → exec (.logRead id) s =
      .next (settle (finish c sOk (0 :: leNats 2 (logOldest s)) (outTo c 0 []) s)))) ∧
  (∀ s sh c d, d ∈ s.cmds.admitted → d.id = c.id → cOp d = 0x90 →
    ∃ x ∈ (startSteward sh c s).cmds.admitted, x.id = c.id ∧ x.held = leNats 2 s.ob.logNext)

/-- R96, R166, R167, R42: the reads of the ledger return record images, for LEDGER_GATHER each element's code and image
in the list's order, and the outcome of a tag; REALM_REBASE sets the base of the current epoch or goes on to the next
with the base that many days on, and appends a REALM entry, or says why not. The model's choices in it: log entry 29.
-/
def Obligations.LedgerReads : Prop :=
  (∀ s id c, Admitted s 0x13 id c → c.lookupDone = true → slotChecks s c.fn (pSlot c.words) (pGen c.words) = none →
    exec (.ledgerRead id) s = .next (settle (finish (needs c (imageFrame s (pSlot c.words))) sOk
      [rState (imageAt s (pSlot c.words)) * 4096, 0] (outTo c 0 (wordBytes (imageAt s (pSlot c.words)))) s))) ∧
  (∀ s id c, Admitted s 0x13 id c → c.lookupDone = true →
    slotChecks s c.fn (pSlot c.words) (pGen c.words) = some sSlotState →
    exec (.ledgerRead id) s = .next (settle (finish (needs c (imageFrame s (pSlot c.words))) sSlotState
      [rState (imageAt s (pSlot c.words)) * 4096] [] s))) ∧
  (∀ s id c d e, Admitted s 0x14 id c → c.lookupDone = true → inData c 0 = some d →
    (chunks 8 d).map bytesWords = [e] → bits (pairAt e 0) 31 25 = 0 → wd e 3 = 0 →
    slotChecks s c.fn (pairAt e 0 % 2 ^ 25) (wd e 2) = none →
    exec (.ledgerGather id) s = .next (settle (finish (needs c (max 0 (imageFrame s (pairAt e 0 % 2 ^ 25)))) sOk
      [0xFFF0, 0xFFFF, 0xFFFF, 0xFFFF, 1] (outTo c 1 (wordBytes (imageAt s (pairAt e 0 % 2 ^ 25)))) s))) ∧
  (∀ s id c d es, Admitted s 0x14 id c → c.lookupDone = true → inData c 0 = some d → es = (chunks 8 d).map bytesWords →
    (∀ e ∈ es, bits (pairAt e 0) 31 25 = 0 ∧ wd e 3 = 0) → ∀ rs, rs = es.map (gatherOne s c.fn) →
    ∀ need, need = (es.map (fun e => imageFrame s (pairAt e 0 % 2 ^ 25))).foldl max 0 →
    exec (.ledgerGather id) s = .next (settle (finish (needs c need) sOk
      (packCodes (rs.map Prod.fst) ++ [(rs.filter (fun p => p.1 == 0)).length]) (outTo c 1 (rs.flatMap Prod.snd)) s))) ∧
  (∀ s id c d, Admitted s 0x14 id c → c.lookupDone = true → inData c 0 = some d →
    (∃ e ∈ (chunks 8 d).map bytesWords, bits (pairAt e 0) 31 25 ≠ 0 ∨ wd e 3 ≠ 0) →
    exec (.ledgerGather id) s = .next (settle (finish c sReservedNz [] [] s))) ∧
  (∀ s fn e st, slotChecks s fn (pairAt e 0 % 2 ^ 25) (wd e 2) = some st → gatherOne s fn e =
    (if st = sSlotState then (0x1, List.replicate 32 0)
     else if st = sGenMismatch then (0x2, wordBytes (imageAt s (pairAt e 0 % 2 ^ 25)))
     else if st = sRetired then (0x7, wordBytes (imageAt s (pairAt e 0 % 2 ^ 25))) else (0xC, List.replicate 32 0))) ∧
  (∀ s fn e, slotChecks s fn (pairAt e 0 % 2 ^ 25) (wd e 2) = none →
    gatherOne s fn e = (0, wordBytes (imageAt s (pairAt e 0 % 2 ^ 25)))) ∧
  (∀ s id c r, Admitted s 0x17 id c → c.needFrame ≤ s.jn.durable →
    (allOutcomes s).find? (fun r => r.fn == c.fn && r.tag == pairAt c.words 8) = some r →
    exec (.txnQuery id) s = .next (settle (finish c sOk ([1, r.status] ++ leNats 4 r.jsn) [] s))) ∧
  (∀ s id c, Admitted s 0x17 id c → c.needFrame ≤ s.jn.durable →
    (∀ r ∈ allOutcomes s, ¬(r.fn = c.fn ∧ r.tag = pairAt c.words 8)) →
    exec (.txnQuery id) s = .next (settle (finish c sOk [] [] s))) ∧
  (∀ s id c, Admitted s 0x16 id c → wd c.words 8 = 0 → pairAt c.words 9 ≤ s.clk.cal →
    mget 0 s.led.epCount (c.fn * 4 + (realmRow s c.fn).epoch) = 0 →
    exec (.realmRebase id) s = .next (settle (finish (withJsn c (nextJsn s)) sOk
      ((realmRow s c.fn).epoch :: leNats 2 (pairAt c.words 9)) []
      (append (realmEntry 2 c.fn ((realmRow s c.fn).epoch :: leNats 2 (pairAt c.words 9)) (cOrigin c) sOk) s)))) ∧
  (∀ s id c e, Admitted s 0x16 id c → wd c.words 8 ≠ 0 → pairAt c.words 9 = 0 → e = ((realmRow s c.fn).epoch + 1) % 4 →
    baseOf s c.fn (realmRow s c.fn).epoch + wd c.words 8 * 86400 ≤ s.clk.cal →
    0 < mget 0 s.led.epCount (c.fn * 4 + e) →
    exec (.realmRebase id) s = .next (settle (finish c sSlotState [] [] s))) ∧
  (∀ s id c e base, Admitted s 0x16 id c → wd c.words 8 ≠ 0 → pairAt c.words 9 = 0 →
    e = ((realmRow s c.fn).epoch + 1) % 4 → base = baseOf s c.fn (realmRow s c.fn).epoch + wd c.words 8 * 86400 →
    base ≤ s.clk.cal → mget 0 s.led.epCount (c.fn * 4 + e) = 0 →
    exec (.realmRebase id) s = .next (settle (finish (withJsn c (nextJsn s)) sOk (e :: leNats 2 base) []
      (append (realmEntry 2 c.fn (e :: leNats 2 base) (cOrigin c) sOk) s)))) ∧
  (∀ s id c, Admitted s 0x16 id c → wd c.words 8 ≠ 0 → pairAt c.words 9 ≠ 0 →
    exec (.realmRebase id) s = .next (settle (finish c sReservedNz [] [] s))) ∧
  (∀ s id c, Admitted s 0x16 id c → wd c.words 8 = 0 → s.clk.cal < pairAt c.words 9 →
    exec (.realmRebase id) s = .next (settle (finish c sBadParam [] [] s))) ∧
  (∀ s id c, Admitted s 0x16 id c → wd c.words 8 ≠ 0 → pairAt c.words 9 = 0 →
    s.clk.cal < baseOf s c.fn (realmRow s c.fn).epoch + wd c.words 8 * 86400 →
    exec (.realmRebase id) s = .next (settle (finish c sBadParam [] [] s)))

/-- R31, R33, R38, R48: CONFIRM writes ISSUED, VOID writes VOID with LAST_USE_SOURCE, RELEASE returns an ended record
to the pool, and of realm 0 under a RETIRE_SLOT approval retires a quarantined slot; each answers OK_ALREADY where its
effect stands, and a CONFIRM that comes too late writes VOID and answers SLOT_STATE, in a tick that takes the entry
(R127, R128). The model's choices in it: log entry 103. -/
def Obligations.LedgerChanges : Prop :=
  (∀ s id c r, Admitted s 0x11 id c → c.lookupDone = true → r = imageAt s (pSlot c.words) →
    slotChecks s c.fn (pSlot c.words) (pGen c.words) = none →
    (timedOut s r = false → rState r = stReserved → rTag r = false → exec (.ledgerConfirm id) s =
      .next (settle (commitEnd c (pSlot c.words) (setPair (setState r stIssued) 8 0) sOk s))) ∧
    (timedOut s r = false → rState r = stReserved → rTag r = true → exec (.ledgerConfirm id) s =
      .next (settle (finish (needs c (imageFrame s (pSlot c.words))) sSlotState (stateGen r) [] s))) ∧
    (timedOut s r = false → rState r = stUnconfirmed → exec (.ledgerConfirm id) s =
      .next (settle (commitEnd c (pSlot c.words) (setPair (setState r stIssued) 8 0) sOk s))) ∧
    (timedOut s r = true → 0 < otherLeft s → exec (.ledgerConfirm id) s =
      .next (settle (commitEnd c (pSlot c.words) (voidRec r (cOrigin c)) sSlotState (useOther 1 s)))) ∧
    (timedOut s r = true → otherLeft s = 0 → exec (.ledgerConfirm id) s = .next (settle s)) ∧
    (timedOut s r = false → rState r = stIssued → exec (.ledgerConfirm id) s =
      .next (settle (finish (needs c (imageFrame s (pSlot c.words))) sOkAlready (stateGen r) [] s)))) ∧
  (∀ s id c r, Admitted s 0x12 id c → c.lookupDone = true → r = imageAt s (pSlot c.words) →
    slotChecks s c.fn (pSlot c.words) (pGen c.words) = none →
    (timedOut s r = false → 1 ≤ rState r → rState r ≤ 4 → exec (.ledgerVoid id) s =
      .next (settle (commitEnd c (pSlot c.words) (voidRec r (cOrigin c)) sOk s))) ∧
    (timedOut s r = true → 0 < otherLeft s → exec (.ledgerVoid id) s =
      .next (settle (commitEnd c (pSlot c.words) (voidRec r (cOrigin c)) sOkAlready (useOther 1 s)))) ∧
    (timedOut s r = true → otherLeft s = 0 → exec (.ledgerVoid id) s = .next (settle s)) ∧
    (timedOut s r = false → rState r = stVoid → exec (.ledgerVoid id) s =
      .next (settle (finish (needs c (imageFrame s (pSlot c.words))) sOkAlready (stateGen r) [] s))) ∧
    (timedOut s r = false → rState r = stExpired → exec (.ledgerVoid id) s =
      .next (settle (finish (needs c (imageFrame s (pSlot c.words))) sSlotState (stateGen r) [] s)))) ∧
  (∀ s id c r, Admitted s 0x15 id c → c.lookupDone = true → c.fn ≠ 0 → r = imageAt s (pSlot c.words) →
    slotChecks s c.fn (pSlot c.words) (pGen c.words) = none → timedOut s r = false →
    (5 ≤ rState r → rState r ≤ 7 → rGen r < 0xFFFF → exec (.ledgerRelease id) s =
      .next (settle (finish (withJsn c (nextJsn s)) sOk (stateGen (setState r stFree)) []
        (poolAdd (pSlot c.words) (commitDelta (pSlot c.words) (setState r stFree) (cOrigin c) sOk s).2)))) ∧
    (5 ≤ rState r → rState r ≤ 7 → 0xFFFF ≤ rGen r → exec (.ledgerRelease id) s =
      .next (settle (finish (withJsn c (nextJsn s)) sOk (stateGen (setState r stRetired)) []
        (cutQuota (rRealm r) (jsnFrame (nextJsn s))
          (commitDelta (pSlot c.words) (setState r stRetired) (cOrigin c) sOk s).2)))) ∧
    (rState r = stFree → exec (.ledgerRelease id) s =
      .next (settle (finish (needs c (imageFrame s (pSlot c.words))) sOkAlready (stateGen r) [] s)))) ∧
  (∀ s id c, Admitted s 0x15 id c → c.lookupDone = true → c.fn = 0 → quarOf s (pSlot c.words) = none →
    exec (.ledgerRelease id) s = .next (settle (finish c sNotPermitted [] [] s))) ∧
  (∀ s id c q, Admitted s 0x15 id c → c.lookupDone = true → c.fn = 0 → quarOf s (pSlot c.words) = some q →
    approvalFor s (wd c.words 11) 5 (leNats 2 (pSlot c.words)) = none →
    exec (.ledgerRelease id) s = .next (settle (finish c sNotPermitted [] [] s))) ∧
  (∀ s id c q a new, Admitted s 0x15 id c → c.lookupDone = true → c.fn = 0 → quarOf s (pSlot c.words) = some q →
    approvalFor s (wd c.words 11) 5 (leNats 2 (pSlot c.words)) = some a →
    new = fixCheck (retiredQuar (imageAt s (pSlot c.words)) q.checkOk) → ∃ j u,
      exec (.ledgerRelease id) s = .next (settle (finish (withJsn c j) sOk (stateGen new) [] u)) ∧
      imageAt u (pSlot c.words) = new ∧ (∀ n, n ≠ pSlot c.words → imageAt u n = imageAt s n) ∧
      quarOf u (pSlot c.words) = none ∧ (jsnFrame j, q) ∈ u.led.retiring ∧ rState new = stRetired ∧
      (∀ x ∈ u.card.approvals, x.id ≠ a.id) ∧
      (s.jn.openEntries.length < 58 → u.jn.openEntries = s.jn.openEntries ++
        [headEntry (pSlot c.words) new (cOrigin c) sOk, tailEntry (pSlot c.words) new]))

/-- R31, R39, R40, R46, R47, R166, R301: LEDGER_RESERVE takes the first slot of the free pool that is found good and
commits the whole new record, or answers BAD_PARAMETER or QUOTA. The model's choices in it: log entries 17, 101. -/
def Obligations.LedgerReserves : Prop :=
  (∀ s id c, Admitted s 0x10 id c → reserveDaysBad s c = false → reserveCurGen s c ≠ 0 →
    heldOf s c.fn < (realmRow s c.fn).quota →
    (∀ slot t, poolPick s = (some slot, t) → ∀ new,
      new = reservedRec t c (imageAt t slot) (reserveCurGen t c % 256) →
      ∀ u, u = commitImage slot new (cOrigin c) sOk (poolTake slot t) →
      exec (.ledgerReserve id) s = .next (settle (finish (withJsn c u.1) sOk
        (leNats 2 slot ++ [wd new 0, wd new 2, wd new 12]) [] u.2))) ∧
    (∀ t, poolPick s = (none, t) → exec (.ledgerReserve id) s = .next (settle (finish c sQuota [] [] t)))) ∧
  (∀ s id c, Admitted s 0x10 id c → reserveDaysBad s c = false → reserveCurGen s c ≠ 0 →
    (realmRow s c.fn).quota ≤ heldOf s c.fn → exec (.ledgerReserve id) s = .next (settle (finish c sQuota [] [] s))) ∧
  (∀ s id c, Admitted s 0x10 id c → reserveDaysBad s c = true ∨ reserveCurGen s c = 0 →
    exec (.ledgerReserve id) s = .next (settle (finish c sBadParam [] [] s))) ∧
  (∀ s, (∀ n ns, s.led.prefetched = n :: ns → poolPick s = (some n, s)) ∧
    (s.led.prefetched = [] → poolPick s = firstGood (poolFirst 4112 s) s)) ∧
  (∀ s n ns, slotGood (readSlot false n s) n = true → firstGood (n :: ns) s = (some n, readSlot false n s)) ∧
  (∀ s n ns, slotGood (readSlot false n s) n = false → firstGood (n :: ns) s = firstGood ns (readSlot false n s)) ∧
  (∀ s c old kg, (rGen old + 1 < 65536) → c.fn < 256 → kg < 256 → c.appGen < 256 →
    rState (reservedRec s c old kg) = stReserved ∧ rGen (reservedRec s c old kg) = rGen old + 1 ∧
    rRealm (reservedRec s c old kg) = c.fn ∧ rUse (reservedRec s c old kg) = 0 ∧
    rKeyGen (reservedRec s c old kg) = kg ∧ rAppGen (reservedRec s c old kg) = c.appGen)

/-- R35, R36, R169, R170, R511: the credential commands end with what the checks of R35 find; VALIDATE_CONSUME and an
ISSUE to the host commit at LEDGER_APPLY, where the checks are taken again: a record that ended goes to EXPIRED, one
that was not confirmed in time goes to VOID in a tick that takes the entry, and another failure ends the command with
its status; an ISSUE to a lane waits there for its frame. The model's choices in it: log entries 43, 131. -/
def Obligations.CredentialCommands : Prop :=
  (∀ s id c b, c.lookupDone = true → credOf c = some b → (∃ x, c.work = .done false true x) → c.step = 0 →
    c.job ≠ .ended .lockBroken → credHeadBad c b true = none → ∀ r, r = imageAt s (crSlot b) →
    judgeRecord s c b = .pass → ∀ v a, verdictOf s c r = .done v a →
    (Admitted s 0x21 id c → exec (.validate id) s =
      .next (settle (finish (needs c (imageFrame s (crSlot b))) sOk (valWords r v) [] s))) ∧
    (Admitted s 0x23 id c → exec (.revalidate id) s =
      .next (settle (finish (needs c (imageFrame s (crSlot b))) sOk (valWords r v) [] s))) ∧
    (Admitted s 0x22 id c → bit v 15 = true → exec (.validateConsume id) s =
      .next (settle (finish (needs c (imageFrame s (crSlot b))) sOk (valWords r v) [] s))) ∧
    (Admitted s 0x22 id c → bit v 15 = false → exec (.validateConsume id) s = .next (settle (setCmd { c with step := 1 } s)))) ∧
  (∀ s id c b x, c.lookupDone = true → credOf c = some b → c.work = .done false false x → c.step = 0 →
    c.job ≠ .ended .lockBroken → credFormBad c b = false → crRealm b = c.fn →
    (Admitted s 0x21 id c → exec (.validate id) s = .next (settle (finish c sMacMismatch [] [] s))) ∧
    (Admitted s 0x22 id c → exec (.validateConsume id) s = .next (settle (finish c sMacMismatch [] [] s))) ∧
    (Admitted s 0x23 id c → exec (.revalidate id) s = .next (settle (finish c sMacMismatch [] [] s)))) ∧
  (∀ s id c b, Admitted s 0x22 id c → c.step = 1 → c.lookupDone = true → credOf c = some b →
    (∃ x, c.work = .done false true x) → c.job ≠ .ended .lockBroken → judgeRecord s c b = .pass →
    ∀ v, verdictOf s c (imageAt s (crSlot b)) = .done v none → bit v 15 = false →
    ∀ u, u = commitDelta (crSlot b) (consumed s c (imageAt s (crSlot b))) (cOrigin c) sOk s →
    exec (.ledgerApply id) s = .next (settle (finish (withJsn c u.1) sOk (valWords (imageAt u.2 (crSlot b)) v) [] u.2))) ∧
  (∀ s id c st rs, Admitted s 0x20 id c → c.lookupDone = true → inReady c = true → c.step = 0 →
    issuePlan s c = .stop st rs → exec (.issue id) s =
    .next (settle (finish (needs c (imageFrame s (pSlot c.words))) st rs [] s))) ∧
  (∀ s id c bl cr, Admitted s 0x20 id c → c.lookupDone = true → inReady c = true → c.step = 0 →
    issuePlan s c = .emit bl cr → exec (.issue id) s = .next (settle (setCmd { c with step := 1 } s))) ∧
  (∀ s id c bl cr, Admitted s 0x20 id c → c.step = 1 → issuePlan s c = .emit bl cr → laneOf c.words = none →
    ∀ u, u = commitDelta (pSlot c.words) (appData (imageAt s (pSlot c.words)) bl) (cOrigin c) sOk s →
    exec (.ledgerApply id) s = .next (settle (finish (withJsn c u.1) sOk
      (issueWords (imageAt u.2 (pSlot c.words)) (issueOut c (imageAt s (pSlot c.words)) bl cr).length 0)
      (outTo c (b2n (pHasIn c.words)) (issueOut c (imageAt s (pSlot c.words)) bl cr)) u.2))) ∧
  (∀ s id c b r, Admitted s 0x22 id c → c.step = 1 → c.lookupDone = true → credOf c = some b →
    (∃ x, c.work = .done false true x) → c.job ≠ .ended .lockBroken → r = imageAt s (crSlot b) →
    (∀ st shown, judgeRecord s c b = .fail st shown → exec (.ledgerApply id) s =
      .next (settle (finish (needs c (imageFrame s (crSlot b))) st (if shown = true then valWords r 0 else []) [] s))) ∧
    (∀ u, judgeRecord s c b = .expire → u = commitDelta (crSlot b)
        (setW (setState r stExpired) 10 (sourceWord (cOrigin c))) (cOrigin c) sExpired s →
      exec (.ledgerApply id) s = .next (settle (finish (withJsn c u.1) sExpired (valWords (imageAt u.2 (crSlot b)) 0) [] u.2))) ∧
    (∀ u, judgeRecord s c b = .timeout → 0 < otherLeft s →
      u = commitDelta (crSlot b) (voidRec r (cOrigin c)) (cOrigin c) sSlotState (useOther 1 s) →
      exec (.ledgerApply id) s =
        .next (settle (finish (withJsn c u.1) sSlotState (valWords (imageAt u.2 (crSlot b)) 0) [] u.2))) ∧
    (judgeRecord s c b = .timeout → otherLeft s = 0 → exec (.ledgerApply id) s = .next (settle s)) ∧
    (∀ v a, judgeRecord s c b = .pass → verdictOf s c r = .done v a → bit v 15 = true → exec (.ledgerApply id) s =
      .next (settle (finish (needs c (imageFrame s (crSlot b))) sOk (valWords r v) [] s))) ∧
    (∀ v lo hi u, judgeRecord s c b = .pass → verdictOf s c r = .done v (some (lo, hi)) → bit v 15 = false →
      u = commitDelta (crSlot b) (setW (setW (consumed s c r) 13 lo) 14 hi) (cOrigin c) sOk s → exec (.ledgerApply id) s =
      .next (settle (finish (withJsn c u.1) sOk (valWords (imageAt u.2 (crSlot b)) v) [] u.2))) ∧
    (∀ st, judgeRecord s c b = .pass → verdictOf s c r = .stop st → exec (.ledgerApply id) s =
      .next (settle (finish (needs c (imageFrame s (crSlot b))) st (valWords r 0) [] s)))) ∧
  (∀ s id c, Admitted s 0x20 id c → c.step = 1 →
    (∀ st rs, issuePlan s c = .stop st rs → exec (.ledgerApply id) s =
      .next (settle (finish (needs c (imageFrame s (pSlot c.words))) st rs [] s))) ∧
    (∀ u, issuePlan s c = .timeout → 0 < otherLeft s → u = commitDelta (pSlot c.words)
        (voidRec (imageAt s (pSlot c.words)) (cOrigin c)) (cOrigin c) sSlotState (useOther 1 s) →
      exec (.ledgerApply id) s = .next (settle (finish (withJsn c u.1) sSlotState
        (issueWords (imageAt u.2 (pSlot c.words)) 0 0) [] u.2))) ∧
    (issuePlan s c = .timeout → otherLeft s = 0 → exec (.ledgerApply id) s = .next (settle s)) ∧
    (∀ st u, issuePlan s c = .void st → u = commitDelta (pSlot c.words)
        (voidRec (imageAt s (pSlot c.words)) (cOrigin c)) (cOrigin c) st s →
      exec (.ledgerApply id) s = .next (settle (finish (withJsn c u.1) st
        (issueWords (imageAt u.2 (pSlot c.words)) 0 0) [] u.2))) ∧
    (∀ bl cr l, issuePlan s c = .emit bl cr → laneOf c.words = some l → exec (.ledgerApply id) s = .next (settle s)))

/-- R113, R115, R141, R156, R164, R176: the packet at the head is admitted where every check passes, or its reply is
fixed and handed over 2 µs after it reached the head, FLUSHED where a FLUSH has marked it since, and a refusal for
capacity is counted by its class; CAP_PUBLISH publishes a record that has changed and advances CHANGE by 1, and changes
neither where the record stands. The model's choices in it: log entries 5, 31, 118, 120, 122, 126, 127, 130. -/
def Obligations.HeadOfQueue : Prop :=
  (∀ s fn p w ws t, alive s = true → s.jn.stopped = false → s.adm.opened = true → (getPair s fn p).live = true →
    (getPair s fn p).fetched = w :: ws → (getPair s fn p).headAt = some t → (getPair s fn p).decided = none →
    (0 < (getPair s fn p).flushLeft → exec (.admissionDecision fn p) s =
      .next (settle (setPairOf fn p { getPair s fn p with decided := some (sFlushed, []) } s))) ∧
    ((getPair s fn p).flushLeft = 0 → verdict s fn p w = none → exec (.admissionDecision fn p) s =
      .next (settle (quiesceCheck (admitHead fn p w s)))) ∧
    (∀ r, (getPair s fn p).flushLeft = 0 → verdict s fn p w = some r → exec (.admissionDecision fn p) s =
      .next (settle (setPairOf fn p { getPair s fn p with decided := some r } s)))) ∧
  (∀ s fn p w, w.getD 31 0 ≠ crc16 (wordBytes (w.take 31)) → verdict s fn p w = some (sBadCheck, [])) ∧
  (∀ s fn p w, w.getD 31 0 = crc16 (wordBytes (w.take 31)) → pVersion w ≠ 1 → verdict s fn p w = some (sBadParam, [0])) ∧
  (∀ s fn p w, w.getD 31 0 = crc16 (wordBytes (w.take 31)) → pVersion w = 1 → formatReserved w = none →
    opRow (pOpcode w) = none → verdict s fn p w = some (sUnknownOp, [])) ∧
  (∀ s dt fn p w ws t r, alive (passTime dt s) = true → (passTime dt s).jn.stopped = false →
    (getPair (passTime dt s) fn p).fetched = w :: ws → (getPair (passTime dt s) fn p).headAt = some t →
    (getPair (passTime dt s) fn p).decided = some r →
    ((passTime dt s).now < t + 2 → exec (.headDecisionRelease dt fn p) s = .next (settle (passTime dt s))) ∧
    (t + 2 ≤ (passTime dt s).now → (getPair (passTime dt s) fn p).flushLeft = 0 → r.1 ≠ sRefCapacity →
      exec (.headDecisionRelease dt fn p) s =
        .next (settle (popHead fn p (count 2 fn (traceAdmit fn p w true
          { pushReply (headReply fn p w r true (passTime dt s)) (passTime dt s) with
            adm := { (passTime dt s).adm with peakAdmit := max (passTime dt s).adm.peakAdmit 1608 } })))))) ∧
  (∀ s dt fn p w ws t r, alive (passTime dt s) = true → (passTime dt s).jn.stopped = false →
    (getPair (passTime dt s) fn p).fetched = w :: ws → (getPair (passTime dt s) fn p).headAt = some t →
    (getPair (passTime dt s) fn p).decided = some r → t + 2 ≤ (passTime dt s).now →
    (0 < (getPair (passTime dt s) fn p).flushLeft → exec (.headDecisionRelease dt fn p) s =
      .next (settle (popHead fn p (count 2 fn (traceAdmit fn p w true
        { pushReply (headReply fn p w (sFlushed, []) true (passTime dt s)) (passTime dt s) with
          adm := { (passTime dt s).adm with peakAdmit := max (passTime dt s).adm.peakAdmit 1608 } }))))) ∧
    ((getPair (passTime dt s) fn p).flushLeft = 0 → r.1 = sRefCapacity → exec (.headDecisionRelease dt fn p) s =
      .next (settle (popHead fn p (count 2 fn (traceAdmit fn p w true (count 3 (pClass w)
        { pushReply (headReply fn p w r true (passTime dt s)) (passTime dt s) with
          adm := { (passTime dt s).adm with
            refused := mset 0 (passTime dt s).adm.refused (pClass w)
              (satInc (mget 0 (passTime dt s).adm.refused (pClass w)) 0xFFFFFFFF)
            peakAdmit := max (passTime dt s).adm.peakAdmit 1608 } }))))))) ∧
  (∀ s dt, exec (.capPublish dt) s = .next (settle (capPublish (passTime dt s)))) ∧
  (∀ s, alive s = true → Phase.plan ∈ s.start.done →
    (capStale s = true → (capPublish s).adm.change = (s.adm.change + 1) % 2 ^ 32 ∧
      (capPublish s).adm.published = capRecordNow s) ∧
    (capStale s = false → (capPublish s).adm.change = s.adm.change ∧
      (capPublish s).adm.published = s.adm.published)) ∧
  (∀ s, s.adm.published = capRecordNow s ↔ capStale s = false)

/-- R171: a crypto command answers what its engine found: OUT and its length, OK or MAC_MISMATCH, or NOT_PERMITTED
where the key bus denied the key. -/
def Obligations.CryptoCommands : Prop :=
  (∀ s id c ok bytes, c.work = .done false ok bytes →
    (Admitted s 0x30 id c → exec (.macGenerate id) s =
      .next (settle (finish c sOk [bytes.length] [(descAddr c.words 1, bytes)] s))) ∧
    (Admitted s 0x31 id c → exec (.macVerify id) s =
      .next (settle (finish c (if ok then sOk else sMacMismatch) [] [] s))) ∧
    (Admitted s 0x32 id c → exec (.cipher id) s =
      .next (settle (finish c sOk [bytes.length] [(descAddr c.words 1, bytes)] s))) ∧
    (Admitted s 0x33 id c → exec (.sign id) s =
      .next (settle (finish c sOk [bytes.length] [(descAddr c.words 1, bytes)] s))) ∧
    (Admitted s 0x34 id c → exec (.sigVerify id) s =
      .next (settle (finish c (if ok then sOk else sMacMismatch) [] [] s))) ∧
    (Admitted s 0x35 id c → exec (.digest id) s =
      .next (settle (finish c sOk [bytes.length] [(descAddr c.words 1, bytes)] s)))) ∧
  (∀ s id c ok bytes, c.work = .done true ok bytes →
    (Admitted s 0x30 id c → exec (.macGenerate id) s = .next (settle (finish c sNotPermitted [] [] s))) ∧
    (Admitted s 0x31 id c → exec (.macVerify id) s = .next (settle (finish c sNotPermitted [] [] s))) ∧
    (Admitted s 0x32 id c → exec (.cipher id) s = .next (settle (finish c sNotPermitted [] [] s))) ∧
    (Admitted s 0x33 id c → exec (.sign id) s = .next (settle (finish c sNotPermitted [] [] s))) ∧
    (Admitted s 0x34 id c → exec (.sigVerify id) s = .next (settle (finish c sNotPermitted [] [] s))))

/-- R303 to R307, R314, R318, R447: the four update operations change their slot and append a KEY entry, with the reply
held until 1.500 ms after the steward job's start; KEY_INFO, KEY_RETIRE and ATTEST. The model's choices in it: log
entry 45. -/
def Obligations.KeyCommands : Prop :=
  (∀ s id c m u, Admitted s 0x40 id c → inData c 0 = some m → parseUpdate m = some u → slotPending s u.slot = false →
    (u.op = 1 → exec (.assign id) s = .next (settle (if updateOk s c u = true then
      updateEnd (withJsn c (nextJsn s)) sOk (0 :: leNats 2 u.counter)
        (changeSlot 1 u.slot { state := ksAssigned, family := u.family, realm := u.realm, counter := u.counter }
          (cOrigin c) s).2
      else updateEnd c sNotPermitted [] s))) ∧
    (∀ (mask : List Byte) k, u.op = 2 → mask = (drawBytes 0x30 64 s).1 →
      k = updatedSlot (drawBytes 0x30 64 s).2 u mask →
      exec (.install id) s = .next (settle (if updateOk s c u = true then
        updateEnd (withJsn c (nextJsn s)) sOk (k.keyGen :: leNats 2 k.counter)
          (changeSlot 2 u.slot k (cOrigin c) (drawBytes 0x30 64 s).2).2
        else updateEnd c sNotPermitted [] s))) ∧
    (u.op = 3 → exec (.promote id) s = .next (settle (if updateOk s c u = true then
      (if genWindowBad s.led.kgCount u.realm (u.keyGen % 256) = true then updateEnd c sSlotState [] s
       else updateEnd (withJsn c (nextJsn s)) sOk ((slotNow s u.slot).keyGen :: leNats 2 u.counter)
         (changeSlot 3 u.slot { slotNow s u.slot with counter := u.counter } (cOrigin c) s).2)
      else updateEnd c sNotPermitted [] s))) ∧
    (u.op = 4 → exec (.attrs id) s = .next (settle (if updateOk s c u = true then
      updateEnd (withJsn c (nextJsn s)) sOk ((slotNow s u.slot).keyGen :: leNats 2 u.counter)
        (changeSlot 4 u.slot { slotNow s u.slot with attr := u.attr + 1, counter := u.counter } (cOrigin c) s).2
      else updateEnd c sNotPermitted [] s)))) ∧
  (∀ s id c m, Admitted s 0x40 id c → inData c 0 = some m → parseUpdate m = none → msgNat m 3 1 = 1 →
    exec (.assign id) s = .next (settle (finish c sBadParam [] [] s))) ∧
  (∀ s id c k, Admitted s 0x41 id c → c.fn = 0 → k = slotNow s (wd c.words 8 % 1024) →
    slotPending s (wd c.words 8 % 1024) = false → s.keys.pend = [] →
    exec (.keyInfo id) s = .next (settle (finish (needs c 0) sOk
      ([k.attr, slotDesc k, k.keyGen] ++ leNats 2 k.counter ++ [k.keyBits]) [] s))) ∧
  (∀ s id c k n, Admitted s 0x43 id c → n = wd c.words 8 % 1024 → k = slotNow s n → slotPending s n = false →
    (c.fn ≠ k.realm → exec (.keyRetire id) s = .next (settle (finish c sNotPermitted [] [] s))) ∧
    (c.fn = k.realm → k.state = ksAssigned → k.counter = pairAt c.words 9 → pairAt c.words 9 ≠ 0xFFFFFFFF →
      kekOf s k.realm ≠ some n → exec (.keyRetire id) s =
        .next (settle (finish (withJsn c (nextJsn s)) sOk [0x2000] [] (changeSlot 5 n
          { k with state := (if pairAt c.words 9 + 1 = 0xFFFFFFFF then ksSaturated else ksRetired), attr := 0x2000
                   keyBits := 0, counter := pairAt c.words 9 + 1, share := [], mask := [] } (cOrigin c) s).2)))) ∧
  (∀ s id c, Admitted s 0x42 id c → s.keys.attestIn = true → ∀ mid : List Byte,
    mid = wordBytes ((c.words.drop 8).take 8) ++ Config.deviceId ++ capHash s →
    exec (.attest id) s = .next (settle (finish c sOk [100] (outTo c 0
      ([1] ++ beBytes 1 s.glb.lifecycle ++ [0, 0] ++ mid ++ hmac256 attestKey (mid ++ beBytes 1 s.glb.lifecycle))) s)))

/-- R172, R268 to R276: an image is loaded in the order of R268 once its signature is checked, its bank is stored,
written and shown; a mode word is armed and flipped, and 1 ms after the flip the shuttles that have not applied it are
removed. The model's choices in it: log entries 44, 55, 56, 106, 129. -/
def Obligations.AppletCommands : Prop :=
  (∀ s id c bytes, Admitted s 0x50 id c → inData c 0 = some bytes → c.step = 0 →
    (imageOk (bytesWords bytes) (descLen c.words 0) = false →
      exec (.appletLoad id) s = .next (settle (finish c sBadParam [] [] s))) ∧
    (imageOk (bytesWords bytes) (descLen c.words 0) = true → wd (bytesWords bytes) 2 ≠ c.fn →
      exec (.appletLoad id) s = .next (settle (finish c sNotPermitted [] [] s))) ∧
    (∀ d ok x, loadHead c bytes = none → c.work = .done d ok x →
      (d = true ∨ ok = false → exec (.appletLoad id) s = .next (settle (finish c sNotPermitted [] [] s))) ∧
      (d = false → ok = true → exec (.appletLoad id) s = .next (settle (loadChecked c bytes s))))) ∧
  (∀ s c bytes im b, im = bytesWords bytes → b = wd c.words 8 % 2 →
    ((realmRow s c.fn).active = some b → loadChecked c bytes s = finish c sBadParam [] [] s) ∧
    ((realmRow s c.fn).active ≠ some b → (bankStore s c.fn b).map BankStore.hash = some (sha256 bytes) →
      loadChecked c bytes s = finish c sOkAlready [wd im 3] [] s) ∧
    ((realmRow s c.fn).active ≠ some b → (bankStore s c.fn b).map BankStore.hash ≠ some (sha256 bytes) →
      (loadedGen s c.fn 0 = some (wd im 3) ∨ loadedGen s c.fn 1 = some (wd im 3)) →
      loadChecked c bytes s = finish c sBadParam [] [] s) ∧
    ((realmRow s c.fn).active ≠ some b → (bankStore s c.fn b).map BankStore.hash ≠ some (sha256 bytes) →
      loadedGen s c.fn 0 ≠ some (wd im 3) → loadedGen s c.fn 1 ≠ some (wd im 3) →
      ∀ al bl, al = allot (shareOf s c.fn 5 + shareOf s c.fn 6) → bl = blocksHeld s c.fn (some b) →
      (al.1 < progNeed im + bl.1 ∨ al.2 < (segNeeds im).sum + bl.2 →
        loadChecked c bytes s = finish c sBadParam [] [] s) ∧
      (progNeed im + bl.1 ≤ al.1 → (segNeeds im).sum + bl.2 ≤ al.2 → loadChecked c bytes s =
        setCmd { c with step := 1 } { s with cells := { s.cells with closed := s.cells.closed ++ [c.fn * 2 + b] } }))) ∧
  (∀ s id c b bytes im k h, Admitted s 0x50 id c → inData c 0 = some bytes → b = wd c.words 8 % 2 →
    im = bytesWords bytes → k = c.fn * 2 + b → h = sha256 bytes →
    (c.step = 1 → bankIdle s c.fn b = true → exec (.appletBankWrite id) s = .next (settle (setCmd { c with step := 2 }
      { s with cells := { freeBank k s.cells with
        store := mset none s.cells.store k (some { words := im, hash := h })
        warp := mset none s.cells.warp k (some (storeBank k
          ((mget none s.cells.warp k).elim 1 (fun a => a.count + 1)) bytes)) } }))) ∧
    (c.step = 2 → ∀ t, t = loadBank k im s →
      exec (.appletBankWrite id) s = .next (settle (finish (withJsn c (nextJsn t)) sOk [wd im 3] []
        (append (realmEntry 5 c.fn ([b, wd im 3] ++ ((bytesWords (h.take 8)).map BitVec.toNat)) (cOrigin c) sOk) t))))) ∧
  (∀ s id c, Admitted s 0x52 id c → (realmRow s c.fn).active = none →
    exec (.appletInfo id) s = .next (settle (finish c sOk
      [0, bankInfo s c.fn 0, bankInfo s c.fn 1, 0, 0, 0, 0] [] s))) ∧
  (∀ s id c g, Admitted s 0x58 id c → g = (realmRow s c.fn).modeGen →
    (wd c.words 8 ≠ g + 1 → exec (.modeArm id) s = .next (settle (finish c sBadParam [g] [] s))) ∧
    (wd c.words 8 = g + 1 → g < 0xFFFF → (realmRow s c.fn).armed ≠ some (g + 1, wd c.words 9) →
      exec (.modeArm id) s = .next (settle (finish (withJsn c (nextJsn s)) sOk [g] []
        (append (realmEntry 7 c.fn [0, g + 1, wd c.words 9] (cOrigin c) sOk) s))))) ∧
  (∀ s id c g m, Admitted s 0x59 id c → c.step = 0 → flipUnderWay s c.fn = false → g = wd c.words 8 →
    (g = (realmRow s c.fn).modeGen → exec (.modeFlip id) s = .next (settle (finish c sOkAlready [g, 0] [] s))) ∧
    (g ≠ (realmRow s c.fn).modeGen → (realmRow s c.fn).armed = some (g, m) → exec (.modeFlip id) s =
      .next (settle (setCmd { withJsn c (nextJsn s) with step := 1, held := [] }
        (append (realmEntry 7 c.fn [1, g, m] (cOrigin c) sOk) s))))) ∧
  (∀ s dt id c t0 n, Admitted (passTime dt s) 0x59 id c → flipStep c (passTime dt s) = passTime dt s → c.id = id →
    c.step = 1 → c.held = [t0, n] → t0 + 1000 ≤ (passTime dt s).now →
    exec (.modeFlipDeadline dt id) s = .next (settle (finish c sOk
      [wd c.words 8, n + (flipLate (passTime dt s) c.fn).length] []
      ((flipLate (passTime dt s) c.fn).foldl (fun u sh => removeCell 3 sh 1 u) (passTime dt s)))))

/-- R176, R464, R465: a staged part takes its place, and the last one is answered once the signature is checked;
activation in QUIESCED raises ACT_SEQ, requeues what is not answered and stops fetching until the restart, which
answers with the new version. The model's choices in it: log entries 57, 106, 119. -/
def Obligations.FirmwareCommands : Prop :=
  (∀ s id c d p, Admitted s 0x81 id c → inData c 0 = some d → c.step = 0 →
    (∀ x ∈ s.cmds.admitted, x.id ≠ c.id → cOp x = 0x81 → x.step ≠ 1) → s.fws.staged = [] → p = wd c.words 8 % 16 → p ≠ 0 →
    bit (wd c.words 8) 15 = false → ∀ t, t = { s with fws := { s.fws with
      slots := mput s.fws.slots (stageSlot s) (stagePart (stageSlot s) p d
        (fwStamp (stageSlot s) 0 { writes := (fwSlot s (stageSlot s)).writes })), staged := [p] } } →
    exec (.firmwareStage id) s = .next (settle (finish c sOk [2 ^ p, 0] [] t))) ∧
  (∀ s id c d dn ok x, Admitted s 0x81 id c → inData c 0 = some d → c.step = 1 → c.work = .done dn ok x → ∀ t,
    t = { s with fws := { s.fws with
      slots := mput s.fws.slots (stageSlot s) (fwStamp (stageSlot s) 0 (fwFill (stageSlot s) (fwSlot s (stageSlot s)) ok)) } } →
    exec (.firmwareStage id) s = .next (settle (finish c sOk [stagedMap s, b2n ok] [] t))) ∧
  (∀ s id c, Admitted s 0x82 id c → c.step = 0 →
    (s.glb.service ≠ svQuiesced → exec (.firmwareActivate id) s = .next (settle (finish c sNotPermitted [] [] s))) ∧
    (activateBad c s = true → exec (.firmwareActivate id) s = .next (settle (finish c sNotPermitted [] [] s))) ∧
    (activateBad c s = false → exec (.firmwareActivate id) s = .next (settle (setCmd { c with step := 1 }
      (requeueAll c.id { s with
        fws := { s.fws with
          slots := mput s.fws.slots (stageSlot s)
            (fwStamp (stageSlot s) (((fwRunning s).map FwSlot.actSeq).getD 0 + 1) (fwSlot s (stageSlot s)))
          restartDue := some (stageSlot s) }
        adm := { s.adm with opened := false } }))))) ∧
  (∀ s n, alive s = true → s.fws.restartDue = some n →
    exec .firmwareRestart s = .next (settle (firmwareRestart s)) ∧ (firmwareRestart s).fws.restartDue = none ∧
    (firmwareRestart s).adm.opened = true ∧ (firmwareRestart s).fws.running = some n ∧
    (firmwareRestart s).fws.staged = [] ∧ (firmwareRestart s).glb.fwVer = (fwSlot s n).version)

/-- R395 to R398, R273, R15: the custody commands. CARD_APPROVE waits for its exchanges and then for its approvers; the
quota draws append a REALM entry, or answer BAD_PARAMETER. The model's choices in it: log entries 65, 66, 69. -/
def Obligations.CustodyCommands : Prop :=
  (∀ s id c i op, Admitted s 0x71 id c → wd c.words 8 = op →
    (op = 1 ∧ i = Instr.enrol id ∨ op = 2 ∧ i = Instr.kekLoad id ∨ op = 3 ∧ i = Instr.provision id ∨
      op = 4 ∧ i = Instr.decommission id ∨ op = 5 ∧ i = Instr.retireSlot id ∨ op = 6 ∧ i = Instr.draw id ∨
      op = 7 ∧ i = Instr.scuttlePolicy id ∨ op = 8 ∧ i = Instr.cardAdd id ∨ op = 9 ∧ i = Instr.cardRevoke id ∨
      op = 10 ∧ i = Instr.setThreshold id ∨ op = 11 ∧ i = Instr.setCustody id) →
    (c.step = 0 → exec i s = .next (settle (approveStart op c s))) ∧
    (c.step ≠ 0 → exchanged s = false → exec i s = .next (settle s)) ∧
    (c.step = 1 → exchanged s = true → (approvers s).length < max 1 s.realms.live.threshold →
      exec i s = .next (settle (endCustody c sNotPermitted [] s))) ∧
    (c.step = 1 → exchanged s = true → max 1 s.realms.live.threshold ≤ (approvers s).length →
      opReady s op (appArgs c) = true → exec i s = .next (settle (approveCommit op c s)))) ∧
  (∀ s id c, Admitted s 0x70 id c → c.step = 1 → exchanged s = true → exec (.cardEnumerate id) s =
    .next (settle (finish c sOk [(addrs s).length] (outTo c 0 (enumTable s)) (freeBus s)))) ∧
  (∀ s id c, Admitted s 0x72 id c → c.step = 0 → custodyTurn c s = true →
    (wd c.words 8 % 4 = 0 → quotaBad s (drawRealm c) (pairAt c.words 10) = true →
      exec (.quota id) s = .next (settle (finish c sBadParam [] [] s))) ∧
    (∀ ap, wd c.words 8 % 4 = 0 → quotaBad s (drawRealm c) (pairAt c.words 10) = false → drawApproval c s = .ok ap →
      (realmRow s (drawRealm c)).debit = false → exec (.quota id) s =
        .next (settle (drawEnd c ap (realmEntry 1 (drawRealm c) (leNats 2 (pairAt c.words 10)) (cOrigin c) sOk) s))) ∧
    (∀ ap v, wd c.words 8 % 4 = 1 → drawApproval c s = .ok ap → v = wd c.words 11 → wd c.words 10 ≠ 5 → wd c.words 10 ≠ 6 →
      ((List.range 32).map (fun i => if i = drawRealm c then v else shareOf s i (wd c.words 10))).sum ≤ 4096 →
      drawRealm c ≠ 0 → ∀ t, t = drawEnd c ap (realmEntry 4 (drawRealm c) [wd c.words 10, v] (cOrigin c) sOk) (noteLevels s) →
      exec (.share id) s = .next (settle (if v = shareOf s (drawRealm c) (wd c.words 10) then t else capAdvance t))) ∧
    (∀ ap, wd c.words 8 % 4 = 2 → (getLane s (wd c.words 10 % 64)).state = 0 → drawApproval c s = .ok ap → drawRealm c = 0 →
      exec (.laneBind id) s = .next (settle (drawEnd c ap (realmEntry 9 0 [wd c.words 10 % 64, 0] (cOrigin c) sOk) s))) ∧
    (wd c.words 8 % 4 = 2 → (getLane s (wd c.words 10 % 64)).state ≠ 0 →
      exec (.laneBind id) s = .next (settle (finish c sBadParam [] [] s))) ∧
    (∀ ap, wd c.words 8 % 4 = 3 → bit (wd c.words 11) 0 = true → grantOf s (wd c.words 10) = none →
      drawApproval c s = .ok ap → ∀ t, t = noteLevels s → exec (.heddleGrant id) s = .next (settle (drawEnd c ap
        (realmEntry 8 (drawRealm c) [wd c.words 10 + 256] (cOrigin c) sOk)
        { t with adm := { t.adm with revoked := mset none t.adm.revoked (wd c.words 10) none } }))))

/-- R173, R379: LANE_OPEN sets SEQ to 1 and starts a bring-up, LANE_SEND places a DATA frame, LANE_STATUS shows the
lane, LANE_CLOSE drains it and with ABORT discards what it holds. The model's choices in it: log entry 71. -/
def Obligations.LaneCommands : Prop :=
  (∀ s id c l, Admitted s 0x60 id c → laneOf c.words = some l →
    (∀ x, (getLane s l).state = 0 → x = { getLane s l with
        state := 1, permit := wd c.words 8 % 8, version := 0, linkVer := 0, nextSeq := 1, ackSeq := 0, sendSeq := 1, sentMax := 0
        places := [], dataAcked := [], timedAcked := [], retryAt := none, tries := 0, tSync := none, wakeAt := 0 } →
      exec (.laneOpen id) s = .next (settle (finish c sOk [0] [] (startLink l true true (setLane l x s))))) ∧
    ((getLane s l).state = 5 → exec (.laneOpen id) s = .next (settle (finish c sBadParam [6] [] s))) ∧
    ((getLane s l).state = 3 → (getLane s l).link = .up → exec (.laneOpen id) s =
      .next (settle (finish c sOkAlready [1 + (getLane s l).version * 16] [] s)))) ∧
  (∀ s id c d l, Admitted s 0x61 id c → inData c 0 = some d → c.lane = some l → bit (wd c.words 8) 0 = false →
    exec (.laneSend id) s = .next (settle (finish { c with lane := none } sOk (leNats 2 (getLane s l).nextSeq) []
      (enterPlace l 0x11 ([0, 0] ++ leBytes 6 0 ++ d) 0 none s)))) ∧
  (∀ s id c l, Admitted s 0x62 id c → laneOf c.words = some l → exec (.laneStatus id) s =
    .next (settle (finish c sOk ([laneStatusWord s l, (getLane s l).linkVer] ++ leNats 2 (getLane s l).ackSeq ++
      leNats 2 (failOldest (getLane s l)) ++ [freePlaces s l]) [] s))) ∧
  (∀ s id c l, Admitted s 0x63 id c → laneOf c.words = some l →
    (bit (wd c.words 8) 0 = false → c.step = 0 → (getLane s l).state = 0 →
      exec (.laneClose id) s = .next (settle (finish c sOkAlready [0] [] s))) ∧
    (bit (wd c.words 8) 0 = false → c.step = 0 → (getLane s l).state ∈ [1, 2, 3] → exec (.laneClose id) s =
      .next (settle (closeCheck l (setCmd { c with step := 1 }
        (setLane l { getLane s l with state := 5, closeAt := s.now } s))))) ∧
    (bit (wd c.words 8) 0 = true → (getLane s l).state ≠ 0 → exec (.laneCloseAbort id) s =
      .next (settle (finish c sOk [(getLane s l).places.length] [] (closeLane l true
        (setLane l { getLane s l with state := 5 } s))))) ∧
    (bit (wd c.words 8) 0 = true → (getLane s l).state = 0 →
      exec (.laneCloseAbort id) s = .next (settle (finish c sOkAlready [0] [] s))))

/-- R82, R162, R446: the reply of an admitted command: zero result words for NOT_PERMITTED, it waits for its frame and
for what it read, and it is held where it names a slot and commits nothing; the command itself is gone. The model's
choices in it: log entry 41. -/
def Obligations.ReplyForm : Prop :=
  (∀ c rs outs, (replyOf c sNotPermitted rs outs).results = List.replicate 7 0) ∧
  (∀ c st rs outs, st ≠ sNotPermitted → rs.length ≤ 7 →
    (replyOf c st rs outs).results = rs ++ List.replicate (7 - rs.length) 0 ∧ (replyOf c st rs outs).status = st) ∧
  (∀ c st rs outs j, c.jsn = some j → jsnFrame j ≤ (replyOf c st rs outs).needFrame ∧
    c.needFrame ≤ (replyOf c st rs outs).needFrame ∧ (replyOf c st rs outs).jsn = j ∧ (replyOf c st rs outs).held = false) ∧
  (∀ c st rs outs, c.jsn = none → slotOpcode (cOp c) = true → (replyOf c st rs outs).held = true) ∧
  (∀ s c st rs outs, cmdOf (finish c st rs outs s) c.id = none) ∧
  (∀ s c d st rs outs, d ∈ s.cmds.admitted → d.id ≠ c.id → d ∈ (finish c st rs outs s).cmds.admitted) ∧
  (∀ s c st rs outs, c.mute = false → replyOf c st rs outs ∈ (finish c st rs outs s).cmds.replies) ∧
  (∀ s c st rs outs, (finish c st rs outs s).led = s.led ∧ (finish c st rs outs s).jn = s.jn ∧
    (finish c st rs outs s).realms = s.realms ∧ (finish c st rs outs s).keys = s.keys ∧
    (finish c st rs outs s).host = s.host ∧ (finish c st rs outs s).glb = s.glb)

/-- The frame of the commands that read, compute or speak to the service: where no alarm waits for its response and no
shuttle holds a lock, no ledger record, pool or epoch count changes, and no firmware slot, clock, ageing sum, service
ball or budget; one that appends nothing leaves the journal as it is. -/
def Obligations.LedgerFrame : Prop :=
  (∀ s id i t, s.tm.raised = [] → (∀ sh, (getSh s sh).lock = none) → i ∈ [Instr.echo id, .getCapability id, .ledgerRead id, .ledgerGather id, .txnQuery id,
      .issue id, .validate id, .revalidate id, .macGenerate id, .macVerify id, .cipher id, .sign id, .sigVerify id,
      .digest id, .keyInfo id, .attest id, .appletInfo id, .laneStatus id, .flush id, .quiesce id, .resume id,
      .logRead id, .countersRead id] → exec i s = .next t →
    t.led = s.led ∧ t.jn = s.jn ∧ t.fws = s.fws ∧ t.clk = s.clk ∧ t.ag = s.ag ∧ t.pm = s.pm ∧ t.adm = s.adm ∧
    t.start = s.start ∧ t.now = s.now ∧ t.free = s.free ∧ ∀ n, imageAt t n = imageAt s n) ∧
  (∀ s id i t, s.tm.raised = [] → (∀ sh, (getSh s sh).lock = none) → i ∈ [Instr.realmRebase id, .appletActivate id, .modeArm id, .compactNow id] →
    exec i s = .next t →
    t.led = s.led ∧ t.fws = s.fws ∧ t.clk = s.clk ∧ t.ag = s.ag ∧ t.pm = s.pm ∧ t.adm = s.adm ∧ t.start = s.start ∧
    t.now = s.now ∧ t.free = s.free ∧ ∀ n, imageAt t n = imageAt s n)

/-- R41: the minute window of a record, and what step 13 of the R35 order answers outside it. -/
def Obligations.MinuteWindow : Prop :=
  (∀ r day m, rWindow r = false → windowTest r day m = 0) ∧
  (∀ r day m, rWindow r = true → rStart r ≤ rEnd r → (windowTest r day m = 0 ↔ rStart r ≤ m ∧ m ≤ rEnd r)) ∧
  (∀ r day m, rWindow r = true → rEnd r < rStart r → (windowTest r day m = 0 ↔ rStart r ≤ m ∨ m ≤ rEnd r)) ∧
  (∀ r day m, windowTest r day m = 2 ↔
    rWindow r = true ∧ day = rTo r ∧ rStart r ≤ rEnd r ∧ rEnd r < m) ∧
  (∀ r day m, windowTest r day m ≤ 2) ∧
  (∀ s c b r base day, r = imageAt s (crSlot b) → base = recBase s r → day = dayE s.clk.cal base →
    slotChecks s c.fn (crSlot b) (crGen b) = none → crPolicy b = rPolicy r → crFrom b = rFrom r → crTo b = rTo r →
    crKeyGen b = rKeyGen r → timedOut s r = false → (rState r = stIssued ∨ rState r = stActive ∨ rState r = stUnconfirmed) →
    base ≤ s.clk.cal → ended r day = false → begun r day = true →
    (windowTest r day (minuteE s.clk.cal base) = 1 → judgeRecord s c b = .fail sNotYet true) ∧
    (windowTest r day (minuteE s.clk.cal base) = 2 → judgeRecord s c b = .fail sExpired true))

/-- R135: RETRY holds the smallest value that can be represented and is not less than the wait, in the smallest UNIT
whose COUNT fits; UNIT 3 with COUNT 0 where no retry is expected to succeed, or no UNIT holds the wait. -/
def Obligations.RetryEncoding : Prop :=
  retryWord none = 0xC000 ∧
  (∀ ns, 16383 * 4096 * 1000 < ns → retryWord (some ns) = 0xC000) ∧
  (∀ ns, ns ≤ 16383 * 4096 * 1000 → ∃ u n, retryWord (some ns) = u * 16384 + n ∧ u ≤ 2 ∧ 1 ≤ n ∧ n ≤ 16383 ∧
    ns ≤ n * 64 ^ u * 1000 ∧ (∀ v m, v ≤ 2 → 1 ≤ m → m ≤ 16383 → ns ≤ m * 64 ^ v * 1000 → n * 64 ^ u ≤ m * 64 ^ v) ∧
    (∀ v, v < u → 16383 * 64 ^ v * 1000 < ns))

/-- R213: the state in which an applet job starts. -/
def Obligations.AppletJobStart : Prop :=
  ∀ s sh c bank entry, isSteward sh = false →
    ∀ x, x = getSh (startApplet sh c bank entry s) sh →
    x.pc = entry ∧ mget 0 x.bp 0 = 0xE000 ∧ mget 0 x.bp 1 = 0xE800 ∧ mget 0 x.bp 2 = 0 ∧ mget 0 x.bp 3 = 0x7FF6 ∧
    estat x = 0 ∧ (∀ i, mget 0 x.ls i = 0 ∧ mget 0 x.le i = 0 ∧ mget 0 x.lc i = 0) ∧ x.rptc = 0 ∧ x.tcause = 0 ∧
    x.tinfo = 0 ∧ x.gidx = 0 ∧ x.rpti = false ∧ (∀ a, mget {} x.priv a = {}) ∧ (∀ a, mget {} x.outMb a = {}) ∧
    x.inc = ((getSh s sh).inc + 1) % 65536

/-- R271: how APPLET_ACTIVATE ends, its conditions in their order. R43: the window that its third row asks about. -/
def Obligations.ActivateOutcomes : Prop :=
  (∀ s id c b g, Admitted s 0x51 id c → b = wd c.words 8 % 2 → g = wd c.words 9 % 256 →
    (loadedGen s c.fn b ≠ some g → exec (.appletActivate id) s = .next (settle (finish c sBadParam [] [] s))) ∧
    (loadedGen s c.fn b = some g → (realmRow s c.fn).active = some b →
      exec (.appletActivate id) s = .next (settle (finish c sOkAlready [g] [] s))) ∧
    (loadedGen s c.fn b = some g → (realmRow s c.fn).active ≠ some b → genWindowBad s.led.agCount c.fn g = true →
      exec (.appletActivate id) s = .next (settle (finish c sSlotState [] [] s))) ∧
    (loadedGen s c.fn b = some g → (realmRow s c.fn).active ≠ some b → genWindowBad s.led.agCount c.fn g = false →
      exec (.appletActivate id) s = .next (settle (finish (withJsn c (nextJsn s)) sOk [g] []
        (append (realmEntry 6 c.fn [b, g] (cOrigin c) sOk) s))))) ∧
  (∀ m realm g, g < 256 → (genWindowBad m realm g = true ↔
    ∃ h, h < 256 ∧ 0 < mget 0 m (realm * 256 + h) ∧ 127 < (g + 256 - h) % 256))

/-- R27: CRC-16/CCITT, one bit at a time from the most significant bit of each byte; the check of a record runs over
the 30 bytes of W0 to W14, and the CHECK of R162 over the words of a reply before it. -/
def Obligations.CrcRule : Prop :=
  (∀ bs : List Byte, crc16 bs = (bs.flatMap (fun b => (List.range 8).map (fun i => b.getLsbD (7 - i)))).foldl
    (fun (c : BitVec 16) (x : Bool) => if c.getLsbD 15 != x then (c <<< 1) ^^^ 0x1021#16 else c <<< 1) 0xFFFF#16) ∧
  (∀ r, r.length = 16 → (checkOk r = true ↔ r.getD 15 0 = crc16 (wordBytes (r.take 15)))) ∧
  (∀ r, r.length = 16 → (fixCheck r).getD 15 0 = crc16 (wordBytes (r.take 15)) ∧ (fixCheck r).take 15 = r.take 15) ∧
  (∀ r ph, (replyWords r ph).length = 16 ∨ 7 < r.results.length) ∧
  (∀ r ph, r.results.length ≤ 7 → (replyWords r ph).getD 15 0 =
    (crc16 (((replyWords r ph).take 15).flatMap (leBytes 2))).toNat)

/-! ### Queues and windows -/

/-- R147, R153: a doorbell of a live pair whose ENABLE is 1 takes its value where the ring has that index; a higher one
sets FAULT 6 where no fault stands; a doorbell of a pair that is not live is ignored and counted. R154, R176: ENABLE 1
checks the pair and makes it live and empty, or leaves the fault that the first failed check gives; ENABLE 0 drops what
is fetched and ends each admitted command of the pair that has nothing appended, with ABORTED_RESET. The model's
choices in it: log entries 37, 38, 128. -/
def Obligations.Doorbells : Prop :=
  (∀ s fn p v, p ≤ 8 → barWrites s fn = true → (getPair s fn p).live = true → (getPair s fn p).enable = true →
    v ≤ (getPair s fn p).sqSize → v < 4096 →
    exec (.sqTailDoorbell fn p v) s = .next (settle (setPairOf fn p { getPair s fn p with sqTail := v } s))) ∧
  (∀ s fn p v, p ≤ 8 → barWrites s fn = true → (getPair s fn p).live = true → (getPair s fn p).enable = true →
    (getPair s fn p).sqSize < v → v < 4096 → (getPair s fn p).fault = 0 →
    exec (.sqTailDoorbell fn p v) s = .next (settle (setPairOf fn p { getPair s fn p with fault := 6 } s))) ∧
  (∀ s fn p v, p ≤ 8 → barWrites s fn = true → (getPair s fn p).live = false →
    exec (.sqTailDoorbell fn p v) s =
      .next (settle (setPairOf fn p { getPair s fn p with ign := satInc (getPair s fn p).ign 255 } s)) ∧
    exec (.cqHeadDoorbell fn p v) s =
      .next (settle (setPairOf fn p { getPair s fn p with ign := satInc (getPair s fn p).ign 255 } s))) ∧
  (∀ s fn p v, p ≤ 8 → barWrites s fn = true → (getPair s fn p).live = true → v ≤ (getPair s fn p).cqSize → v < 4096 →
    v ≠ (getPair s fn p).cqHead → (getPair s fn p).cqHead ≤ (getPair s fn p).cqSize →
    exec (.cqHeadDoorbell fn p v) s = .next (settle (setPairOf fn p { getPair s fn p with
      cqHead := v
      unconsumed := (getPair s fn p).unconsumed -
        (if (getPair s fn p).cqHead ≤ v then v - (getPair s fn p).cqHead
         else (getPair s fn p).cqSize + 1 - (getPair s fn p).cqHead + v) } s))) ∧
  (∀ s fn p v, barWrites s fn = false →
    exec (.sqTailDoorbell fn p v) s = .next (settle s) ∧ exec (.cqHeadDoorbell fn p v) s = .next (settle s)) ∧
  (∀ s fn p w, p ≤ 8 → barWrites s fn = true → (getPair s fn p).enable = false → (getPair s fn p).live = false → w < 65536 →
    pairFault s fn { getPair s fn p with vector := w / 256 % 64, enable := true } = 0 →
    exec (.qpEnable fn p w) s = .next (settle (setPairOf fn p { getPair s fn p with
      vector := w / 256 % 64, enable := true, fault := 0, live := true, sqHead := 0, sqTail := 0, cqHead := 0, cqTail := 0
      phase := true, unconsumed := 0, fetching := [], fetched := [], headAt := none, decided := none, flushLeft := 0 } s))) ∧
  (∀ s fn p w f, p ≤ 8 → barWrites s fn = true → (getPair s fn p).enable = false → (getPair s fn p).live = false → w < 65536 →
    pairFault s fn { getPair s fn p with vector := w / 256 % 64, enable := true } = f + 1 →
    exec (.qpEnable fn p w) s = .next (settle (setPairOf fn p { getPair s fn p with
      vector := w / 256 % 64, enable := true, fault := f + 1 } s))) ∧
  (∀ s fn p w, p ≤ 8 → barWrites s fn = true → (getPair s fn p).enable = true → w / 256 % 64 = (getPair s fn p).vector →
    exec (.qpDisable fn p w) s = .next (settle (liveCheck fn p
      ((s.cmds.admitted.filter (fun c => c.fn == fn && c.pair == p && c.jsn.isNone)).foldl (fun t c => endCmd c 0x0502 t)
        (setPairOf fn p { getPair s fn p with
          enable := false, fault := 0, fetched := [], fetching := [], headAt := none, decided := none, flushLeft := 0 } s)))))

/-- R160, R161: a window's ENABLE 1 checks it; ENABLE 0 frees it unless it is in use, where the write is ignored and
counted. The model's choices in it: log entries 38, 128. -/
def Obligations.WindowEnable : Prop :=
  (∀ s fn w v, w ≤ 15 → barWrites s fn = true → (getWin s fn w).enable = false →
    winFault { getWin s fn w with read := bit v 1, write := bit v 2, enable := true } = 0 →
    exec (.winEnable fn w v) s = .next (settle (setWin fn w { getWin s fn w with
      read := bit v 1, write := bit v 2, enable := true, fault := 0, live := true } s))) ∧
  (∀ s fn w v f, w ≤ 15 → barWrites s fn = true → (getWin s fn w).enable = false →
    winFault { getWin s fn w with read := bit v 1, write := bit v 2, enable := true } = f + 1 →
    exec (.winEnable fn w v) s = .next (settle (setWin fn w { getWin s fn w with
      read := bit v 1, write := bit v 2, enable := true, fault := f + 1, live := false } s))) ∧
  (∀ s fn w v, w ≤ 15 → barWrites s fn = true → (getWin s fn w).enable = true → bit v 1 = (getWin s fn w).read →
    bit v 2 = (getWin s fn w).write → winInUse s fn (getWin s fn w) = false →
    exec (.winDisable fn w v) s =
      .next (settle (setWin fn w { getWin s fn w with enable := false, live := false, fault := 0 } s))) ∧
  (∀ s fn w v, w ≤ 15 → barWrites s fn = true → (getWin s fn w).enable = true → bit v 1 = (getWin s fn w).read →
    bit v 2 = (getWin s fn w).write → winInUse s fn (getWin s fn w) = true →
    exec (.winDisable fn w v) s =
      .next (settle (setWin fn w { getWin s fn w with ign := satInc (getWin s fn w).ign 255 } s)))

/-- R147, R148, R153, R159, R406: a packet read that completes in time stands fetched, the oldest first, and frees its
entry; one that fails or comes late faults the pair, and a completion that nothing waits for is logged as an Unexpected
Completion; the same for a command's IN data, which is cut or filled with zeros to the descriptor's length. The model's
choices in it: log entry 136. -/
def Obligations.ReadsComplete : Prop :=
  (∀ s fn p w i t r, alive s = true → (getPair s fn p).fetching = (i, t) :: r → s.now ≤ t + 10 → w.length = 32 →
    exec (.packetFetchDone fn p (some w)) s = .next (settle (setPairOf fn p { getPair s fn p with
      sqHead := ((getPair s fn p).sqHead + 1) % ((getPair s fn p).sqSize + 1)
      fetching := r, fetched := (getPair s fn p).fetched ++ [w] } s))) ∧
  (∀ s fn p i t r, alive s = true → (getPair s fn p).fetching = (i, t) :: r → s.now ≤ t + 10 →
    (getPair s fn p).fault = 0 →
    exec (.packetFetchDone fn p none) s =
      .next (settle (setPairOf fn p { getPair s fn p with fault := 5, fetching := [] } s))) ∧
  (∀ s fn p w, alive s = true → (getPair s fn p).fetching = [] →
    exec (.packetFetchDone fn p w) s = .next (settle (emit (.unexpectedCompletion fn) (aerLog fn 16 (logEvent 9 2 [] s))))) ∧
  (∀ s fn p w i t r, alive s = true → (getPair s fn p).fetching = (i, t) :: r → t + 10 < s.now →
    exec (.packetFetchDone fn p w) s = .next (settle (fetchFault fn p
      (emit (.unexpectedCompletion fn) (aerLog fn 16 (logEvent 9 2 [] s)))))) ∧
  (∀ s id k d fn, alive s = true → cmdOf s id = none → s.cmds.lateReads = [(id, k, fn)] →
    exec (.descriptorReadDone id k d) s = .next (settle (emit (.unexpectedCompletion fn) (aerLog fn 16
      (logEvent 9 2 [] { s with cmds := { s.cmds with lateReads := [] } }))))) ∧
  (∀ s dt fn p c i t r, alive (passTime dt s) = true → (getPair (passTime dt s) fn p).fetching = (i, t) :: r →
    t + 10 ≤ (passTime dt s).now → (getPair (passTime dt s) fn p).fault = 0 →
    exec (.dmaReadDeadline dt fn p c true) s =
      .next (settle (setPairOf fn p { getPair (passTime dt s) fn p with fault := 5, fetching := [] } (passTime dt s)))) ∧
  (∀ s dt fn p id c k, alive (passTime dt s) = true → cmdOf (passTime dt s) id = some c → readPending c = some k →
    (passTime dt s).jn.stopped = false → c.admitAt + readDeadline c.cls ≤ (passTime dt s).now →
    exec (.dmaReadDeadline dt fn p id false) s = .next (settle (finish c sDmaFault [k, 4] [] (passTime dt s)))) ∧
  (∀ s id c k d, alive s = true → cmdOf s id = some c → s.jn.stopped = false → (descDirs c.words).getD k true = false →
    inData c k = none → s.now ≤ c.admitAt + readDeadline c.cls → ∀ x, x = { c with
      inData := mset none c.inData k (some (padTo (descLen c.words k) 0 d)) } →
    exec (.descriptorReadDone id k (some d)) s = .next (settle (setCmd { x with
      lookupAt := if slotOpcode (cOp c) = true ∧ inReady x = true then some s.now else x.lookupAt } s))) ∧
  (∀ s id c k, alive s = true → cmdOf s id = some c → s.jn.stopped = false → (descDirs c.words).getD k true = false →
    inData c k = none → s.now ≤ c.admitAt + readDeadline c.cls →
    exec (.descriptorReadDone id k none) s = .next (settle (finish c sDmaFault [k, 4] [] s)))

/-- R29, R446, R447: a lookup ends no sooner than 2.80 µs after the ledger unit began it; held replies are released at
their instants, KEY_UPDATE replies apart from the others. R149, R150, R152, R162: the reply writer writes the reply
that may be written at QP_CQ_TAIL and sends its vector's message; one that must wait for its frame, or is held, is not
written. The model's choices in it: log entries 5, 24. -/
def Obligations.ReleaseInstants : Prop :=
  (∀ s dt id c t f, alive (passTime dt s) = true → cmdOf (passTime dt s) id = some c → c.lookupAt = some t →
    (passTime dt s).jn.stopped = false → c.lookupDone = false → t + 3 ≤ (passTime dt s).now →
    exec (.lookupRelease dt id f) s = .next (settle (setCmd { c with lookupDone := true }
      ((cmdSlots c).foldl (fun u n => lookSlot f n u) (passTime dt s))))) ∧
  (∀ s dt id c t f, cmdOf (passTime dt s) id = some c → c.lookupAt = some t → (passTime dt s).now < t + 3 →
    exec (.lookupRelease dt id f) s = .next (settle (passTime dt s))) ∧
  (∀ s dt r, (passTime dt s).cmds.replies = [r] → r.held = true → r.opcode ≠ 0x40 →
    exec (.noncommitReplyRelease dt) s = .next (settle { passTime dt s with cmds := { (passTime dt s).cmds with
      replies := [{ r with held := !(r.relAt.any (fun t => decide (t ≤ (passTime dt s).now))) }] } }) ∧
    exec (.keyUpdateReplyRelease dt) s = .next (settle (passTime dt s))) ∧
  (∀ s dt r, (passTime dt s).cmds.replies = [r] → r.held = true → r.opcode = 0x40 →
    exec (.keyUpdateReplyRelease dt) s = .next (settle { passTime dt s with cmds := { (passTime dt s).cmds with
      replies := [{ r with held := !(r.relAt.any (fun t => decide (t ≤ (passTime dt s).now))) }] } }) ∧
    exec (.noncommitReplyRelease dt) s = .next (settle (passTime dt s))) ∧
  (∀ s r, s.cmds.replies = [r] → replyReady s r = true → r.silentOk = false →
    exec .replyWrite s = .next (settle (msixSend r.fn (getPair s r.fn r.pair).vector (writeReply r s)))) ∧
  (∀ s r, s.cmds.replies = [r] → replyReady s r = true → r.silentOk = true → r.status = 0 →
    exec .replyWrite s = .next (settle (writeReply r s))) ∧
  (∀ s, (∀ r ∈ s.cmds.replies, replyReady s r = false) → exec .replyWrite s = .next (settle s)) ∧
  (∀ s r, r.id = none → r.silentOk = false → r.outs = [] →
    writeReply r s = trace 4 (r.pair * 64 + r.fn) (r.status :: leNats 2 r.tag) (count 4 (r.status / 256)
      (setPairOf r.fn r.pair { getPair s r.fn r.pair with
        cqTail := if (getPair s r.fn r.pair).cqTail = (getPair s r.fn r.pair).cqSize then 0
          else (getPair s r.fn r.pair).cqTail + 1
        phase := if (getPair s r.fn r.pair).cqTail = (getPair s r.fn r.pair).cqSize then !(getPair s r.fn r.pair).phase
          else (getPair s r.fn r.pair).phase
        unconsumed := (getPair s r.fn r.pair).unconsumed + 1 }
        (emit (.hostWrite r.fn ((getPair s r.fn r.pair).cqBase + 32 * (getPair s r.fn r.pair).cqTail)
            ((replyWords r (getPair s r.fn r.pair).phase).flatMap (leBytes 2)))
          { s with cmds := { s.cmds with replies := s.cmds.replies.erase r } }))))

/-! ### Registers and functions -/

/-- R426, R428, R429: the interrupt controller's masks and pending bits of the selected group, and the end of a source:
a LEVEL source whose condition stands is pending again. Source 380 sends its messages each time that it is raised. The
model's choices in it: log entry 136. -/
def Obligations.InterruptRegisters : Prop :=
  (∀ s v, barOpen s 0 = true → writesDropped s 0 0x1010 = false →
    exec (.icMaskSet v) s = .next (settle { s with ic := { s.ic with mask := s.ic.mask ||| groupSel s (v % 65536) } })) ∧
  (∀ s v, barOpen s 0 = true → writesDropped s 0 0x1014 = false →
    exec (.icMaskClr v) s = .next (settle { s with ic := { s.ic with mask := s.ic.mask &&& ~~~ groupSel s (v % 65536) } })) ∧
  (∀ s v, barOpen s 0 = true → writesDropped s 0 0x101C = false →
    ∀ t, t = { s with ic := { s.ic with
      pend := s.ic.pend ||| groupSel s (v % 65536), pendSteward := s.ic.pendSteward ||| groupSel s (v % 65536) } } →
    exec (.icPendSet v) s = .next (settle (if (groupSel s (v % 65536)).getLsbD 380 = true then capMessages t else t))) ∧
  (∀ s v, barOpen s 0 = true → writesDropped s 0 0x1020 = false →
    exec (.icPendClr v) s = .next (settle { s with ic := { s.ic with pend := s.ic.pend &&& ~~~ groupSel s (v % 65536) } })) ∧
  (∀ s n, n < 512 → barOpen s 0 = true → writesDropped s 0 0x1034 = false → s.ic.insvc.getLsbD n = true →
    exec (.icEoi n) s = .next (settle { s with ic := { s.ic with
      insvc := s.ic.insvc &&& ~~~ srcBit n
      pend := if srcKind n = .level ∧ s.ic.raw.getLsbD n = true then s.ic.pend ||| srcBit n else s.ic.pend } })) ∧
  (∀ s n, n < 512 → barOpen s 0 = true → writesDropped s 0 0x1034 = false → s.ic.insvc.getLsbD n = false →
    exec (.icEoi n) s = .next (settle s))

/-- R419, R421, R422: a read completes with the register's value, or with the word that an earlier read of the value's
most significant word latched; a read of a value's most significant word latches the value's other words; IND_DATA acts
on the register at IND_ADDR by the same rules, and the address then advances by 4 where AUTO_INC is 1. R414, R421,
R422: an access to a reserved location: a read is aborted, a write dropped, a poisoned write dropped wherever it goes;
each is recorded, source 383 is raised, the function's count advances and its Advanced Error Reporting status takes the
error's bit; where the function reports, ERR_NONFATAL is sent for a dropped write. Through IND_DATA the location
recorded is the indirect one, and the address advances as after any other access. The model's choices in it: log
entries 90, 136. -/
def Obligations.RegisterReads : Prop :=
  (∀ s fn off v, barOpen s fn = true → ¬(fn = 0 ∧ off = 0x2008) → barReg s fn off = some v →
    readsZero s fn off = false → latchedWith fn off = [] → mfind (getFn s fn).latches off = none →
    exec (.multiwordMswRead fn .bar0 off) s = .next (settle (emit (.readValue fn v) (setFn fn (getFn s fn) s)))) ∧
  (∀ s fn off v x, barOpen s fn = true → ¬(fn = 0 ∧ off = 0x2008) → barReg s fn off = some v →
    readsZero s fn off = false → latchedWith fn off = [] → mfind (getFn s fn).latches off = some x →
    exec (.multiwordMswRead fn .bar0 off) s = .next (settle (emit (.readValue fn x) (setFn fn (getFn s fn) s)))) ∧
  (∀ s fn off v ls, barOpen s fn = true → ¬(fn = 0 ∧ off = 0x2008) → barReg s fn off = some v →
    readsZero s fn off = false → ls = ((latchedWith fn off).map (fun b => (b, (barReg s fn b).getD 0))).foldl
      (fun m p => mput m p.1 p.2) (getFn s fn).latches →
    exec (.multiwordMswRead fn .bar0 off) s = .next (settle (emit (.readValue fn ((mfind ls off).getD v))
      (setFn fn { getFn s fn with latches := ls } s)))) ∧
  (∀ fn k, k < 9 → latchedWith fn (0x40C + 0x40 * k) = [0x400 + 0x40 * k, 0x404 + 0x40 * k, 0x408 + 0x40 * k] ∧
    latchedWith fn (0x408 + 0x40 * k) = []) ∧
  (∀ s fn off v, barOpen s fn = true → readsZero s fn 0x2000 = false →
    (bar2Reg s fn off = some v → exec (.multiwordMswRead fn .bar2 off) s = .next (settle (emit (.readValue fn v) s))) ∧
    (bar2Quad s fn off = some v → exec (.multiwordMswRead fn .bar2Quad off) s =
      .next (settle (emit (.readValue fn v) s)))) ∧
  (∀ s fn off v, barOpen s fn = true → ¬(fn = 0 ∧ off = 0x2008) → barReg s fn off = some v → readsZero s fn off = true →
    s.glb.lifecycle ≠ 0xFF →
    exec (.multiwordMswRead fn .bar0 off) s = .next (settle (emit (.readValue fn 0) s))) ∧
  (∀ s a v ls, barOpen s 0 = true → s.host.indAddr = a → indirectReg s a = some v → readsZero s 0 0x2008 = false →
    ls = ((latchedInd a).map (fun b => (0x1000000 + b, (indirectReg s b).getD 0))).foldl
      (fun m p => mput m p.1 p.2) (getFn s 0).latches →
    exec (.indData none) s = .next (settle (indAdvance (emit (.readValue 0 ((mfind ls (0x1000000 + a)).getD v))
      (setFn 0 { getFn s 0 with latches := ls } s))))) ∧
  (∀ s, indAdvance s = (if s.host.autoInc = true then
    { s with host := { s.host with indAddr := (s.host.indAddr + 4) % 16777216 } } else s)) ∧
  (∀ s a, barOpen s 0 = true → writesDropped s 0 0x2008 = false → s.host.indAddr = a →
    indirectReg s a = none → s.glb.lifecycle ≠ 0xFF → s.glb.service ≠ 6 →
    exec (.indData none) s = .next (settle (indAdvance (emit (.completerAbort 0)
      (aerLog 0 15 (recordErr 1 0 0 a true s)))))) ∧
  (∀ s v, barOpen s 0 = true → writesDropped s 0 0x2008 = false → s.host.autoInc = true →
    exec (.indData (some v)) s = .next (settle { indirectWrite s.host.indAddr (v % 65536) s with
      host := { (indirectWrite s.host.indAddr (v % 65536) s).host with
        indAddr := ((indirectWrite s.host.indAddr (v % 65536) s).host.indAddr + 4) % 16777216 } })) ∧
  (∀ s fn bar addr n, barOpen s fn = true → s.glb.lifecycle ≠ 0xFF → s.glb.service ≠ 6 →
    n = (if bar = Bar.bar0 then 0 else 2) →
    (bar = .bar0 → barReg s fn addr = none ∧ ¬(fn = 0 ∧ addr = 0x2008)) → (bar = .bar2 → bar2Reg s fn addr = none) →
    (bar = .bar2Quad → bar2Quad s fn addr = none) →
    exec (.reservedLocationAccess fn bar addr 0 false) s =
      .next (settle (emit (.completerAbort fn) (aerLog fn 15 (recordErr 1 fn n addr false s)))) ∧
    exec (.reservedLocationAccess fn bar addr 1 false) s =
      .next (settle (reportErr fn (emit (.aer fn false) (aerLog fn 20 (recordErr 2 fn n addr false s)))))) ∧
  (∀ s fn bar addr n m, barOpen s fn = true → s.glb.lifecycle ≠ 0xFF → s.glb.service ≠ 6 →
    n = (if bar = Bar.bar0 then 0 else 2) → ¬(fn = 0 ∧ bar = .bar0 ∧ addr = 0x2008) →
    exec (.reservedLocationAccess fn bar addr 2 m) s =
      .next (settle (emit (.aer fn true) (aerLog fn 12 (recordErr 3 fn n addr false s)))) ∧
    (bar = .bar0 → exec (.reservedLocationAccess fn bar addr 0 true) s =
      .next (settle (emit (.completerAbort fn) (aerLog fn 15 (recordErr 1 fn 0 addr false s)))) ∧
      exec (.reservedLocationAccess fn bar addr 1 true) s =
        .next (settle (reportErr fn (emit (.aer fn false) (aerLog fn 20 (recordErr 2 fn 0 addr false s))))))) ∧
  (∀ s m, barOpen s 0 = true → s.glb.lifecycle ≠ 0xFF → s.glb.service ≠ 6 →
    exec (.reservedLocationAccess 0 .bar0 0x2008 2 m) s =
      .next (settle (indAdvance (emit (.aer 0 true) (aerLog 0 12 (recordErr 3 0 0 s.host.indAddr true s))))) ∧
    exec (.reservedLocationAccess 0 .bar0 0x2008 0 true) s =
      .next (settle (indAdvance (emit (.completerAbort 0) (aerLog 0 15 (recordErr 1 0 0 s.host.indAddr true s)))))) ∧
  (∀ s n b, aerLog n b s = setFn n { getFn s n with aer := (getFn s n).aer ||| 1#32 <<< b } s) ∧
  (∀ s n, reportErr n s = (if (getFn s n).errReport = true then emit (.errNonfatal n) s else s)) ∧
  (∀ s k bar addr ind, (recordErr k 0 bar addr ind s) = icRaise 383 { s with host := { s.host with
    errKind := k, errIndirect := ind, errFn := 0, errBar := bar, errAddr := addr
    errCnt := if s.host.errCnt < 4294967295 then s.host.errCnt + 1 else s.host.errCnt } })

/-- R420, R449: a write of a field that ENABLE guards is taken with ENABLE 0; with ENABLE 1 a write that would change
it is ignored, counted and logged, and one that would not is ignored. TM_WARN stands for the rule. R424: CFG_COMMIT
makes the present CRC of each group named the group's reference; the walker ends one group at a time, compares it, and
after group 15 a pass is over. The model's choices in it: log entry 89. -/
def Obligations.ConfigurationRule : Prop :=
  (∀ s v, v < 256 → barOpen s 0 = true → writesDropped s 0 0x6008 = false → s.tm.enable = false →
    exec (.registerWrite 0 .bar0 0x6008 v) s = .next (settle { s with tm := { s.tm with warn := v } })) ∧
  (∀ s v, v < 256 → barOpen s 0 = true → writesDropped s 0 0x6008 = false → s.tm.enable = true → v ≠ s.tm.warn →
    exec (.registerWrite 0 .bar0 0x6008 v) s = .next (settle (logEvent 9 1 [0, 0x6008, 0]
      { s with tm := { s.tm with ign := if s.tm.ign < 255 then s.tm.ign + 1 else s.tm.ign } }))) ∧
  (∀ s v, v < 256 → barOpen s 0 = true → s.tm.enable = true → v = s.tm.warn →
    exec (.registerWrite 0 .bar0 0x6008 v) s = .next (settle s)) ∧
  (∀ s v, v < 65536 → barOpen s 0 = true → writesDropped s 0 0x803C = false →
    exec (.registerWrite 0 .bar0 0x803C v) s =
      .next (settle { s with ob := { s.ob with mark := putWord s.ob.mark 0 v } })) ∧
  (∀ s g, g < 10 → barOpen s 0 = true → writesDropped s 0 0x1800 = false → mget none s.host.cfgCur g = none →
    exec (.cfgCommit (2 ^ g)) s = .next (settle { s with host := { s.host with
      cfgRef := mset none s.host.cfgRef g (some (cfgCrc s g)) } })) ∧
  (∀ s g c, g < 10 → barOpen s 0 = true → writesDropped s 0 0x1800 = false → mget none s.host.cfgCur g = some c →
    exec (.cfgCommit (2 ^ g)) s = .next (settle (setMismatch g (c != cfgCrc s g) { s with host := { s.host with
      cfgRef := mset none s.host.cfgRef g (some (cfgCrc s g)) } }))) ∧
  (∀ s, alive s = true → Phase.registers ∈ s.start.done → s.host.cfgWalk < 15 →
    exec .cfgWalk s = .next (settle { setMismatch s.host.cfgWalk
        (decide (s.host.cfgWalk < 10) && cfgCrc s s.host.cfgWalk != cfgRefOf s s.host.cfgWalk) s with
      host := { (setMismatch s.host.cfgWalk
        (decide (s.host.cfgWalk < 10) && cfgCrc s s.host.cfgWalk != cfgRefOf s s.host.cfgWalk) s).host with
        cfgCur := mset none s.host.cfgCur s.host.cfgWalk (some (cfgCrc s s.host.cfgWalk)), cfgWalk := s.host.cfgWalk + 1 } })) ∧
  (∀ s, alive s = true → Phase.registers ∈ s.start.done → s.host.cfgWalk = 15 → ∀ t, t = setMismatch 15 false s →
    exec .cfgWalk s = .next (settle { t with host := { t.host with
      cfgCur := mset none s.host.cfgCur 15 (some (cfgCrc s 15)), cfgWalk := 0
      cfgPass := (s.host.cfgPass + 1) % 65536 } }))

/-- R138, R404, R405, R408, R459: function resets and controls. Bus Master Enable 0 ends each live pair as ENABLE 0
does; VF Enable takes effect in PROVISIONED, with NumVFs up to 31, and the VFs that are no longer enabled are reset.
The time that a link which trains was away counts in no deadline. R408: a message of a function that may send is sent
at once, held in the PBA while its vector or function is masked, and sent from the PBA once when the mask goes. The
model's choices in it: log entries 14, 40, 96, 136. -/
def Obligations.FunctionControls : Prop :=
  (∀ s fn, s.clk.supply = true → fnThere s fn = true → fn ≠ 0 → exec (.flr fn) s = .next (settle (setFn fn {} (endFnWork fn s)))) ∧
  (∀ s, s.clk.supply = true → s.host.linkUp = true →
    exec .hotReset s = .next (settle { flr 0 s with host := { (flr 0 s).host with linkUp := false } })) ∧
  (∀ s fn w t, s.clk.supply = true → fnThere s fn = true → t = setFn fn { getFn s fn with memEn := bit w 1 } s →
    (bit w 2 = true → exec (.busMasterDisable fn (.command w)) s =
      .next (settle (sendHeld fn (setFn fn { getFn t fn with busEn := true } t)))) ∧
    (bit w 2 = false → (getFn t fn).busEn = false → exec (.busMasterDisable fn (.command w)) s =
      .next (settle (setFn fn { getFn t fn with busEn := false } t))) ∧
    (bit w 2 = false → (getFn t fn).busEn = true → exec (.busMasterDisable fn (.command w)) s =
      .next (settle ((mkeys (getFn t fn).pairs).foldl (fun u p => if (getPair u fn p).live = true then endPair fn p u else u)
        (setFn fn { getFn t fn with busEn := false } t))))) ∧
  (∀ s fn p, endPair fn p s = liveCheck fn p
    ((s.cmds.admitted.filter (fun c => c.fn == fn && c.pair == p && c.jsn.isNone)).foldl (fun t c => endCmd c 0x0502 t)
      (setPairOf fn p { getPair s fn p with
        enable := false, fault := 0, fetched := [], fetching := [], headAt := none, decided := none, flushLeft := 0 } s))) ∧
  (∀ s fn w f, s.clk.supply = true → fnThere s fn = true → f = getFn s fn →
    (exec (.busMasterDisable fn (.device w)) s = .next (settle (setFn fn { f with
      errReport := bit w 1, extTags := bit w 8
      maxPayload := if bits w 7 5 ≤ 2 then bits w 7 5 else f.maxPayload
      maxReadReq := if bits w 14 12 ≤ 5 then bits w 14 12 else f.maxReadReq } s))) ∧
    exec (.busMasterDisable fn (.aerControl w)) s =
      .next (settle (setFn fn { f with ecrcGen := bit w 6, ecrcCheck := bit w 8 } s)) ∧
    exec (.busMasterDisable fn (.aerStatus w)) s =
      .next (settle (setFn fn { f with aer := f.aer &&& ~~~ BitVec.ofNat 32 w } s))) ∧
  (∀ s fn, s.clk.supply = true → fnThere s fn = true →
    exec (.d3hotEntry fn) s = .next (settle (setFn fn { getFn s fn with d3 := true } s))) ∧
  (∀ s fn, s.clk.supply = true → fnThere s fn = true → (getFn s fn).d3 = true →
    exec (.d0Return fn) s = .next (settle (flr fn s))) ∧
  (∀ s num, s.clk.supply = true → s.glb.lifecycle = 0x0F → num = 31 →
    exec (.vfEnableWrite true num) s = .next (settle { s with host := { s.host with vfEnable := true, numVfs := 31 } })) ∧
  (∀ s num, s.clk.supply = true → s.glb.lifecycle = 0x0F → num ≤ 31 →
    exec (.vfEnableWrite true num) s = .next (settle { resetVfs (num + 1) s with
      host := { (resetVfs (num + 1) s).host with vfEnable := true, numVfs := num } })) ∧
  (∀ s num n, s.clk.supply = true → n = (if num ≤ 31 then num else s.host.numVfs) →
    exec (.vfEnableWrite false num) s = .next (settle { resetVfs 1 s with
      host := { (resetVfs 1 s).host with vfEnable := false, numVfs := n } })) ∧
  (∀ s k n, 0 < k → n < 32 → k ≤ n → getFn (resetVfs k s) n = {}) ∧
  (∀ s num, s.clk.supply = true → s.glb.lifecycle ≠ 0x0F → num ≤ 31 →
    exec (.vfEnableWrite true num) s =
      .next (settle { resetVfs 1 s with host := { (resetVfs 1 s).host with vfEnable := false, numVfs := num } })) ∧
  (∀ s fn w, s.clk.supply = true → fnThere s fn = true →
    exec (.msixUnmask fn none w) s = .next (settle (sendHeld fn
      (setFn fn { getFn s fn with msixEn := bit w 15, fnMask := bit w 14 } s))) ∧
    ∀ v, v < fnVectors fn → exec (.msixUnmask fn (some v) w) s = .next (settle (setVecMask fn v (bit w 0) s))) ∧
  (∀ s dt w g, ∀ t, t = passTime dt s → t.clk.supply = true → heldReset t = false →
    (w = 1 ∨ w = 2 ∨ w = 4 ∨ w = 8) → 1 ≤ g → g ≤ 5 → ∀ u, u = noteLevels (excludeTime dt t) →
    exec (.pcieLinkUp dt w g) s =
      .next (settle { u with host := { u.host with linkUp := true, linkWidth := w, linkGen := g } })) ∧
  (∀ s n v, v < 64 → (getFn s n).msixEn = true → (getFn s n).busEn = true → (getFn s n).d3 = false →
    ((getFn s n).fnMask = false → (getFn s n).vecMask.getLsbD v = false → msixSend n v s = emit (.msix n v) s) ∧
    ((getFn s n).fnMask = true ∨ (getFn s n).vecMask.getLsbD v = true →
      msixSend n v s = setFn n { getFn s n with pba := (getFn s n).pba ||| 1#64 <<< v } s) ∧
    ((getFn s n).fnMask = false → (getFn s n).pba = 1#64 <<< v →
      (sendHeld n (setVecMask n v false s)).out = (setVecMask n v false s).out ∧
      (setVecMask n v false s).out = .msix n v :: s.out ∧ (getFn (setVecMask n v false s) n).pba = 0))

/-- R452, R455, R504, R505: the spread modulation, the calendar, and the service balls: PM_ENABLE stops at the first
ball whose setting is not allowed and names it, or puts every setting in force and parks the balls whose function
changes. R381, R403, R474, R476, R478, R484: a lane's PHY is turned off, which loses the link with its keys and keeps
the places; the custody bus is turned off, which removes every card; an entry of the log is selected, a counter's event
is chosen, and the trace port's own messages are sent, one SYNC each microsecond. The model's choices in it: log
entries 96, 98. -/
def Obligations.ClockAndBallWrites : Prop :=
  (∀ s w, w < 65536 → barOpen s 0 = true → writesDropped s 0 0x7000 = false → s.clk.sscEnable = false → w / 2 % 4 < 3 →
    exec (.sscEnable w) s = .next (settle { s with clk := { s.clk with
      sscDepth := w / 2 % 4, sscEnable := true, fault := 0, sscActive := w / 2 % 4 } })) ∧
  (∀ s w, w < 65536 → barOpen s 0 = true → writesDropped s 0 0x7000 = false → s.clk.sscEnable = true →
    w / 2 % 4 = s.clk.sscDepth →
    exec (.sscDisable w) s = .next (settle { s with clk := { s.clk with sscEnable := false, fault := 0, sscActive := 0 } })) ∧
  (∀ s, barOpen s 0 = true → writesDropped s 0 0x7058 = false → s.clk.cal < s.clk.calSet →
    exec (.cpCalApply 1) s = .next (settle (icRaise 421 (logEvent 8 2 (leNats 2 s.clk.calSet ++ [1])
      { s with clk := { s.clk with
        calSteps := satInc s.clk.calSteps 0xFFFF, everSet := true, calSource := 0, cal := s.clk.calSet, calNs := 0
        slew := none, calLast := 1 } })))) ∧
  (∀ s, barOpen s 0 = true → writesDropped s 0 0x7058 = false → s.clk.calSet < s.clk.cal → s.clk.cal ≤ s.clk.calSet + 600 →
    exec (.cpCalApply 1) s = .next (settle (icRaise 421 (logEvent 8 2 (leNats 2 s.clk.calSet ++ [2])
      { s with clk := { s.clk with
        calSteps := satInc s.clk.calSteps 0xFFFF, everSet := true, calSource := 0, slew := some (s.clk.calSet, 0)
        calLast := 2 } })))) ∧
  (∀ s, barOpen s 0 = true → writesDropped s 0 0x7058 = false → s.clk.calSet + 600 < s.clk.cal →
    exec (.cpCalApply 1) s = .next (settle (icRaise 421 (logEvent 8 2 (leNats 2 s.clk.calSet ++ [3])
      { s with clk := { s.clk with calSteps := satInc s.clk.calSteps 0xFFFF, calLast := 3 } })))) ∧
  (∀ s, barOpen s 0 = true → writesDropped s 0 0x9000 = false → s.pm.enable = false → s.pm.svc = s.pm.inForce →
    (∀ n, n < 64 → ballFault (mget 0x0041 s.pm.svc n) n = 0) →
    exec .pmEnable s = .next (settle { s with pm := { s.pm with enable := true } })) ∧
  (∀ s n, barOpen s 0 = true → writesDropped s 0 0x9000 = false → s.pm.enable = false → n < 64 →
    ballFault (mget 0x0041 s.pm.svc n) n ≠ 0 → (∀ m, m < n → ballFault (mget 0x0041 s.pm.svc m) m = 0) →
    exec .pmEnable s = .next (settle { s with pm := { s.pm with
      enable := true, fault := ballFault (mget 0x0041 s.pm.svc n) n, faultBall := n } })) ∧
  (∀ s, barOpen s 0 = true → writesDropped s 0 0x9000 = false → s.pm.enable = false →
    (∀ n, n < 64 → ballFault (mget 0x0041 s.pm.svc n) n = 0) → ∃ b : BitVec 64,
    exec .pmEnable s = .next (settle { s with pm := { s.pm with enable := true, inForce := s.pm.svc, parked := b } }) ∧
    ∀ n, n < 64 → b.getLsbD n = (s.pm.parked.getLsbD n ||
      bits (mget 0x0041 s.pm.svc n) 5 2 != bits (mget 0x0041 s.pm.inForce n) 5 2)) ∧
  (∀ w n, ballFault w n = (if 4 ≤ w / 8 % 8 ∨ w / 64 % 4 = 3 then 1 else if w / 8 % 8 = 2 ∧ 16 < n then 2 else 0)) ∧
  (∀ s, exec .svcParkEnd s = .next (settle { s with pm := { s.pm with parked := 0 } })) ∧
  (∀ s l, l < 64 → barOpen s 0 = true → writesDropped s 0 0x2008 = false → (getLane s l).phyEnable = true →
    s.host.autoInc = false → phyWord (getLane s l) = 0 →
    exec (.lanePhyDisable l 0) s = .next (settle (phyDisable l
      { s with host := { s.host with indAddr := 0x100054 + 0x100 * l } }))) ∧
  (∀ s l w t, l < 64 → w < 65536 → barOpen s 0 = true → writesDropped s 0 0x2008 = false → (getLane s l).phyEnable = true →
    s.host.autoInc = false → t = { s with host := { s.host with indAddr := 0x100054 + 0x100 * l } } →
    (bits w 6 1 * 2 = phyWord (getLane s l) → exec (.lanePhyDisable l w) s = .next (settle (phyDisable l t))) ∧
    (bits w 6 1 * 2 ≠ phyWord (getLane s l) → exec (.lanePhyDisable l w) s = .next (settle (phyDisable l
      (ignLog 0 (0x100054 + 0x100 * l) (setLane l { getLane t l with ign := satInc (getLane t l).ign 0xFF } t)))))) ∧
  (∀ s l, (getLane (phyDisable l s) l).phyEnable = false ∧ (getLane (phyDisable l s) l).link = .off ∧
    (getLane (phyDisable l s) l).retryAt = none ∧ (getLane (phyDisable l s) l).keyD = [] ∧
    (getLane (phyDisable l s) l).keyS = [] ∧ (getLane (phyDisable l s) l).places = (getLane s l).places ∧
    (getLane (phyDisable l s) l).nextSeq = (getLane s l).nextSeq ∧
    ∀ m, m ≠ l → getLane (phyDisable l s) m = getLane s m) ∧
  (∀ s, (ccDisable s).card.enable = false ∧ (ccDisable s).card.fault = 0 ∧ (ccDisable s).card.rounds = 0 ∧
    (ccDisable s).card.rollDue = false ∧ (∀ a, namedCard (ccDisable s) a = none) ∧
    ((addrs s).Nodup → s.card.removals + (addrs s).length ≤ 0xFFFF → (∀ a ∈ addrs s, namedCard s a ≠ none) →
      (ccDisable s).card.removals = s.card.removals + (addrs s).length)) ∧
  (∀ s w, w < 65536 → barOpen s 0 = true → writesDropped s 0 0xA000 = false → w / 2 % 256 = s.card.clkDiv →
    exec (.ccDisable w) s = .next (settle (ccDisable s))) ∧
  (∀ s v e, v < 65536 → barOpen s 0 = true → writesDropped s 0 0x8044 = false →
    logFind s (putWord s.ob.sel 0 v) = some e →
    exec (.obLogSelLo v) s = .next (settle { s with ob := { s.ob with
      sel := putWord s.ob.sel 0 v, win := e, winHeld := true } })) ∧
  (∀ s v, v < 65536 → barOpen s 0 = true → writesDropped s 0 0x801C = false → s.ob.cntEnable = false →
    cntSelOk v = true →
    exec (.obCntEvent v) s = .next (settle { s with ob := { s.ob with
      counters := mset {} s.ob.counters s.ob.cntSel { count := 0, event := v } } })) ∧
  (∀ s v, v < 65536 → barOpen s 0 = true → writesDropped s 0 0x801C = false → s.ob.cntEnable = false →
    cntSelOk v = false →
    exec (.obCntEvent v) s = .next (settle { s with ob := { s.ob with cntFault := 1 } })) ∧
  (∀ s, exec .traceSync s = .next (settle (passTime 1 s))) ∧
  (∀ s, s.ob.traceEnable = true → s.tm.tripped = false → s.clk.running = true → s.ob.intake = [] → ∀ n,
    n = s.clk.era * 2 ^ 48 + s.clk.tos → 0 < n →
    (tracePass 1 s).ob.intake = [(0x1000 + n / 2 ^ 48 % 256) :: leNats 3 (n % 2 ^ 48)]) ∧
  (∀ s, alive s = true → 0 < s.ob.pendingLost → s.ob.intake = [] → s.ob.traceEnable = true → bit s.ob.traceTypes 7 = true →
    exec .traceLost s = .next (settle (icRaise 450 { s with ob := { s.ob with
      intake := [0x9000 :: leNats 2 s.ob.pendingLost], pendingLost := 0 } })))

/-- R510: the TAP. Outside UNPROVISIONED every instruction but IDCODE acts as BYPASS; EXTEST, CLAMP and HIGHZ of an
unprovisioned part hold it in device reset until Test-Logic-Reset. The cause that this reset leaves is open (log). The
model's choices in it: log entries 86, 95. -/
def Obligations.TapInstructions : Prop :=
  (∀ s, s.clk.supply = true →
    exec .idcode s = .next (settle (emit (.tap 1 (tapData { s with tap := { s.tap with instr := 1 } } 1))
      { s with tap := { s.tap with instr := 1 } })) ∧
    exec .bypass s = .next (settle (emit (.tap 0x3F 0) { s with tap := { s.tap with instr := 0x3F } }))) ∧
  (∀ s c, s.clk.supply = true → s.glb.lifecycle = 0x03 →
    exec (.sample c) s = .next (settle (emit (.tap 2 (BitVec.ofNat 453 c).toNat)
      { s with tap := { s.tap with boundary := BitVec.ofNat 453 c, instr := 2 } })) ∧
    exec (.preload c) s = .next (settle (emit (.tap 3 (BitVec.ofNat 453 c).toNat)
      { s with tap := { s.tap with boundary := BitVec.ofNat 453 c, instr := 3 } }))) ∧
  (∀ s c, s.clk.supply = true → s.glb.lifecycle ≠ 0x03 →
    exec (.sample c) s = .next (settle (emit (.tap 0x3F 0) { s with tap := { s.tap with instr := 0x3F } })) ∧
    exec (.preload c) s = .next (settle (emit (.tap 0x3F 0) { s with tap := { s.tap with instr := 0x3F } })) ∧
    exec .extest s = .next (settle (emit (.tap 0x3F 0) { s with tap := { s.tap with instr := 0x3F } })) ∧
    exec .clamp s = .next (settle (emit (.tap 0x3F 0) { s with tap := { s.tap with instr := 0x3F } })) ∧
    exec .highz s = .next (settle (emit (.tap 0x3F 0) { s with tap := { s.tap with instr := 0x3F } }))) ∧
  (∀ s k c, (k = 4 ∧ c = Instr.extest ∨ k = 5 ∧ c = Instr.clamp ∨ k = 6 ∧ c = Instr.highz) →
    s.clk.supply = true → s.glb.lifecycle = 0x03 → heldReset s = false →
    ∃ u, u = sealForReset (emit (.tap k (if k = 4 then s.tap.boundary.toNat else 0)) { s with tap := { s.tap with instr := k } }) ∧
    exec c s = .next (settle { u with
      free := u.free + 1, tap := { u.tap with heldReset := true }, host := { u.host with linkUp := false }
      clk := { u.clk with nextCause := Config.freeValue 0x61 u.free % 4 + 1 } })) ∧
  (∀ s dt e, s.clk.supply = true → s.tap.heldReset = true → s.clk.powerFailHold = false → s.clk.resetN = false →
    s.clk.perstN = false → s.clk.testEn = false →
    exec (.testLogicReset dt e) s = .next (settle (tamperPhase dt e (finishSeal (s.jn.flight.length + 1)
      { s with tap := { s.tap with instr := 1, heldReset := false } }))))

/-! ### The journal, compaction, and the ledger's own work -/

/-- R71, R80 to R82, R94, R128: a tick closes the open frame where it holds an entry, takes lane and internal entries
afresh, and goes on with what waited for it; a closed frame is sealed, programmed where the ring is free, and made
durable by its anchor, each at its own row and in order. R82, R91: what anchoring a frame makes durable: FRAME_NO, the
realm table with the frame's entries and its quota cuts applied, and a new anchor cell in the ring of 64 that names the
frame. The model's choices in it: log entries 5, 24, 104, 135. -/
def Obligations.FramePath : Prop :=
  (∀ s dt, alive (passTime dt s) = true → (passTime dt s).jn.stopped = false → (passTime dt s).jn.replayDone = true →
    (passTime dt s).jn.tickAt + 4 ≤ (passTime dt s).now → (passTime dt s).jn.openEntries ≠ [] →
    exec (.journalTick dt) s = .next (settle (heldAdvance (closeFrame false
      { passTime dt s with jn := { (passTime dt s).jn with tickAt := (passTime dt s).now, tickOther := 0 } })))) ∧
  (∀ s dt, alive (passTime dt s) = true → (passTime dt s).jn.stopped = false → (passTime dt s).jn.replayDone = true →
    (passTime dt s).jn.tickAt + 4 ≤ (passTime dt s).now → (passTime dt s).jn.openEntries = [] →
    exec (.journalTick dt) s = .next (settle (heldAdvance { passTime dt s with
      jn := { (passTime dt s).jn with tickAt := (passTime dt s).now, tickOther := 0 }
      cmds := { (passTime dt s).cmds with replies := closeReplies (passTime dt s).now (passTime dt s).cmds.replies } }))) ∧
  (∀ s, s.jn.heldWork = [] → heldAdvance s = s) ∧
  (∀ s w ws, s.jn.heldWork = w :: ws → s.jn.tickOther < 40 → s.jn.stopped = false →
    heldAdvance s = (w :: ws).foldl heldOne { s with jn := { s.jn with heldWork := [] } }) ∧
  (∀ s f fs, s.jn.inhibit = false → s.keys.ledgerIn = true → s.jn.flight = f :: fs → f.stage = .closed →
    exec .frameSeal s = .next (settle { s with jn := { s.jn with
      flight := { f with stage := .sealed, bytes := frameBytes f s.jn.lastMac } :: fs
      lastMac := (frameBytes f s.jn.lastMac).drop 2016 } })) ∧
  (∀ s f fs, s.jn.inhibit = false → s.jn.flight = f :: fs → f.stage = .sealed → (f.sealing = false ∨ s.jn.drained = true) →
    f.no < min (tailFrame s) s.jn.outFrame + 524288 → exec .frameProgram s = .next (settle { s with jn := { s.jn with
      flight := { f with stage := .programmed } :: fs, ring := mput s.jn.ring (f.no % 524288) f.bytes } })) ∧
  (∀ s f fs, s.jn.flight = f :: fs → f.stage = .sealed → (f.sealing = false ∨ s.jn.drained = true) →
    min (tailFrame s) s.jn.outFrame + 524288 ≤ f.no → exec .frameProgram s = .next (settle s)) ∧
  (∀ s f fs, s.jn.inhibit = false → s.jn.flight = f :: fs → f.stage = .programmed →
    exec .frameAnchor s = .next (settle (sealEnd (dueCopies (anchorFrame f { s with jn := { s.jn with flight := fs } }))))) ∧
  (∀ s, s.jn.inhibit = true → exec .frameSeal s = .next (settle s) ∧ exec .frameProgram s = .next (settle s) ∧
    exec .frameAnchor s = .next (settle s)) ∧
  (∀ f s, (anchorFrame f s).jn.durable = f.no ∧ (anchorFrame f s).jn.durableMac = f.bytes.drop 2016 ∧
    (anchorFrame f s).jn.cellNo = s.jn.cellNo + 1 ∧
    (anchorFrame f s).realms.durable = (s.jn.cuts.filter (fun c => c.1 == f.no)).foldl
      (fun t c => setRow c.2 { rowOf t c.2 with quota := (rowOf t c.2).quota - 1 } t)
      (f.entries.foldl (fun t e => applyTableEntry e t) s.realms.durable) ∧
    ∃ a, mget none (anchorFrame f s).jn.anchors ((s.jn.cellNo + 1) % 64) = some (cellBytes a) ∧
      a.cellNo = s.jn.cellNo + 1 ∧ a.frameNo = f.no ∧ a.sealed = f.sealing)

/-- R72, R80: an entry takes the place in the open frame that its JSN names; the frame closes with its 60th entry and
the next frame opens empty. -/
def Obligations.AppendPlaces : Prop :=
  (∀ s e, s.jn.openEntries.length < 59 →
    (append e s).jn.openEntries = s.jn.openEntries ++ [e] ∧ (append e s).jn.openNo = s.jn.openNo ∧
    (append e s).jn.flight = s.jn.flight ∧ nextJsn (append e s) = nextJsn s + 1) ∧
  (∀ s e, s.jn.openEntries.length = 59 →
    (append e s).jn.openEntries = [] ∧ (append e s).jn.openNo = s.jn.openNo + 1 ∧
    nextJsn (append e s) = 64 * (s.jn.openNo + 1) ∧
    ∃ f, (append e s).jn.flight = s.jn.flight ++ [f] ∧ f.no = s.jn.openNo ∧ f.entries = s.jn.openEntries ++ [e] ∧
      f.stage = .closed ∧ f.sealing = false)

/-- R86, R87, R128: compaction starts at the upper thresholds and stops below the lower ones; a compaction batch goes
its six steps in order: OPEN with SWITCH entries, staging once they are durable, COMMIT, copy-back, DONE, each entry in
a tick that takes it. R91, R315: copies of the realm table and of the slot directory are written over the older of the
two, with a SEQ one above the newer, each page of the realm table's under the store keys; a copy is not put off beyond
8,192 frames of its kind. The model's choices in it: log entries 99, 101, 104, 106. -/
def Obligations.BatchSteps : Prop :=
  (∀ s failed t, alive s = true → mayWrite s = true → s.jn.batches = [] → t = compactionOn s →
    (batchPages t ≠ [] → s.jn.tickOther < 40 → exec (.batchOpen failed) s =
      .next (settle (openBatch (batchPages t) failed t))) ∧
    (batchPages t ≠ [] → 40 ≤ s.jn.tickOther → exec (.batchOpen failed) s = .next (settle t)) ∧
    (batchPages t = [] → exec (.batchOpen failed) s =
      .next (settle (compactionOn { t with jn := { t.jn with compactNow := false } })))) ∧
  (∀ s failed, alive s = true → mayWrite s = false → exec (.batchOpen failed) s = .next (settle s)) ∧
  (∀ s failed b r, alive s = true → mayWrite s = true → s.jn.batches = b :: r → b.unsent ≠ [] →
    exec (.batchOpen failed) s = .next (settle (if s.jn.tickOther < 40 then sendSwitches b s else s))) ∧
  (∀ s, (262144 ≤ spanEntries s ∨ 16384 ≤ spanFrameCount s → (compactionOn s).jn.compacting = true) ∧
    (spanEntries s < 131072 → spanFrameCount s < 8192 → s.jn.compactNow = false →
      (compactionOn s).jn.compacting = false) ∧
    (spanEntries s < 262144 → spanFrameCount s < 16384 → 131072 ≤ spanEntries s ∨ 8192 ≤ spanFrameCount s →
      (compactionOn s).jn.compacting = s.jn.compacting)) ∧
  (∀ s b r, alive s = true → mayWrite s = true → s.jn.batches = b :: r → b.step = .opened → b.unsent = [] →
    b.waitFrame ≤ s.jn.durable → exec .batchStageWrite s = .next (settle (stageBatch b s))) ∧
  (∀ s b r, alive s = true → mayWrite s = true → s.jn.batches = b :: r → b.step = .opened → s.jn.durable < b.waitFrame →
    exec .batchStageWrite s = .next (settle s)) ∧
  (∀ s b r, alive s = true → mayWrite s = true → s.jn.batches = b :: r → b.step = .staged →
    exec .batchCommit s = .next (settle (if s.jn.tickOther < 40 then
      setBatch { b with step := .committing, waitFrame := s.jn.openNo }
        (append (batchEntry 2 b.no b.pages.length b.stageFirst b.stageCount) (useOther 1 s)) else s))) ∧
  (∀ s b r, alive s = true → mayWrite s = true → s.jn.batches = b :: r → b.step = .committed →
    exec .batchCopyBack s = .next (settle (copyBack b s))) ∧
  (∀ s b r, alive s = true → mayWrite s = true → s.jn.batches = b :: r → b.step = .copied →
    exec .batchDone s = .next (settle (if s.jn.tickOther < 40 then
      setBatch { b with step := .closing, waitFrame := s.jn.openNo }
        (append (batchEntry 3 b.no b.pages.length b.stageFirst b.stageCount) (useOther 1 s)) else s))) ∧
  (∀ s, alive s = true → mayWrite s = true → s.realms.copyA.elim 0 RealmCopy.seq ≤ s.realms.copyB.elim 0 RealmCopy.seq →
    exec .realmTableCopyWrite s = .next (settle (compactionOn { s with
      realms := { s.realms with
        copyA := some (makeCopy 0 s.jn.durable (s.realms.copyB.elim 0 RealmCopy.seq + 1) s.realms.durable) }
      jn := { s.jn with realmFrames := s.jn.realmFrames.filter (fun f => decide (s.jn.durable < f)) } }))) ∧
  (∀ s, alive s = true → mayWrite s = true → s.realms.copyB.elim 0 RealmCopy.seq < s.realms.copyA.elim 0 RealmCopy.seq →
    exec .realmTableCopyWrite s = .next (settle (compactionOn { s with
      realms := { s.realms with
        copyB := some (makeCopy 1 s.jn.durable (s.realms.copyA.elim 0 RealmCopy.seq + 1) s.realms.durable) }
      jn := { s.jn with realmFrames := s.jn.realmFrames.filter (fun f => decide (s.jn.durable < f)) } }))) ∧
  (∀ copy d n t, (makeCopy copy d n t).stamp = d ∧ (makeCopy copy d n t).seq = n ∧ (makeCopy copy d n t).pages =
    storeArea storeEncKey storeMacKey (copyPage copy) n ((d :: n :: putTable t).flatMap (leBytes 8))) ∧
  (∀ s, alive s = true → mayWrite s = true → Phase.slots ∈ s.start.done → s.keys.wiped = false →
    exec .directoryCopyWrite s = .next (settle (compactionOn (writeDirCopy s)))) ∧
  (∀ s b, b = dirBytes (if dirSeq s.keys.dirA ≤ dirSeq s.keys.dirB then 0 else 1)
      (max (dirSeq s.keys.dirA) (dirSeq s.keys.dirB) + 1) s.adm.startNo s.jn.durable
      (fun n => ((slotBus s n).counter, (slotBus s n).pos)) →
    (dirSeq s.keys.dirA ≤ dirSeq s.keys.dirB → (writeDirCopy s).keys = { s.keys with dirA := some b }) ∧
    (dirSeq s.keys.dirB < dirSeq s.keys.dirA → (writeDirCopy s).keys = { s.keys with dirB := some b }) ∧
    (writeDirCopy s).jn.keyFrames = s.jn.keyFrames.filter (fun f => decide (s.jn.durable < f))) ∧
  (∀ s, mayWrite s = true → 8192 ≤ s.jn.realmFrames.length → s.jn.keyFrames.length < 8192 →
    dueCopies s = compactionOn (writeRealmCopy s)) ∧
  (∀ s, s.jn.realmFrames.length < 8192 → 8192 ≤ s.jn.keyFrames.length → dueCopies s = dirCopyWrite s) ∧
  (∀ s, s.jn.realmFrames.length < 8192 → s.jn.keyFrames.length < 8192 → dueCopies s = s) ∧
  (∀ s, alive s = true → mayWrite s = false →
    exec .realmTableCopyWrite s = .next (settle s) ∧ exec .directoryCopyWrite s = .next (settle s))

/-- R38, R45, R47, R127, R128: the hold timer commits VOID for a record past its deadline, with source KIND 2 NUMBER 1,
once its record is read; the sweep reads its next slot and commits EXPIRED with NUMBER 0 past VALID_TO; the prefetch
reads ahead of the pool's head; each draws on the internal reserve, of entries and of lookups, and waits where it is
used up. The model's choices in it: log entries 30, 101. -/
def Obligations.LedgerTimers : Prop :=
  (∀ s dt slot, ∀ t, t = passTime dt s → alive t = true → t.jn.stopped = false → t.glb.holdupOk = true →
    t.glb.service = 2 → slot ∈ t.led.hold → timedOut t (imageAt t slot) = true →
    (t.jn.tickOther < 40 → (t.led.reserveAt = t.now → t.led.reserveUsed < 16) → ∀ u,
      u = readSlot false slot (useLookup t) → exec (.holdTimerExpiry dt slot) s = .next (settle
        (if slotGood u slot = true then (applyTimeout slot (.internal 1) 0 u).2 else u))) ∧
    (40 ≤ t.jn.tickOther ∨ (t.led.reserveAt = t.now ∧ 16 ≤ t.led.reserveUsed) →
      exec (.holdTimerExpiry dt slot) s = .next (settle t))) ∧
  (∀ s dt slot, ∀ t, t = passTime dt s → alive t = true → timedOut t (imageAt t slot) = false →
    exec (.holdTimerExpiry dt slot) s = .next (settle t)) ∧
  (∀ s dt failed, ∀ t, t = passTime dt s → alive t = true → t.jn.stopped = false → t.glb.service = 2 →
    (t.led.reserveAt = t.now → t.led.reserveUsed < 16) → quarOf t t.led.sweep = none →
    ∀ u, u = readSlot failed t.led.sweep (useLookup t) → ∀ v, v = { u with led := { u.led with
      sweep := (t.led.sweep + 1) % 33554432 } } →
    (slotGood u t.led.sweep = false → exec (.expirySweep dt failed) s = .next (settle v)) ∧
    (slotGood u t.led.sweep = true → ∀ r, r = imageAt u t.led.sweep →
      (timedOut u r = false → rState r = 3 → recBase u r ≤ u.clk.cal → ended r (dayE u.clk.cal (recBase u r)) = true →
        exec (.expirySweep dt failed) s = .next (settle (if u.jn.tickOther < 40 then
          (commitDelta t.led.sweep (setW (setState r 7) 10 0x8000) (.internal 0) 0 (useOther 1 v)).2 else u))) ∧
      (timedOut u r = true → exec (.expirySweep dt failed) s = .next (settle (if u.jn.tickOther < 40 then
          (commitDelta t.led.sweep (voidRec r (.internal 0)) (.internal 0) 0 (useOther 1 v)).2 else u))) ∧
      (rState r = 0 → exec (.expirySweep dt failed) s = .next (settle v)))) ∧
  (∀ s dt failed, ∀ t, t = passTime dt s → alive t = true → t.led.reserveAt = t.now → 16 ≤ t.led.reserveUsed →
    exec (.expirySweep dt failed) s = .next (settle t)) ∧
  (∀ s failed n, alive s = true → s.jn.stopped = false → (s.led.reserveAt = s.now → s.led.reserveUsed < 16) →
    (poolFirst 16 s).find? (fun n => !s.led.prefetched.contains n) = some n →
    ∀ t, t = readSlot failed n (useLookup s) → exec (.freePoolPrefetch failed) s = .next (settle
      (if slotGood t n = true then { t with led := { t.led with prefetched := t.led.prefetched ++ [n] } } else t))) ∧
  (∀ s failed, alive s = true → (∀ n ∈ poolFirst 16 s, n ∈ s.led.prefetched) →
    exec (.freePoolPrefetch failed) s = .next (settle s))

/-! ### Cells, engines and the key store's background work -/

/-- R206, R213, R255, R258: a free shuttle takes the earliest-deadline job of its queues, the lowest one first of those
that became free together; a steward shuttle of a loom that is not throttled takes the earliest class-M command whose
IN data has arrived, and no class-M command acts before. R253, R281, R282: a free lock goes to the waiter of the
earliest deadline, then to the one that has waited longest; a ledger read fills the ports with the record that the
job's LREF names, and the command's reply then waits for the record's frame; a job whose budget reaches 0 ends. R214:
an uncorrectable error found by the scrubber makes the word POISON, tag 7, and nothing else changes. The model's
choices in it: log entries 53, 109, 111, 114, 134. -/
def Obligations.JobStarts : Prop :=
  (∀ s h i c bank entry, alive s = true → h < 24 → i < 8 → shuttleInService s (h * 8 + i) = true →
    (getSh s (h * 8 + i)).job = none → s.jn.stopped = false → isSteward (h * 8 + i) = false →
    earliest (s.cmds.admitted.filter (takesJob s (h * 8 + i))) = some c → c.job = .queued bank entry →
    exec (.jobStart h i) s = .next (settle (if turnOf s (h * 8 + i) c = true then startApplet (h * 8 + i) c bank entry s
      else s))) ∧
  (∀ s h i c, alive s = true → h < 24 → i < 8 → shuttleInService s (h * 8 + i) = true →
    (getSh s (h * 8 + i)).job = none → s.jn.stopped = false → isSteward (h * 8 + i) = true →
    earliest (s.cmds.admitted.filter (fun c => c.cls == 3 && c.job == .idle && inReady c)) = some c →
    exec (.jobStart h i) s = .next (settle (if loomThrottled s ((h * 8 + i) / 48) = true then s
      else startSteward (h * 8 + i) c s))) ∧
  (∀ s sh c, (startSteward sh c s).cmds.admitted = s.cmds.admitted.map (fun d =>
    if d.id = c.id then { d with job := .running 0 0x20 sh, stewardAt := some s.now
                                 held := if cOp d = 0x90 then leNats 2 s.ob.logNext else d.held } else d)) ∧
  (∀ c : Cmd, c.cls = 3 → (served c = true ↔ c.stewardAt.isSome = true)) ∧
  (∀ s op id c f, cmdOf s id = some c → served c = false → onCmd op id f s = s) ∧
  (∀ s h i, alive s = true → (getSh s (h * 8 + i)).job.isSome = true → exec (.jobStart h i) s = .next (settle s)) ∧
  (∀ s h r k a, alive s = true → lockCands s h r k = [a] → exec (.lockGrant h r k) s = .next (settle
    (if (lockOwner s a k).isSome = true then s else setSh a (takeLock k (getSh s a)) s))) ∧
  (∀ s h r k a b, alive s = true → lockCands s h r k = [a, b] → lockOwner s a k = none → lockOwner s b k = none →
    ∀ da db, da = ((getSh s a).job.map Job.deadline).getD 0 → db = ((getSh s b).job.map Job.deadline).getD 0 →
    exec (.lockGrant h r k) s = .next (settle
      (if db < da ∨ (db = da ∧ (getSh s b).waitNo < (getSh s a).waitNo) then setSh b (takeLock k (getSh s b)) s
       else setSh a (takeLock k (getSh s a)) s))) ∧
  (∀ s h r k, alive s = true → lockCands s h r k = [] → exec (.lockGrant h r k) s = .next (settle s)) ∧
  (∀ s sh j, alive s = true → (getSh s sh).job = some j → (getSh s sh).lrBusy = true →
    exec (.lrReadDone sh) s = .next (settle { setSh sh { getSh s sh with lrBusy := false, lr := imageAt s j.slot } (countRead j.slot s) with
      cmds := { s.cmds with admitted := s.cmds.admitted.map (fun d =>
        if d.id = j.cmd then needs d (imageFrame s j.slot) else d) } })) ∧
  (∀ s sh j, alive s = true → (getSh s sh).job = some j → isSteward sh = false → (getSh s sh).left = 0 →
    exec (.cycleBudgetExhausted sh) s = .next (settle (endTimeout sh s))) ∧
  (∀ s sh source j, alive s = true → isSteward sh = true → (getSh s sh).job = some j → shuttleRuns s sh = true →
    (getSh s sh).trapping = false → ((getSh s sh).rpta = true → (getSh s sh).rpti = true) → stewardDue s source = true →
    exec (.stewardInterrupt sh source) s = .next (settle (takeTrap sh cInterrupt source
      { head := (kFetch s sh j (getSh s sh).pc).getD 0, opc := 0, opn := 0, sz := 0, pc := (getSh s sh).pc, ops := [], roles := []
        len := (lengthAt s sh j (getSh s sh).pc).getD 0, after := (getSh s sh).pc, cost := 0 } 0 true
      (if (getSh s sh).rpta = true then (getSh s sh).rptPc else (getSh s sh).pc)
      { s with ic := { s.ic with
          pendSteward := s.ic.pendSteward &&& ~~~ srcBit source
          insvcSteward := s.ic.insvcSteward ||| srcBit source } }))) ∧
  (∀ s n a, alive s = true → n < 192 → a < 0x8000 →
    exec (.scrubberError 0 n a) s = .next (settle (setSh n { getSh s n with priv := mset {} (getSh s n).priv a ⟨7, 0⟩ } s))) ∧
  (∀ s n a, alive s = true → n < 192 → 0xE800 ≤ a → a < 0xEB20 →
    exec (.scrubberError 1 n a) s = .next (settle (setSh n { getSh s n with outMb := mset {} (getSh s n).outMb a ⟨7, 0⟩ } s))) ∧
  (∀ s h a, alive s = true → h < 24 → a < 24576 →
    exec (.scrubberError 2 h a) s = .next (settle { s with cells := { s.cells with
      shared := mset {} s.cells.shared (h * 24576 + a) ⟨7, 0⟩ } }))

/-- R323, R333, R340, R345, R346: an engine works through one block at a time; an operation completes when its last
block is through; a fault clears the channel, is counted and raises ENGINE_FAULT. R324, R343, R350: a signature
engine's result is counted and passed on, and the next operation starts; an ECDSA signature with a zero in it is drawn
again. The model's choices in it: log entries 47, 63, 108. -/
def Obligations.EngineSteps : Prop :=
  (∀ s u ci k, alive s = true → unitRuns s u = true → nextBlock s ci u = some k →
    exec (.engineBlockDone u ci) s = .next (settle (setEng ci u
      { getEng (setChan ci u k { getChan s ci u k with blocks := (getChan s ci u k).blocks + 1 } s) ci u with
        blocks := satInc (getEng (setChan ci u k { getChan s ci u k with blocks := (getChan s ci u k).blocks + 1 } s) ci u).blocks
          0xFFFFFFFF }
      (setChan ci u k { getChan s ci u k with blocks := (getChan s ci u k).blocks + 1 } s)))) ∧
  (∀ s u ci, alive s = true → nextBlock s ci u = none → exec (.engineBlockDone u ci) s = .next (settle s)) ∧
  (∀ s u ch, alive s = true → unitRuns s u = true → chanFree true (getChan s true u ch) = true →
    (getChan s true u ch).fin = true → chanBlocks s true (getChan s true u ch) ≤ (getChan s true u ch).blocks → u < 24 →
    ∀ id, (getChan s true u ch).host = some id →
    exec (.engineOpDone u true ch) s = .next (settle (dispCipherDone u ch id (getChan s true u ch)
      (setEng true u { getEng s true u with
        ops := satInc (getEng s true u).ops 0xFFFFFFFF
        blocks := min 0xFFFFFFFF ((getEng s true u).blocks + extraBlocks true (getChan s true u ch)) } (count 0x0C u s))))) ∧
  (∀ s u ci ch, alive s = true → (getChan s ci u ch).blocks < chanBlocks s ci (getChan s ci u ch) →
    exec (.engineOpDone u ci ch) s = .next (settle s)) ∧
  (∀ s u ch, alive s = true → u < 24 → ch < 12 → (getChan s false u ch).host = none →
    exec (.engineClear 0 u ch) s = .next (settle (chanClear false u ch (alarm 0x10 (0x20 + u) 0 0
      (setEng false u { getEng s false u with clears := satInc (getEng s false u).clears 0xFFFF } s))))) ∧
  (∀ s g ch, alive s = true → g < 8 → (getSg s g).cur = none →
    exec (.engineClear 2 g ch) s = .next (settle (setSg g { getSg s g with
      clears := satInc (getSg s g).clears 0xFFFF, keyWait := false, key := [], keyKind := 0 }
      (alarm 0x10 (0x10 + g / 2) 0 (Int.ofNat g) (keyDropReqs 2 g 0 s))))) ∧
  (∀ s g j, alive s = true → (getSg s g).cur = some j → (getSg s g).keyWait = false → loomInService s (g / 2) = true →
    j.verify = true → ∀ ok : Bool,
    ok = (!(getSg s g).denied && sigCheck (getSg s g).keyKind (getSg s g).key j.prehashed j.msg j.sig) →
    exec (.signatureOpDone g) s = .next (settle (sigStart g (workDone j.cmd (getSg s g).denied ok []
      (setSg g { getSg s g with cur := none, key := [], keyKind := 0, denied := false
                                verifies := satInc (getSg s g).verifies 0xFFFFFFFF
                                rejects := if (getSg s g).denied = false ∧ ok = false then satInc (getSg s g).rejects 0xFFFF
                                           else (getSg s g).rejects }
        (count 0x0C (0x20 + g) s)))))) ∧
  (∀ s g j, alive s = true → (getSg s g).cur = some j → (getSg s g).keyWait = false → loomInService s (g / 2) = true →
    j.verify = false → (getSg s g).denied = false →
    (j.alg ≠ 2 → exec (.signatureOpDone g) s = .next (settle (sigStart g (workDone j.cmd false true
      (edSign (getSg s g).key j.msg) (setSg g { getSg s g with
          cur := none, key := [], keyKind := 0, denied := false, signs := satInc (getSg s g).signs 0xFFFFFFFF }
        (count 0x0C (0x20 + g) s)))))) ∧
    (j.alg = 2 → ∀ x : Option (List Byte) × State, x = ecSignature (beNat (getSg s g).key) (ecDigest j.prehashed j.msg) s →
      exec (.signatureOpDone g) s = .next (settle (match x.1 with
        | some b => sigEnd g j false true b x.2
        | none => sigClear g x.2)))) ∧
  (∀ s g j, alive s = true → (getSg s g).cur = some j → (getSg s g).keyWait = false → loomInService s (g / 2) = true →
    j.verify = false → (getSg s g).denied = true → exec (.signatureOpDone g) s = .next (settle (sigStart g
      (workDone j.cmd true true [] (setSg g { getSg s g with cur := none, key := [], keyKind := 0, denied := false }
        (count 0x0C (0x20 + g) s)))))) ∧
  (∀ s g, alive s = true → (getSg s g).cur = none → exec (.signatureOpDone g) s = .next (settle s))

/-- R308, R310: the key bus grants the oldest request the slot's key, or denies it with a random pair; a denial is
counted in the key store and in the engine that asked. A credential family's derivation key serves no MAC itself. R293,
R297, R309: the key store's background work: a re-mask changes no key, a failed health test raises L3, a re-enrolment
takes 31 readings, 1 ms apart, and one more that must regenerate the root secret before it writes the older helper
copy. The model's choices in it: log entries 59, 61, 62. -/
def Obligations.KeyBus : Prop :=
  (∀ s r rs, alive s = true → s.keys.busOpen = true → s.keys.reqs = r :: rs → r.eng = 2 → keyUsable s r = true →
    exec .keyDelivery s = .next (settle (setSg r.unit { getSg s r.unit with
        keyWait := false, denied := false, key := slotKey (reqSlot s r), keyKind := (reqSlot s r).kind }
      (count 0x0D 0 { s with keys := { s.keys with reqs := rs }, free := s.free + 1 })))) ∧
  (∀ s r rs, alive s = true → s.keys.busOpen = true → s.keys.reqs = r :: rs → r.eng = 2 → keyUsable s r = false →
    ∃ key : List Byte, key = ((drawBytes 0x21 64 s).1).take 32 ∧
    ∃ t, t = count 0x0D 1 { s with keys := { s.keys with reqs := rs }, free := s.free + 1 } ∧
    exec .keyDelivery s = .next (settle (setSg r.unit { getSg s r.unit with
        keyWait := false, denied := true, key := key, keyKind := (reqSlot s r).kind
        denials := satInc (getSg s r.unit).denials 0xFFFF }
      { t with keys := { t.keys with denied := satInc t.keys.denied 0xFFFFFFFF } }))) ∧
  (∀ s r, (∃ n, r.slot = some n) → keyUsable s r = true →
    (reqSlot s r).state = 2 ∧ (reqSlot s r).realm = r.realm ∧ (reqSlot s r).attr &&& r.attrs = r.attrs ∧
    (reqSlot s r).kind ∈ r.kinds) ∧
  (∀ s r n, r.slot = some n → (slotBus s n).kind = 2 → (slotBus s n).family < 15 → r.attrs &&& (aMacg + aMacv) ≠ 0 →
    r.attrs &&& aDerive = 0 → keyUsable s r = false) ∧
  (∀ s, alive s = true → s.keys.reqs = [] → exec .keyDelivery s = .next (settle s)) ∧
  (∀ s, alive s = true → exec .drbgHealthFailure s = .next (settle (alarm 0x21 0 3 0 (logEvent 6 3 []
    { s with keys := { s.keys with drbgOk := false, drbgFailed := true } })))) ∧
  (∀ s dt, ∀ t, t = passTime dt s → alive t = true → t.keys.busOpen = true → t.keys.drbgOk = true → t.keys.remaskNext < 1023 →
    (slotBus t t.keys.remaskNext).state ≠ 2 →
    exec (.remaskStep dt) s = .next (settle { t with keys := { t.keys with remaskNext := t.keys.remaskNext + 1 } })) ∧
  (∀ s dt, ∀ t, t = passTime dt s → alive t = true → t.keys.busOpen = true → t.keys.drbgOk = true → t.keys.remaskNext < 1023 →
    (slotBus t t.keys.remaskNext).state = 2 →
    ∃ m : List Byte, m = (drawBytes 0x31 64 t).1 ∧
    ∃ k : KeySlot, k = masked (slotBus t t.keys.remaskNext)
      (xorBytes (slotBus t t.keys.remaskNext).share (slotBus t t.keys.remaskNext).mask) m ∧
    exec (.remaskStep dt) s = .next (settle { t with
      free := t.free + 1
      keys := { t.keys with
        slots := mset {} t.keys.slots t.keys.remaskNext k, remaskNext := t.keys.remaskNext + 1 } })) ∧
  (∀ s dt cells, ∀ t, t = passTime dt s → alive t = true → reenrolMay t = true →
    (t.keys.reenrolReads.length < 31 → t.keys.reenrolReads = [] ∨ t.keys.reenrolAt + 1000 ≤ t.now →
      exec (.reenrol dt cells) s = .next (settle { t with keys := { t.keys with
        reenrolReads := cells :: t.keys.reenrolReads, reenrolAt := t.now } })) ∧
    (t.keys.reenrolReads ≠ [] → t.now < t.keys.reenrolAt + 1000 → exec (.reenrol dt cells) s = .next (settle t)) ∧
    (31 ≤ t.keys.reenrolReads.length → t.keys.reenrolAt + 1000 ≤ t.now → exec (.reenrol dt cells) s = .next (settle
      (reenrolEnd t.keys.reenrolReads cells { t with keys := { t.keys with reenrolReads := [] } })))) ∧
  (∀ s dt cells, ∀ t, t = passTime dt s → alive t = true → reenrolMay t = false →
    exec (.reenrol dt cells) s = .next (settle { t with keys := { t.keys with reenrolReads := [] } })) ∧
  (∀ s reads cells n, n = helperFirst s → ∀ offset stable : List Byte,
    stable = packCells ((cellOnes reads).map (fun k => decide (min k (31 - k) ≤ 2))) →
    offset = codeOffset Config.rootSecret (packCells ((cellOnes reads).map (fun k => decide (16 ≤ k)))) stable →
    (reenrolEnd reads cells s).keys = (if checkOf (regenerate cells offset stable) ≠ checkOf Config.rootSecret then
        { s.keys with reenrolHeld := true }
      else
        { (if n = 0 then { s.keys with
              helperB := some (helperBytes s 1 ((helperRead s 0).gen + 1) offset stable (checkOf Config.rootSecret))
              helperOkB := true }
           else { s.keys with
              helperA := some (helperBytes s (1 - n) ((helperRead s n).gen + 1) offset stable (checkOf Config.rootSecret))
              helperOkA := true }) with
          reenrolCount := satInc s.keys.reenrolCount 0xFFFF, copyDue := true }))

/-! ### Power, start-up, clocks -/

/-- R97, R442, R456, R458, R459, R490, R495, R510: the supplies and the resets. Supply good needs every rail in its
range and HU_SENSE above 0.630 V for 1 ms; a part that a line then holds in reset waits, and keeps the cause that it
has. A power-fail detection and a device reset seal the journal and end the service; a power-down stops everything;
supply good and the release of a reset start the part from its first phase, with everything volatile gone. R97, R98,
R462: with the reserve good and the Writes phase of recovery done, a drained seal with nothing left to program writes a
SEALED anchor, unless the newest anchor is one, and then inhibits the stack. The model's choices in it: log entries 23,
86, 88, 137. -/
def Obligations.ResetsAndSupplies : Prop :=
  (∀ s dt x envBad, s.clk.supply = false → supplyOk x s = true → ∀ t,
    t = { s with clk := { s.clk with supply := true, powerFailHold := false, kept := s.clk.kept && x.kept } } →
    (heldReset t = false → exec (.supplyGood dt x envBad) s = .next (settle (tamperPhase dt envBad t))) ∧
    (heldReset t = true → exec (.supplyGood dt x envBad) s = .next (settle { coldStart t with
      clk := { (coldStart t).clk with resetCause := s.clk.resetCause, nextCause := s.clk.nextCause } }))) ∧
  (∀ s dt x envBad, s.clk.supply = true ∨ supplyOk x s = false →
    exec (.supplyGood dt x envBad) s = .next (settle s)) ∧
  (∀ s x, supplyOk x s = true → 630 < x.huSense ∧ 1000 ≤ x.huUs ∧ ∀ k, k < 9 → ∃ v lo hi,
    x.rails.getD k none = some v ∧ railRange (coldStart s) k = some (lo, hi) ∧ lo ≤ v ∧ v ≤ hi) ∧
  (∀ s, s.clk.supply = true → s.clk.powerFailHold = false →
    exec .powerFailDetect s = .next (settle { sealForReset s with
      clk := { (sealForReset s).clk with
        powerFailHold := true, pfCount := satInc (sealForReset s).clk.pfCount 0xFFFF, nextCause := 2 } })) ∧
  (∀ s, s.clk.supply = true → heldReset s = false →
    exec (.deviceReset .resetN) s = .next (settle { sealForReset s with
      host := { (sealForReset s).host with linkUp := false }
      clk := { (sealForReset s).clk with resetN := true, nextCause := 3 } }) ∧
    exec (.deviceReset .testEn) s = .next (settle { sealForReset s with
      host := { (sealForReset s).host with linkUp := false }
      clk := { (sealForReset s).clk with testEn := true, nextCause := 3 } }) ∧
    exec (.deviceReset .perstN) s = .next (settle { sealForReset s with
      host := { (sealForReset s).host with linkUp := false }
      clk := { (sealForReset s).clk with perstN := true, nextCause := 4 } })) ∧
  (∀ s dt envBad, s.clk.supply = true → s.clk.powerFailHold = false → s.tap.heldReset = false →
    (s.clk.resetN = true ∨ s.clk.perstN = true ∨ s.clk.testEn = true) →
    exec (.resetRelease dt envBad) s = .next (settle (tamperPhase dt envBad (finishSeal (s.jn.flight.length + 1)
      { s with clk := { s.clk with resetN := false, perstN := false, testEn := false } })))) ∧
  (∀ s vbat, s.clk.supply = true → s.clk.running = false →
    exec (.powerDown vbat) s = .next { s with
      glb := { s.glb with service := 1 }
      host := { s.host with linkUp := false }
      tap := {}
      jn := { s.jn with stopped := true, inhibit := true }
      tm := { s.tm with checkPattern := vbat, netRuns := [] }
      clk := { s.clk with
        supply := false, kept := vbat, nextCause := if s.clk.powerFailHold = true then 2 else 1 } }) ∧
  (∀ s vbat, s.clk.supply = true → s.clk.running = true → ∀ t, t = loseWork s →
    exec (.powerDown vbat) s = .next { t with
      glb := { t.glb with service := 1 }
      host := { t.host with linkUp := false }
      tap := {}
      jn := { t.jn with stopped := true, inhibit := true }
      tm := { t.tm with checkPattern := vbat, netRuns := [] }
      clk := { t.clk with
        running := false, supply := false, kept := vbat, nextCause := if t.clk.powerFailHold then 2 else 1 } }) ∧
  (∀ s, s.clk.supply = true → s.jn.sealing = true → s.jn.flight = [] → s.jn.inhibit = false → s.glb.holdupOk = false →
    exec .sealDrainDone s = .next (settle { s with jn := { s.jn with drained := true, inhibit := true } })) ∧
  (∀ s, s.clk.supply = true → s.jn.sealing = true → s.jn.flight = [] → s.jn.inhibit = false → s.glb.holdupOk = true →
    s.jn.replayDone = true → Phase.recWrites ∈ s.start.done → newestSealed s = false →
    exec .sealDrainDone s = .next (settle { writeAnchor true { s with jn := { s.jn with drained := true } } with
      jn := { (writeAnchor true { s with jn := { s.jn with drained := true } }).jn with inhibit := true } }))

/-- R99, R433, R450, R453, R454, R460, R463: what each early phase of start-up leaves. R22, R440 to R442, R460: Ready
compares the scuttle policy, raises a watch gap, publishes the capability record and enters READY, or READ_ONLY where
the reserve is not good or the part is decommissioned. R460, R463: a start-up phase that is not due changes nothing:
the supply is off, a reset is held, start-up has stopped, a phase it waits for has not ended, or it has ended itself.
Ready waits besides for every abandoned page to be staged again (R90). The model's choices in it: log entries 83, 84,
105, 106, 116, 117, 137. -/
def Obligations.EarlyPhases : Prop :=
  (∀ s dt, phaseDue s [.tamper] .fuses = true → s.glb.lifecycle ≠ 0xFF →
    exec (.startFuses dt) s = .next (settle (phaseEnds .fuses [.tamper] 0 100 dt s))) ∧
  (∀ s dt f ref, phaseDue s [.fuses] .clocks = true → ref = decide (-50 ≤ f.ppm ∧ f.ppm ≤ 50) →
    ∀ t, t = tearCells f.torn (phaseEnds .clocks [.fuses] 200 1000 dt s) →
    (s.clk.kept = true → s.tm.watchGapNoted = false →
      exec (.startClocks dt f) s = .next (settle { t with
        clk := { t.clk with
          running := true, refOk := ref, pllLock := true, sscActive := t.clk.sscDepth
          tos := 0, era := 0, calSource := 1, retainAt := t.now + 60000000 }
        tm := { t.tm with oscOk := true } })) ∧
    (s.clk.kept = false ∨ s.tm.watchGapNoted = true →
      exec (.startClocks dt f) s = .next (settle { t with
        clk := { t.clk with
          running := true, refOk := ref, pllLock := true, sscActive := t.clk.sscDepth
          tos := 0, era := 0, calSource := 2, cal := max t.clk.calRetained (anchoredCal t), calNs := 0
          retainAt := t.now + 60000000 }
        tm := { t.tm with oscOk := true } }))) ∧
  (∀ s dt, phaseDue s [.clocks] .registers = true → s.glb.lifecycle = 0x0F →
    exec (.startRegisters dt) s = .next (settle (capChanged { phaseEnds .registers [.clocks] 0 5000 dt s with
      adm := { (phaseEnds .registers [.clocks] 0 5000 dt s).adm with
        startNo := ((phaseEnds .registers [.clocks] 0 5000 dt s).adm.startNo + 1) % 4294967296 }
      ag := { (phaseEnds .registers [.clocks] 0 5000 dt s).ag with
        sums := (List.range 5).foldl (fun m i =>
          mset 0 m i (mget 0 (phaseEnds .registers [.clocks] 0 5000 dt s).ag.sumsRetained i + 60000000)) []
        lifeUsed := lifeOf ((List.range 5).foldl (fun m i =>
          mset 0 m i (mget 0 (phaseEnds .registers [.clocks] 0 5000 dt s).ag.sumsRetained i + 60000000)) [])
        planning := true
        tickAt := (phaseEnds .registers [.clocks] 0 5000 dt s).now }
      ob := { (phaseEnds .registers [.clocks] 0 5000 dt s).ob with
        counters := [(0, { event := 0x01FF }), (1, { event := 0x02FF }), (2, { event := 0x06FF }), (3, { event := 0x1200 })] }
      pm := { (phaseEnds .registers [.clocks] 0 5000 dt s).pm with allParked := false } }))) ∧
  (∀ s dt step drop trip least, phaseDue s [.registers] .ballast = true →
    ∀ us, us = holdupOf (100000000000 / drop) (step / 1000) trip least →
    exec (.startBallast dt step drop trip least) s = .next (settle { phaseEnds .ballast [.registers] 100 2000 dt s with
      jn := { (phaseEnds .ballast [.registers] 100 2000 dt s).jn with
        reserveNf := 100000000000 / drop, reserveMohm := step / 1000, reserveLeast := least, holdupUs := min 0xFFFF us }
      glb := { (phaseEnds .ballast [.registers] 100 2000 dt s).glb with holdupOk := decide (450 ≤ us) } })) ∧
  (∀ s dt v0 deltas eol smb fc, phaseDue s [.registers] .plan = true →
    exec (.startPlan dt v0 deltas eol smb fc) s = .next (settle
      { makePlan (max 1000 (min 20000 dt)) ⟨v0, deltas, eol, smb, fc⟩ (phaseEnds .plan [.registers] 1000 20000 dt s) with
        adm := { (makePlan (max 1000 (min 20000 dt)) ⟨v0, deltas, eol, smb, fc⟩ (phaseEnds .plan [.registers] 1000 20000 dt s)).adm with
          published := capRecordNow (makePlan (max 1000 (min 20000 dt)) ⟨v0, deltas, eol, smb, fc⟩ (phaseEnds .plan [.registers] 1000 20000 dt s)) } })) ∧
  (∀ s dt, phaseDue s [.firmware, .release, .plan] .steward = true →
    exec (.startSteward dt []) s = .next (settle { loadSteward (phaseEnds .steward [.firmware, .release, .plan] 0 5000 dt s) with
      glb := { (loadSteward (phaseEnds .steward [.firmware, .release, .plan] 0 5000 dt s)).glb with
        fwVer := ((fwRunning (loadSteward (phaseEnds .steward [.firmware, .release, .plan] 0 5000 dt s))).map FwSlot.version).getD 0 }
      adm := { (loadSteward (phaseEnds .steward [.firmware, .release, .plan] 0 5000 dt s)).adm with opened := true } })) ∧
  (∀ s dt, phaseDue s [.plan] .selfTest = true →
    exec (.startSelfTest dt []) s = .next (settle (phaseEnds .selfTest [.plan] 0 600000 dt s)) ∧
    ∀ k n, cellExists (k, n) = true →
      exec (.startSelfTest dt [(k, n)]) s = .next (settle (removeCell k n 2 (phaseEnds .selfTest [.plan] 0 600000 dt s)))) ∧
  (∀ s dt lost, phaseDue s [.release, .selfTest] .applets = true →
    ∀ t, t = phaseEnds .applets [.release, .selfTest] 0 250000 dt s →
    exec (.startApplets dt lost) s = .next (settle ((List.range 64).foldl (fun u k => startBank k u)
      { t with cells := { t.cells with warp := lost.foldl (fun m k => mset none m k none) t.cells.warp } }))) ∧
  (∀ s dt, phaseDue s [.applets, .steward] .ready = true → restageWaits s = false →
    ∃ u, u = noteLevels (raiseWatchGap (comparePolicy (phaseEnds .ready [.applets, .steward] 0 1000 dt s))) ∧
    ∃ v, v = publish { u with
      glb := { u.glb with loomIn := loomBits (loomInService u) }
      clk := { u.clk with startMs := min 0xFFFF ((u.now - u.clk.startAt) / 1000) } } ∧
    (v.glb.lifecycle ≠ 0x3F → v.glb.holdupOk = true → exec (.startReady dt) s = .next (settle (setService 2 v))) ∧
    (v.glb.lifecycle = 0x3F ∨ v.glb.holdupOk = false → exec (.startReady dt) s = .next (settle (setService 3 v)))) ∧
  (∀ s dt found torn step drop trip least v0 deltas eol smb fc good cells dmg lost fl fp,
  (phaseDue s [.tamper] .fuses = false → exec (.startFuses dt) s = .next (settle s)) ∧
  (phaseDue s [.fuses] .clocks = false → exec (.startClocks dt found) s = .next (settle s)) ∧
  (phaseDue s [.clocks] .registers = false → exec (.startRegisters dt) s = .next (settle s)) ∧
  (phaseDue s [.registers] .ballast = false → exec (.startBallast dt step drop trip least) s = .next (settle s)) ∧
  (phaseDue s [.registers] .plan = false → exec (.startPlan dt v0 deltas eol smb fc) s = .next (settle s)) ∧
  (phaseDue s [.registers] .entropy = false → exec (.entropy dt good) s = .next (settle s)) ∧
  (phaseDue s [.entropy] .pufRead = false → exec (.pufRead dt cells) s = .next (settle s)) ∧
  (phaseDue s [.pufRead] .extract = false → exec (.extract dt) s = .next (settle s)) ∧
  (phaseDue s [.extract] .derive = false → exec (.derive dt lost) s = .next (settle s)) ∧
  (phaseDue s [.derive] .firmware = false → exec (.startFirmware dt dmg) s = .next (settle s)) ∧
  (phaseDue s [.derive] .recAnchor = false → exec (.recoveryAnchor dt torn) s = .next (settle s)) ∧
  (phaseDue s [.recAnchor] .recChain = false → exec (.recoveryChain dt lost) s = .next (settle s)) ∧
  (phaseDue s [.recChain] .recTree = false → exec (.recoveryTree dt lost) s = .next (settle s)) ∧
  (phaseDue s [.recTree] .recReplay = false → exec (.recoveryReplay dt lost) s = .next (settle s)) ∧
  (phaseDue s [.recReplay] .recOutcomes = false → exec (.recoveryOutcomes dt) s = .next (settle s)) ∧
  (phaseDue s [.recOutcomes, .ballast] .recWrites = false → exec (.recoveryWrites dt) s = .next (settle s)) ∧
  (phaseDue s [.recWrites] .slots = false → exec (.slots dt dmg) s = .next (settle s)) ∧
  (phaseDue s [.slots] .release = false → exec (.release dt) s = .next (settle s)) ∧
  (phaseDue s [.firmware, .release, .plan] .steward = false → exec (.startSteward dt fl) s = .next (settle s)) ∧
  (phaseDue s [.plan] .selfTest = false → exec (.startSelfTest dt fp) s = .next (settle s)) ∧
  (phaseDue s [.release, .selfTest] .applets = false → exec (.startApplets dt lost) s = .next (settle s)) ∧
  (phaseDue s [.applets, .steward] .ready = false ∨ restageWaits s = true → exec (.startReady dt) s = .next (settle s)))

/-- R292, R295, R316, R464: what each phase of the key store's start leaves. R315: at the Slots phase the image of
every named or present slot is checked and restored, the helper copy and, with the reserve good, the directory copy are
written. The model's choices in it: log entries 59, 60, 61, 106, 124. -/
def Obligations.KeyPhases : Prop :=
  (∀ s dt, phaseDue s [.registers] .entropy = true → s.glb.lifecycle ≠ 0x3F →
    exec (.entropy dt true) s = .next (settle { phaseEnds .entropy [.registers] 1000 4000 dt s with
      keys := { (phaseEnds .entropy [.registers] 1000 4000 dt s).keys with drbgOk := true } }) ∧
    exec (.entropy dt false) s = .next (settle (alarm 0x21 0 3 0 (logEvent 6 3 [] { phaseEnds .entropy [.registers] 1000 4000 dt s with
      keys := { (phaseEnds .entropy [.registers] 1000 4000 dt s).keys with drbgOk := false, drbgFailed := true } })))) ∧
  (∀ s dt cells, phaseDue s [.entropy] .pufRead = true →
    exec (.pufRead dt cells) s = .next (settle { phaseEnds .pufRead [.entropy] 500 2000 dt s with
      keys := { (phaseEnds .pufRead [.entropy] 500 2000 dt s).keys with pufCells := cells } })) ∧
  (∀ s dt, phaseDue s [.pufRead] .extract = true → ∀ t, t = phaseEnds .extract [.pufRead] 0 12000 dt s →
    ∀ a b, a = helperRead t 0 → b = helperRead t 1 →
    (∀ n, n = (if regenerates t.keys.pufCells (helperRead t (helperFirst t)) then helperFirst t else 1 - helperFirst t) →
      exec (.extract dt) s = .next (settle (
        if regenerates t.keys.pufCells (helperRead t n) then
          { t with keys := { t.keys with
            helperOkA := a.crcOk, helperOkB := b.crcOk, rootIn := true, helperUsed := n
            ber := cellErrors t.keys.pufCells (helperRead t n) } }
        else alarm 0x21 0 3 0 (logEvent 6 1 (leNats 2 a.gen ++ leNats 2 b.gen ++
            [correctedBits t.keys.pufCells a.offset a.stable % 65536, correctedBits t.keys.pufCells b.offset b.stable % 65536])
          { t with keys := { t.keys with helperOkA := a.crcOk, helperOkB := b.crcOk } }))))) ∧
  (∀ s dt lost, phaseDue s [.extract] .derive = true → ∀ t, t = loseLedgerCopies lost (phaseEnds .derive [.extract] 0 300 dt s) →
    (s.glb.lifecycle ≠ 0x3F →
      exec (.derive dt lost) s = .next (settle (
        if (ledgerUnwraps t).isSome then { t with
          keys := { t.keys with deviceIn := true, attestIn := true, rootOk := true, ledgerIn := true } }
        else alarm 0x21 0 3 0 { t with
          keys := { t.keys with deviceIn := true, attestIn := true, rootOk := true, ledgerIn := false } }))) ∧
    (s.glb.lifecycle = 0x3F →
      exec (.derive dt lost) s = .next (settle { t with
        keys := { t.keys with deviceIn := true, attestIn := true, rootOk := true, ledgerIn := false } }))) ∧
  (∀ s dt dmg, phaseDue s [.recWrites] .slots = true → s.glb.lifecycle = 0x3F →
    exec (.slots dt dmg) s = .next (settle (phaseEnds .slots [.recWrites] 0 30000 dt s))) ∧
  (∀ s dt, phaseDue s [.derive] .firmware = true → (fwSlot s 0).valid = true → (fwSlot s 1).valid = true →
    fwHeadOk (fwSlot s 0) = true → fwHeadOk (fwSlot s 1) = true → fwPartsOk 0 (fwSlot s 0) = true →
    fwPartsOk 1 (fwSlot s 1) = true →
    exec (.startFirmware dt []) s = .next (settle { phaseEnds .firmware [.derive] 0 15000 dt s with
      fws := { (phaseEnds .firmware [.derive] 0 15000 dt s).fws with
        running := if (fwSlot s 0).actSeq < (fwSlot s 1).actSeq then some 1 else some 0 } }) ∧
    exec (.startFirmware dt [0, 1]) s = .next (settle (alarm 0x21 0 3 0
      (logEvent 6 2 [1] (logEvent 6 2 [0] (phaseEnds .firmware [.derive] 0 15000 dt s)))))) ∧
  (∀ s dt, phaseDue s [.slots] .release = true →
    ∃ u, u = (List.range 32).foldl (fun u r => { (drawBytes 0x32 32 u).2 with
        keys := { (drawBytes 0x32 32 u).2.keys with ctxKeys := mset [] (drawBytes 0x32 32 u).2.keys.ctxKeys r (drawBytes 0x32 32 u).1 } })
      (phaseEnds .release [.slots] 0 100 dt s) ∧
    exec (.release dt) s = .next (settle { u with keys := { u.keys with busOpen := true, remaskNext := 0, remaskAt := u.now } })) ∧
  (∀ s dt dmg, phaseDue s [.recWrites] .slots = true → s.glb.lifecycle ≠ 0x3F →
    ∃ t, t = phaseEnds .slots [.recWrites] 0 30000 dt s ∧
    ∃ u, u = helperCopy ((List.range 1024).foldl (fun u n =>
      if (mget none (slotNames t) n).isNone && (mfind t.keys.images (2 * n)).isNone && !dmg.contains n then u
      else restoreSlot (slotNames t) dmg n u) t) ∧
    exec (.slots dt dmg) s = .next (settle (if u.glb.holdupOk then compactionOn (writeDirCopy u) else u)))

/-- R85, R90, R104, R106: what each phase of recovery does once the ledger key is in. The model's choices in it: log
entries 18, 100, 105, 106, 115, 138. -/
def Obligations.RecoveryPhases : Prop :=
  (∀ s dt torn, phaseDue s [.derive] .recAnchor = true → s.keys.ledgerIn = true →
    ∀ t, t = tearCells torn (phaseEnds .recAnchor [.derive] 0 200 dt s) →
    (∀ a, bestAnchor t = some a →
      exec (.recoveryAnchor dt torn) s = .next (settle { t with
        led := { t.led with root := a.root }
        jn := { t.jn with
          anchorSel := some a, cellNo := a.cellNo, durable := a.frameNo, durableMac := a.mac, lastMac := a.mac
          outFrame := a.out, nextBatch := a.nextBatch, outNextPage := a.outNextPage, lastSealed := a.sealed
          cellSealed := a.sealed, openNo := a.frameNo + 5, first := true } })) ∧
    (bestAnchor t = none → exec (.recoveryAnchor dt torn) s = .next (settle (recoveryStop 1 0 t)))) ∧
  (∀ s dt lost, phaseDue s [.recAnchor] .recChain = true → s.keys.ledgerIn = true →
    ∀ t0 t, t0 = phaseEnds .recChain [.recAnchor] 0 20000 dt s →
    t = { t0 with jn := { t0.jn with ring := lost.foldl (fun m q => mdel m (q % 524288)) t0.jn.ring } } →
    (∀ rs, recFrames t = .ok rs → exec (.recoveryChain dt lost) s = .next (settle { t with
      jn := { t.jn with spanFrames := rs.foldl (fun m r => mput m r.no r.entries.length) t.jn.spanFrames } })) ∧
    (∀ q, recFrames t = .error q → exec (.recoveryChain dt lost) s = .next (settle (recoveryStop 2 q t)))) ∧
  (∀ s dt lost, phaseDue s [.recChain] .recTree = true → s.keys.ledgerIn = true →
    ∀ t0 t, t0 = phaseEnds .recTree [.recChain] 0 8000 dt s →
    t = loadTree { t0 with led := { t0.led with
      shadowPages := lost.foldl (fun m i => mdel m i) t0.led.shadowPages
      staging := lost.foldl (fun m i => mdel m i) t0.led.staging } } →
    exec (.recoveryTree dt lost) s = .next (settle (match pendingFault t, treeFault t with
      | some i, _ => recoveryStop 4 i t
      | none, some k => recoveryStop 3 k t
      | none, none => t))) ∧
  (∀ s dt lost, phaseDue s [.recTree] .recReplay = true → s.keys.ledgerIn = true →
    ∀ t, t = recReplay lost (phaseEnds .recReplay [.recTree] 0 60000 dt s) →
    exec (.recoveryReplay dt lost) s = .next (settle { t with
      jn := { t.jn with replayUs := min 0xFFFF (min 60000 dt), tickAt := t.now } })) ∧
  (∀ s dt, phaseDue s [.recReplay] .recOutcomes = true → s.keys.ledgerIn = true →
    ∀ t, t = phaseEnds .recOutcomes [.recReplay] 0 2000 dt s →
    ∀ before, before = (readFrame t (t.jn.outFrame - 1)).bind (fun r => r.entries.getLast?) →
    ∀ all, all = (((chainFrames t).filter (fun r => decide (t.jn.outFrame ≤ r.no))).foldl
      (fun (a : List OutRec × Option (List Word)) r =>
        (a.1 ++ outcomesOf r.no 0 (if r.start = true then none else a.2) r.entries, r.entries.getLast?)) ([], before)).1 →
    exec (.recoveryOutcomes dt) s = .next (settle { t with jn := { t.jn with
      outOpen := if all.isEmpty then all else match pagedJsn t with
        | some j => all.filter (fun r => decide (j < r.jsn))
        | none => all } })) ∧
  (∀ s dt, phaseDue s [.recOutcomes, .ballast] .recWrites = true → s.keys.ledgerIn = true →
    exec (.recoveryWrites dt) s = .next (settle (recWrites (phaseEnds .recWrites [.recOutcomes, .ballast] 0 40000 dt s))))

/-- R453 to R456, R466, R468: clocks, calendar, SMBus, the margin plan and ageing in service. The model's choices in
it: log entries 85, 87, 97, 137. -/
def Obligations.ClockWork : Prop :=
  (∀ s dt t ns, (passTime dt s).clk.slew = some (t, ns) → (passTime dt s).clk.cal = t → (passTime dt s).clk.calNs = ns →
    exec (.calSlewEnd dt) s = .next (settle { passTime dt s with clk := { (passTime dt s).clk with
      slew := none, calLast := if (passTime dt s).clk.calLast = 2 then 1 else (passTime dt s).clk.calLast } })) ∧
  (∀ s dt, alive (passTime dt s) = true → (passTime dt s).clk.retainAt ≤ (passTime dt s).now →
    exec (.calendarRetainWrite dt) s = .next (settle { passTime dt s with clk := { (passTime dt s).clk with
      calRetained := (passTime dt s).clk.cal, retainAt := (passTime dt s).now + 60000000 } })) ∧
  (∀ s dt, exec (.eraWrap dt) s = .next (settle (passTime dt s))) ∧
  (∀ s dt, s.clk.running = true → s.clk.tos < 2 ^ 48 → dt < 2 ^ 48 → 0 < dt →
    (passTime dt s).clk.tos = (s.clk.tos + dt) % 2 ^ 48 ∧
    (passTime dt s).clk.era = (if 2 ^ 48 ≤ s.clk.tos + dt then (s.clk.era + 1) % 256 else s.clk.era % 256)) ∧
  (∀ s, s.clk.running = true →
    exec (.smbusReadWord s.clk.smbTarget 0) s = .next (settle (emit (.smbus (some ((tmTemp s % 65536).toNat))) s)) ∧
    exec (.smbusReadWord s.clk.smbTarget 1) s = .next (settle (emit (.smbus (some ((s.tm.tempMax.getD 0 % 65536).toNat))) s)) ∧
    exec (.smbusReadWord s.clk.smbTarget 2) s = .next (settle (emit (.smbus (some (serviceWord s))) s)) ∧
    (∀ c, 3 ≤ c → exec (.smbusReadWord s.clk.smbTarget c) s = .next (settle (emit (.smbus none) s)))) ∧
  (∀ s dt v0 deltas eol smb fc, alive (passTime dt s) = true → (passTime dt s).glb.service = 2 →
    (passTime dt s).ag.planAt + 86400000000 ≤ (passTime dt s).clk.readyUs →
    exec (.marginReplan dt v0 deltas eol smb fc) s =
      .next (settle (makePlan dt ⟨v0, deltas, eol, smb, fc⟩ (passTime dt s)))) ∧
  (∀ s dt, ∀ t, t = passTime dt s → alive t = true → inService t = true → t.ag.tickAt + 1000000 ≤ t.now → t.ag.ticks < 59 →
    ∀ sums, sums = (List.range 5).foldl (fun m i => mset 0 m i
      (mget 0 m i + ageing (hottest t (tempSensors (islandRegion i))) (mget 850 t.clk.vset i))) t.ag.sums →
    exec (.ageingTick dt) s = .next (settle { t with ag := { t.ag with
      sums := sums, lifeUsed := lifeOf sums, tickAt := t.ag.tickAt + 1000000, ticks := t.ag.ticks + 1 } }))

/-! ### The Karef -/

/-- R215, R238, R243 to R246: a computing instruction of two sources reads them, combines their tags, writes its result
and sets the flags where that result is INT or BYTES, and completes. The model's choices in it: log entry 48. -/
def Obligations.KarefBinary : Prop :=
  ∀ s sh wait i k a b k1 k2 row opc, ∀ f : Ins → Nat → Nat → Bool → Alu,
    (row, opc, f) ∈ [(Instr.add, 0x10, fun _ a b _ => aluAdd a b), (Instr.adc, 0x11, fun _ a b c => aluAdc a b c),
      (Instr.sub, 0x12, fun _ a b _ => aluSub a b), (Instr.sbc, 0x13, fun _ a b c => aluSbc a b c),
      (Instr.mul, 0x15, fun _ a b _ => aluMul a b), (Instr.mulhu, 0x16, fun _ a b _ => aluMulhu a b),
      (Instr.mulhs, 0x17, fun _ a b _ => aluMulhs a b), (Instr.and, 0x20, fun _ a b _ => aluAnd a b),
      (Instr.or, 0x21, fun _ a b _ => aluOr a b), (Instr.xor, 0x22, fun _ a b _ => aluXor a b),
      (Instr.andn, 0x23, fun _ a b _ => aluAndn a b), (Instr.lsl, 0x28, fun _ a b _ => aluLsl a b),
      (Instr.lsr, 0x29, fun _ a b _ => aluLsr a b), (Instr.asr, 0x2A, fun _ a b _ => aluAsr a b),
      (Instr.rol, 0x2B, fun _ a b _ => aluRol a b), (Instr.ror, 0x2C, fun _ a b _ => aluRor a b),
      (Instr.bfext, 0x30, fun i a b _ => aluBfext (i.sz == 1) a b), (Instr.bperm, 0x33, fun i a b _ => aluBperm i.sz a b)] →
    Staged s sh wait opc i k → binarySrc sh tagCompute i k = .ok (a, b, k1) →
    writeTo sh (opd i 0) ⟨max a.tag b.tag, (f i a.val b.val (getSh k.st sh).c).val⟩
      (if max a.tag b.tag ≤ 1 then some (f i a.val b.val (getSh k.st sh).c) else none) k1 = .ok k2 →
    Affords s sh i k2 → exec (row sh wait) s = .next (completes s sh i (onward i) k2)

/-- R215, R243, R244, R246, R249: moves, unary computations, divisions, comparisons and BFINS. The model's choices in
it: log entry 48. -/
def Obligations.KarefOther : Prop :=
  (∀ s sh wait i k, Staged s sh wait 0x00 i k → Affords s sh i k →
    exec (.nop sh wait) s = .next (completes s sh i (onward i) (commitBps sh k))) ∧
  (∀ s sh wait i k w k1 k2, Staged s sh wait 0x01 i k → srcK sh tagAny (opd i 1) k = .ok (w, k1) →
    writeTo sh (opd i 0) w none k1 = .ok k2 → Affords s sh i k2 →
    exec (.mov sh wait) s = .next (completes s sh i (onward i) k2)) ∧
  (∀ s sh wait i k k2, Staged s sh wait 0x02 i k → writeTo sh (opd i 0) ⟨0, 0⟩ none k = .ok k2 → Affords s sh i k2 →
    exec (.clr sh wait) s = .next (completes s sh i (onward i) k2)) ∧
  (∀ s sh wait i k w k1 k2, Staged s sh wait 0x03 i k → srcK sh tagAny (opd i 1) k = .ok (w, k1) →
    writeTo sh (opd i 0) ⟨0, w.tag⟩ none k1 = .ok k2 → Affords s sh i k2 →
    exec (.tagof sh wait) s = .next (completes s sh i (onward i) k2)) ∧
  (∀ s sh wait i k a k1 k2 row opc, ∀ f : Nat → Alu,
    (row, opc, f) ∈ [(Instr.neg, 0x14, aluNeg), (Instr.not, 0x24, aluNot), (Instr.clz, 0x32, aluClz)] →
    Staged s sh wait opc i k → srcK sh tagCompute (opd i (i.opn - 1)) k = .ok (a, k1) →
    writeTo sh (opd i 0) ⟨a.tag, (f a.val).val⟩ (if a.tag ≤ 1 then some (f a.val) else none) k1 = .ok k2 →
    Affords s sh i k2 → exec (row sh wait) s = .next (completes s sh i (onward i) k2)) ∧
  (∀ s sh wait i k a b k1 k2 row opc, ∀ f : Nat → Nat → Alu,
    (row, opc, f) ∈ [(Instr.divu, 0x18, aluDivu), (Instr.divs, 0x19, aluDivs), (Instr.remu, 0x1A, aluRemu),
      (Instr.rems, 0x1B, aluRems)] →
    Staged s sh wait opc i k → binarySrc sh tagStrict i k = .ok (a, b, k1) → b.val ≠ 0 →
    writeTo sh (opd i 0) ⟨max a.tag b.tag, (f a.val b.val).val⟩
      (if max a.tag b.tag ≤ 1 then some (f a.val b.val) else none) k1 = .ok k2 →
    Affords s sh i k2 → exec (row sh wait) s = .next (completes s sh i (onward i) k2)) ∧
  (∀ s sh wait i k a b k1 k2 row opc, ∀ f : Nat → Nat → Alu,
    (row, opc, f) ∈ [(Instr.cmp, 0x40, aluSub), (Instr.tst, 0x41, aluAnd)] →
    Staged s sh wait opc i k → srcK sh tagStrict (opd i 0) k = .ok (a, k1) → srcK sh tagStrict (opd i 1) k1 = .ok (b, k2) →
    Affords s sh i k2 →
    exec (row sh wait) s = .next (completes s sh i (onward i) (setFlags sh (f a.val b.val) (commitBps sh k2)))) ∧
  (∀ s sh wait i k d a b k1 k2 k3 k4, Staged s sh wait 0x31 i k → srcK sh tagCompute (opd i 0) k = .ok (d, k1) →
    srcK sh tagCompute (opd i 1) k1 = .ok (a, k2) → srcK sh tagCompute (opd i 2) k2 = .ok (b, k3) →
    writeTo sh (opd i 0) ⟨max d.tag (max a.tag b.tag), (aluBfins d.val a.val b.val).val⟩
      (if max d.tag (max a.tag b.tag) ≤ 1 then some (aluBfins d.val a.val b.val) else none) k3 = .ok k4 →
    Affords s sh i k4 → exec (.bfins sh wait) s = .next (completes s sh i (onward i) k4))

/-- R244, R245, R246: what the computations give, over every word. -/
def Obligations.KarefArithmetic : Prop :=
  ∀ a b : BitVec 16,
    (aluAdd a.toNat b.toNat).val = (a + b).toNat ∧ (aluSub a.toNat b.toNat).val = (a - b).toNat ∧
    (aluAdd a.toNat b.toNat).v = decide (a.toInt + b.toInt < -32768 ∨ 32767 < a.toInt + b.toInt) ∧
    (aluSub a.toNat b.toNat).v = decide (a.toInt - b.toInt < -32768 ∨ 32767 < a.toInt - b.toInt) ∧
    (aluAdd a.toNat b.toNat).c = decide (65536 ≤ a.toNat + b.toNat) ∧ (aluSub a.toNat b.toNat).c = decide (a.toNat < b.toNat) ∧
    (aluNeg a.toNat).val = (-a).toNat ∧ (aluMul a.toNat b.toNat).val = (a * b).toNat ∧
    (aluMulhu a.toNat b.toNat).val = a.toNat * b.toNat / 65536 ∧
    (b ≠ 0 → (aluDivu a.toNat b.toNat).val = (a / b).toNat ∧ (aluRemu a.toNat b.toNat).val = (a % b).toNat ∧
      (aluDivs a.toNat b.toNat).val = (a.sdiv b).toNat ∧ (aluRems a.toNat b.toNat).val = (a.srem b).toNat) ∧
    (aluAnd a.toNat b.toNat).val = (a &&& b).toNat ∧ (aluOr a.toNat b.toNat).val = (a ||| b).toNat ∧
    (aluXor a.toNat b.toNat).val = (a ^^^ b).toNat ∧ (aluNot a.toNat).val = (~~~a).toNat ∧
    (aluAndn a.toNat b.toNat).val = (a &&& ~~~b).toNat ∧
    (aluLsl a.toNat b.toNat).val = (a <<< (b.toNat % 32)).toNat ∧ (aluLsr a.toNat b.toNat).val = (a >>> (b.toNat % 32)).toNat ∧
    (aluAsr a.toNat b.toNat).val = (a.sshiftRight (b.toNat % 32)).toNat ∧
    (aluRol a.toNat b.toNat).val = (a.rotateLeft (b.toNat % 16)).toNat ∧
    (aluRor a.toNat b.toNat).val = (a.rotateRight (b.toNat % 16)).toNat

/-- R223, R225, R226, R231, R249 to R251: branches, calls and returns, the loop and the repeat, and the return from a
trap. A taken branch ends each loop whose body does not contain its target. The model's choices in it: log entries 52,
110, 132. -/
def Obligations.KarefControl : Prop :=
  (∀ s sh wait i k t k1, Staged s sh wait 0x48 i k → targetSrc sh (opd i 0) k = .ok (t, k1) → Affords s sh i k1 →
    ∀ x, x = getSh k1.st sh →
    (brCond i.sz x.z x.n x.c x.v = false → exec (.br sh wait) s = .next (completes s sh i (onward i) (commitBps sh k1))) ∧
    (brCond i.sz x.z x.n x.c x.v = true → exec (.br sh wait) s = .next (completes s sh i ⟨t, none⟩
      { commitBps sh k1 with
        st := setSh sh (branchOut 4 t (getSh (commitBps sh k1).st sh)) (commitBps sh k1).st }))) ∧
  (∀ x t, x.ldepth = 0 → branchOut 4 t x = x) ∧
  (∀ x t d, x.ldepth = d + 1 → mget 0 x.ls d ≤ t → t ≤ mget 0 x.le d → branchOut 4 t x = x) ∧
  (∀ x t d, x.ldepth = d + 1 → d < 3 → (t < mget 0 x.ls d ∨ mget 0 x.le d < t) →
    branchOut 4 t x = branchOut 4 t { x with lc := mset 0 x.lc d 0, ldepth := d }) ∧
  (∀ s sh wait i k t k1 k2, Staged s sh wait 0x49 i k → targetSrc sh (opd i 1) k = .ok (t, k1) →
    writeTo sh (opd i 0) ⟨5, i.after % 32768⟩ none k1 = .ok k2 → Affords s sh i k2 →
    exec (.call sh wait) s = .next (completes s sh i ⟨t, none⟩ k2)) ∧
  (∀ s sh wait i k w k1, Staged s sh wait 0x4A i k → srcK sh tagRet (opd i 0) k = .ok (w, k1) → Affords s sh i k1 →
    exec (.ret sh wait) s = .next (completes s sh i ⟨w.val, none⟩ (commitBps sh k1))) ∧
  (∀ s sh wait i k w k1, Staged s sh wait 0x50 i k → srcK sh tagPlace (opd i 0) k = .ok (w, k1) →
    (getSh k1.st sh).ldepth < 3 → Affords s sh i k1 → ∀ k2, k2 = commitBps sh k1 →
    ∀ le, le = (if i.opn = 1 then i.after + i.sz else (opd i 1).val) →
    (w.val = 0 → exec (.loop sh wait) s = .next (completes s sh i ⟨skipAt sh le k2, some i.pc⟩ k2)) ∧
    (w.val ≠ 0 → ∀ d, d = (getSh k2.st sh).ldepth → ∀ x : Shuttle, x = { getSh k2.st sh with
        ls := mset 0 (getSh k2.st sh).ls d i.after, le := mset 0 (getSh k2.st sh).le d le,
        lc := mset 0 (getSh k2.st sh).lc d w.val, ldepth := d + 1 } →
      exec (.loop sh wait) s = .next (completes s sh i (onward i) { k2 with st := setSh sh x k2.st }))) ∧
  (∀ s sh wait i k w k1, Staged s sh wait 0x51 i k → (getSh k.st sh).rpta = false → srcK sh tagPlace (opd i 0) k = .ok (w, k1) →
    rptTarget sh i k1 = false → (w.val ≤ 64 ∨ (getSh k.st sh).rpti = true) → Affords s sh i k1 → ∀ k2, k2 = commitBps sh k1 →
    (1 ≤ w.val → ∀ x : Shuttle, x = { getSh k2.st sh with rpta := true, rptc := w.val, rptPc := i.pc } →
      exec (.rpt sh wait) s = .next (completes s sh i ⟨i.after, none⟩ { k2 with st := setSh sh x k2.st })) ∧
    (w.val = 0 → ∀ x : Shuttle, x = { getSh k2.st sh with rpta := false, rptc := 0 } →
      exec (.rpt sh wait) s = .next (completes s sh i ⟨skipAt sh i.after k2, some i.after⟩
        { k2 with st := setSh sh x k2.st }))) ∧
  (∀ s sh wait i k, Staged s sh wait 0x59 i k → ∀ x, x = getSh k.st sh → x.trapping = true →
    (mget {} x.priv 0x7FFF).tag = 5 → (∀ a, 0x7FFC ≤ a → a < 0x7FFF → frameCause (mget {} x.priv a) = none) → Affords s sh i k →
    ∀ e, e = (mget {} x.priv 0x7FFE).val →
    ∀ y : Shuttle, y = { x with
      v := bit e 3, c := bit e 2, n := bit e 1, z := bit e 0, rpta := bit e 9 && i.sz == 0,
      rptc := if i.sz = 0 then (mget {} x.priv 0x7FFC).val else 0, gidx := (mget {} x.priv 0x7FFD).val % 32,
      trapping := false, tcause := 0, tinfo := 0 } →
    exec (.tret sh wait) s = .next (completes s sh i ⟨(mget {} x.priv 0x7FFF).val + i.sz, none⟩
      { k with st := setSh sh y k.st }))

/-- R247, R252, R254, R475: GATHER copies one element, its index counting, until the last; ESUB submits and EWAIT waits
for the operation, which traps where it failed; LRD reads the record that an LREF names; TOUT sends a trace word. The
model's choices in it: log entries 47, 108. -/
def Obligations.KarefUnits : Prop :=
  (∀ s sh wait i k d t n g k1, Staged s sh wait 0x34 i k → g = (getSh k.st sh).gidx → g ≤ i.sz →
    (getSh k.st sh).gath.getD ((opd i 0).val, (opd i 1).val, (opd i 2).val) = (d, t, n) →
    gatherElem sh d t n g k = .ok k1 →
    (g < i.sz → Affords s sh i k1 → exec (.gather sh wait) s = .next (completes s sh i ⟨i.pc, none⟩
      { k1 with st := setSh sh { getSh k1.st sh with gidx := g + 1, gath := some (d, t, n) } k1.st })) ∧
    (∀ k2, g = i.sz → k2 = commitBps sh { k1 with st := setSh sh { getSh k1.st sh with gidx := 0, gath := none } k1.st } →
      Affords s sh i k2 → exec (.gather sh wait) s = .next (completes s sh i (onward i) k2))) ∧
  (∀ s sh wait i k w k1 j, Staged s sh wait 0x60 i k → srcK sh tagPlace (opd i 0) k = .ok (w, k1) →
    engOut i (getSh k1.st sh) = false → Affords s sh i k1 → ∀ k2, k2 = commitBps sh k1 → (getSh k2.st sh).job = some j →
    ∀ t, t = chanSubmit (i.sz % 2 == 1) (shUnit sh) (shChan sh) w.val j.realm j.deadline k2.st →
    exec (.esub sh wait) s = .next (completes s sh i (onward i)
      { k2 with st := setSh sh (setOut i true (getSh k2.st sh)) t })) ∧
  (∀ s sh wait i k c, Staged s sh wait 0x61 i k → c = getChan k.st (i.sz % 2 == 1) (shUnit sh) (shChan sh) →
    engOut i (getSh k.st sh) = true → c.fault = false → c.cleared = false → c.fin = true →
    (c.done = false → exec (.ewait sh wait) s = .next (settle s)) ∧
    (∀ t u k2, c.done = true → t = setChan (i.sz % 2 == 1) (shUnit sh) (shChan sh) { c with busy := false } (useWait k).st →
      u = { useWait k with st := setSh sh (setOut i false (getSh t sh)) t } →
      writeTo sh (opd i 0) ⟨0, c.status⟩ none u = .ok k2 → Affords s sh i k2 →
      exec (.ewait sh wait) s = .next (completes s sh i (onward i) k2))) ∧
  (∀ s sh wait i k c, Staged s sh wait 0x61 i k → c = getChan k.st (i.sz % 2 == 1) (shUnit sh) (shChan sh) →
    engOut i (getSh k.st sh) = true → (c.fault = true ∨ c.cleared = true) →
    exec (.ewait sh wait) s = .next (settle (stopped sh i i.ops.length k.bps (getSh s sh).rpta
      (.trap cEngineFault (engBase i) (useWait k).acc (some (ewaitFault sh i k.st))) s))) ∧
  (∀ s sh wait i k w k1 j k2 k3, Staged s sh wait 0x68 i k → srcK sh tagLref (opd i 1) k = .ok (w, k1) →
    acceptRun 16 (opd i 0).val k1 = .ok () → (getSh k1.st sh).job = some j → k2 = commitBps sh (useWait k1) →
    writeRun sh ((padTo 16 0 (imageAt k2.st j.slot)).map BitVec.toNat) (opd i 0).val { k2 with st := jobNeeds j k2.st } =
      .ok k3 → Affords s sh i k3 → exec (.lrd sh wait) s = .next (completes s sh i (onward i) k3)) ∧
  (∀ s sh wait i k w k1, Staged s sh wait 0x70 i k → srcK sh tagPlace (opd i 0) k = .ok (w, k1) → Affords s sh i k1 →
    exec (.tout sh wait) s = .next (completes s sh i (onward i) { commitBps sh k1 with
      st := toutMsg sh i.sz w (commitBps sh k1).st }))

/-- R228, R230, R232, R237, R251: TRAP n and a reserved opcode take their vectors, with the frame written, TCAUSE and
TINFO set and TRAPPING 1; without a handler the job ends; a fetch beyond the code ends it with FETCH, and with DOUBLE
while TRAPPING is 1. The model's choices in it: log entries 46, 121, 133. -/
def Obligations.KarefTraps : Prop :=
  (∀ s sh wait i k, Staged s sh wait 0x58 i k → overBudget s sh (i.cost + trapCycles s sh (0x20 + i.sz)) false = false →
    exec (.trap sh wait) s = .next (settle (takeTrap sh (0x20 + i.sz) 0x58 i i.ops.length true i.after
      (spend sh (i.cost + trapCycles s sh (0x20 + i.sz)) s)))) ∧
  (∀ s sh wait j head ops after k, alive s = true → (getSh s sh).job = some j → shuttleRuns s sh = true →
    kFetch s sh j (getSh s sh).pc = some head → opInfo (head / 64) = none →
    decodeOpds sh j (head / 16 % 4) ((getSh s sh).pc + 1) (beginK sh wait (head / 64) s) = .ok (ops, after, k) →
    (getSh s sh).rpta = false →
    exec (.reservedOpcode sh wait) s = .next (settle (stopped sh
      { head := head, opc := head / 64, opn := head / 16 % 4, sz := head % 16, pc := (getSh s sh).pc, ops := ops, roles := []
        len := after - (getSh s sh).pc, after := after
        cost := 1 + (ops.filter (fun o => o.mode == 6 || o.mode == 3)).length }
      ops.length k.bps false (.trap cReservedOpcode (head / 64) 0 none) s))) ∧
  (∀ s sh c t i r b ret j v h, (getSh s sh).job = some j → (getSh s sh).trapping = false → vectorOf c = some v → kFetch s sh j v = some h → h ≠ 0 → ∀ u, u = getSh (takeTrap sh c t i r b ret s) sh →
    u.trapping = true ∧ u.tcause = c ∧ u.tinfo = t ∧ u.rpta = false ∧ u.pc = h * 2 % 32768 ∧
    mget {} u.priv 0x7FF7 = ⟨0, i.head⟩ ∧ mget {} u.priv 0x7FFC = ⟨0, (getSh s sh).rptc⟩ ∧
    mget {} u.priv 0x7FFE = ⟨0, estat (getSh s sh)⟩ ∧ mget {} u.priv 0x7FFF = ⟨5, ret % 32768⟩ ∧
    (∀ a, a < 0x7FF7 → mget {} u.priv a = mget {} (getSh s sh).priv a)) ∧
  (∀ s sh c t i r b ret j v, (getSh s sh).job = some j → (getSh s sh).trapping = false → vectorOf c = some v →
    (kFetch s sh j v).getD 0 = 0 → takeTrap sh c t i r b ret s = endTrap sh 0x18 c i.pc s) ∧
  (∀ s sh wait j, alive s = true → (getSh s sh).job = some j → shuttleRuns s sh = true →
    kFetch s sh j (getSh s sh).pc = none →
    exec (.nop sh wait) s = .next (settle (if (getSh s sh).trapping then endTrap sh 0x17 cFetch (getSh s sh).pc s
      else endTrap sh cFetch (getSh s sh).pc (getSh s sh).pc s)))

/-! ### Lanes -/

/-- R186, R366: a frame enters its place with its SEQ. R353, R355, R356, R357, R371: the bring-up from the wake to
LINKED. R358, R362, R371, R374 to R376, R379, R369: what lapse of time does on a lane. The model's choices in it: log
entries 71, 107, 123. -/
def Obligations.LaneBringUp : Prop :=
  (∀ s id c d l, alive s = true → cmdOf s id = some c → c.lane = some l → s.jn.stopped = false → (getLane s l).state ≠ 0 →
    cOp c = 0x61 → inData c 0 = some d → exec (.lanePlaceEntry id) s = .next (settle (placeData c l d s))) ∧
  (∀ s id c l b cr, alive s = true → cmdOf s id = some c → c.lane = some l → s.jn.stopped = false →
    (getLane s l).state ≠ 0 → cOp c = 0x20 → c.step = 1 → issuePlan s c = .emit b cr →
    exec (.lanePlaceEntry id) s = .next (settle (placeImage c l b cr s))) ∧
  (∀ s l type p need time, ∀ x, x = getLane (enterPlace l type p need time s) l →
    x.places = (getLane s l).places ++ [⟨(getLane s l).nextSeq, type, p, need, time, none⟩] ∧
    x.nextSeq = (if 0xFFFFFFFF ≤ (getLane s l).nextSeq then 1 else (getLane s l).nextSeq + 1)) ∧
  (∀ s l, alive s = true → l < 64 → (getLane s l).link = .off → exec (.wakeRequest l) s =
    .next (settle (startLink l false false s))) ∧
  (∀ s l, alive s = true → l < 64 → (getLane s l).link = .wake → ∃ p : List Byte,
    p = [BitVec.ofNat 8 (getLane s l).permit, BitVec.ofNat 8 l, BitVec.ofNat 8 (laneRealm s l), 0] ++ Config.deviceId ++
      beBytes 16 (Config.freeValue 0x50 s.free) ∧
    exec (.laneRxLock l) s = .next (settle (laneOut l 1 0 false p (setLane l { getLane s l with
      link := .hello, lock := true, helloD := p, lastRx := s.now } { s with free := s.free + 1 })))) ∧
  (∀ s dt l, alive (passTime dt s) = true → l < 64 → (getLane (passTime dt s) l).link = .hello →
    (getLane (passTime dt s) l).startAt + 3000 ≤ (passTime dt s).now →
    exec (.bringupTimeout dt l) s = .next (settle (failLink l 0 (passTime dt s)))) ∧
  (∀ s dt l t, alive (passTime dt s) = true → l < 64 → (getLane (passTime dt s) l).retryAt = some t →
    ((passTime dt s).now < t → exec (.bringupRetry dt l) s = .next (settle (passTime dt s))) ∧
    (t ≤ (passTime dt s).now → (getLane (passTime dt s) l).opening = false →
      exec (.bringupRetry dt l) s = .next (settle (startLink l false true (passTime dt s))))) ∧
  (∀ s l cause, (getLane s l).tries = 0 → (getLane (failLink l cause s) l).retryAt = some (s.now + 10000) ∧ (getLane (failLink l cause s) l).link = .off ∧
    (getLane (failLink l cause s) l).keyD = []) ∧
  (∀ s dt l t, t = passTime dt s → alive t = true → l < 64 → (getLane t l).link = .up →
    ((getLane t l).timeAt + 1000 ≤ t.now → exec (.timeTick dt l) s = .next (settle (sendTime l t))) ∧
    (t.now < (getLane t l).timeAt + 1000 → exec (.timeTick dt l) s = .next (settle t)) ∧
    ((getLane t l).lastRx + 5000 ≤ t.now → exec (.noFrameTimeout dt l) s = .next (settle (loseLink l t))) ∧
    (∀ p ps a, (getLane t l).places = p :: ps → p.sentAt = some a → a + 500 ≤ t.now →
      exec (.laneRetxTimeout dt l) s = .next (settle (onLane l (fun x => { x with sendSeq := p.seq }) t)))) ∧
  (∀ s l, alive s = true → l < 64 →
    ((getLane s l).link = .up → exec (.linkLoss l) s = .next (settle (loseLink l s))) ∧
    ((getLane s l).link ≠ .up → (getLane s l).link ≠ .off → exec (.linkLoss l) s = .next (settle (onLane l (fun x =>
      { unlinked x with link := .wake, state := x.state }) s)))) ∧
  (∀ s dt l t, t = passTime dt s → alive t = true → l < 64 → (getLane t l).state = 4 →
    ((getLane t l).places ≠ [] → (getLane t l).sleepAt + 100 ≤ t.now →
      exec (.sleepIdleWake dt l) s = .next (settle (startLink l false true t))) ∧
    (∀ e, errorBound t (getLane t l) = some e → (getLane t l).wakeAt ≠ 0 →
      tosDiff t.clk.tos (((getLane t l).wakeAt + e) % 2 ^ 48) < 2 ^ 47 →
      exec (.driftWake dt l) s = .next (settle (startLink l false true t)))) ∧
  (∀ s dt l t p a, t = passTime dt s → alive t = true → l < 64 → (getLane t l).places = [p] → p.type = 0x11 →
    p.sentAt = none → p.time = some a →
    (atGuard t a = true → exec (.timedWithdraw dt l) s = .next (settle (withdraw l p 3 t))) ∧
    (atGuard t a = false → exec (.timedWithdraw dt l) s = .next (settle t))) ∧
  (∀ s dt l t, t = passTime dt s → alive t = true → l < 64 → exec (.failEntryExpiry dt l) s =
    .next (settle (setLane l { getLane t l with
      fails := (getLane t l).fails.filter (fun f => decide (t.now < f.since + 10000000)) } t))) ∧
  (∀ s dt l t, t = passTime dt s → alive t = true → l < 64 → (getLane t l).state = 5 →
    ((getLane t l).closeAt + 40000 ≤ t.now → exec (.laneCloseTimeout dt l) s = .next (settle (closeLane l false t))) ∧
    (t.now < (getLane t l).closeAt + 40000 → exec (.laneCloseTimeout dt l) s = .next (settle t)))

/-- R356, R357, R361, R363, R369, R371, R374, R192, R358: a frame of the station that passes the checks of R361 has its
effect; one whose MAC fails has none but the count and the L0; one that fails the header ends the link. HELLO_S has the
session keys derived and READY_D sent, or ends the bring-up; READY_S that repeats both HELLOs has the first TIME sent;
an answered TIME marks the lane's time; the first TIME_ECHO makes the link LINKED; SLEEP is accepted where nothing is
held or unanswered; LATE_FAIL of a DATA frame enters the failure list; CLOSE ends the link, and with the reason for new
keys starts it again. The model's choices in it: log entries 72, 73, 75, 101. -/
def Obligations.StationFrames : Prop :=
  (∀ s l f i t, ∀ act : State → State, alive s = true → l < 64 →
    (i = Instr.helloS l f ∧ t = 0x81 ∧ act = helloAct l f ∨ i = Instr.readyS l f ∧ t = 0x82 ∧ act = readyAct l f ∨
      i = Instr.ack l f ∧ t = 0x84 ∧ act = ackAct l ∨ i = Instr.sleep l f ∧ t = 0x86 ∧ act = sleepAct l f ∨
      i = Instr.report l f ∧ t = 0x90 ∧ act = reportAct l f ∨ i = Instr.lateFail l f ∧ t = 0x91 ∧ act = lateAct l f ∨
      i = Instr.close l f ∧ t = 7 ∧ act = closeAct l f ∨ (∃ r, i = Instr.timeEcho l r f ∧ t = 0x83 ∧ act = echoAct l r f)) →
    listening (getLane s l) = true → fType f = t → crcBad f = false → headBad (getLane s l) f = false →
    (macBad (getLane s l) f = false → fieldsBad (getLane s l) f = false →
      exec i s = .next (settle (act (acceptFrame l f (traceLane l 1 t (fSeq f) s))))) ∧
    (macBad (getLane s l) f = true → exec i s = .next (settle (alarm 0x0F (laneRegion l) 0 0
      (onLane l (fun x => { x with macErr := satInc x.macErr 0xFFFF }) (traceLane l 1 t (fSeq f) s))))) ∧
    (macBad (getLane s l) f = false → fieldsBad (getLane s l) f = true →
      exec i s = .next (settle (endLink l 4 (traceLane l 1 t (fSeq f) s))))) ∧
  (∀ s l v f, alive s = true → l < 64 → listening (getLane s l) = true → f = (rxLine v).getD [] →
    (crcBad f = true → exec (.laneBadFrame l v) s =
      .next (settle (onLane l (fun x => { x with crcErr := satInc x.crcErr 0xFFFF }) s))) ∧
    (crcBad f = false → headBad (getLane s l) f = true → ((getLane s l).link = .up ∨ (getLane s l).link = .first) →
      exec (.laneBadFrame l v) s = .next (settle (endLink l 4 s))) ∧
    (crcBad f = false → headBad (getLane s l) f = true → ((getLane s l).link = .hello ∨ (getLane s l).link = .ready) →
      exec (.laneBadFrame l v) s = .next (settle (failLink l 4 s)))) ∧
  (∀ s l n rest g, (getLane s l).link = .up → n = ⟨g, 0x11, [], 0, none, none⟩ →
    (getLane s l).places = n :: rest → rest.all (fun p => !seqLe p.seq g) = true → seqLe g g = true →
    (getLane (freePlacesTo l g s) l).places = rest) ∧
  (∀ bound gen r k, rGen r = gen → bound = true → rState r = stUnconfirmed → rTag r = true →
    (k = RepClass.confirm → reportVerdict bound gen r k = (dApplied, false, some stIssued)) ∧
    (k = RepClass.definite → reportVerdict bound gen r k = (dApplied, false, some stVoid)) ∧
    (k = RepClass.uncertain → reportVerdict bound gen r k = (dApplied, true, none))) ∧
  (∀ s l f p v g t, p = fPay f → v = (p.getD 0 0).toNat → g = (p.getD 1 0).toNat →
    t = setLane l { getLane s l with ppmSeen := (p.getD 2 0).toNat, stationId := (p.drop 8).take 8 } s →
    (v = 0 ∨ 3 < v ∨ bit (getLane s l).permit (v - 1) = false → helloAct l f s = endLink l 2 t) ∧
    (1 ≤ v → v ≤ 3 → bit (getLane s l).permit (v - 1) = true → transportSlot t (laneRealm t l) g = none →
      helloAct l f s = endLink l 3 t) ∧
    (∀ n k ks, 1 ≤ v → v ≤ 3 → bit (getLane s l).permit (v - 1) = true →
      transportSlot t (laneRealm t l) g = some (n, k) → 1 ≤ (p.getD 2 0).toNat → (p.getD 2 0).toNat ≤ 200 →
      (p.getD 3 0).toNat = 0 → leNat ((p.drop 4).take 4) = 0 →
      ks = sessionKeys (slotKey k) (laneRealm t l) l v g (((getLane s l).helloD.drop 20).take 16) ((p.drop 16).take 16) →
      helloAct l f s = laneOut l 2 0 false ((getLane s l).helloD ++ p) (setLane l { getLane t l with
        link := .ready, version := v, keyD := ks.take 32, keyS := ks.drop 32, helloS := p, fcntTx := 0, fcntRx := 0
        ppm := (p.getD 2 0).toNat } t))) ∧
  (∀ s l f, (fPay f ≠ (getLane s l).helloD ++ (getLane s l).helloS → readyAct l f s = endLink l 4 s) ∧
    (fPay f = (getLane s l).helloD ++ (getLane s l).helloS → readyAct l f s = sendTime l (setLane l { getLane s l with
      link := .first, linkVer := (getLane s l).version, keyGen := ((getLane s l).helloS.getD 1 0).toNat, times := 0 } s))) ∧
  (∀ s l, ackAct l s = setLane l { getLane s l with
    tSync := if (getLane s l).link = .up then some (getLane s l).tMark else (getLane s l).tSync } s) ∧
  (∀ s l r f, ((getLane s l).echoDue = false → echoAct l r f s = s) ∧
    (∀ t, (getLane s l).echoDue = true → t = setLane l { getLane s l with
        delayNs := min 0xFFFF ((r - leNat (fPay f)) / 2), echoDue := false, tSync := some (getLane s l).tMark } s →
      ((getLane s l).link = .first → echoAct l r f s = linkUp l t) ∧
      ((getLane s l).link ≠ .first → echoAct l r f s = t))) ∧
  (∀ s l, (getLane (linkUp l s) l).link = .up ∧ (getLane (linkUp l s) l).tries = 0 ∧
    (getLane (linkUp l s) l).state = (if (getLane s l).state = 5 then 5 else 3)) ∧
  (∀ s l f, ((∃ b ∈ (fPay f).drop 6, b ≠ 0) → sleepAct l f s = endLink l 4 s) ∧
    (∀ t, (∀ b ∈ (fPay f).drop 6, b = 0) → (getLane s l).link = .up → leNat ((fPay f).take 6) = 0 →
      (getLane s l).places = [] → (getLane s l).acksDue = [] → (getLane s l).unanswered = [] →
      t = idleOut l 16 (laneOut l 6 0 false [1, 0, 0, 0] s) →
      sleepAct l f s = setLane l { unlinked (getLane t l) with
        state := if (getLane t l).state = 5 then 5 else 4, sleepAt := t.now, wakeAt := 0 } t) ∧
    ((∀ b ∈ (fPay f).drop 6, b = 0) → (getLane s l).places ≠ [] →
      sleepAct l f s = laneOut l 6 0 false [2, 1, 0, 0] s) ∧
    ((∀ b ∈ (fPay f).drop 6, b = 0) → (getLane s l).places = [] → (getLane s l).unanswered ≠ [] →
      sleepAct l f s = laneOut l 6 0 false [2, 2, 0, 0] s)) ∧
  (∀ s l f r, ((getLane s l).link = .up ∨ (getLane s l).link = .first) → r = ((fPay f).getD 4 0).toNat →
    (leNat ((fPay f).take 4) ∈ (getLane s l).dataAcked → 1 ≤ r → (r < 6 ∨ 0x80 ≤ r) → (∀ b ∈ (fPay f).drop 5, b = 0) →
      lateAct l f s = sendAckUp l [(fSeq f, 4)] (failAdd l (leNat ((fPay f).take 4)) r s)) ∧
    (leNat ((fPay f).take 4) ∉ (getLane s l).dataAcked → lateAct l f s =
      sendAckUp l [(fSeq f, 5)] (logEvent 5 4 ([l, 0x91] ++ leNats 2 (fSeq f)) s))) ∧
  (∀ s l f, ((getLane s l).link = .up → ((fPay f).getD 0 0).toNat ≠ 5 → closeAct l f s = loseLink l s) ∧
    ((getLane s l).link = .up → ((fPay f).getD 0 0).toNat = 5 → closeAct l f s = startLink l false false (loseLink l s)) ∧
    ((getLane s l).link ≠ .up → (getLane s l).link ≠ .off →
      closeAct l f s = failLink l ((fPay f).getD 0 0).toNat s))

/-! ### The custody card bus -/

/-- R386, R387, R389, R390, R392, R393: presence, roll call and naming, polling and block transfers. Every call carries
its CHK. A card that a roll call hears takes the lowest free address with its CARD_ID, and the address that the same
card had is free; a card is removed by two calls running without an answer, by an answer in phase UNNAMED, by the fall
of CC_PRES_N and by the custody bus's disable, its address being free at once. R396, R400, R402: the card transaction:
DEBIT once PREPARE is durable, FINISH once COMMIT is, the resolution of a pending one, and the expiry of approvals. The
model's choices in it: log entries 68, 69, 70. -/
def Obligations.CardBus : Prop :=
  (∀ s, exec .cardInsertion s = .next (settle { s with card := { s.card with pres := true, rollDue := s.card.enable } })) ∧
  (∀ s, s.card.named = [] → exec .cardRemovalAll s =
    .next (settle { s with card := { s.card with pres := false, rollDue := false, rounds := 0 } })) ∧
  (∀ s, exec .cardHoldEnd s = .next (settle { s with card := { s.card with hold := none } })) ∧
  (∀ s dt t, t = passTime dt s → alive t = true → busUp t = true → t.card.rollDue = true → t.card.todo = [] →
    t.card.hold = none → ∀ u : State, u = { callCard 0x12 0 (Config.freeValue 0x40 t.free % 256 + 256)
      { t with free := t.free + 1 } with card := { t.card with rollAt := t.now } } →
    exec (.rollCallRound dt []) s = .next (settle { u with card := { u.card with rollDue := false, rounds := 0 } }) ∧
    ∀ fr v, fr ≠ [] → v = fr.foldl (fun t f => nameSlot f.1 f.2.1 f.2.2 t) u →
      (t.card.rounds ≠ 15 → exec (.rollCallRound dt fr) s = .next (settle { v with card := { v.card with
        rounds := v.card.rounds + 1, rollDue := true } })) ∧
      (t.card.rounds = 15 → exec (.rollCallRound dt fr) s = .next (settle { callCard 0x11 0 0 v with
        card := { v.card with named := [], rounds := 0, rollDue := true } }))) ∧
  (∀ s verb a arg, callCard verb a arg s = emit (.cardCall ([BitVec.ofNat 8 verb, BitVec.ofNat 8 a] ++ leBytes 3 arg ++
    [crc8 ([BitVec.ofNat 8 verb, BitVec.ofNat 8 a] ++ leBytes 3 arg)])) s) ∧
  (∀ s slot frame answer a w, frame.length = 9 → crc8 (frame.take 8) = frame.getD 8 0 → freeAddr s = some a →
    answerWord 0x13 a answer = some w →
    (1 ≤ bits w 15 13 → nameSlot slot frame answer s = setNamed a (some { id := beNat (frame.take 8), word := w })
      (dropOld (beNat (frame.take 8)) (callCard 0x13 0 (slot + 1024 * a) s))) ∧
    (bits w 15 13 = 0 → nameSlot slot frame answer s = callCard 0x13 0 (slot + 1024 * a) s)) ∧
  (∀ s slot frame answer, frame.length = 9 → crc8 (frame.take 8) = frame.getD 8 0 → freeAddr s = none →
    nameSlot slot frame answer s = logEvent 7 1 (leNats 4 (beNat (frame.take 8))) s) ∧
  (∀ s id b c, namedCard s b = some c → c.id = id → namedCard (dropOld id s) b = none) ∧
  (∀ s a, freeAddr s = some a → 1 ≤ a ∧ a ≤ 8 ∧ namedCard s a = none ∧ ∀ b, 1 ≤ b → b < a → namedCard s b ≠ none) ∧
  (∀ s a c, namedCard s a = some c →
    (c.miss = 0 → noAnswer a s = setNamed a (some { c with miss := 1 }) s) ∧ (1 ≤ c.miss → noAnswer a s = removeCard a s) ∧
    namedCard (removeCard a s) a = none ∧ (∀ b, b ≠ a → namedCard (removeCard a s) b = namedCard s b) ∧
    (removeCard a s).card.removals = satInc s.card.removals 0xFFFF ∧
    (removeCard a s).card.todo = s.card.todo.filter (fun t => t.1 ≠ a)) ∧
  (∀ s verb a b c w, namedCard s a = some c → answerWord verb a b = some w → bits w 15 13 = 0 →
    takeAnswer verb a b s = (false, removeCard a s)) ∧
  (∀ s verb a b, answerWord verb a b = none → takeAnswer verb a b s = (false, noAnswer a (countBad b s))) ∧
  (∀ s, exec .cardRemovalAll s = .next (settle (cardRemovalAll s)) ∧ (cardRemovalAll s).card.pres = false ∧
    (cardRemovalAll s).card.rollDue = false ∧ (cardRemovalAll s).card.rounds = 0 ∧
    (∀ a, namedCard (cardRemovalAll s) a = none) ∧
    ((addrs s).Nodup → s.card.removals + (addrs s).length ≤ 0xFFFF → (∀ a ∈ addrs s, namedCard s a ≠ none) →
      (cardRemovalAll s).card.removals = s.card.removals + (addrs s).length)) ∧
  (∀ s dt t a c b w, t = passTime dt s → alive t = true → busUp t = true → t.card.todo = [] → t.card.hold = none →
    t.card.pollAt + 100 ≤ t.now → t.card.named = [(a, some c)] → answerWord 0x14 a b = some w → 1 ≤ bits w 15 13 →
    exec (.cardPoll dt [(a, b)]) s = .next (settle (setNamed a (some { c with miss := 0, word := w })
      (callCard 0x14 a 0 { t with card := { t.card with pollAt := t.now } })))) ∧
  (∀ s a kind b w d c r, alive s = true → busUp s = true → s.card.hold = none → s.card.todo = (a, kind) :: r → kind ≤ 0x10 →
    namedCard s a = some c → answerWord 0x21 a b = some w → 1 ≤ bits w 15 13 → d.length = 136 → badLines d = 0 →
    ∃ t, exec (.cardBlockTransfer a kind b d) s = .next (settle t) ∧ t.card.todo = r ∧
      namedCard t a = some { c with miss := 0, word := w, blocks := mput c.blocks kind (d.take 128) }) ∧
  (∀ verb a b w, answerWord verb a b = some w → b.length = 6 ∧ (b.getD 0 0).toNat = verb + 128 ∧ (b.getD 1 0).toNat = a) ∧
  (∀ s id c, Admitted s 0x72 id c → c.step = 2 →
    (s.jn.durable < c.held.getD 1 0 → exec (.cardDebit id) s = .next (settle s)) ∧
    (∀ a, c.held.getD 1 0 ≤ s.jn.durable → addrOf s (c.held.getD 0 0) = some a → exec (.cardDebit id) s =
      .next (settle (setCmd { c with step := 3 } { s with card := { s.card with
        todo := [(a, 0x12), (a, 0x01)]
        named := s.card.named.map (fun p => (p.1, p.2.map (fun x => { x with blocks := [] }))) } })))) ∧
  (∀ s i f a, alive s = true → s.card.use = .finish i f → f ≤ s.jn.durable → exchanged s = true → addrOf s i = some a →
    (f ≠ 0 → exec .cardFinish s = .next (settle { s with card := { s.card with
      use := .finish i 0, todo := [(a, 0x13), (a, 0x01)]
      named := s.card.named.map (fun p => (p.1, p.2.map (fun x => { x with blocks := [] }))) } })) ∧
    (∀ b, f = 0 → goodState s a = some b → stLast b s.card.txn 2 = true →
      exec .cardFinish s = .next (settle (freeBus (closeTxn i s))))) ∧
  (∀ s i x a, alive s = true → (cardOf s.realms.live i).bind CardEntry.txn = some x → addrOf s i = some a →
    (s.card.use = .idle → s.glb.service = svReady → busUp s = true → s.jn.stopped = false →
      exec (.cardResolve i) s = .next (settle (resolveStart i a x s))) ∧
    (∀ b st, s.card.use = .resolve i st → exchanged s = true → goodState s a = some b →
      exec (.cardResolve i) s = .next (settle (resolveDecide i a st x b s)))) ∧
  (∀ s i a x b, x.committed = false → stSeq b = x.seq → resolveDecide i a 1 x b s = resolveEnd i s) ∧
  (∀ s i a x b, x.committed = true → stLastSeq b x.seq 1 = true → resolveDecide i a 1 x b s = resolveStore i a 0x13 3 s) ∧
  (∀ s i a x b, x.committed = false → stSeq b ≠ x.seq → stLastSeq b x.seq 1 = true →
    resolveDecide i a 1 x b s = resolveStore i a 0x14 2 s) ∧
  (∀ s dt t, t = passTime dt s → alive t = true → exec (.approvalExpiry dt) s =
    .next (settle { t with card := { t.card with
      approvals := t.card.approvals.filter (fun a => decide (t.clk.readyUs < a.expires)) } }))

/-! ### Sensors and alarms -/

/-- R431, R432, R433, R442: each sensor that acts at once raises its alarm with its level and region, a glitch within 1
µs before power-fail detection at L0; the tamper system then answers it (`settle`). A light reading within limits and
an Envelope with no net out raise nothing; a breach with the main supplies off is latched. R431, R448, R457: the
sensors whose L1 stands with its cause: the L1 is raised when the condition comes, and the cause is gone when the
condition goes. R435, R437, R439, R449: what ends after an alarm. An L1 ends 10 ms after its cause has gone; a pulse of
the service-ball outputs ends when its time is over; core crypto is zeroised once the sealed frame no longer needs a
key; the steps S3 to S5 of a scuttle run each after the one before it. The model's choices in it: log entries 76, 78,
117. -/
def Obligations.SensorTrips : Prop :=
  (∀ s uw, s.clk.supply = true → 20 < uw → exec (.light uw) s = .next (settle (alarm 0x08 0 3 0 s))) ∧
  (∀ s uw, uw ≤ 20 → exec (.light uw) s = .next (settle s)) ∧
  (∀ s n t, s.clk.supply = true → n < 20 → (t < -200 ∨ 960 < t) →
    exec (.tempTrip n t) s = .next (settle (alarm 0x09 0 3 t (setTemp n t s)))) ∧
  (∀ s n rate, s.clk.supply = true → n < 20 → (160 < rate ∨ rate < -160) →
    exec (.tempRate n rate) s = .next (settle (alarm 0x0A 0 3 rate s))) ∧
  (∀ s len, s.clk.running = true → len < 4000 →
    exec (.clockGlitch 0 (.usual len)) s = .next (settle (alarm 0x06 0 3 len s))) ∧
  (∀ s h len, s.clk.running = true → h < 24 → len < 4000 →
    exec (.clockGlitch (0x20 + h) (.usual len)) s = .next (settle (alarm 0x06 (0x20 + h) 2 len s))) ∧
  (∀ s l len, s.clk.running = true → l < 4 → len < 4000 →
    exec (.clockGlitch (0x10 + l) (.usual len)) s = .next (settle (alarm 0x06 (0x10 + l) 2 len s))) ∧
  (∀ s r len, s.clk.running = true → clockRegion r = true → len < 4000 →
    exec (.clockGlitch r (.failing len)) s = .next (settle (alarm 0x06 r 0 len s))) ∧
  (∀ s i mv, s.clk.supply = true → i < 5 → (mv < -80 ∨ 100 < mv) →
    exec (.glitchIsland i mv true) s = .next (settle (alarm 0x03 (if i < 4 then 0x10 + i else 0) 0 mv s))) ∧
  (∀ s l mv, s.clk.supply = true → l < 4 → (mv < -80 ∨ 100 < mv) →
    exec (.glitchIsland l mv false) s = .next (settle (alarm 0x03 (0x10 + l) 2 mv s))) ∧
  (∀ s mv, s.clk.supply = true → (mv < -80 ∨ 100 < mv) →
    exec (.glitchIsland 4 mv false) s = .next (settle (alarm 0x03 0 3 mv s))) ∧
  (∀ s dev osc, s.clk.running = true → -200 ≤ osc → osc ≤ 200 → (100 < dev ∨ dev < -300) →
    exec (.clockWindow 0 dev osc) s = .next (settle (alarm 0x05 0 3 dev s)) ∧
    (∀ l, l < 4 → exec (.clockWindow (0x10 + l) dev osc) s = .next (settle (alarm 0x05 (0x10 + l) 2 dev s))) ∧
    (∀ h, h < 24 → exec (.clockWindow (0x20 + h) dev osc) s = .next (settle (alarm 0x05 (0x20 + h) 2 dev s)))) ∧
  (∀ s r dev osc, s.clk.running = true → clockRegion r = true → (osc < -200 ∨ 200 < osc) → -300 ≤ dev → dev ≤ 100 →
    exec (.clockWindow r dev osc) s = .next (settle (alarm 0x07 0 3 osc { s with tm := { s.tm with oscOk := false } }))) ∧
  (∀ s n, s.clk.supply = true → n < 64 → mget 0 s.tm.netRuns n = 2 → exec (.envelopeCompare [n]) s =
    .next (settle (alarm 0x01 0 4 1 { s with tm := { s.tm with netRuns := runsAfter [n] s, envOk := false } }))) ∧
  (∀ s nets ns, s.clk.supply = true → ns = (nets.filter (fun n => n < 64)).eraseDups → 1 ≤ ns.length → ns.length ≤ 3 →
    (∀ n ∈ ns, mget 0 s.tm.netRuns n < 2) → exec (.envelopeCompare nets) s =
    .next (settle (alarm 0x02 0 1 ns.length { s with tm := { s.tm with netRuns := runsAfter ns s } }))) ∧
  (∀ s, s.clk.supply = true → exec (.envelopeCompare []) s =
    .next (settle { s with tm := { s.tm with netRuns := [] } })) ∧
  (∀ s nets ns, s.clk.supply = false → s.tm.checkPattern = true → ns = (nets.filter (fun n => n < 64)).eraseDups →
    4 ≤ ns.length → exec (.envelopeCompare nets) s =
    .next (settle { s with tm := { s.tm with netRuns := runsAfter ns s, breach := true } })) ∧
  (∀ s nets, s.clk.supply = true → 4 ≤ ((nets.filter (fun n => n < 64)).eraseDups).length →
    exec (.envelopeCompare nets) s = .next (settle (alarm 0x01 0 4 ((nets.filter (fun n => n < 64)).eraseDups).length
      { s with tm := { s.tm with netRuns := runsAfter ((nets.filter (fun n => n < 64)).eraseDups) s, envOk := false } }))) ∧
  (∀ s mv o, s.clk.running = true → (holdupNow s mv < 450 ∨ o = true) → standing s 0x0D 0 = false →
    exec (.ballastLow mv o) s = .next (settle (alarm 0x0D 0 1 0 s))) ∧
  (∀ s mv, s.clk.running = true → 450 ≤ holdupNow s mv →
    exec (.ballastLow mv false) s = .next (settle (causeGone 0x0D 0 s))) ∧
  (∀ s mv, s.clk.supply = true → (mv < 1164 ∨ 1236 < mv) → standing s 0x04 0 = false →
    exec (.supplyRange 5 mv) s =
      .next (settle (alarm 0x04 0 1 mv { s with tm := { s.tm with railsOut := s.tm.railsOut ||| 32 } }))) ∧
  (∀ s n t, s.clk.supply = true → n < 20 → (t < -80 ∨ 840 < t) → -200 ≤ t → t ≤ 960 →
    standing s 0x0B (tempRegion n) = false →
    exec (.tempRange n t) s = .next (settle (alarm 0x0B (tempRegion n) 1 t (setTemp n t s)))) ∧
  (∀ s n t, s.clk.supply = true → exec (.tempWarn n t) s = .next (settle (setTemp n t s))) ∧
  (∀ s dt n t, (passTime dt s).clk.running = true → mfind (passTime dt s).host.cfgSince n = some (some t) →
    t + 10000 ≤ (passTime dt s).now → standing (passTime dt s) 0x0E 0 = false →
    exec (.cfgMismatch dt) s = .next (settle (alarm 0x0E 0 1 0 (passTime dt s)))) ∧
  (∀ s temp, s.clk.running = true → s.tm.nbr = 0 → (∀ p, p < 8 → pairDiff temp p ≤ 144) →
    exec (.neighbour [850, 850, 850, 850, 799] temp) s = .next (settle
      ((List.range 4).foldl (fun u l => alarm 0x0C (0x10 + l) 1 51 u)
        { s with
          clk := { s.clk with
            voltOver := 0x0F, tempOver := 0
            vmeas := mset 0 (mset 0 (mset 0 (mset 0 (mset 0 s.clk.vmeas 0 850) 1 850) 2 850) 3 850) 4 799 }
          tm := { s.tm with nbr := 0x08040201 } }))) ∧
  (∀ s mv temp, s.clk.running = true → ∃ (nbr : BitVec 32) (val : Nat → Int) (v o : BitVec 8) (m : KMap Nat),
    exec (.neighbour mv temp) s = .next (settle ((List.range 4).foldl (fun u l => neighbourLoom s.tm.nbr nbr val l u)
      { s with clk := { s.clk with voltOver := v, tempOver := o, vmeas := m }, tm := { s.tm with nbr := nbr } })) ∧
    (∀ i, i < 5 → mget 0 m i = mv.getD i 0 % 1024) ∧
    ∀ p, p < 8 → v.getLsbD p = decide (50 < pairDiff (mv.map Int.ofNat) p) ∧
      o.getLsbD p = decide (160 < pairDiff temp p) ∧
      ∀ l, l < 4 → nbr.getLsbD (8 * l + p) =
        ((decide (50 < pairDiff (mv.map Int.ofNat) p) && (affectedLooms (mv.map Int.ofNat) p).contains l) ||
         (decide (160 < pairDiff temp p) && (affectedLooms temp p).contains l) ||
         (s.tm.nbr.getLsbD (8 * l + p) &&
          !(decide (pairDiff (mv.map Int.ofNat) p ≤ 45) && decide (pairDiff temp p ≤ 144))))) ∧
  (∀ b a v l s, (∀ p, p < 8 → b.getLsbD (8 * l + p) = false) →
    (∀ p, p < 8 → a.getLsbD (8 * l + p) = true → (∀ q, q < p → a.getLsbD (8 * l + q) = false) →
      neighbourLoom b a v l s = alarm 0x0C (0x10 + l) 1 (v p) s) ∧
    ((∀ p, p < 8 → a.getLsbD (8 * l + p) = false) → neighbourLoom b a v l s = s)) ∧
  (∀ b a v l s p, p < 8 → b.getLsbD (8 * l + p) = true →
    ((∀ q, q < 8 → a.getLsbD (8 * l + q) = false) → neighbourLoom b a v l s = causeGone 0x0C (0x10 + l) s) ∧
    (∀ q, q < 8 → a.getLsbD (8 * l + q) = true → neighbourLoom b a v l s = s)) ∧
  (∀ s dt, exec (.l1End dt) s = .next (settle { noteLevels (passTime dt s) with tm := { (passTime dt s).tm with
    active := (passTime dt s).tm.active.filter (fun a => !a.goneAt.any (fun t => decide (t + 10000 ≤ (passTime dt s).now))) } })) ∧
  (∀ s dt t, (passTime dt s).tm.pulseEnd = some t → t ≤ (passTime dt s).now →
    exec (.alarmPulseEnd dt) s = .next (settle { passTime dt s with tm := { (passTime dt s).tm with pulseEnd := none } })) ∧
  (∀ s, s.tm.zeroiseDue = true → (∀ f ∈ s.jn.flight, f.stage ≠ .closed) →
    exec .lockdownZeroiseCore s = .next (settle { s with
      realms := { s.realms with live := dropCardKeys s.realms.live, durable := dropCardKeys s.realms.durable }
      keys := { s.keys with ledgerIn := false, deviceIn := false, attestIn := false }
      tm := { s.tm with zeroiseDue := false } })) ∧
  (∀ s, s.clk.supply = true → s.glb.lifecycle = 0xFF → s.tm.scuttleStep = 2 →
    exec .scuttleHelperFuses s = .next (settle { s with
      keys := { s.keys with helperFuses := false }, tm := { s.tm with scuttleStep := 3 } })) ∧
  (∀ s, s.clk.supply = true → s.glb.lifecycle = 0xFF → s.tm.scuttleStep = 3 →
    exec .scuttleAnchorWipe s = .next (settle { s with
      jn := { s.jn with anchors := [], anchorsWiped := true, inhibit := true, flight := [] }
      tm := { s.tm with scuttleStep := 4 } })) ∧
  (∀ s, s.clk.supply = true → s.glb.lifecycle = 0xFF → s.tm.scuttleStep = 4 →
    exec .scuttleCopyWipe s = .next (settle { s with
      keys := { s.keys with
        helperA := some (List.replicate 16448 0), helperB := some (List.replicate 16448 0)
        ledgerA := some (List.replicate 128 0), ledgerB := some (List.replicate 128 0) }
      tm := { s.tm with scuttleStep := 5 } }))
end

