-- ==== Sys2Proof/Laws/Hash.lean ====
section
/-! SUPPORT. The lengths of digests. -/

namespace Sys2Proof.Machine

theorem beBytes_length (n v : Nat) : (beBytes n v).length = n := by
  induction n generalizing v with
  | zero => rfl
  | succ n ih => simp [beBytes, ih]

theorem shaBlock_length {w : Nat} (z : ShaSize w) (h : List (BitVec w)) (b : List Byte) : (shaBlock z h b).length = 8 := rfl

theorem shaOver_length {w : Nat} (z : ShaSize w) (start : List Nat) (m : List Byte) (hl : start.length = 8) :
    (shaOver z start m).length = 8 * z.bytes := by
  have fold : ∀ (bs : List (List Byte)) (h : List (BitVec w)), h.length = 8 → (bs.foldl (shaBlock z) h).length = 8 := by
    intro bs
    induction bs with
    | nil => exact fun _ h => h
    | cons b bs ih => exact fun h _ => ih _ (shaBlock_length z h b)
  have flat : ∀ l : List (BitVec w), (l.flatMap (fun x => beBytes z.bytes x.toNat)).length = l.length * z.bytes := by
    intro l
    induction l with
    | nil => simp
    | cons a l ih => simp [beBytes_length, ih, Nat.succ_mul]; omega
  unfold shaOver
  rw [flat, fold _ _ (by simp [hl])]

theorem sha256_length (m : List Byte) : (sha256 m).length = 32 := shaOver_length shaSize32 shaRoots m rfl

theorem hmac256_length (k m : List Byte) : (hmac256 k m).length = 32 := by
  simp only [hmac256, hmacWith]
  exact sha256_length _

end Sys2Proof.Machine
end

