-- ==== Sys2Proof/Laws/Karef.lean ====
section
/-! SUPPORT. What a Karef row does with an instruction that completes. -/

namespace Sys2Proof.Machine

/-- An instruction that has passed steps 1 to 5 of R241, whose body succeeds within the budget, completes: every Karef
row is stated through this one. -/
theorem karefOp_completes {s sh wait opc i k} (body : Body) (h : Staged s sh wait opc i k)
    {nx k2} (hb : body sh i k = .ok (nx, k2)) (ha : Affords s sh i k2) :
    serve (karefOp opc sh wait body) s = .next (completes s sh i nx k2) := by
  obtain ⟨j, ops, q, more, h0, h1, h2, h3, h4, h5, h6, h7, h8, h9, h10, h11, h12, h13, h14, h15, h16, h17, h18, h19, h20, h21, h22⟩ := h
  obtain ⟨head, iopc, iopn, isz, ipc, iops, iroles, ilen, iafter, icost⟩ := i
  simp only at *
  subst h0 h4 h7 h8 h9 h11 h16 h17 h22
  unfold serve completes karefOp karefRow
  have hf : (List.zipWith (roleErr iafter) (q.roles (head/16 % 4))
      (if (iopc == 0x34 && (getSh s sh).gath.isSome) = true then gathOps (getSh s sh) ops else ops)).find? (fun o => decide (o.err ≠ 0)) = none := by
    rw [List.find?_eq_none]; intro x hx; simp [h18 x hx]
  have h15' : (iopc == 80 && head / 16 % 4 == 2 && head % 16 != 0) = false := by
    cases hh : (iopc == 80 && head / 16 % 4 == 2 && head % 16 != 0) with
    | false => rfl
    | true => simp at hh; exact absurd ⟨hh.1.1, hh.1.2, hh.2⟩ h15
  have h20' : (iopc == 0x51 && (getSh s sh).rpta) = false := by
    cases hh : (iopc == 81 && (getSh s sh).rpta) with
    | false => rfl
    | true => simp at hh; exact absurd hh h20
  have h14' : ¬ q.szMax < head % 16 := by omega
  simp only [h1, if_true, h2, h3, h5, h6, h10, h12, h13, h14', List.contains_eq_mem, h15', h20']
  simp only [Bool.not_true, Bool.false_eq_true, if_false, beq_self_eq_true, Option.map_some, Option.getD_some]
  have he : (if (iopc == 0x34 && (getSh s sh).gath.isSome) = true then ((0 : Nat), none)
      else stageOpds sh k ((q.roles (head / 16 % 4)).zip (List.zipWith (roleErr iafter) (q.roles (head / 16 % 4))
        (if (iopc == 0x34 && (getSh s sh).gath.isSome) = true then gathOps (getSh s sh) ops else ops))) 0).2
      = none := by
    rcases h21 with hg | hg
    · rw [if_pos hg]
    · by_cases hc : (iopc == 0x34 && (getSh s sh).gath.isSome) = true
      · rw [if_pos hc]
      · exact (congrArg Prod.snd (if_neg hc)).trans hg
  simp only [decide_true, Bool.not_true, Bool.false_or, decide_false, Bool.false_eq_true, if_false, hf, h19]
  rw [he]
  unfold Affords at ha
  simp only [hb, ha, Bool.false_eq_true, if_false]

end Sys2Proof.Machine
end

