-- ==== Sys2Proof/Laws/Maps.lean ====
section
/-! SUPPORT. The laws of maps: a read after a write, and that every operation keeps the canonical form. -/

namespace Sys2Proof.Machine

variable {α : Type}

@[simp] theorem mget_nil (d : α) (k : Nat) : mget d [] k = d := rfl
@[simp] theorem mget_mput_self (d : α) (m : KMap α) (k : Nat) (v : α) : mget d (mput m k v) k = v := by
  induction m with
  | nil => simp [mput, mget]
  | cons p m ih =>
    obtain ⟨k', v'⟩ := p
    simp only [mput]
    split
    · simp [mget]
    · split
      · simp [mget]
      · simp only [mget]; rw [if_neg (by assumption), if_neg (by assumption)]; exact ih

theorem mget_mput_ne (d : α) (m : KMap α) {k j : Nat} (v : α) (h : j ≠ k) : mget d (mput m k v) j = mget d m j := by
  induction m with
  | nil =>
    simp only [mput, mget]; rw [if_neg (Ne.symm h)]; split <;> rfl
  | cons p m ih =>
    obtain ⟨k', v'⟩ := p
    simp only [mput]
    split
    · subst k'; simp only [mget]; rw [if_neg (Ne.symm h), if_neg (Ne.symm h)]
    · split
      · simp only [mget]
        by_cases a : k = j
        · exact absurd a.symm h
        · rw [if_neg a]
          by_cases b : j < k
          · rw [if_pos b, if_neg (by omega), if_pos (by omega)]
          · rw [if_neg b]
      · simp only [mget]; rw [ih]

/-- What a removal leaves lists no key that is not above the one removed. -/
theorem mget_drop_le (d : α) (m : KMap α) {k j : Nat} (h : j ≤ k) :
    mget d (m.dropWhile (fun p => decide (p.1 ≤ k))) j = d := by
  induction m with
  | nil => rfl
  | cons p m ih =>
    obtain ⟨k', v'⟩ := p
    by_cases a : k' ≤ k
    · simpa [List.dropWhile, a] using ih
    · simp only [List.dropWhile, a, decide_false, mget]; rw [if_neg (by omega), if_pos (by omega)]

/-- What a removal leaves reads as before above the key removed. -/
theorem mget_drop_gt (d : α) (m : KMap α) {k j : Nat} (h : k < j) :
    mget d (m.dropWhile (fun p => decide (p.1 ≤ k))) j = mget d m j := by
  induction m with
  | nil => rfl
  | cons p m ih =>
    obtain ⟨k', v'⟩ := p
    by_cases a : k' ≤ k
    · simp only [List.dropWhile, a, decide_true, mget]; rw [ih, if_neg (by omega), if_neg (by omega)]
    · simp only [List.dropWhile, a, decide_false]

theorem msorted_mono (m : KMap α) {a b : Nat} (h : msorted b m = true) (hab : a ≤ b) : msorted a m = true := by
  cases m with
  | nil => rfl
  | cons p m => simp [msorted] at h ⊢; exact ⟨by omega, h.2⟩

theorem mget_mdel_self (d : α) (m : KMap α) (k : Nat) : mget d (mdel m k) k = d := by
  induction m with
  | nil => rfl
  | cons p m ih =>
    obtain ⟨k', v'⟩ := p
    simp only [mdel]
    split
    · exact mget_drop_le d m (Nat.le_refl _)
    · split
      · simp only [mget]; rw [if_neg (by assumption), if_pos (by assumption)]
      · simp only [mget]; rw [if_neg (by assumption), if_neg (by assumption)]; exact ih

theorem mget_mdel_ne (d : α) (m : KMap α) {k j : Nat} (hj : j ≠ k) : mget d (mdel m k) j = mget d m j := by
  induction m with
  | nil => rfl
  | cons p m ih =>
    obtain ⟨k', v'⟩ := p
    simp only [mdel]
    split
    · subst k'
      simp only [mget]; rw [if_neg (Ne.symm hj)]
      split
      · exact mget_drop_le d m (by omega)
      · exact mget_drop_gt d m (by omega)
    · split
      · rfl
      · simp only [mget]; rw [ih]

/-- A map whose keys rise from above the key removed loses nothing else. -/
theorem drop_sorted (m : KMap α) {b k : Nat} (h : msorted b m = true) (hk : k < b) :
    m.dropWhile (fun p => decide (p.1 ≤ k)) = m := by
  cases m with
  | nil => rfl
  | cons p m => simp [msorted] at h; simp [List.dropWhile, show ¬ p.1 ≤ k by omega]

theorem msorted_mput (m : KMap α) (b k : Nat) (v : α) (h : msorted b m = true) (hk : b ≤ k) :
    msorted b (mput m k v) = true := by
  induction m generalizing b with
  | nil => simp [mput, msorted, hk]
  | cons p m ih =>
    obtain ⟨k', v'⟩ := p
    simp [msorted] at h
    simp only [mput]
    split
    · subst k'; simp [msorted, h]
    · split
      · simp [msorted, hk, h.2]; omega
      · simp [msorted, h.1]; exact ih _ h.2 (by omega)

theorem msorted_mdel (m : KMap α) (b k : Nat) (h : msorted b m = true) : msorted b (mdel m k) = true := by
  induction m generalizing b with
  | nil => rfl
  | cons p m ih =>
    obtain ⟨k', v'⟩ := p
    simp [msorted] at h
    simp only [mdel]
    split
    · rw [drop_sorted m h.2 (by omega)]; exact msorted_mono m h.2 (by omega)
    · split
      · simp [msorted, h]
      · simp [msorted, h.1]; exact ih _ h.2

theorem mem_mput {m : KMap α} {k : Nat} {v : α} {p : Nat × α} (h : p ∈ mput m k v) : p = (k, v) ∨ p ∈ m := by
  induction m with
  | nil => simpa [mput] using h
  | cons q m ih =>
    obtain ⟨k', v'⟩ := q
    simp only [mput] at h
    split at h
    · simp at h; rcases h with h | h
      · exact .inl h
      · exact .inr (by simp [h])
    · split at h
      · simp at h; rcases h with h | h | h
        · exact .inl h
        · exact .inr (by simp [h])
        · exact .inr (by simp [h])
      · simp at h; rcases h with h | h
        · exact .inr (by simp [h])
        · rcases ih h with h | h
          · exact .inl h
          · exact .inr (by simp [h])

theorem mem_mdel {m : KMap α} {k : Nat} {p : Nat × α} (h : p ∈ mdel m k) : p ∈ m := by
  induction m with
  | nil => simp [mdel] at h
  | cons q m ih =>
    obtain ⟨k', v'⟩ := q
    simp only [mdel] at h
    split at h
    · exact List.mem_cons_of_mem _ (List.dropWhile_sublist _ |>.mem h)
    · split at h
      · exact h
      · simp at h; rcases h with h | h
        · simp [h]
        · exact List.mem_cons_of_mem _ (ih h)

/-- A read of the key written gives the value written. -/
theorem mget_mset_self [DecidableEq α] (d : α) (m : KMap α) (k : Nat) (v : α) : mget d (mset d m k v) k = v := by
  unfold mset
  split
  · subst v; exact mget_mdel_self d m k
  · exact mget_mput_self d m k v

/-- Every other key reads as before. -/
theorem mget_mset_ne [DecidableEq α] (d : α) (m : KMap α) {k j : Nat} (v : α) (hj : j ≠ k) :
    mget d (mset d m k v) j = mget d m j := by
  unfold mset
  split
  · exact mget_mdel_ne d m hj
  · exact mget_mput_ne d m v hj

/-- A write keeps the canonical form. -/
theorem mwf_mset [DecidableEq α] (d : α) (m : KMap α) (k : Nat) (v : α) (h : mwf d m = true) : mwf d (mset d m k v) = true := by
  simp only [mwf, Bool.and_eq_true, List.all_eq_true] at h ⊢
  unfold mset
  split
  · exact ⟨msorted_mdel m 0 k h.1, fun p hp => h.2 p (mem_mdel hp)⟩
  · refine ⟨msorted_mput m 0 k v h.1 (Nat.zero_le _), fun p hp => ?_⟩
    rcases mem_mput hp with rfl | hp
    · simpa using by assumption
    · exact h.2 p hp

/-- A map over the values keeps the canonical form. -/
theorem mwf_mmap [DecidableEq α] (d : α) (f : Nat → α → α) (m : KMap α) (h : mwf d m = true) : mwf d (mmap d f m) = true := by
  simp only [mwf, Bool.and_eq_true] at h ⊢
  refine ⟨?_, by simp [mmap]⟩
  have key : ∀ (m : KMap α) (b : Nat), msorted b m = true → msorted b (mmap d f m) = true := by
    intro m
    induction m with
    | nil => intros; rfl
    | cons p m ih =>
      intro b hb
      simp [msorted] at hb
      by_cases e : f p.1 p.2 = d
      · simpa [mmap, e] using msorted_mono _ (ih _ hb.2) (by omega)
      · have := ih _ hb.2
        simp only [mmap, List.map_cons] at this ⊢
        simp [e, msorted, hb.1, this]
  exact key m 0 h.1

end Sys2Proof.Machine
end

