-- ==== Sys2Proof/Laws/State.lean ====
section
/-! SUPPORT. One lemma a field for each operation that updates State: the fields it leaves alone. -/

namespace Sys2Proof.Machine

@[simp] theorem emit_pending (o : Output) (s : State) : (emit o s).pending = s.pending := rfl
@[simp] theorem emit_now (o : Output) (s : State) : (emit o s).now = s.now := rfl
@[simp] theorem emit_free (o : Output) (s : State) : (emit o s).free = s.free := rfl
@[simp] theorem emit_glb (o : Output) (s : State) : (emit o s).glb = s.glb := rfl
@[simp] theorem emit_host (o : Output) (s : State) : (emit o s).host = s.host := rfl
@[simp] theorem emit_cmds (o : Output) (s : State) : (emit o s).cmds = s.cmds := rfl
@[simp] theorem emit_adm (o : Output) (s : State) : (emit o s).adm = s.adm := rfl
@[simp] theorem emit_led (o : Output) (s : State) : (emit o s).led = s.led := rfl
@[simp] theorem emit_jn (o : Output) (s : State) : (emit o s).jn = s.jn := rfl
@[simp] theorem emit_realms (o : Output) (s : State) : (emit o s).realms = s.realms := rfl
@[simp] theorem emit_cells (o : Output) (s : State) : (emit o s).cells = s.cells := rfl
@[simp] theorem emit_keys (o : Output) (s : State) : (emit o s).keys = s.keys := rfl
@[simp] theorem emit_engs (o : Output) (s : State) : (emit o s).engs = s.engs := rfl
@[simp] theorem emit_lanes (o : Output) (s : State) : (emit o s).lanes = s.lanes := rfl
@[simp] theorem emit_card (o : Output) (s : State) : (emit o s).card = s.card := rfl
@[simp] theorem emit_ic (o : Output) (s : State) : (emit o s).ic = s.ic := rfl
@[simp] theorem emit_tm (o : Output) (s : State) : (emit o s).tm = s.tm := rfl
@[simp] theorem emit_clk (o : Output) (s : State) : (emit o s).clk = s.clk := rfl
@[simp] theorem emit_ag (o : Output) (s : State) : (emit o s).ag = s.ag := rfl
@[simp] theorem emit_ob (o : Output) (s : State) : (emit o s).ob = s.ob := rfl
@[simp] theorem emit_pm (o : Output) (s : State) : (emit o s).pm = s.pm := rfl
@[simp] theorem emit_tap (o : Output) (s : State) : (emit o s).tap = s.tap := rfl
@[simp] theorem emit_start (o : Output) (s : State) : (emit o s).start = s.start := rfl
@[simp] theorem emit_fws (o : Output) (s : State) : (emit o s).fws = s.fws := rfl

@[simp] theorem alarm_pending (n r l : Nat) (v : Int) (s : State) : (alarm n r l v s).pending = s.pending := rfl
@[simp] theorem alarm_now (n r l : Nat) (v : Int) (s : State) : (alarm n r l v s).now = s.now := rfl
@[simp] theorem alarm_free (n r l : Nat) (v : Int) (s : State) : (alarm n r l v s).free = s.free := rfl
@[simp] theorem alarm_out (n r l : Nat) (v : Int) (s : State) : (alarm n r l v s).out = s.out := rfl
@[simp] theorem alarm_glb (n r l : Nat) (v : Int) (s : State) : (alarm n r l v s).glb = s.glb := rfl
@[simp] theorem alarm_host (n r l : Nat) (v : Int) (s : State) : (alarm n r l v s).host = s.host := rfl
@[simp] theorem alarm_cmds (n r l : Nat) (v : Int) (s : State) : (alarm n r l v s).cmds = s.cmds := rfl
@[simp] theorem alarm_adm (n r l : Nat) (v : Int) (s : State) : (alarm n r l v s).adm = s.adm := rfl
@[simp] theorem alarm_led (n r l : Nat) (v : Int) (s : State) : (alarm n r l v s).led = s.led := rfl
@[simp] theorem alarm_jn (n r l : Nat) (v : Int) (s : State) : (alarm n r l v s).jn = s.jn := rfl
@[simp] theorem alarm_realms (n r l : Nat) (v : Int) (s : State) : (alarm n r l v s).realms = s.realms := rfl
@[simp] theorem alarm_cells (n r l : Nat) (v : Int) (s : State) : (alarm n r l v s).cells = s.cells := rfl
@[simp] theorem alarm_keys (n r l : Nat) (v : Int) (s : State) : (alarm n r l v s).keys = s.keys := rfl
@[simp] theorem alarm_engs (n r l : Nat) (v : Int) (s : State) : (alarm n r l v s).engs = s.engs := rfl
@[simp] theorem alarm_lanes (n r l : Nat) (v : Int) (s : State) : (alarm n r l v s).lanes = s.lanes := rfl
@[simp] theorem alarm_card (n r l : Nat) (v : Int) (s : State) : (alarm n r l v s).card = s.card := rfl
@[simp] theorem alarm_ic (n r l : Nat) (v : Int) (s : State) : (alarm n r l v s).ic = s.ic := rfl
@[simp] theorem alarm_clk (n r l : Nat) (v : Int) (s : State) : (alarm n r l v s).clk = s.clk := rfl
@[simp] theorem alarm_ag (n r l : Nat) (v : Int) (s : State) : (alarm n r l v s).ag = s.ag := rfl
@[simp] theorem alarm_ob (n r l : Nat) (v : Int) (s : State) : (alarm n r l v s).ob = s.ob := rfl
@[simp] theorem alarm_pm (n r l : Nat) (v : Int) (s : State) : (alarm n r l v s).pm = s.pm := rfl
@[simp] theorem alarm_tap (n r l : Nat) (v : Int) (s : State) : (alarm n r l v s).tap = s.tap := rfl
@[simp] theorem alarm_start (n r l : Nat) (v : Int) (s : State) : (alarm n r l v s).start = s.start := rfl
@[simp] theorem alarm_fws (n r l : Nat) (v : Int) (s : State) : (alarm n r l v s).fws = s.fws := rfl

@[simp] theorem icRaise_pending (n : Nat) (s : State) : (icRaise n s).pending = s.pending := rfl
@[simp] theorem icRaise_now (n : Nat) (s : State) : (icRaise n s).now = s.now := rfl
@[simp] theorem icRaise_free (n : Nat) (s : State) : (icRaise n s).free = s.free := rfl
@[simp] theorem icRaise_out (n : Nat) (s : State) : (icRaise n s).out = s.out := rfl
@[simp] theorem icRaise_glb (n : Nat) (s : State) : (icRaise n s).glb = s.glb := rfl
@[simp] theorem icRaise_host (n : Nat) (s : State) : (icRaise n s).host = s.host := rfl
@[simp] theorem icRaise_cmds (n : Nat) (s : State) : (icRaise n s).cmds = s.cmds := rfl
@[simp] theorem icRaise_adm (n : Nat) (s : State) : (icRaise n s).adm = s.adm := rfl
@[simp] theorem icRaise_led (n : Nat) (s : State) : (icRaise n s).led = s.led := rfl
@[simp] theorem icRaise_jn (n : Nat) (s : State) : (icRaise n s).jn = s.jn := rfl
@[simp] theorem icRaise_realms (n : Nat) (s : State) : (icRaise n s).realms = s.realms := rfl
@[simp] theorem icRaise_cells (n : Nat) (s : State) : (icRaise n s).cells = s.cells := rfl
@[simp] theorem icRaise_keys (n : Nat) (s : State) : (icRaise n s).keys = s.keys := rfl
@[simp] theorem icRaise_engs (n : Nat) (s : State) : (icRaise n s).engs = s.engs := rfl
@[simp] theorem icRaise_lanes (n : Nat) (s : State) : (icRaise n s).lanes = s.lanes := rfl
@[simp] theorem icRaise_card (n : Nat) (s : State) : (icRaise n s).card = s.card := rfl
@[simp] theorem icRaise_tm (n : Nat) (s : State) : (icRaise n s).tm = s.tm := rfl
@[simp] theorem icRaise_clk (n : Nat) (s : State) : (icRaise n s).clk = s.clk := rfl
@[simp] theorem icRaise_ag (n : Nat) (s : State) : (icRaise n s).ag = s.ag := rfl
@[simp] theorem icRaise_ob (n : Nat) (s : State) : (icRaise n s).ob = s.ob := rfl
@[simp] theorem icRaise_pm (n : Nat) (s : State) : (icRaise n s).pm = s.pm := rfl
@[simp] theorem icRaise_tap (n : Nat) (s : State) : (icRaise n s).tap = s.tap := rfl
@[simp] theorem icRaise_start (n : Nat) (s : State) : (icRaise n s).start = s.start := rfl
@[simp] theorem icRaise_fws (n : Nat) (s : State) : (icRaise n s).fws = s.fws := rfl

@[simp] theorem icTake_pending (s : State) (n : Nat) : (icTake s n).pending = s.pending := rfl
@[simp] theorem icTake_now (s : State) (n : Nat) : (icTake s n).now = s.now := rfl
@[simp] theorem icTake_free (s : State) (n : Nat) : (icTake s n).free = s.free := rfl
@[simp] theorem icTake_out (s : State) (n : Nat) : (icTake s n).out = s.out := rfl
@[simp] theorem icTake_glb (s : State) (n : Nat) : (icTake s n).glb = s.glb := rfl
@[simp] theorem icTake_host (s : State) (n : Nat) : (icTake s n).host = s.host := rfl
@[simp] theorem icTake_cmds (s : State) (n : Nat) : (icTake s n).cmds = s.cmds := rfl
@[simp] theorem icTake_adm (s : State) (n : Nat) : (icTake s n).adm = s.adm := rfl
@[simp] theorem icTake_led (s : State) (n : Nat) : (icTake s n).led = s.led := rfl
@[simp] theorem icTake_jn (s : State) (n : Nat) : (icTake s n).jn = s.jn := rfl
@[simp] theorem icTake_realms (s : State) (n : Nat) : (icTake s n).realms = s.realms := rfl
@[simp] theorem icTake_cells (s : State) (n : Nat) : (icTake s n).cells = s.cells := rfl
@[simp] theorem icTake_keys (s : State) (n : Nat) : (icTake s n).keys = s.keys := rfl
@[simp] theorem icTake_engs (s : State) (n : Nat) : (icTake s n).engs = s.engs := rfl
@[simp] theorem icTake_lanes (s : State) (n : Nat) : (icTake s n).lanes = s.lanes := rfl
@[simp] theorem icTake_card (s : State) (n : Nat) : (icTake s n).card = s.card := rfl
@[simp] theorem icTake_tm (s : State) (n : Nat) : (icTake s n).tm = s.tm := rfl
@[simp] theorem icTake_clk (s : State) (n : Nat) : (icTake s n).clk = s.clk := rfl
@[simp] theorem icTake_ag (s : State) (n : Nat) : (icTake s n).ag = s.ag := rfl
@[simp] theorem icTake_ob (s : State) (n : Nat) : (icTake s n).ob = s.ob := rfl
@[simp] theorem icTake_pm (s : State) (n : Nat) : (icTake s n).pm = s.pm := rfl
@[simp] theorem icTake_tap (s : State) (n : Nat) : (icTake s n).tap = s.tap := rfl
@[simp] theorem icTake_start (s : State) (n : Nat) : (icTake s n).start = s.start := rfl
@[simp] theorem icTake_fws (s : State) (n : Nat) : (icTake s n).fws = s.fws := rfl

@[simp] theorem setFn_pending (n : Nat) (f : Fn) (s : State) : (setFn n f s).pending = s.pending := rfl
@[simp] theorem setFn_now (n : Nat) (f : Fn) (s : State) : (setFn n f s).now = s.now := rfl
@[simp] theorem setFn_free (n : Nat) (f : Fn) (s : State) : (setFn n f s).free = s.free := rfl
@[simp] theorem setFn_out (n : Nat) (f : Fn) (s : State) : (setFn n f s).out = s.out := rfl
@[simp] theorem setFn_glb (n : Nat) (f : Fn) (s : State) : (setFn n f s).glb = s.glb := rfl
@[simp] theorem setFn_cmds (n : Nat) (f : Fn) (s : State) : (setFn n f s).cmds = s.cmds := rfl
@[simp] theorem setFn_adm (n : Nat) (f : Fn) (s : State) : (setFn n f s).adm = s.adm := rfl
@[simp] theorem setFn_led (n : Nat) (f : Fn) (s : State) : (setFn n f s).led = s.led := rfl
@[simp] theorem setFn_jn (n : Nat) (f : Fn) (s : State) : (setFn n f s).jn = s.jn := rfl
@[simp] theorem setFn_realms (n : Nat) (f : Fn) (s : State) : (setFn n f s).realms = s.realms := rfl
@[simp] theorem setFn_cells (n : Nat) (f : Fn) (s : State) : (setFn n f s).cells = s.cells := rfl
@[simp] theorem setFn_keys (n : Nat) (f : Fn) (s : State) : (setFn n f s).keys = s.keys := rfl
@[simp] theorem setFn_engs (n : Nat) (f : Fn) (s : State) : (setFn n f s).engs = s.engs := rfl
@[simp] theorem setFn_lanes (n : Nat) (f : Fn) (s : State) : (setFn n f s).lanes = s.lanes := rfl
@[simp] theorem setFn_card (n : Nat) (f : Fn) (s : State) : (setFn n f s).card = s.card := rfl
@[simp] theorem setFn_ic (n : Nat) (f : Fn) (s : State) : (setFn n f s).ic = s.ic := rfl
@[simp] theorem setFn_tm (n : Nat) (f : Fn) (s : State) : (setFn n f s).tm = s.tm := rfl
@[simp] theorem setFn_clk (n : Nat) (f : Fn) (s : State) : (setFn n f s).clk = s.clk := rfl
@[simp] theorem setFn_ag (n : Nat) (f : Fn) (s : State) : (setFn n f s).ag = s.ag := rfl
@[simp] theorem setFn_ob (n : Nat) (f : Fn) (s : State) : (setFn n f s).ob = s.ob := rfl
@[simp] theorem setFn_pm (n : Nat) (f : Fn) (s : State) : (setFn n f s).pm = s.pm := rfl
@[simp] theorem setFn_tap (n : Nat) (f : Fn) (s : State) : (setFn n f s).tap = s.tap := rfl
@[simp] theorem setFn_start (n : Nat) (f : Fn) (s : State) : (setFn n f s).start = s.start := rfl
@[simp] theorem setFn_fws (n : Nat) (f : Fn) (s : State) : (setFn n f s).fws = s.fws := rfl

@[simp] theorem setPairOf_pending (n p : Nat) (q : QPair) (s : State) : (setPairOf n p q s).pending = s.pending := rfl
@[simp] theorem setPairOf_now (n p : Nat) (q : QPair) (s : State) : (setPairOf n p q s).now = s.now := rfl
@[simp] theorem setPairOf_free (n p : Nat) (q : QPair) (s : State) : (setPairOf n p q s).free = s.free := rfl
@[simp] theorem setPairOf_out (n p : Nat) (q : QPair) (s : State) : (setPairOf n p q s).out = s.out := rfl
@[simp] theorem setPairOf_glb (n p : Nat) (q : QPair) (s : State) : (setPairOf n p q s).glb = s.glb := rfl
@[simp] theorem setPairOf_cmds (n p : Nat) (q : QPair) (s : State) : (setPairOf n p q s).cmds = s.cmds := rfl
@[simp] theorem setPairOf_adm (n p : Nat) (q : QPair) (s : State) : (setPairOf n p q s).adm = s.adm := rfl
@[simp] theorem setPairOf_led (n p : Nat) (q : QPair) (s : State) : (setPairOf n p q s).led = s.led := rfl
@[simp] theorem setPairOf_jn (n p : Nat) (q : QPair) (s : State) : (setPairOf n p q s).jn = s.jn := rfl
@[simp] theorem setPairOf_realms (n p : Nat) (q : QPair) (s : State) : (setPairOf n p q s).realms = s.realms := rfl
@[simp] theorem setPairOf_cells (n p : Nat) (q : QPair) (s : State) : (setPairOf n p q s).cells = s.cells := rfl
@[simp] theorem setPairOf_keys (n p : Nat) (q : QPair) (s : State) : (setPairOf n p q s).keys = s.keys := rfl
@[simp] theorem setPairOf_engs (n p : Nat) (q : QPair) (s : State) : (setPairOf n p q s).engs = s.engs := rfl
@[simp] theorem setPairOf_lanes (n p : Nat) (q : QPair) (s : State) : (setPairOf n p q s).lanes = s.lanes := rfl
@[simp] theorem setPairOf_card (n p : Nat) (q : QPair) (s : State) : (setPairOf n p q s).card = s.card := rfl
@[simp] theorem setPairOf_ic (n p : Nat) (q : QPair) (s : State) : (setPairOf n p q s).ic = s.ic := rfl
@[simp] theorem setPairOf_tm (n p : Nat) (q : QPair) (s : State) : (setPairOf n p q s).tm = s.tm := rfl
@[simp] theorem setPairOf_clk (n p : Nat) (q : QPair) (s : State) : (setPairOf n p q s).clk = s.clk := rfl
@[simp] theorem setPairOf_ag (n p : Nat) (q : QPair) (s : State) : (setPairOf n p q s).ag = s.ag := rfl
@[simp] theorem setPairOf_ob (n p : Nat) (q : QPair) (s : State) : (setPairOf n p q s).ob = s.ob := rfl
@[simp] theorem setPairOf_pm (n p : Nat) (q : QPair) (s : State) : (setPairOf n p q s).pm = s.pm := rfl
@[simp] theorem setPairOf_tap (n p : Nat) (q : QPair) (s : State) : (setPairOf n p q s).tap = s.tap := rfl
@[simp] theorem setPairOf_start (n p : Nat) (q : QPair) (s : State) : (setPairOf n p q s).start = s.start := rfl
@[simp] theorem setPairOf_fws (n p : Nat) (q : QPair) (s : State) : (setPairOf n p q s).fws = s.fws := rfl

@[simp] theorem setWin_pending (n w : Nat) (v : Window) (s : State) : (setWin n w v s).pending = s.pending := rfl
@[simp] theorem setWin_now (n w : Nat) (v : Window) (s : State) : (setWin n w v s).now = s.now := rfl
@[simp] theorem setWin_free (n w : Nat) (v : Window) (s : State) : (setWin n w v s).free = s.free := rfl
@[simp] theorem setWin_out (n w : Nat) (v : Window) (s : State) : (setWin n w v s).out = s.out := rfl
@[simp] theorem setWin_glb (n w : Nat) (v : Window) (s : State) : (setWin n w v s).glb = s.glb := rfl
@[simp] theorem setWin_cmds (n w : Nat) (v : Window) (s : State) : (setWin n w v s).cmds = s.cmds := rfl
@[simp] theorem setWin_adm (n w : Nat) (v : Window) (s : State) : (setWin n w v s).adm = s.adm := rfl
@[simp] theorem setWin_led (n w : Nat) (v : Window) (s : State) : (setWin n w v s).led = s.led := rfl
@[simp] theorem setWin_jn (n w : Nat) (v : Window) (s : State) : (setWin n w v s).jn = s.jn := rfl
@[simp] theorem setWin_realms (n w : Nat) (v : Window) (s : State) : (setWin n w v s).realms = s.realms := rfl
@[simp] theorem setWin_cells (n w : Nat) (v : Window) (s : State) : (setWin n w v s).cells = s.cells := rfl
@[simp] theorem setWin_keys (n w : Nat) (v : Window) (s : State) : (setWin n w v s).keys = s.keys := rfl
@[simp] theorem setWin_engs (n w : Nat) (v : Window) (s : State) : (setWin n w v s).engs = s.engs := rfl
@[simp] theorem setWin_lanes (n w : Nat) (v : Window) (s : State) : (setWin n w v s).lanes = s.lanes := rfl
@[simp] theorem setWin_card (n w : Nat) (v : Window) (s : State) : (setWin n w v s).card = s.card := rfl
@[simp] theorem setWin_ic (n w : Nat) (v : Window) (s : State) : (setWin n w v s).ic = s.ic := rfl
@[simp] theorem setWin_tm (n w : Nat) (v : Window) (s : State) : (setWin n w v s).tm = s.tm := rfl
@[simp] theorem setWin_clk (n w : Nat) (v : Window) (s : State) : (setWin n w v s).clk = s.clk := rfl
@[simp] theorem setWin_ag (n w : Nat) (v : Window) (s : State) : (setWin n w v s).ag = s.ag := rfl
@[simp] theorem setWin_ob (n w : Nat) (v : Window) (s : State) : (setWin n w v s).ob = s.ob := rfl
@[simp] theorem setWin_pm (n w : Nat) (v : Window) (s : State) : (setWin n w v s).pm = s.pm := rfl
@[simp] theorem setWin_tap (n w : Nat) (v : Window) (s : State) : (setWin n w v s).tap = s.tap := rfl
@[simp] theorem setWin_start (n w : Nat) (v : Window) (s : State) : (setWin n w v s).start = s.start := rfl
@[simp] theorem setWin_fws (n w : Nat) (v : Window) (s : State) : (setWin n w v s).fws = s.fws := rfl

@[simp] theorem setCmd_pending (c : Cmd) (s : State) : (setCmd c s).pending = s.pending := rfl
@[simp] theorem setCmd_now (c : Cmd) (s : State) : (setCmd c s).now = s.now := rfl
@[simp] theorem setCmd_free (c : Cmd) (s : State) : (setCmd c s).free = s.free := rfl
@[simp] theorem setCmd_out (c : Cmd) (s : State) : (setCmd c s).out = s.out := rfl
@[simp] theorem setCmd_glb (c : Cmd) (s : State) : (setCmd c s).glb = s.glb := rfl
@[simp] theorem setCmd_host (c : Cmd) (s : State) : (setCmd c s).host = s.host := rfl
@[simp] theorem setCmd_adm (c : Cmd) (s : State) : (setCmd c s).adm = s.adm := rfl
@[simp] theorem setCmd_led (c : Cmd) (s : State) : (setCmd c s).led = s.led := rfl
@[simp] theorem setCmd_jn (c : Cmd) (s : State) : (setCmd c s).jn = s.jn := rfl
@[simp] theorem setCmd_realms (c : Cmd) (s : State) : (setCmd c s).realms = s.realms := rfl
@[simp] theorem setCmd_cells (c : Cmd) (s : State) : (setCmd c s).cells = s.cells := rfl
@[simp] theorem setCmd_keys (c : Cmd) (s : State) : (setCmd c s).keys = s.keys := rfl
@[simp] theorem setCmd_engs (c : Cmd) (s : State) : (setCmd c s).engs = s.engs := rfl
@[simp] theorem setCmd_lanes (c : Cmd) (s : State) : (setCmd c s).lanes = s.lanes := rfl
@[simp] theorem setCmd_card (c : Cmd) (s : State) : (setCmd c s).card = s.card := rfl
@[simp] theorem setCmd_ic (c : Cmd) (s : State) : (setCmd c s).ic = s.ic := rfl
@[simp] theorem setCmd_tm (c : Cmd) (s : State) : (setCmd c s).tm = s.tm := rfl
@[simp] theorem setCmd_clk (c : Cmd) (s : State) : (setCmd c s).clk = s.clk := rfl
@[simp] theorem setCmd_ag (c : Cmd) (s : State) : (setCmd c s).ag = s.ag := rfl
@[simp] theorem setCmd_ob (c : Cmd) (s : State) : (setCmd c s).ob = s.ob := rfl
@[simp] theorem setCmd_pm (c : Cmd) (s : State) : (setCmd c s).pm = s.pm := rfl
@[simp] theorem setCmd_tap (c : Cmd) (s : State) : (setCmd c s).tap = s.tap := rfl
@[simp] theorem setCmd_start (c : Cmd) (s : State) : (setCmd c s).start = s.start := rfl
@[simp] theorem setCmd_fws (c : Cmd) (s : State) : (setCmd c s).fws = s.fws := rfl

@[simp] theorem setSh_pending (n : Nat) (x : Shuttle) (s : State) : (setSh n x s).pending = s.pending := rfl
@[simp] theorem setSh_now (n : Nat) (x : Shuttle) (s : State) : (setSh n x s).now = s.now := rfl
@[simp] theorem setSh_free (n : Nat) (x : Shuttle) (s : State) : (setSh n x s).free = s.free := rfl
@[simp] theorem setSh_out (n : Nat) (x : Shuttle) (s : State) : (setSh n x s).out = s.out := rfl
@[simp] theorem setSh_glb (n : Nat) (x : Shuttle) (s : State) : (setSh n x s).glb = s.glb := rfl
@[simp] theorem setSh_host (n : Nat) (x : Shuttle) (s : State) : (setSh n x s).host = s.host := rfl
@[simp] theorem setSh_cmds (n : Nat) (x : Shuttle) (s : State) : (setSh n x s).cmds = s.cmds := rfl
@[simp] theorem setSh_adm (n : Nat) (x : Shuttle) (s : State) : (setSh n x s).adm = s.adm := rfl
@[simp] theorem setSh_led (n : Nat) (x : Shuttle) (s : State) : (setSh n x s).led = s.led := rfl
@[simp] theorem setSh_jn (n : Nat) (x : Shuttle) (s : State) : (setSh n x s).jn = s.jn := rfl
@[simp] theorem setSh_realms (n : Nat) (x : Shuttle) (s : State) : (setSh n x s).realms = s.realms := rfl
@[simp] theorem setSh_keys (n : Nat) (x : Shuttle) (s : State) : (setSh n x s).keys = s.keys := rfl
@[simp] theorem setSh_engs (n : Nat) (x : Shuttle) (s : State) : (setSh n x s).engs = s.engs := rfl
@[simp] theorem setSh_lanes (n : Nat) (x : Shuttle) (s : State) : (setSh n x s).lanes = s.lanes := rfl
@[simp] theorem setSh_card (n : Nat) (x : Shuttle) (s : State) : (setSh n x s).card = s.card := rfl
@[simp] theorem setSh_ic (n : Nat) (x : Shuttle) (s : State) : (setSh n x s).ic = s.ic := rfl
@[simp] theorem setSh_tm (n : Nat) (x : Shuttle) (s : State) : (setSh n x s).tm = s.tm := rfl
@[simp] theorem setSh_clk (n : Nat) (x : Shuttle) (s : State) : (setSh n x s).clk = s.clk := rfl
@[simp] theorem setSh_ag (n : Nat) (x : Shuttle) (s : State) : (setSh n x s).ag = s.ag := rfl
@[simp] theorem setSh_ob (n : Nat) (x : Shuttle) (s : State) : (setSh n x s).ob = s.ob := rfl
@[simp] theorem setSh_pm (n : Nat) (x : Shuttle) (s : State) : (setSh n x s).pm = s.pm := rfl
@[simp] theorem setSh_tap (n : Nat) (x : Shuttle) (s : State) : (setSh n x s).tap = s.tap := rfl
@[simp] theorem setSh_start (n : Nat) (x : Shuttle) (s : State) : (setSh n x s).start = s.start := rfl
@[simp] theorem setSh_fws (n : Nat) (x : Shuttle) (s : State) : (setSh n x s).fws = s.fws := rfl

@[simp] theorem setHd_pending (n : Nat) (x : Heddle) (s : State) : (setHd n x s).pending = s.pending := rfl
@[simp] theorem setHd_now (n : Nat) (x : Heddle) (s : State) : (setHd n x s).now = s.now := rfl
@[simp] theorem setHd_free (n : Nat) (x : Heddle) (s : State) : (setHd n x s).free = s.free := rfl
@[simp] theorem setHd_out (n : Nat) (x : Heddle) (s : State) : (setHd n x s).out = s.out := rfl
@[simp] theorem setHd_glb (n : Nat) (x : Heddle) (s : State) : (setHd n x s).glb = s.glb := rfl
@[simp] theorem setHd_host (n : Nat) (x : Heddle) (s : State) : (setHd n x s).host = s.host := rfl
@[simp] theorem setHd_cmds (n : Nat) (x : Heddle) (s : State) : (setHd n x s).cmds = s.cmds := rfl
@[simp] theorem setHd_adm (n : Nat) (x : Heddle) (s : State) : (setHd n x s).adm = s.adm := rfl
@[simp] theorem setHd_led (n : Nat) (x : Heddle) (s : State) : (setHd n x s).led = s.led := rfl
@[simp] theorem setHd_jn (n : Nat) (x : Heddle) (s : State) : (setHd n x s).jn = s.jn := rfl
@[simp] theorem setHd_realms (n : Nat) (x : Heddle) (s : State) : (setHd n x s).realms = s.realms := rfl
@[simp] theorem setHd_keys (n : Nat) (x : Heddle) (s : State) : (setHd n x s).keys = s.keys := rfl
@[simp] theorem setHd_engs (n : Nat) (x : Heddle) (s : State) : (setHd n x s).engs = s.engs := rfl
@[simp] theorem setHd_lanes (n : Nat) (x : Heddle) (s : State) : (setHd n x s).lanes = s.lanes := rfl
@[simp] theorem setHd_card (n : Nat) (x : Heddle) (s : State) : (setHd n x s).card = s.card := rfl
@[simp] theorem setHd_ic (n : Nat) (x : Heddle) (s : State) : (setHd n x s).ic = s.ic := rfl
@[simp] theorem setHd_tm (n : Nat) (x : Heddle) (s : State) : (setHd n x s).tm = s.tm := rfl
@[simp] theorem setHd_clk (n : Nat) (x : Heddle) (s : State) : (setHd n x s).clk = s.clk := rfl
@[simp] theorem setHd_ag (n : Nat) (x : Heddle) (s : State) : (setHd n x s).ag = s.ag := rfl
@[simp] theorem setHd_ob (n : Nat) (x : Heddle) (s : State) : (setHd n x s).ob = s.ob := rfl
@[simp] theorem setHd_pm (n : Nat) (x : Heddle) (s : State) : (setHd n x s).pm = s.pm := rfl
@[simp] theorem setHd_tap (n : Nat) (x : Heddle) (s : State) : (setHd n x s).tap = s.tap := rfl
@[simp] theorem setHd_start (n : Nat) (x : Heddle) (s : State) : (setHd n x s).start = s.start := rfl
@[simp] theorem setHd_fws (n : Nat) (x : Heddle) (s : State) : (setHd n x s).fws = s.fws := rfl

@[simp] theorem setSg_pending (n : Nat) (e : SigEng) (s : State) : (setSg n e s).pending = s.pending := rfl
@[simp] theorem setSg_now (n : Nat) (e : SigEng) (s : State) : (setSg n e s).now = s.now := rfl
@[simp] theorem setSg_free (n : Nat) (e : SigEng) (s : State) : (setSg n e s).free = s.free := rfl
@[simp] theorem setSg_out (n : Nat) (e : SigEng) (s : State) : (setSg n e s).out = s.out := rfl
@[simp] theorem setSg_glb (n : Nat) (e : SigEng) (s : State) : (setSg n e s).glb = s.glb := rfl
@[simp] theorem setSg_host (n : Nat) (e : SigEng) (s : State) : (setSg n e s).host = s.host := rfl
@[simp] theorem setSg_cmds (n : Nat) (e : SigEng) (s : State) : (setSg n e s).cmds = s.cmds := rfl
@[simp] theorem setSg_adm (n : Nat) (e : SigEng) (s : State) : (setSg n e s).adm = s.adm := rfl
@[simp] theorem setSg_led (n : Nat) (e : SigEng) (s : State) : (setSg n e s).led = s.led := rfl
@[simp] theorem setSg_jn (n : Nat) (e : SigEng) (s : State) : (setSg n e s).jn = s.jn := rfl
@[simp] theorem setSg_realms (n : Nat) (e : SigEng) (s : State) : (setSg n e s).realms = s.realms := rfl
@[simp] theorem setSg_cells (n : Nat) (e : SigEng) (s : State) : (setSg n e s).cells = s.cells := rfl
@[simp] theorem setSg_keys (n : Nat) (e : SigEng) (s : State) : (setSg n e s).keys = s.keys := rfl
@[simp] theorem setSg_lanes (n : Nat) (e : SigEng) (s : State) : (setSg n e s).lanes = s.lanes := rfl
@[simp] theorem setSg_card (n : Nat) (e : SigEng) (s : State) : (setSg n e s).card = s.card := rfl
@[simp] theorem setSg_ic (n : Nat) (e : SigEng) (s : State) : (setSg n e s).ic = s.ic := rfl
@[simp] theorem setSg_tm (n : Nat) (e : SigEng) (s : State) : (setSg n e s).tm = s.tm := rfl
@[simp] theorem setSg_clk (n : Nat) (e : SigEng) (s : State) : (setSg n e s).clk = s.clk := rfl
@[simp] theorem setSg_ag (n : Nat) (e : SigEng) (s : State) : (setSg n e s).ag = s.ag := rfl
@[simp] theorem setSg_ob (n : Nat) (e : SigEng) (s : State) : (setSg n e s).ob = s.ob := rfl
@[simp] theorem setSg_pm (n : Nat) (e : SigEng) (s : State) : (setSg n e s).pm = s.pm := rfl
@[simp] theorem setSg_tap (n : Nat) (e : SigEng) (s : State) : (setSg n e s).tap = s.tap := rfl
@[simp] theorem setSg_start (n : Nat) (e : SigEng) (s : State) : (setSg n e s).start = s.start := rfl
@[simp] theorem setSg_fws (n : Nat) (e : SigEng) (s : State) : (setSg n e s).fws = s.fws := rfl

@[simp] theorem setLane_pending (l : Nat) (x : Lane) (s : State) : (setLane l x s).pending = s.pending := rfl
@[simp] theorem setLane_now (l : Nat) (x : Lane) (s : State) : (setLane l x s).now = s.now := rfl
@[simp] theorem setLane_free (l : Nat) (x : Lane) (s : State) : (setLane l x s).free = s.free := rfl
@[simp] theorem setLane_out (l : Nat) (x : Lane) (s : State) : (setLane l x s).out = s.out := rfl
@[simp] theorem setLane_glb (l : Nat) (x : Lane) (s : State) : (setLane l x s).glb = s.glb := rfl
@[simp] theorem setLane_host (l : Nat) (x : Lane) (s : State) : (setLane l x s).host = s.host := rfl
@[simp] theorem setLane_cmds (l : Nat) (x : Lane) (s : State) : (setLane l x s).cmds = s.cmds := rfl
@[simp] theorem setLane_adm (l : Nat) (x : Lane) (s : State) : (setLane l x s).adm = s.adm := rfl
@[simp] theorem setLane_led (l : Nat) (x : Lane) (s : State) : (setLane l x s).led = s.led := rfl
@[simp] theorem setLane_jn (l : Nat) (x : Lane) (s : State) : (setLane l x s).jn = s.jn := rfl
@[simp] theorem setLane_realms (l : Nat) (x : Lane) (s : State) : (setLane l x s).realms = s.realms := rfl
@[simp] theorem setLane_cells (l : Nat) (x : Lane) (s : State) : (setLane l x s).cells = s.cells := rfl
@[simp] theorem setLane_keys (l : Nat) (x : Lane) (s : State) : (setLane l x s).keys = s.keys := rfl
@[simp] theorem setLane_engs (l : Nat) (x : Lane) (s : State) : (setLane l x s).engs = s.engs := rfl
@[simp] theorem setLane_card (l : Nat) (x : Lane) (s : State) : (setLane l x s).card = s.card := rfl
@[simp] theorem setLane_ic (l : Nat) (x : Lane) (s : State) : (setLane l x s).ic = s.ic := rfl
@[simp] theorem setLane_tm (l : Nat) (x : Lane) (s : State) : (setLane l x s).tm = s.tm := rfl
@[simp] theorem setLane_clk (l : Nat) (x : Lane) (s : State) : (setLane l x s).clk = s.clk := rfl
@[simp] theorem setLane_ag (l : Nat) (x : Lane) (s : State) : (setLane l x s).ag = s.ag := rfl
@[simp] theorem setLane_ob (l : Nat) (x : Lane) (s : State) : (setLane l x s).ob = s.ob := rfl
@[simp] theorem setLane_pm (l : Nat) (x : Lane) (s : State) : (setLane l x s).pm = s.pm := rfl
@[simp] theorem setLane_tap (l : Nat) (x : Lane) (s : State) : (setLane l x s).tap = s.tap := rfl
@[simp] theorem setLane_start (l : Nat) (x : Lane) (s : State) : (setLane l x s).start = s.start := rfl
@[simp] theorem setLane_fws (l : Nat) (x : Lane) (s : State) : (setLane l x s).fws = s.fws := rfl

@[simp] theorem setNamed_pending (a : Nat) (c : Option NamedCard) (s : State) : (setNamed a c s).pending = s.pending := rfl
@[simp] theorem setNamed_now (a : Nat) (c : Option NamedCard) (s : State) : (setNamed a c s).now = s.now := rfl
@[simp] theorem setNamed_free (a : Nat) (c : Option NamedCard) (s : State) : (setNamed a c s).free = s.free := rfl
@[simp] theorem setNamed_out (a : Nat) (c : Option NamedCard) (s : State) : (setNamed a c s).out = s.out := rfl
@[simp] theorem setNamed_glb (a : Nat) (c : Option NamedCard) (s : State) : (setNamed a c s).glb = s.glb := rfl
@[simp] theorem setNamed_host (a : Nat) (c : Option NamedCard) (s : State) : (setNamed a c s).host = s.host := rfl
@[simp] theorem setNamed_cmds (a : Nat) (c : Option NamedCard) (s : State) : (setNamed a c s).cmds = s.cmds := rfl
@[simp] theorem setNamed_adm (a : Nat) (c : Option NamedCard) (s : State) : (setNamed a c s).adm = s.adm := rfl
@[simp] theorem setNamed_led (a : Nat) (c : Option NamedCard) (s : State) : (setNamed a c s).led = s.led := rfl
@[simp] theorem setNamed_jn (a : Nat) (c : Option NamedCard) (s : State) : (setNamed a c s).jn = s.jn := rfl
@[simp] theorem setNamed_realms (a : Nat) (c : Option NamedCard) (s : State) : (setNamed a c s).realms = s.realms := rfl
@[simp] theorem setNamed_cells (a : Nat) (c : Option NamedCard) (s : State) : (setNamed a c s).cells = s.cells := rfl
@[simp] theorem setNamed_keys (a : Nat) (c : Option NamedCard) (s : State) : (setNamed a c s).keys = s.keys := rfl
@[simp] theorem setNamed_engs (a : Nat) (c : Option NamedCard) (s : State) : (setNamed a c s).engs = s.engs := rfl
@[simp] theorem setNamed_lanes (a : Nat) (c : Option NamedCard) (s : State) : (setNamed a c s).lanes = s.lanes := rfl
@[simp] theorem setNamed_ic (a : Nat) (c : Option NamedCard) (s : State) : (setNamed a c s).ic = s.ic := rfl
@[simp] theorem setNamed_tm (a : Nat) (c : Option NamedCard) (s : State) : (setNamed a c s).tm = s.tm := rfl
@[simp] theorem setNamed_clk (a : Nat) (c : Option NamedCard) (s : State) : (setNamed a c s).clk = s.clk := rfl
@[simp] theorem setNamed_ag (a : Nat) (c : Option NamedCard) (s : State) : (setNamed a c s).ag = s.ag := rfl
@[simp] theorem setNamed_ob (a : Nat) (c : Option NamedCard) (s : State) : (setNamed a c s).ob = s.ob := rfl
@[simp] theorem setNamed_pm (a : Nat) (c : Option NamedCard) (s : State) : (setNamed a c s).pm = s.pm := rfl
@[simp] theorem setNamed_tap (a : Nat) (c : Option NamedCard) (s : State) : (setNamed a c s).tap = s.tap := rfl
@[simp] theorem setNamed_start (a : Nat) (c : Option NamedCard) (s : State) : (setNamed a c s).start = s.start := rfl
@[simp] theorem setNamed_fws (a : Nat) (c : Option NamedCard) (s : State) : (setNamed a c s).fws = s.fws := rfl

@[simp] theorem draw_snd (use : Nat) (s : State) : (draw use s).2 = { s with free := s.free + 1 } := rfl
@[simp] theorem drawBytes_snd (use n : Nat) (s : State) : (drawBytes use n s).2 = { s with free := s.free + 1 } := rfl
@[simp] theorem emit_out (o : Output) (s : State) : (emit o s).out = o :: s.out := rfl
@[simp] theorem alarm_raised (n r l : Nat) (v : Int) (s : State) :
    (alarm n r l v s).tm.raised = s.tm.raised ++ [⟨n, r, l, v⟩] := rfl

@[simp] theorem aerLog_pending (n b : Nat) (s : State) : (aerLog n b s).pending = s.pending := rfl
@[simp] theorem aerLog_now (n b : Nat) (s : State) : (aerLog n b s).now = s.now := rfl
@[simp] theorem aerLog_free (n b : Nat) (s : State) : (aerLog n b s).free = s.free := rfl
@[simp] theorem aerLog_out (n b : Nat) (s : State) : (aerLog n b s).out = s.out := rfl
@[simp] theorem aerLog_glb (n b : Nat) (s : State) : (aerLog n b s).glb = s.glb := rfl
@[simp] theorem aerLog_cmds (n b : Nat) (s : State) : (aerLog n b s).cmds = s.cmds := rfl
@[simp] theorem aerLog_adm (n b : Nat) (s : State) : (aerLog n b s).adm = s.adm := rfl
@[simp] theorem aerLog_led (n b : Nat) (s : State) : (aerLog n b s).led = s.led := rfl
@[simp] theorem aerLog_jn (n b : Nat) (s : State) : (aerLog n b s).jn = s.jn := rfl
@[simp] theorem aerLog_realms (n b : Nat) (s : State) : (aerLog n b s).realms = s.realms := rfl
@[simp] theorem aerLog_cells (n b : Nat) (s : State) : (aerLog n b s).cells = s.cells := rfl
@[simp] theorem aerLog_keys (n b : Nat) (s : State) : (aerLog n b s).keys = s.keys := rfl
@[simp] theorem aerLog_engs (n b : Nat) (s : State) : (aerLog n b s).engs = s.engs := rfl
@[simp] theorem aerLog_lanes (n b : Nat) (s : State) : (aerLog n b s).lanes = s.lanes := rfl
@[simp] theorem aerLog_card (n b : Nat) (s : State) : (aerLog n b s).card = s.card := rfl
@[simp] theorem aerLog_ic (n b : Nat) (s : State) : (aerLog n b s).ic = s.ic := rfl
@[simp] theorem aerLog_tm (n b : Nat) (s : State) : (aerLog n b s).tm = s.tm := rfl
@[simp] theorem aerLog_clk (n b : Nat) (s : State) : (aerLog n b s).clk = s.clk := rfl
@[simp] theorem aerLog_ag (n b : Nat) (s : State) : (aerLog n b s).ag = s.ag := rfl
@[simp] theorem aerLog_ob (n b : Nat) (s : State) : (aerLog n b s).ob = s.ob := rfl
@[simp] theorem aerLog_pm (n b : Nat) (s : State) : (aerLog n b s).pm = s.pm := rfl
@[simp] theorem aerLog_tap (n b : Nat) (s : State) : (aerLog n b s).tap = s.tap := rfl
@[simp] theorem aerLog_start (n b : Nat) (s : State) : (aerLog n b s).start = s.start := rfl
@[simp] theorem aerLog_fws (n b : Nat) (s : State) : (aerLog n b s).fws = s.fws := rfl

@[simp] theorem useLookup_pending (s : State) : (useLookup s).pending = s.pending := rfl
@[simp] theorem useLookup_now (s : State) : (useLookup s).now = s.now := rfl
@[simp] theorem useLookup_free (s : State) : (useLookup s).free = s.free := rfl
@[simp] theorem useLookup_out (s : State) : (useLookup s).out = s.out := rfl
@[simp] theorem useLookup_glb (s : State) : (useLookup s).glb = s.glb := rfl
@[simp] theorem useLookup_host (s : State) : (useLookup s).host = s.host := rfl
@[simp] theorem useLookup_cmds (s : State) : (useLookup s).cmds = s.cmds := rfl
@[simp] theorem useLookup_adm (s : State) : (useLookup s).adm = s.adm := rfl
@[simp] theorem useLookup_jn (s : State) : (useLookup s).jn = s.jn := rfl
@[simp] theorem useLookup_realms (s : State) : (useLookup s).realms = s.realms := rfl
@[simp] theorem useLookup_cells (s : State) : (useLookup s).cells = s.cells := rfl
@[simp] theorem useLookup_keys (s : State) : (useLookup s).keys = s.keys := rfl
@[simp] theorem useLookup_engs (s : State) : (useLookup s).engs = s.engs := rfl
@[simp] theorem useLookup_lanes (s : State) : (useLookup s).lanes = s.lanes := rfl
@[simp] theorem useLookup_card (s : State) : (useLookup s).card = s.card := rfl
@[simp] theorem useLookup_ic (s : State) : (useLookup s).ic = s.ic := rfl
@[simp] theorem useLookup_tm (s : State) : (useLookup s).tm = s.tm := rfl
@[simp] theorem useLookup_clk (s : State) : (useLookup s).clk = s.clk := rfl
@[simp] theorem useLookup_ag (s : State) : (useLookup s).ag = s.ag := rfl
@[simp] theorem useLookup_ob (s : State) : (useLookup s).ob = s.ob := rfl
@[simp] theorem useLookup_pm (s : State) : (useLookup s).pm = s.pm := rfl
@[simp] theorem useLookup_tap (s : State) : (useLookup s).tap = s.tap := rfl
@[simp] theorem useLookup_start (s : State) : (useLookup s).start = s.start := rfl
@[simp] theorem useLookup_fws (s : State) : (useLookup s).fws = s.fws := rfl

end Sys2Proof.Machine
end

