-- ==== Sys2Proof/Laws/Ops.lean ====
section
/-! SUPPORT. What the shared operations of Ops do to State, said once each: the fields that each may change. -/

namespace Sys2Proof.Machine

/-- What every step of a fold keeps holds after it. -/
theorem foldl_inv {α : Type} {P : State → Prop} {f : State → α → State} {l : List α} {s : State} (h0 : P s)
    (h : ∀ t x, P t → P (f t x)) : P (l.foldl f s) := by
  induction l generalizing s with
  | nil => exact h0
  | cons x l ih => exact ih (h s x h0)

theorem msixSend_frame (n v : Nat) (s : State) : ∃ host' out', msixSend n v s = { s with host := host', out := out' } := by
  unfold msixSend; dsimp only; split
  · exact ⟨_, _, rfl⟩
  · split <;> exact ⟨_, _, rfl⟩
@[simp] theorem msixSend_pending (n v : Nat) (s : State) : (msixSend n v s).pending = s.pending := by
  obtain ⟨_, _, h⟩ := msixSend_frame n v s; rw [h]
@[simp] theorem msixSend_now (n v : Nat) (s : State) : (msixSend n v s).now = s.now := by
  obtain ⟨_, _, h⟩ := msixSend_frame n v s; rw [h]
@[simp] theorem msixSend_free (n v : Nat) (s : State) : (msixSend n v s).free = s.free := by
  obtain ⟨_, _, h⟩ := msixSend_frame n v s; rw [h]
@[simp] theorem msixSend_glb (n v : Nat) (s : State) : (msixSend n v s).glb = s.glb := by
  obtain ⟨_, _, h⟩ := msixSend_frame n v s; rw [h]
@[simp] theorem msixSend_cmds (n v : Nat) (s : State) : (msixSend n v s).cmds = s.cmds := by
  obtain ⟨_, _, h⟩ := msixSend_frame n v s; rw [h]
@[simp] theorem msixSend_adm (n v : Nat) (s : State) : (msixSend n v s).adm = s.adm := by
  obtain ⟨_, _, h⟩ := msixSend_frame n v s; rw [h]
@[simp] theorem msixSend_led (n v : Nat) (s : State) : (msixSend n v s).led = s.led := by
  obtain ⟨_, _, h⟩ := msixSend_frame n v s; rw [h]
@[simp] theorem msixSend_jn (n v : Nat) (s : State) : (msixSend n v s).jn = s.jn := by
  obtain ⟨_, _, h⟩ := msixSend_frame n v s; rw [h]
@[simp] theorem msixSend_realms (n v : Nat) (s : State) : (msixSend n v s).realms = s.realms := by
  obtain ⟨_, _, h⟩ := msixSend_frame n v s; rw [h]
@[simp] theorem msixSend_cells (n v : Nat) (s : State) : (msixSend n v s).cells = s.cells := by
  obtain ⟨_, _, h⟩ := msixSend_frame n v s; rw [h]
@[simp] theorem msixSend_keys (n v : Nat) (s : State) : (msixSend n v s).keys = s.keys := by
  obtain ⟨_, _, h⟩ := msixSend_frame n v s; rw [h]
@[simp] theorem msixSend_engs (n v : Nat) (s : State) : (msixSend n v s).engs = s.engs := by
  obtain ⟨_, _, h⟩ := msixSend_frame n v s; rw [h]
@[simp] theorem msixSend_lanes (n v : Nat) (s : State) : (msixSend n v s).lanes = s.lanes := by
  obtain ⟨_, _, h⟩ := msixSend_frame n v s; rw [h]
@[simp] theorem msixSend_card (n v : Nat) (s : State) : (msixSend n v s).card = s.card := by
  obtain ⟨_, _, h⟩ := msixSend_frame n v s; rw [h]
@[simp] theorem msixSend_ic (n v : Nat) (s : State) : (msixSend n v s).ic = s.ic := by
  obtain ⟨_, _, h⟩ := msixSend_frame n v s; rw [h]
@[simp] theorem msixSend_tm (n v : Nat) (s : State) : (msixSend n v s).tm = s.tm := by
  obtain ⟨_, _, h⟩ := msixSend_frame n v s; rw [h]
@[simp] theorem msixSend_clk (n v : Nat) (s : State) : (msixSend n v s).clk = s.clk := by
  obtain ⟨_, _, h⟩ := msixSend_frame n v s; rw [h]
@[simp] theorem msixSend_ag (n v : Nat) (s : State) : (msixSend n v s).ag = s.ag := by
  obtain ⟨_, _, h⟩ := msixSend_frame n v s; rw [h]
@[simp] theorem msixSend_ob (n v : Nat) (s : State) : (msixSend n v s).ob = s.ob := by
  obtain ⟨_, _, h⟩ := msixSend_frame n v s; rw [h]
@[simp] theorem msixSend_pm (n v : Nat) (s : State) : (msixSend n v s).pm = s.pm := by
  obtain ⟨_, _, h⟩ := msixSend_frame n v s; rw [h]
@[simp] theorem msixSend_tap (n v : Nat) (s : State) : (msixSend n v s).tap = s.tap := by
  obtain ⟨_, _, h⟩ := msixSend_frame n v s; rw [h]
@[simp] theorem msixSend_start (n v : Nat) (s : State) : (msixSend n v s).start = s.start := by
  obtain ⟨_, _, h⟩ := msixSend_frame n v s; rw [h]
@[simp] theorem msixSend_fws (n v : Nat) (s : State) : (msixSend n v s).fws = s.fws := by
  obtain ⟨_, _, h⟩ := msixSend_frame n v s; rw [h]

theorem countN_frame (e q n : Nat) (s : State) : ∃ ob' ic', countN e q n s = { s with ob := ob', ic := ic' } := by
  unfold countN; dsimp only; split
  · exact ⟨_, _, rfl⟩
  · split <;> exact ⟨_, _, rfl⟩
@[simp] theorem countN_pending (e q n : Nat) (s : State) : (countN e q n s).pending = s.pending := by
  obtain ⟨_, _, h⟩ := countN_frame e q n s; rw [h]
@[simp] theorem countN_now (e q n : Nat) (s : State) : (countN e q n s).now = s.now := by
  obtain ⟨_, _, h⟩ := countN_frame e q n s; rw [h]
@[simp] theorem countN_free (e q n : Nat) (s : State) : (countN e q n s).free = s.free := by
  obtain ⟨_, _, h⟩ := countN_frame e q n s; rw [h]
@[simp] theorem countN_out (e q n : Nat) (s : State) : (countN e q n s).out = s.out := by
  obtain ⟨_, _, h⟩ := countN_frame e q n s; rw [h]
@[simp] theorem countN_glb (e q n : Nat) (s : State) : (countN e q n s).glb = s.glb := by
  obtain ⟨_, _, h⟩ := countN_frame e q n s; rw [h]
@[simp] theorem countN_host (e q n : Nat) (s : State) : (countN e q n s).host = s.host := by
  obtain ⟨_, _, h⟩ := countN_frame e q n s; rw [h]
@[simp] theorem countN_cmds (e q n : Nat) (s : State) : (countN e q n s).cmds = s.cmds := by
  obtain ⟨_, _, h⟩ := countN_frame e q n s; rw [h]
@[simp] theorem countN_adm (e q n : Nat) (s : State) : (countN e q n s).adm = s.adm := by
  obtain ⟨_, _, h⟩ := countN_frame e q n s; rw [h]
@[simp] theorem countN_led (e q n : Nat) (s : State) : (countN e q n s).led = s.led := by
  obtain ⟨_, _, h⟩ := countN_frame e q n s; rw [h]
@[simp] theorem countN_jn (e q n : Nat) (s : State) : (countN e q n s).jn = s.jn := by
  obtain ⟨_, _, h⟩ := countN_frame e q n s; rw [h]
@[simp] theorem countN_realms (e q n : Nat) (s : State) : (countN e q n s).realms = s.realms := by
  obtain ⟨_, _, h⟩ := countN_frame e q n s; rw [h]
@[simp] theorem countN_cells (e q n : Nat) (s : State) : (countN e q n s).cells = s.cells := by
  obtain ⟨_, _, h⟩ := countN_frame e q n s; rw [h]
@[simp] theorem countN_keys (e q n : Nat) (s : State) : (countN e q n s).keys = s.keys := by
  obtain ⟨_, _, h⟩ := countN_frame e q n s; rw [h]
@[simp] theorem countN_engs (e q n : Nat) (s : State) : (countN e q n s).engs = s.engs := by
  obtain ⟨_, _, h⟩ := countN_frame e q n s; rw [h]
@[simp] theorem countN_lanes (e q n : Nat) (s : State) : (countN e q n s).lanes = s.lanes := by
  obtain ⟨_, _, h⟩ := countN_frame e q n s; rw [h]
@[simp] theorem countN_card (e q n : Nat) (s : State) : (countN e q n s).card = s.card := by
  obtain ⟨_, _, h⟩ := countN_frame e q n s; rw [h]
@[simp] theorem countN_tm (e q n : Nat) (s : State) : (countN e q n s).tm = s.tm := by
  obtain ⟨_, _, h⟩ := countN_frame e q n s; rw [h]
@[simp] theorem countN_clk (e q n : Nat) (s : State) : (countN e q n s).clk = s.clk := by
  obtain ⟨_, _, h⟩ := countN_frame e q n s; rw [h]
@[simp] theorem countN_ag (e q n : Nat) (s : State) : (countN e q n s).ag = s.ag := by
  obtain ⟨_, _, h⟩ := countN_frame e q n s; rw [h]
@[simp] theorem countN_pm (e q n : Nat) (s : State) : (countN e q n s).pm = s.pm := by
  obtain ⟨_, _, h⟩ := countN_frame e q n s; rw [h]
@[simp] theorem countN_tap (e q n : Nat) (s : State) : (countN e q n s).tap = s.tap := by
  obtain ⟨_, _, h⟩ := countN_frame e q n s; rw [h]
@[simp] theorem countN_start (e q n : Nat) (s : State) : (countN e q n s).start = s.start := by
  obtain ⟨_, _, h⟩ := countN_frame e q n s; rw [h]
@[simp] theorem countN_fws (e q n : Nat) (s : State) : (countN e q n s).fws = s.fws := by
  obtain ⟨_, _, h⟩ := countN_frame e q n s; rw [h]

theorem traceMsg_frame (w : List Nat) (s : State) : ∃ ob', traceMsg w s = { s with ob := ob' } := by
  unfold traceMsg; dsimp only; split <;> exact ⟨_, rfl⟩
@[simp] theorem traceMsg_pending (w : List Nat) (s : State) : (traceMsg w s).pending = s.pending := by
  obtain ⟨_, h⟩ := traceMsg_frame w s; rw [h]
@[simp] theorem traceMsg_now (w : List Nat) (s : State) : (traceMsg w s).now = s.now := by
  obtain ⟨_, h⟩ := traceMsg_frame w s; rw [h]
@[simp] theorem traceMsg_free (w : List Nat) (s : State) : (traceMsg w s).free = s.free := by
  obtain ⟨_, h⟩ := traceMsg_frame w s; rw [h]
@[simp] theorem traceMsg_out (w : List Nat) (s : State) : (traceMsg w s).out = s.out := by
  obtain ⟨_, h⟩ := traceMsg_frame w s; rw [h]
@[simp] theorem traceMsg_glb (w : List Nat) (s : State) : (traceMsg w s).glb = s.glb := by
  obtain ⟨_, h⟩ := traceMsg_frame w s; rw [h]
@[simp] theorem traceMsg_host (w : List Nat) (s : State) : (traceMsg w s).host = s.host := by
  obtain ⟨_, h⟩ := traceMsg_frame w s; rw [h]
@[simp] theorem traceMsg_cmds (w : List Nat) (s : State) : (traceMsg w s).cmds = s.cmds := by
  obtain ⟨_, h⟩ := traceMsg_frame w s; rw [h]
@[simp] theorem traceMsg_adm (w : List Nat) (s : State) : (traceMsg w s).adm = s.adm := by
  obtain ⟨_, h⟩ := traceMsg_frame w s; rw [h]
@[simp] theorem traceMsg_led (w : List Nat) (s : State) : (traceMsg w s).led = s.led := by
  obtain ⟨_, h⟩ := traceMsg_frame w s; rw [h]
@[simp] theorem traceMsg_jn (w : List Nat) (s : State) : (traceMsg w s).jn = s.jn := by
  obtain ⟨_, h⟩ := traceMsg_frame w s; rw [h]
@[simp] theorem traceMsg_realms (w : List Nat) (s : State) : (traceMsg w s).realms = s.realms := by
  obtain ⟨_, h⟩ := traceMsg_frame w s; rw [h]
@[simp] theorem traceMsg_cells (w : List Nat) (s : State) : (traceMsg w s).cells = s.cells := by
  obtain ⟨_, h⟩ := traceMsg_frame w s; rw [h]
@[simp] theorem traceMsg_keys (w : List Nat) (s : State) : (traceMsg w s).keys = s.keys := by
  obtain ⟨_, h⟩ := traceMsg_frame w s; rw [h]
@[simp] theorem traceMsg_engs (w : List Nat) (s : State) : (traceMsg w s).engs = s.engs := by
  obtain ⟨_, h⟩ := traceMsg_frame w s; rw [h]
@[simp] theorem traceMsg_lanes (w : List Nat) (s : State) : (traceMsg w s).lanes = s.lanes := by
  obtain ⟨_, h⟩ := traceMsg_frame w s; rw [h]
@[simp] theorem traceMsg_card (w : List Nat) (s : State) : (traceMsg w s).card = s.card := by
  obtain ⟨_, h⟩ := traceMsg_frame w s; rw [h]
@[simp] theorem traceMsg_ic (w : List Nat) (s : State) : (traceMsg w s).ic = s.ic := by
  obtain ⟨_, h⟩ := traceMsg_frame w s; rw [h]
@[simp] theorem traceMsg_tm (w : List Nat) (s : State) : (traceMsg w s).tm = s.tm := by
  obtain ⟨_, h⟩ := traceMsg_frame w s; rw [h]
@[simp] theorem traceMsg_clk (w : List Nat) (s : State) : (traceMsg w s).clk = s.clk := by
  obtain ⟨_, h⟩ := traceMsg_frame w s; rw [h]
@[simp] theorem traceMsg_ag (w : List Nat) (s : State) : (traceMsg w s).ag = s.ag := by
  obtain ⟨_, h⟩ := traceMsg_frame w s; rw [h]
@[simp] theorem traceMsg_pm (w : List Nat) (s : State) : (traceMsg w s).pm = s.pm := by
  obtain ⟨_, h⟩ := traceMsg_frame w s; rw [h]
@[simp] theorem traceMsg_tap (w : List Nat) (s : State) : (traceMsg w s).tap = s.tap := by
  obtain ⟨_, h⟩ := traceMsg_frame w s; rw [h]
@[simp] theorem traceMsg_start (w : List Nat) (s : State) : (traceMsg w s).start = s.start := by
  obtain ⟨_, h⟩ := traceMsg_frame w s; rw [h]
@[simp] theorem traceMsg_fws (w : List Nat) (s : State) : (traceMsg w s).fws = s.fws := by
  obtain ⟨_, h⟩ := traceMsg_frame w s; rw [h]

theorem trace_frame (t h : Nat) (w : List Nat) (s : State) : ∃ ob', trace t h w s = { s with ob := ob' } := by
  unfold trace; split
  · exact traceMsg_frame _ s
  · exact ⟨_, rfl⟩
@[simp] theorem trace_pending (t h : Nat) (w : List Nat) (s : State) : (trace t h w s).pending = s.pending := by
  obtain ⟨_, h⟩ := trace_frame t h w s; rw [h]
@[simp] theorem trace_now (t h : Nat) (w : List Nat) (s : State) : (trace t h w s).now = s.now := by
  obtain ⟨_, h⟩ := trace_frame t h w s; rw [h]
@[simp] theorem trace_free (t h : Nat) (w : List Nat) (s : State) : (trace t h w s).free = s.free := by
  obtain ⟨_, h⟩ := trace_frame t h w s; rw [h]
@[simp] theorem trace_out (t h : Nat) (w : List Nat) (s : State) : (trace t h w s).out = s.out := by
  obtain ⟨_, h⟩ := trace_frame t h w s; rw [h]
@[simp] theorem trace_glb (t h : Nat) (w : List Nat) (s : State) : (trace t h w s).glb = s.glb := by
  obtain ⟨_, h⟩ := trace_frame t h w s; rw [h]
@[simp] theorem trace_host (t h : Nat) (w : List Nat) (s : State) : (trace t h w s).host = s.host := by
  obtain ⟨_, h⟩ := trace_frame t h w s; rw [h]
@[simp] theorem trace_cmds (t h : Nat) (w : List Nat) (s : State) : (trace t h w s).cmds = s.cmds := by
  obtain ⟨_, h⟩ := trace_frame t h w s; rw [h]
@[simp] theorem trace_adm (t h : Nat) (w : List Nat) (s : State) : (trace t h w s).adm = s.adm := by
  obtain ⟨_, h⟩ := trace_frame t h w s; rw [h]
@[simp] theorem trace_led (t h : Nat) (w : List Nat) (s : State) : (trace t h w s).led = s.led := by
  obtain ⟨_, h⟩ := trace_frame t h w s; rw [h]
@[simp] theorem trace_jn (t h : Nat) (w : List Nat) (s : State) : (trace t h w s).jn = s.jn := by
  obtain ⟨_, h⟩ := trace_frame t h w s; rw [h]
@[simp] theorem trace_realms (t h : Nat) (w : List Nat) (s : State) : (trace t h w s).realms = s.realms := by
  obtain ⟨_, h⟩ := trace_frame t h w s; rw [h]
@[simp] theorem trace_cells (t h : Nat) (w : List Nat) (s : State) : (trace t h w s).cells = s.cells := by
  obtain ⟨_, h⟩ := trace_frame t h w s; rw [h]
@[simp] theorem trace_keys (t h : Nat) (w : List Nat) (s : State) : (trace t h w s).keys = s.keys := by
  obtain ⟨_, h⟩ := trace_frame t h w s; rw [h]
@[simp] theorem trace_engs (t h : Nat) (w : List Nat) (s : State) : (trace t h w s).engs = s.engs := by
  obtain ⟨_, h⟩ := trace_frame t h w s; rw [h]
@[simp] theorem trace_lanes (t h : Nat) (w : List Nat) (s : State) : (trace t h w s).lanes = s.lanes := by
  obtain ⟨_, h⟩ := trace_frame t h w s; rw [h]
@[simp] theorem trace_card (t h : Nat) (w : List Nat) (s : State) : (trace t h w s).card = s.card := by
  obtain ⟨_, h⟩ := trace_frame t h w s; rw [h]
@[simp] theorem trace_ic (t h : Nat) (w : List Nat) (s : State) : (trace t h w s).ic = s.ic := by
  obtain ⟨_, h⟩ := trace_frame t h w s; rw [h]
@[simp] theorem trace_tm (t h : Nat) (w : List Nat) (s : State) : (trace t h w s).tm = s.tm := by
  obtain ⟨_, h⟩ := trace_frame t h w s; rw [h]
@[simp] theorem trace_clk (t h : Nat) (w : List Nat) (s : State) : (trace t h w s).clk = s.clk := by
  obtain ⟨_, h⟩ := trace_frame t h w s; rw [h]
@[simp] theorem trace_ag (t h : Nat) (w : List Nat) (s : State) : (trace t h w s).ag = s.ag := by
  obtain ⟨_, h⟩ := trace_frame t h w s; rw [h]
@[simp] theorem trace_pm (t h : Nat) (w : List Nat) (s : State) : (trace t h w s).pm = s.pm := by
  obtain ⟨_, h⟩ := trace_frame t h w s; rw [h]
@[simp] theorem trace_tap (t h : Nat) (w : List Nat) (s : State) : (trace t h w s).tap = s.tap := by
  obtain ⟨_, h⟩ := trace_frame t h w s; rw [h]
@[simp] theorem trace_start (t h : Nat) (w : List Nat) (s : State) : (trace t h w s).start = s.start := by
  obtain ⟨_, h⟩ := trace_frame t h w s; rw [h]
@[simp] theorem trace_fws (t h : Nat) (w : List Nat) (s : State) : (trace t h w s).fws = s.fws := by
  obtain ⟨_, h⟩ := trace_frame t h w s; rw [h]

theorem logEvent_frame (g e : Nat) (a : List Nat) (s : State) : ∃ ob' ic', logEvent g e a s = { s with ob := ob', ic := ic' } := by
  unfold logEvent; dsimp only; split
  · exact ⟨_, _, rfl⟩
  · split <;> exact ⟨_, _, rfl⟩
@[simp] theorem logEvent_pending (g e : Nat) (a : List Nat) (s : State) : (logEvent g e a s).pending = s.pending := by
  obtain ⟨_, _, h⟩ := logEvent_frame g e a s; rw [h]
@[simp] theorem logEvent_now (g e : Nat) (a : List Nat) (s : State) : (logEvent g e a s).now = s.now := by
  obtain ⟨_, _, h⟩ := logEvent_frame g e a s; rw [h]
@[simp] theorem logEvent_free (g e : Nat) (a : List Nat) (s : State) : (logEvent g e a s).free = s.free := by
  obtain ⟨_, _, h⟩ := logEvent_frame g e a s; rw [h]
@[simp] theorem logEvent_out (g e : Nat) (a : List Nat) (s : State) : (logEvent g e a s).out = s.out := by
  obtain ⟨_, _, h⟩ := logEvent_frame g e a s; rw [h]
@[simp] theorem logEvent_glb (g e : Nat) (a : List Nat) (s : State) : (logEvent g e a s).glb = s.glb := by
  obtain ⟨_, _, h⟩ := logEvent_frame g e a s; rw [h]
@[simp] theorem logEvent_host (g e : Nat) (a : List Nat) (s : State) : (logEvent g e a s).host = s.host := by
  obtain ⟨_, _, h⟩ := logEvent_frame g e a s; rw [h]
@[simp] theorem logEvent_cmds (g e : Nat) (a : List Nat) (s : State) : (logEvent g e a s).cmds = s.cmds := by
  obtain ⟨_, _, h⟩ := logEvent_frame g e a s; rw [h]
@[simp] theorem logEvent_adm (g e : Nat) (a : List Nat) (s : State) : (logEvent g e a s).adm = s.adm := by
  obtain ⟨_, _, h⟩ := logEvent_frame g e a s; rw [h]
@[simp] theorem logEvent_led (g e : Nat) (a : List Nat) (s : State) : (logEvent g e a s).led = s.led := by
  obtain ⟨_, _, h⟩ := logEvent_frame g e a s; rw [h]
@[simp] theorem logEvent_jn (g e : Nat) (a : List Nat) (s : State) : (logEvent g e a s).jn = s.jn := by
  obtain ⟨_, _, h⟩ := logEvent_frame g e a s; rw [h]
@[simp] theorem logEvent_realms (g e : Nat) (a : List Nat) (s : State) : (logEvent g e a s).realms = s.realms := by
  obtain ⟨_, _, h⟩ := logEvent_frame g e a s; rw [h]
@[simp] theorem logEvent_cells (g e : Nat) (a : List Nat) (s : State) : (logEvent g e a s).cells = s.cells := by
  obtain ⟨_, _, h⟩ := logEvent_frame g e a s; rw [h]
@[simp] theorem logEvent_keys (g e : Nat) (a : List Nat) (s : State) : (logEvent g e a s).keys = s.keys := by
  obtain ⟨_, _, h⟩ := logEvent_frame g e a s; rw [h]
@[simp] theorem logEvent_engs (g e : Nat) (a : List Nat) (s : State) : (logEvent g e a s).engs = s.engs := by
  obtain ⟨_, _, h⟩ := logEvent_frame g e a s; rw [h]
@[simp] theorem logEvent_lanes (g e : Nat) (a : List Nat) (s : State) : (logEvent g e a s).lanes = s.lanes := by
  obtain ⟨_, _, h⟩ := logEvent_frame g e a s; rw [h]
@[simp] theorem logEvent_card (g e : Nat) (a : List Nat) (s : State) : (logEvent g e a s).card = s.card := by
  obtain ⟨_, _, h⟩ := logEvent_frame g e a s; rw [h]
@[simp] theorem logEvent_tm (g e : Nat) (a : List Nat) (s : State) : (logEvent g e a s).tm = s.tm := by
  obtain ⟨_, _, h⟩ := logEvent_frame g e a s; rw [h]
@[simp] theorem logEvent_clk (g e : Nat) (a : List Nat) (s : State) : (logEvent g e a s).clk = s.clk := by
  obtain ⟨_, _, h⟩ := logEvent_frame g e a s; rw [h]
@[simp] theorem logEvent_ag (g e : Nat) (a : List Nat) (s : State) : (logEvent g e a s).ag = s.ag := by
  obtain ⟨_, _, h⟩ := logEvent_frame g e a s; rw [h]
@[simp] theorem logEvent_pm (g e : Nat) (a : List Nat) (s : State) : (logEvent g e a s).pm = s.pm := by
  obtain ⟨_, _, h⟩ := logEvent_frame g e a s; rw [h]
@[simp] theorem logEvent_tap (g e : Nat) (a : List Nat) (s : State) : (logEvent g e a s).tap = s.tap := by
  obtain ⟨_, _, h⟩ := logEvent_frame g e a s; rw [h]
@[simp] theorem logEvent_start (g e : Nat) (a : List Nat) (s : State) : (logEvent g e a s).start = s.start := by
  obtain ⟨_, _, h⟩ := logEvent_frame g e a s; rw [h]
@[simp] theorem logEvent_fws (g e : Nat) (a : List Nat) (s : State) : (logEvent g e a s).fws = s.fws := by
  obtain ⟨_, _, h⟩ := logEvent_frame g e a s; rw [h]

theorem setService_frame (v : Nat) (s : State) : ∃ glb' ic', setService v s = { s with glb := glb', ic := ic' } := by
  unfold setService; split <;> exact ⟨_, _, rfl⟩
@[simp] theorem setService_pending (v : Nat) (s : State) : (setService v s).pending = s.pending := by
  obtain ⟨_, _, h⟩ := setService_frame v s; rw [h]
@[simp] theorem setService_now (v : Nat) (s : State) : (setService v s).now = s.now := by
  obtain ⟨_, _, h⟩ := setService_frame v s; rw [h]
@[simp] theorem setService_free (v : Nat) (s : State) : (setService v s).free = s.free := by
  obtain ⟨_, _, h⟩ := setService_frame v s; rw [h]
@[simp] theorem setService_out (v : Nat) (s : State) : (setService v s).out = s.out := by
  obtain ⟨_, _, h⟩ := setService_frame v s; rw [h]
@[simp] theorem setService_host (v : Nat) (s : State) : (setService v s).host = s.host := by
  obtain ⟨_, _, h⟩ := setService_frame v s; rw [h]
@[simp] theorem setService_cmds (v : Nat) (s : State) : (setService v s).cmds = s.cmds := by
  obtain ⟨_, _, h⟩ := setService_frame v s; rw [h]
@[simp] theorem setService_adm (v : Nat) (s : State) : (setService v s).adm = s.adm := by
  obtain ⟨_, _, h⟩ := setService_frame v s; rw [h]
@[simp] theorem setService_led (v : Nat) (s : State) : (setService v s).led = s.led := by
  obtain ⟨_, _, h⟩ := setService_frame v s; rw [h]
@[simp] theorem setService_jn (v : Nat) (s : State) : (setService v s).jn = s.jn := by
  obtain ⟨_, _, h⟩ := setService_frame v s; rw [h]
@[simp] theorem setService_realms (v : Nat) (s : State) : (setService v s).realms = s.realms := by
  obtain ⟨_, _, h⟩ := setService_frame v s; rw [h]
@[simp] theorem setService_cells (v : Nat) (s : State) : (setService v s).cells = s.cells := by
  obtain ⟨_, _, h⟩ := setService_frame v s; rw [h]
@[simp] theorem setService_keys (v : Nat) (s : State) : (setService v s).keys = s.keys := by
  obtain ⟨_, _, h⟩ := setService_frame v s; rw [h]
@[simp] theorem setService_engs (v : Nat) (s : State) : (setService v s).engs = s.engs := by
  obtain ⟨_, _, h⟩ := setService_frame v s; rw [h]
@[simp] theorem setService_lanes (v : Nat) (s : State) : (setService v s).lanes = s.lanes := by
  obtain ⟨_, _, h⟩ := setService_frame v s; rw [h]
@[simp] theorem setService_card (v : Nat) (s : State) : (setService v s).card = s.card := by
  obtain ⟨_, _, h⟩ := setService_frame v s; rw [h]
@[simp] theorem setService_tm (v : Nat) (s : State) : (setService v s).tm = s.tm := by
  obtain ⟨_, _, h⟩ := setService_frame v s; rw [h]
@[simp] theorem setService_clk (v : Nat) (s : State) : (setService v s).clk = s.clk := by
  obtain ⟨_, _, h⟩ := setService_frame v s; rw [h]
@[simp] theorem setService_ag (v : Nat) (s : State) : (setService v s).ag = s.ag := by
  obtain ⟨_, _, h⟩ := setService_frame v s; rw [h]
@[simp] theorem setService_ob (v : Nat) (s : State) : (setService v s).ob = s.ob := by
  obtain ⟨_, _, h⟩ := setService_frame v s; rw [h]
@[simp] theorem setService_pm (v : Nat) (s : State) : (setService v s).pm = s.pm := by
  obtain ⟨_, _, h⟩ := setService_frame v s; rw [h]
@[simp] theorem setService_tap (v : Nat) (s : State) : (setService v s).tap = s.tap := by
  obtain ⟨_, _, h⟩ := setService_frame v s; rw [h]
@[simp] theorem setService_start (v : Nat) (s : State) : (setService v s).start = s.start := by
  obtain ⟨_, _, h⟩ := setService_frame v s; rw [h]
@[simp] theorem setService_fws (v : Nat) (s : State) : (setService v s).fws = s.fws := by
  obtain ⟨_, _, h⟩ := setService_frame v s; rw [h]

theorem tosPass_frame (n : Nat) (s : State) : ∃ clk' ic' ob', tosPass n s = { s with clk := clk', ic := ic', ob := ob' } := by
  unfold tosPass; dsimp only; split
  · obtain ⟨_, _, h⟩ := logEvent_frame 8 1 [(s.clk.era + (s.clk.tos + n) / 2 ^ 48) % 256] { s with clk := calPass n { s.clk with tos := (s.clk.tos + n) % 2 ^ 48, era := (s.clk.era + (s.clk.tos + n) / 2 ^ 48) % 256 } }
    have e : (calPass n { s.clk with tos := (s.clk.tos + n) % 2 ^ 48, era := (s.clk.era + (s.clk.tos + n) / 2 ^ 48) % 256 }).era = (s.clk.era + (s.clk.tos + n) / 2 ^ 48) % 256 := by
      unfold calPass; dsimp only; split <;> rfl
    rw [e, h]; exact ⟨_, _, _, rfl⟩
  · exact ⟨_, _, _, rfl⟩
@[simp] theorem tosPass_pending (n : Nat) (s : State) : (tosPass n s).pending = s.pending := by
  obtain ⟨_, _, _, h⟩ := tosPass_frame n s; rw [h]
@[simp] theorem tosPass_now (n : Nat) (s : State) : (tosPass n s).now = s.now := by
  obtain ⟨_, _, _, h⟩ := tosPass_frame n s; rw [h]
@[simp] theorem tosPass_free (n : Nat) (s : State) : (tosPass n s).free = s.free := by
  obtain ⟨_, _, _, h⟩ := tosPass_frame n s; rw [h]
@[simp] theorem tosPass_out (n : Nat) (s : State) : (tosPass n s).out = s.out := by
  obtain ⟨_, _, _, h⟩ := tosPass_frame n s; rw [h]
@[simp] theorem tosPass_glb (n : Nat) (s : State) : (tosPass n s).glb = s.glb := by
  obtain ⟨_, _, _, h⟩ := tosPass_frame n s; rw [h]
@[simp] theorem tosPass_host (n : Nat) (s : State) : (tosPass n s).host = s.host := by
  obtain ⟨_, _, _, h⟩ := tosPass_frame n s; rw [h]
@[simp] theorem tosPass_cmds (n : Nat) (s : State) : (tosPass n s).cmds = s.cmds := by
  obtain ⟨_, _, _, h⟩ := tosPass_frame n s; rw [h]
@[simp] theorem tosPass_adm (n : Nat) (s : State) : (tosPass n s).adm = s.adm := by
  obtain ⟨_, _, _, h⟩ := tosPass_frame n s; rw [h]
@[simp] theorem tosPass_led (n : Nat) (s : State) : (tosPass n s).led = s.led := by
  obtain ⟨_, _, _, h⟩ := tosPass_frame n s; rw [h]
@[simp] theorem tosPass_jn (n : Nat) (s : State) : (tosPass n s).jn = s.jn := by
  obtain ⟨_, _, _, h⟩ := tosPass_frame n s; rw [h]
@[simp] theorem tosPass_realms (n : Nat) (s : State) : (tosPass n s).realms = s.realms := by
  obtain ⟨_, _, _, h⟩ := tosPass_frame n s; rw [h]
@[simp] theorem tosPass_cells (n : Nat) (s : State) : (tosPass n s).cells = s.cells := by
  obtain ⟨_, _, _, h⟩ := tosPass_frame n s; rw [h]
@[simp] theorem tosPass_keys (n : Nat) (s : State) : (tosPass n s).keys = s.keys := by
  obtain ⟨_, _, _, h⟩ := tosPass_frame n s; rw [h]
@[simp] theorem tosPass_engs (n : Nat) (s : State) : (tosPass n s).engs = s.engs := by
  obtain ⟨_, _, _, h⟩ := tosPass_frame n s; rw [h]
@[simp] theorem tosPass_lanes (n : Nat) (s : State) : (tosPass n s).lanes = s.lanes := by
  obtain ⟨_, _, _, h⟩ := tosPass_frame n s; rw [h]
@[simp] theorem tosPass_card (n : Nat) (s : State) : (tosPass n s).card = s.card := by
  obtain ⟨_, _, _, h⟩ := tosPass_frame n s; rw [h]
@[simp] theorem tosPass_tm (n : Nat) (s : State) : (tosPass n s).tm = s.tm := by
  obtain ⟨_, _, _, h⟩ := tosPass_frame n s; rw [h]
@[simp] theorem tosPass_ag (n : Nat) (s : State) : (tosPass n s).ag = s.ag := by
  obtain ⟨_, _, _, h⟩ := tosPass_frame n s; rw [h]
@[simp] theorem tosPass_pm (n : Nat) (s : State) : (tosPass n s).pm = s.pm := by
  obtain ⟨_, _, _, h⟩ := tosPass_frame n s; rw [h]
@[simp] theorem tosPass_tap (n : Nat) (s : State) : (tosPass n s).tap = s.tap := by
  obtain ⟨_, _, _, h⟩ := tosPass_frame n s; rw [h]
@[simp] theorem tosPass_start (n : Nat) (s : State) : (tosPass n s).start = s.start := by
  obtain ⟨_, _, _, h⟩ := tosPass_frame n s; rw [h]
@[simp] theorem tosPass_fws (n : Nat) (s : State) : (tosPass n s).fws = s.fws := by
  obtain ⟨_, _, _, h⟩ := tosPass_frame n s; rw [h]

theorem capChanged_frame (s : State) : ∃ host' ic' out', capChanged s = { s with host := host', ic := ic', out := out' } := by
  unfold capChanged
  apply foldl_inv (P := fun t => ∃ host' ic' out', t = { s with host := host', ic := ic', out := out' })
  · exact ⟨_, _, _, rfl⟩
  · rintro t x ⟨_, _, _, rfl⟩; split
    · obtain ⟨_, _, h⟩ := msixSend_frame x (getFn _ x).evtCapVec _; rw [h]; exact ⟨_, _, _, rfl⟩
    · exact ⟨_, _, _, rfl⟩
@[simp] theorem capChanged_pending (s : State) : (capChanged s).pending = s.pending := by
  obtain ⟨_, _, _, h⟩ := capChanged_frame s; rw [h]
@[simp] theorem capChanged_now (s : State) : (capChanged s).now = s.now := by
  obtain ⟨_, _, _, h⟩ := capChanged_frame s; rw [h]
@[simp] theorem capChanged_free (s : State) : (capChanged s).free = s.free := by
  obtain ⟨_, _, _, h⟩ := capChanged_frame s; rw [h]
@[simp] theorem capChanged_glb (s : State) : (capChanged s).glb = s.glb := by
  obtain ⟨_, _, _, h⟩ := capChanged_frame s; rw [h]
@[simp] theorem capChanged_cmds (s : State) : (capChanged s).cmds = s.cmds := by
  obtain ⟨_, _, _, h⟩ := capChanged_frame s; rw [h]
@[simp] theorem capChanged_adm (s : State) : (capChanged s).adm = s.adm := by
  obtain ⟨_, _, _, h⟩ := capChanged_frame s; rw [h]
@[simp] theorem capChanged_led (s : State) : (capChanged s).led = s.led := by
  obtain ⟨_, _, _, h⟩ := capChanged_frame s; rw [h]
@[simp] theorem capChanged_jn (s : State) : (capChanged s).jn = s.jn := by
  obtain ⟨_, _, _, h⟩ := capChanged_frame s; rw [h]
@[simp] theorem capChanged_realms (s : State) : (capChanged s).realms = s.realms := by
  obtain ⟨_, _, _, h⟩ := capChanged_frame s; rw [h]
@[simp] theorem capChanged_cells (s : State) : (capChanged s).cells = s.cells := by
  obtain ⟨_, _, _, h⟩ := capChanged_frame s; rw [h]
@[simp] theorem capChanged_keys (s : State) : (capChanged s).keys = s.keys := by
  obtain ⟨_, _, _, h⟩ := capChanged_frame s; rw [h]
@[simp] theorem capChanged_engs (s : State) : (capChanged s).engs = s.engs := by
  obtain ⟨_, _, _, h⟩ := capChanged_frame s; rw [h]
@[simp] theorem capChanged_lanes (s : State) : (capChanged s).lanes = s.lanes := by
  obtain ⟨_, _, _, h⟩ := capChanged_frame s; rw [h]
@[simp] theorem capChanged_card (s : State) : (capChanged s).card = s.card := by
  obtain ⟨_, _, _, h⟩ := capChanged_frame s; rw [h]
@[simp] theorem capChanged_tm (s : State) : (capChanged s).tm = s.tm := by
  obtain ⟨_, _, _, h⟩ := capChanged_frame s; rw [h]
@[simp] theorem capChanged_clk (s : State) : (capChanged s).clk = s.clk := by
  obtain ⟨_, _, _, h⟩ := capChanged_frame s; rw [h]
@[simp] theorem capChanged_ag (s : State) : (capChanged s).ag = s.ag := by
  obtain ⟨_, _, _, h⟩ := capChanged_frame s; rw [h]
@[simp] theorem capChanged_ob (s : State) : (capChanged s).ob = s.ob := by
  obtain ⟨_, _, _, h⟩ := capChanged_frame s; rw [h]
@[simp] theorem capChanged_pm (s : State) : (capChanged s).pm = s.pm := by
  obtain ⟨_, _, _, h⟩ := capChanged_frame s; rw [h]
@[simp] theorem capChanged_tap (s : State) : (capChanged s).tap = s.tap := by
  obtain ⟨_, _, _, h⟩ := capChanged_frame s; rw [h]
@[simp] theorem capChanged_start (s : State) : (capChanged s).start = s.start := by
  obtain ⟨_, _, _, h⟩ := capChanged_frame s; rw [h]
@[simp] theorem capChanged_fws (s : State) : (capChanged s).fws = s.fws := by
  obtain ⟨_, _, _, h⟩ := capChanged_frame s; rw [h]

theorem icDeliver_frame (s : State) : ∃ host' ic' out', icDeliver s = { s with host := host', ic := ic', out := out' } := by
  unfold icDeliver; dsimp only; split
  · exact ⟨_, _, _, rfl⟩
  · apply foldl_inv (P := fun t => ∃ host' ic' out', t = { s with host := host', ic := ic', out := out' })
    · apply foldl_inv (P := fun t => ∃ host' ic' out', t = { s with host := host', ic := ic', out := out' })
      · exact ⟨_, _, _, rfl⟩
      · rintro t x ⟨_, _, _, rfl⟩; exact ⟨_, _, _, rfl⟩
    · rintro t x ⟨_, _, _, rfl⟩; obtain ⟨_, _, h⟩ := msixSend_frame 0 x _; rw [h]; exact ⟨_, _, _, rfl⟩
@[simp] theorem icDeliver_pending (s : State) : (icDeliver s).pending = s.pending := by
  obtain ⟨_, _, _, h⟩ := icDeliver_frame s; rw [h]
@[simp] theorem icDeliver_now (s : State) : (icDeliver s).now = s.now := by
  obtain ⟨_, _, _, h⟩ := icDeliver_frame s; rw [h]
@[simp] theorem icDeliver_free (s : State) : (icDeliver s).free = s.free := by
  obtain ⟨_, _, _, h⟩ := icDeliver_frame s; rw [h]
@[simp] theorem icDeliver_glb (s : State) : (icDeliver s).glb = s.glb := by
  obtain ⟨_, _, _, h⟩ := icDeliver_frame s; rw [h]
@[simp] theorem icDeliver_cmds (s : State) : (icDeliver s).cmds = s.cmds := by
  obtain ⟨_, _, _, h⟩ := icDeliver_frame s; rw [h]
@[simp] theorem icDeliver_adm (s : State) : (icDeliver s).adm = s.adm := by
  obtain ⟨_, _, _, h⟩ := icDeliver_frame s; rw [h]
@[simp] theorem icDeliver_led (s : State) : (icDeliver s).led = s.led := by
  obtain ⟨_, _, _, h⟩ := icDeliver_frame s; rw [h]
@[simp] theorem icDeliver_jn (s : State) : (icDeliver s).jn = s.jn := by
  obtain ⟨_, _, _, h⟩ := icDeliver_frame s; rw [h]
@[simp] theorem icDeliver_realms (s : State) : (icDeliver s).realms = s.realms := by
  obtain ⟨_, _, _, h⟩ := icDeliver_frame s; rw [h]
@[simp] theorem icDeliver_cells (s : State) : (icDeliver s).cells = s.cells := by
  obtain ⟨_, _, _, h⟩ := icDeliver_frame s; rw [h]
@[simp] theorem icDeliver_keys (s : State) : (icDeliver s).keys = s.keys := by
  obtain ⟨_, _, _, h⟩ := icDeliver_frame s; rw [h]
@[simp] theorem icDeliver_engs (s : State) : (icDeliver s).engs = s.engs := by
  obtain ⟨_, _, _, h⟩ := icDeliver_frame s; rw [h]
@[simp] theorem icDeliver_lanes (s : State) : (icDeliver s).lanes = s.lanes := by
  obtain ⟨_, _, _, h⟩ := icDeliver_frame s; rw [h]
@[simp] theorem icDeliver_card (s : State) : (icDeliver s).card = s.card := by
  obtain ⟨_, _, _, h⟩ := icDeliver_frame s; rw [h]
@[simp] theorem icDeliver_tm (s : State) : (icDeliver s).tm = s.tm := by
  obtain ⟨_, _, _, h⟩ := icDeliver_frame s; rw [h]
@[simp] theorem icDeliver_clk (s : State) : (icDeliver s).clk = s.clk := by
  obtain ⟨_, _, _, h⟩ := icDeliver_frame s; rw [h]
@[simp] theorem icDeliver_ag (s : State) : (icDeliver s).ag = s.ag := by
  obtain ⟨_, _, _, h⟩ := icDeliver_frame s; rw [h]
@[simp] theorem icDeliver_ob (s : State) : (icDeliver s).ob = s.ob := by
  obtain ⟨_, _, _, h⟩ := icDeliver_frame s; rw [h]
@[simp] theorem icDeliver_pm (s : State) : (icDeliver s).pm = s.pm := by
  obtain ⟨_, _, _, h⟩ := icDeliver_frame s; rw [h]
@[simp] theorem icDeliver_tap (s : State) : (icDeliver s).tap = s.tap := by
  obtain ⟨_, _, _, h⟩ := icDeliver_frame s; rw [h]
@[simp] theorem icDeliver_start (s : State) : (icDeliver s).start = s.start := by
  obtain ⟨_, _, _, h⟩ := icDeliver_frame s; rw [h]
@[simp] theorem icDeliver_fws (s : State) : (icDeliver s).fws = s.fws := by
  obtain ⟨_, _, _, h⟩ := icDeliver_frame s; rw [h]

theorem sendTrace_frame (dt : Nat) (s : State) : ∃ ob' out', sendTrace dt s = { s with ob := ob', out := out' } := by
  unfold sendTrace
  split
  · exact ⟨_, _, rfl⟩
  · apply foldl_inv (P := fun t => ∃ ob' out', t = { s with ob := ob', out := out' })
    · exact ⟨_, _, rfl⟩
    · rintro t x ⟨_, _, rfl⟩; exact ⟨_, _, rfl⟩

theorem tracePass_frame (dt : Nat) (s : State) : ∃ ob' out', tracePass dt s = { s with ob := ob', out := out' } := by
  unfold tracePass
  split
  · apply foldl_inv (P := fun t => ∃ ob' out', t = { s with ob := ob', out := out' })
    · exact ⟨_, _, rfl⟩
    · rintro t x ⟨_, _, rfl⟩
      obtain ⟨_, _, h⟩ := sendTrace_frame 1 _
      rw [h]
      obtain ⟨_, h2⟩ := traceMsg_frame _ _
      unfold syncMsg; rw [h2]; exact ⟨_, _, rfl⟩
  · exact sendTrace_frame dt s

theorem writeLog_frame (s : State) : ∃ ob', writeLog s = { s with ob := ob' } := by
  unfold writeLog; split <;> exact ⟨_, rfl⟩

theorem passTime_frame (dt : Nat) (s : State) : ∃ now' ob' clk' ic' out' lv, passTime dt s =
    { s with now := now', ob := ob', clk := clk', ic := ic', out := out', pm := { s.pm with levels := lv } } := by
  unfold passTime
  split
  · exact ⟨_, _, _, _, _, _, rfl⟩
  · obtain ⟨_, hw⟩ := writeLog_frame s
    rw [hw]; dsimp only
    split
    · obtain ⟨_, _, h⟩ := tracePass_frame dt _
      rw [h]
      obtain ⟨_, _, h⟩ := countN_frame 0x12 0 dt _
      rw [h]
      obtain ⟨_, _, _, h2⟩ := tosPass_frame dt _
      rw [h2]; exact ⟨_, _, _, _, _, _, rfl⟩
    · obtain ⟨_, _, h⟩ := tracePass_frame dt _
      rw [h]
      split <;> exact ⟨_, _, _, _, _, _, rfl⟩
@[simp] theorem passTime_pending (dt : Nat) (s : State) : (passTime dt s).pending = s.pending := by
  obtain ⟨_, _, _, _, _, _, h⟩ := passTime_frame dt s; rw [h]
@[simp] theorem passTime_free (dt : Nat) (s : State) : (passTime dt s).free = s.free := by
  obtain ⟨_, _, _, _, _, _, h⟩ := passTime_frame dt s; rw [h]
@[simp] theorem passTime_glb (dt : Nat) (s : State) : (passTime dt s).glb = s.glb := by
  obtain ⟨_, _, _, _, _, _, h⟩ := passTime_frame dt s; rw [h]
@[simp] theorem passTime_host (dt : Nat) (s : State) : (passTime dt s).host = s.host := by
  obtain ⟨_, _, _, _, _, _, h⟩ := passTime_frame dt s; rw [h]
@[simp] theorem passTime_cmds (dt : Nat) (s : State) : (passTime dt s).cmds = s.cmds := by
  obtain ⟨_, _, _, _, _, _, h⟩ := passTime_frame dt s; rw [h]
@[simp] theorem passTime_adm (dt : Nat) (s : State) : (passTime dt s).adm = s.adm := by
  obtain ⟨_, _, _, _, _, _, h⟩ := passTime_frame dt s; rw [h]
@[simp] theorem passTime_led (dt : Nat) (s : State) : (passTime dt s).led = s.led := by
  obtain ⟨_, _, _, _, _, _, h⟩ := passTime_frame dt s; rw [h]
@[simp] theorem passTime_jn (dt : Nat) (s : State) : (passTime dt s).jn = s.jn := by
  obtain ⟨_, _, _, _, _, _, h⟩ := passTime_frame dt s; rw [h]
@[simp] theorem passTime_realms (dt : Nat) (s : State) : (passTime dt s).realms = s.realms := by
  obtain ⟨_, _, _, _, _, _, h⟩ := passTime_frame dt s; rw [h]
@[simp] theorem passTime_cells (dt : Nat) (s : State) : (passTime dt s).cells = s.cells := by
  obtain ⟨_, _, _, _, _, _, h⟩ := passTime_frame dt s; rw [h]
@[simp] theorem passTime_keys (dt : Nat) (s : State) : (passTime dt s).keys = s.keys := by
  obtain ⟨_, _, _, _, _, _, h⟩ := passTime_frame dt s; rw [h]
@[simp] theorem passTime_engs (dt : Nat) (s : State) : (passTime dt s).engs = s.engs := by
  obtain ⟨_, _, _, _, _, _, h⟩ := passTime_frame dt s; rw [h]
@[simp] theorem passTime_lanes (dt : Nat) (s : State) : (passTime dt s).lanes = s.lanes := by
  obtain ⟨_, _, _, _, _, _, h⟩ := passTime_frame dt s; rw [h]
@[simp] theorem passTime_card (dt : Nat) (s : State) : (passTime dt s).card = s.card := by
  obtain ⟨_, _, _, _, _, _, h⟩ := passTime_frame dt s; rw [h]
@[simp] theorem passTime_tm (dt : Nat) (s : State) : (passTime dt s).tm = s.tm := by
  obtain ⟨_, _, _, _, _, _, h⟩ := passTime_frame dt s; rw [h]
@[simp] theorem passTime_ag (dt : Nat) (s : State) : (passTime dt s).ag = s.ag := by
  obtain ⟨_, _, _, _, _, _, h⟩ := passTime_frame dt s; rw [h]
theorem passTime_pm (dt : Nat) (s : State) : ∃ lv, (passTime dt s).pm = { s.pm with levels := lv } := by
  obtain ⟨_, _, _, _, _, _, h⟩ := passTime_frame dt s; rw [h]; exact ⟨_, rfl⟩
@[simp] theorem passTime_tap (dt : Nat) (s : State) : (passTime dt s).tap = s.tap := by
  obtain ⟨_, _, _, _, _, _, h⟩ := passTime_frame dt s; rw [h]
@[simp] theorem passTime_start (dt : Nat) (s : State) : (passTime dt s).start = s.start := by
  obtain ⟨_, _, _, _, _, _, h⟩ := passTime_frame dt s; rw [h]
@[simp] theorem passTime_fws (dt : Nat) (s : State) : (passTime dt s).fws = s.fws := by
  obtain ⟨_, _, _, _, _, _, h⟩ := passTime_frame dt s; rw [h]

end Sys2Proof.Machine
end

