-- ==== Sys2Proof/Laws/Rows.lean ====
section
/-! SUPPORT. What the shared forms of the rows do, said once each: a host command that stands admitted, an activity of a
part whose units do not run, and one after lapse of time. -/

namespace Sys2Proof.Machine

/-- A row of an opcode acts on the admitted command. -/
theorem serve_onCmd {s : State} {op id : Nat} {c : Cmd} (h : Admitted s op id c) (f : Cmd → State → State) :
    serve (onCmd op id f) s = .next (settle (f c s)) := by
  obtain ⟨h1, h2, h3, h4, h5⟩ := h
  simp [serve, onCmd, h1, h2, h3, h4, h5]

/-- As `serve_onCmd`, once the lookup of its record has been released. -/
theorem serve_onLooked {s : State} {op id : Nat} {c : Cmd} (h : Admitted s op id c) (hl : c.lookupDone = true)
    (f : Cmd → State → State) : serve (onLooked op id f) s = .next (settle (f c s)) := by
  unfold onLooked; rw [serve_onCmd h]; simp [hl]

/-- A row of an opcode leaves the state where no such command stands admitted. -/
theorem onCmd_none {s : State} {op id : Nat} (h : cmdOf s id = none) (f : Cmd → State → State) : onCmd op id f s = s := by
  simp [onCmd, h]

/-- An activity of a part whose units do not run does nothing. -/
theorem serve_dead {s : State} (h : alive s = false) (f : State → State) : serve f s = .next (settle s) := by
  simp [serve, h]

/-- An activity of a part whose units run. -/
theorem serve_alive {s : State} (h : alive s = true) (f : State → State) : serve f s = .next (settle (f s)) := by
  simp [serve, h]

/-- An activity after lapse of time. -/
theorem lapseServe_alive {s : State} {dt : Nat} (h : alive (passTime dt s) = true) (f : State → State) :
    lapseServe dt f s = .next (settle (f (passTime dt s))) := serve_alive h f

/-- Without supply nothing comes about by itself. -/
theorem settle_off {s : State} (h : s.clk.supply = false) : settle s = s := by simp [settle, h]

end Sys2Proof.Machine
end

