-- ==== Sys2Proof/Laws/Settle.lean ====
section
/-! SUPPORT. What the end of every command does to the interrupt controller: the delivery pass and the sampling of the
LEVEL conditions, said once each. -/

namespace Sys2Proof.Machine

/-- The conditions of LEVEL sources do not depend on what a delivery changes. -/
theorem rawNow_delivery (s : State) (i : Ic) (f : KMap Fn) (p : Nat) (o : List Output) :
    rawNow { s with ic := i, host := { s.host with fns := f }, card := { s.card with presSeen := p }, out := o } =
      rawNow s := rfl

/-- A message changes the functions' PBA and what the host sees, and nothing else. -/
theorem msixSend_fns (n v : Nat) (s : State) :
    ∃ f o, msixSend n v s = { s with host := { s.host with fns := f }, out := o } := by
  unfold msixSend; dsimp only; split
  · exact ⟨_, _, rfl⟩
  · split <;> exact ⟨_, _, rfl⟩

/-- Messages of a list, sent in its order. -/
theorem msixFold_fns {α : Type} (f : State → α → Bool) (n v : State → α → Nat) (l : List α) (s : State) :
    ∃ g o, l.foldl (fun t a => if f t a then msixSend (n t a) (v t a) t else t) s =
      { s with host := { s.host with fns := g }, out := o } := by
  apply foldl_inv (P := fun t => ∃ g o, t = { s with host := { s.host with fns := g }, out := o })
  · exact ⟨_, _, rfl⟩
  · rintro t x ⟨g, o, rfl⟩
    dsimp only
    split
    · obtain ⟨_, _, h⟩ := msixSend_fns (n { s with host := { s.host with fns := g }, out := o } x)
        (v { s with host := { s.host with fns := g }, out := o } x) { s with host := { s.host with fns := g }, out := o }
      rw [h]; exact ⟨_, _, rfl⟩
    · exact ⟨_, _, rfl⟩

@[simp] theorem icTake_raw (s : State) (n : Nat) : (icTake s n).ic.raw = s.ic.raw := rfl
@[simp] theorem icTake_mask (s : State) (n : Nat) : (icTake s n).ic.mask = s.ic.mask := rfl
@[simp] theorem icTake_enable (s : State) (n : Nat) : (icTake s n).ic.enable = s.ic.enable := rfl
@[simp] theorem icTake_routes (s : State) (n : Nat) : (icTake s n).ic.routes = s.ic.routes := rfl

/-- A taken source is in service. -/
theorem icTake_insvc_self (s : State) {n : Nat} (h : n < 512) : (icTake s n).ic.insvc.getLsbD n = true := by
  simp [icTake, srcBit, h]

/-- Taking a source ends no service. -/
theorem icTake_insvc_keep (s : State) (n m : Nat) (h : s.ic.insvc.getLsbD m = true) :
    (icTake s n).ic.insvc.getLsbD m = true := by simp [icTake, h]

/-- Taking a source makes none pending. -/
theorem icTake_pend_keep (s : State) (n m : Nat) (h : s.ic.pend.getLsbD m = false) :
    (icTake s n).ic.pend.getLsbD m = false := by simp [icTake, h]

/-- After a list is taken: no more pends, every source of the list is in service, and the rest stands. -/
theorem icTake_fold (l : List Nat) (s : State) (hl : ∀ n ∈ l, n < 512) :
    (∀ m, s.ic.pend.getLsbD m = false → (l.foldl icTake s).ic.pend.getLsbD m = false) ∧
    (∀ m, s.ic.insvc.getLsbD m = true → (l.foldl icTake s).ic.insvc.getLsbD m = true) ∧
    (∀ n ∈ l, (l.foldl icTake s).ic.insvc.getLsbD n = true) ∧
    (l.foldl icTake s).ic.raw = s.ic.raw ∧ (l.foldl icTake s).ic.mask = s.ic.mask ∧
    (l.foldl icTake s).ic.enable = s.ic.enable ∧ (l.foldl icTake s).ic.routes = s.ic.routes := by
  induction l generalizing s with
  | nil => exact ⟨fun _ h => h, fun _ h => h, by simp, rfl, rfl, rfl, rfl⟩
  | cons x l ih =>
    obtain ⟨h1, h2, h3, h4, h5, h6, h7⟩ := ih (icTake s x) (fun n hn => hl n (List.mem_cons_of_mem _ hn))
    rw [List.foldl_cons]
    refine ⟨fun m h => h1 m (icTake_pend_keep s x m h), fun m h => h2 m (icTake_insvc_keep s x m h), ?_, h4, h5, h6, h7⟩
    intro n hn
    rcases List.mem_cons.mp hn with rfl | hn
    · exact h2 _ (icTake_insvc_self s (hl _ (List.mem_cons_self ..)))
    · exact h3 n hn

/-- A source in service is not due. -/
theorem icDue_insvc (s : State) (n : Nat) (h : s.ic.insvc.getLsbD n = true) : icDue s n = false := by
  unfold icDue; simp [h]

/-- No source becomes due where no more pend, no fewer are in service, and masks and routes stand. -/
theorem icDue_mono (s t : State) (n : Nat) (h1 : s.ic.pend.getLsbD n = false → t.ic.pend.getLsbD n = false)
    (h2 : s.ic.insvc.getLsbD n = true → t.ic.insvc.getLsbD n = true) (h5 : t.ic.mask = s.ic.mask)
    (h6 : t.ic.enable = s.ic.enable) (h7 : t.ic.routes = s.ic.routes) (h : icDue s n = false) : icDue t n = false := by
  unfold icDue icRoute at *
  rw [h5, h6, h7]
  cases hp : s.ic.pend.getLsbD n
  · simp [h1 hp]
  · cases hi : s.ic.insvc.getLsbD n
    · rw [hp, hi] at h
      cases t.ic.insvc.getLsbD n <;> cases t.ic.pend.getLsbD n <;>
        first | (simp only [Bool.and_false, Bool.false_and, Bool.not_true]) | exact h
    · simp [h2 hi]

/-- The delivery pass leaves no source that could be delivered (R426). -/
theorem icDeliver_none_due (s : State) (n : Nat) (hn : n < 512) : icDue (icDeliver s) n = false := by
  unfold icDeliver
  split
  · rename_i h
    unfold icDue
    cases he : s.ic.enable
    · rfl
    · have h0 : s.ic.pend &&& ~~~ s.ic.mask = 0 := by simpa [he] using h
      have hb : (s.ic.pend &&& ~~~ s.ic.mask).getLsbD n = false := by rw [h0]; exact BitVec.getLsbD_zero
      rw [BitVec.getLsbD_and, BitVec.getLsbD_not] at hb
      cases hp : s.ic.pend.getLsbD n
      · rfl
      · cases hm : s.ic.mask.getLsbD n
        · rw [hp, hm] at hb; simp [hn] at hb
        · rfl
  · have hl : ∀ m ∈ (List.range 512).filter (icDue s), m < 512 := fun m hm =>
      List.mem_range.mp (List.mem_filter.mp hm).1
    have hm : icDue s n = true → n ∈ (List.range 512).filter (icDue s) := fun h =>
      List.mem_filter.mpr ⟨List.mem_range.mpr hn, h⟩
    generalize (List.range 512).filter (icDue s) = L at *
    obtain ⟨h1, h2, h3, -, h5, h6, h7⟩ := icTake_fold L s hl
    obtain ⟨g, o, hv⟩ := msixFold_fns (fun _ _ => true) (fun _ _ => 0) (fun _ v => v)
      ((L.map (fun n => bits (icRoute s n) 5 0)).eraseDups) (L.foldl icTake s)
    simp only [if_true] at hv
    dsimp only
    rw [hv]
    cases hd : icDue s n
    · exact icDue_mono s _ n (h1 n) (h2 n) h5 h6 h7 hd
    · exact icDue_insvc _ n (h3 n (hm hd))

/-- The delivery pass changes no RAW. -/
theorem icDeliver_raw (s : State) : (icDeliver s).ic.raw = s.ic.raw := by
  unfold icDeliver
  split
  · rfl
  · have hl : ∀ m ∈ (List.range 512).filter (icDue s), m < 512 := fun m hm =>
      List.mem_range.mp (List.mem_filter.mp hm).1
    generalize (List.range 512).filter (icDue s) = L at *
    obtain ⟨-, -, -, h4, -⟩ := icTake_fold L s hl
    obtain ⟨g, o, hv⟩ := msixFold_fns (fun _ _ => true) (fun _ _ => 0) (fun _ v => v)
      ((L.map (fun n => bits (icRoute s n) 5 0)).eraseDups) (L.foldl icTake s)
    simp only [if_true] at hv
    dsimp only
    rw [hv]; exact h4

end Sys2Proof.Machine
end

