-- ==== Sys2Proof/Laws/Store.lean ====
section
/-! SUPPORT. A realm table written as numbers is read back whole, whatever stands after it. -/

namespace Sys2Proof.Machine

theorem getMany_map {α : Type} (f : α → List Nat) (g : Get α) (ok : ∀ a r, g (f a ++ r) = some (a, r)) (l : List α)
    (r : List Nat) : getMany g l.length (l.flatMap f ++ r) = some (l, r) := by
  induction l with
  | nil => rfl
  | cons a l ih => simp [getMany, ok, ih, List.append_assoc]

@[simp] theorem getNat_cons (n : Nat) (r : List Nat) : getNat (n :: r) = some (n, r) := rfl

theorem getKeyed_put {α : Type} (f : α → List Nat) (g : Get α) (ok : ∀ a r, g (f a ++ r) = some (a, r)) (p : Nat × α)
    (r : List Nat) : getKeyed g ((p.1 :: f p.2) ++ r) = some (p, r) := by simp [getKeyed, ok]

theorem getMap_put {α : Type} (f : α → List Nat) (g : Get α) (ok : ∀ a r, g (f a ++ r) = some (a, r)) (m : KMap α)
    (r : List Nat) : getMap g (putMap f m ++ r) = some (m, r) := by
  simp [getMap, getList, putMap, getMany_map (fun p : Nat × α => p.1 :: f p.2) _ (fun p r => getKeyed_put f g ok p r)]

theorem getOpt_put {α : Type} (f : α → List Nat) (g : Get α) (ok : ∀ a r, g (f a ++ r) = some (a, r)) (o : Option α)
    (r : List Nat) : getOpt g (putOpt f o ++ r) = some (o, r) := by
  cases o <;> simp [getOpt, putOpt, ok]

theorem getNat_put (n : Nat) (r : List Nat) : getNat (putNat n ++ r) = some (n, r) := rfl

theorem getBytes_put (b : List Byte) (r : List Nat) : getBytes (putBytes b ++ r) = some (b, r) := by
  have k := getMany_map putNat getNat getNat_put (b.map BitVec.toNat) r
  simp only [List.length_map] at k
  have e : ∀ l : List Nat, l.flatMap putNat = l := fun l => by induction l <;> simp_all [putNat]
  rw [e] at k
  simp [getBytes, getList, putBytes, k, Function.comp_def]

theorem getBank_put (b : BankEntry) (r : List Nat) : getBank (putBank b ++ r) = some (b, r) := by
  simp [getBank, putBank, getBytes_put]

theorem b2n_one (b : Bool) : (b2n b == 1) = b := by cases b <;> rfl

/-- One reading of a block: what the first reader gives goes to the rest. -/
theorem get_step {α β : Type} {o : Option (α × List Nat)} {a : α} {r : List Nat} {k : α × List Nat → Option β} {v : Option β}
    (h : o = some (a, r)) (hk : k (a, r) = v) : o.bind k = v := by
  subst h; exact hk

theorem getPair_put (p : Nat × Nat) (r : List Nat) :
    getKeyed getNat ((fun p : Nat × Nat => [p.1, p.2]) p ++ r) = some (p, r) := rfl

theorem getRow_put (w : RealmRow) (r : List Nat) : getRow (putRow w ++ r) = some (w, r) := by
  simp only [putRow, List.append_assoc, List.cons_append, List.nil_append]
  refine get_step (getMap_put _ _ getNat_put _ _) ?_
  refine get_step (getNat_cons _ _) ?_
  refine get_step (getMap_put _ _ getNat_put _ _) ?_
  refine get_step (getMap_put _ _ getNat_put _ _) ?_
  refine get_step (getOpt_put _ _ getBank_put _ _) ?_
  refine get_step (getOpt_put _ _ getBank_put _ _) ?_
  refine get_step (getOpt_put _ _ getNat_put _ _) ?_
  refine get_step (getNat_cons _ _) ?_
  refine get_step (getNat_cons _ _) ?_
  refine get_step (getOpt_put _ _ getPair_put _ _) ?_
  refine get_step (getNat_cons _ _) ?_
  refine get_step (getNat_cons _ _) ?_
  simp only [b2n_one, Option.pure_def]

theorem getTxn_put (x : CardTxn) (r : List Nat) : getTxn (putTxn x ++ r) = some (x, r) := by
  simp [getTxn, putTxn, b2n_one]

theorem getCard_put (c : CardEntry) (r : List Nat) : getCard (putCard c ++ r) = some (c, r) := by
  simp only [putCard, List.append_assoc, List.cons_append, List.nil_append]
  refine get_step (getBytes_put _ _) ?_
  refine get_step (getOpt_put _ _ getTxn_put _ _) ?_
  rfl

/-- The realm table that a copy's numbers spell is the one written. -/
theorem getTable_put (t : RealmTable) (r : List Nat) : getTable (putTable t ++ r) = some (t, r) := by
  simp only [putTable, List.append_assoc, List.cons_append, List.nil_append]
  refine get_step (getMap_put _ _ getRow_put _ _) ?_
  refine get_step (getMap_put _ _ (getOpt_put _ _ getNat_put) _ _) ?_
  refine get_step (getMap_put _ _ getNat_put _ _) ?_
  refine get_step (getNat_cons _ _) ?_
  refine get_step (getNat_cons _ _) ?_
  refine get_step (getNat_cons _ _) ?_
  refine get_step (getNat_cons _ _) ?_
  refine get_step (getMap_put _ _ (getOpt_put _ _ getCard_put) _ _) ?_
  rfl

end Sys2Proof.Machine
end

