-- ==== Sys2Proof/Tests/Slice0.lean ====
section
/-! SUPPORT. Tests: for every statement with hypotheses a state and operands that meet them, an ill-formed command for each
check of well-formedness, and a few single steps. -/

open Sys2Proof Sys2Proof.Machine

section

set_option Elab.async false

/-! ### Small states -/

/-- A record: words set in one of zeros, with its check. -/
def wRec (l : List (Nat × Nat)) : List Word := fixCheck (l.foldl (fun r p => r.set p.1 (ofW p.2)) (List.replicate 16 0))

/-- Realm 1's record of generation 1 in a state, valid from day 0 to day 100, last written at second 50,000. -/
def wImg (st : Nat) : List Word := wRec [(0, 1), (1, st * 4096), (3, 0x100), (5, 100), (8, 50000)]

/-- Slots 0 to 7 in states 0 to 7; then one timed out, one of generation 0xFFFF, one with a tag awaited. -/
def wOverlay : KMap (Option OvEntry) :=
  ((List.range 8).map wImg ++ [wRec [(0, 1), (1, 0x1000), (3, 0x100), (5, 100)], wRec [(0, 0xFFFF), (1, 0x5000), (3, 0x100)],
    wRec [(0, 1), (1, 0x2000), (2, 0x1000), (3, 0x100), (5, 100), (8, 50000)],
    wRec [(0, 1), (1, 0x3000), (2, 0x2000), (3, 0x100), (5, 100), (6, 1438), (7, 1439), (8, 50000)],
    wRec [(0, 1), (1, 0x3000), (2, 0x2000), (3, 0x100), (5, 1), (7, 1), (8, 50000)],
    wRec [(0, 1), (1, 0x3000), (3, 0x100), (5, 0), (8, 50000)],
    wRec [(0, 1), (1, 0x1000), (2, 0x1000), (3, 0x100), (5, 100), (8, 50000)], wRec [(0, 1), (1, 0x9000), (3, 0x100)]]).zipIdx.map (fun p => (p.2, some ⟨p.1, 0, [0]⟩))

/-- A part in READY on day 1, with a PF and 31 VFs and some records of realm 1. -/
def wS : State := { State.reset with
  clk := { State.reset.clk with supply := true, running := true, cal := 100000, calSource := 0, tos := 100000 }
  start := { done := [.tamper, .fuses, .clocks, .registers, .ballast, .plan, .entropy, .pufRead, .extract, .derive, .firmware,
    .recAnchor, .recChain, .recTree, .recReplay, .recOutcomes, .recWrites, .slots, .release, .steward, .selfTest, .applets,
    .ready] }
  glb := { State.reset.glb with service := 2, holdupOk := true, lifecycle := 0x0F }
  host := { State.reset.host with linkUp := true, vfEnable := true, numVfs := 31 }
  adm := { State.reset.adm with opened := true }
  jn := { State.reset.jn with replayDone := true }
  led := { State.reset.led with overlay := wOverlay, virgin := 20 }
  realms := { State.reset.realms with live := { rows := [(1, { quota := 5, curGen := [(0, 1)] })] } }
  keys := { State.reset.keys with ledgerIn := true, rootIn := true, attestIn := true, drbgOk := true, busOpen := true }
  now := 100000 }

/-- A packet's words. -/
def wWords (op : Nat) (l : List (Nat × Nat)) : List Word :=
  l.foldl (fun w p => w.set p.1 (ofW p.2)) ((List.replicate 32 (0 : Word)).set 0 (ofW (op * 256)))

/-- An admitted command. -/
def wC (op fn : Nat) (l : List (Nat × Nat)) : Cmd :=
  { id := 1, fn := fn, pair := 0, words := wWords op l, cls := 1, admitAt := 100000, deadline := 100040, lookupDone := true }

/-- The part with one admitted command. -/
def wAt (c : Cmd) : State := { wS with cmds := { wS.cmds with admitted := [c] } }

/-- A table of one policy, in use, of family 0. -/
def wTable : List (List Word) := [[0x8000, 100, 100, 100, 0, 0, 0, 0]]

/-- Slot 3's credential with an authenticator of zeros, and a packet that carries it. -/
def wCred : List Byte := credHeader 3 (wImg 3) 0 0 ++ List.replicate 8 0

def wCredWords (op : Nat) : List Word := (wWords op [(8, 22)]).take 9 ++ bytesWords wCred ++ List.replicate 12 0

/-- An operand block of zeros but for the words named. -/
def wBlock (l : List (Nat × Nat)) : List Nat := l.foldl (fun b p => b.set p.1 p.2) (List.replicate 16 0)

/-- Pair 0 of function 1, live, with what it holds. -/
def wPair (q : QPair) : State := setPairOf 1 0 { q with live := true } wS

/-- A packet that passes its check. -/
def wPacket (l : List (Nat × Nat)) : List Word :=
  let w := l.foldl (fun w p => w.set p.1 (ofW p.2)) (List.replicate 32 (0 : Word))
  w.set 31 (crc16 (wordBytes (w.take 31)))

/-- A key-update message of zeros with an operation, and what it parses to. -/
def wMsg (op : Byte) : List Byte := [0x4B, 0x55, 1, op] ++ List.replicate 64 0

def wUpd (op : Nat) : UpdMsg :=
  ⟨op, List.replicate 16 0, 0, 0, 0, 0, 0, 0, 0, [], (wMsg (BitVec.ofNat 8 op)).take 36, List.replicate 32 0⟩

/-- A well-formed applet image of realm 1, generation 7: one entry, one policy, 48 code words, a signature of zeros. -/
def wImageWords : List Word :=
  [0x4B41, 1, 1, 7, 0, 48, 1, 1, 0, 0, 0, 0, 232, 0, 0, 0, 0x20, 100, 0, 0, 0x8000, 0, 0, 0, 0x20] ++ List.replicate 91 0

def wImage : List Byte := wordBytes wImageWords

/-- Realm 1 with that image in bank A. -/
def wBank (s : State) (act : Option Nat) : State := { s with
  realms := { s.realms with live := { rows := [(1, { quota := 5, curGen := [(0, 1)], bankA := some ⟨7, []⟩, active := act })] } }
  cells := { s.cells with store := [(2, some ⟨wImageWords, []⟩)] } }

/-- A reply of function 1. -/
def wReply (op : Nat) (held : Bool) : Reply :=
  { id := none, fn := 1, pair := 0, status := 0, opcode := op, head := false, tag := 1, jsn := 0, results := [], cls := 1,
    admitAt := 100000, deadline := 100040, silentOk := false, outs := [], needFrame := 0, held := held, relAt := none }

theorem wAdmitted {s : State} {op id : Nat} {c : Cmd}
    (h : (alive s && !s.jn.stopped && cmdOf s id == some c && cOp c == op && served c) = true) : Admitted s op id c := by
  simp only [Bool.and_eq_true, Bool.not_eq_true', beq_iff_eq] at h
  exact ⟨h.1.1.1.1, h.1.1.1.2, h.1.1.2, h.1.2, h.2⟩

/-- A part at start-up with the named phases ended. -/
def wPhase (l : List Phase) : State := { State.reset with
  clk := { State.reset.clk with supply := true, running := true }, start := { done := l } }

/-! ### Small programs -/

/-- A job of realm 1 with one program block. -/
def wJob : Job := { cmd := 1, kind := 1, realm := 1, bank := 0, entry := 0x20, deadline := 100040, slot := 3, gen := 1, mode := 1, modeGen := 0,
                    codeLen := 64, blocks := [0], locks := 4, keys := [], regions := [], mbox := [] }

/-- Shuttle 5 of heddle 0 runs `wJob` at 0x20. -/
def wSh : Shuttle := { job := some wJob, left := 1000, pc := 0x20 }

/-- A part whose shuttle 5 is as said, with the given program words at 0x20 and a handler at 0x28 for cause 1. -/
def wProg (x : Shuttle) (prog : List Nat) : State := { wS with
  cells := { wS.cells with prog := (1, 0x14) :: prog.zipIdx.map (fun p => (p.2 + 32, p.1)), shuttles := [(5, x)] } }

/-- What an operation that ends well gives. -/
def okOf {ε α : Type} : (e : Except ε α) → e.isOk = true → α
  | .ok a, _ => a

theorem okOf_eq {ε α : Type} : {e : Except ε α} → (h : e.isOk = true) → e = .ok (okOf e h)
  | .ok _, _ => rfl

/-- The instruction at a shuttle's program counter, decoded. -/
def wIns (s : State) (sh wait opc : Nat) : Ins :=
  let x := getSh s sh
  let j := x.job.getD wJob
  let head := (kFetch s sh j x.pc).getD 0
  let q := (opInfo opc).getD ⟨[], 0, 0, fun _ => []⟩
  match decodeOpds sh j (head / 16 % 4) (x.pc + 1) (beginK sh wait opc s) with
  | .ok d => { head := head, opc := opc, opn := head / 16 % 4, sz := head % 16, pc := x.pc,
               ops := List.zipWith (roleErr d.2.1) (q.roles (head / 16 % 4))
                 (if opc == 0x34 && x.gath.isSome then gathOps x d.1 else d.1),
               roles := q.roles (head / 16 % 4), len := d.2.1 - x.pc, after := d.2.1,
               cost := if opc == 0x34 && x.gath.isSome then 0
                 else q.cycles + (d.1.filter (fun o => o.mode == 6 || o.mode == 3)).length }
  | .error _ => { head := 0, opc := 0, opn := 0, sz := 0, pc := 0, ops := [], roles := [], len := 0, after := 0, cost := 0 }

/-- The state with which it starts. -/
def wKS (s : State) (sh wait opc : Nat) : KS :=
  let x := getSh s sh
  let j := x.job.getD wJob
  match decodeOpds sh j ((kFetch s sh j x.pc).getD 0 / 16 % 4) (x.pc + 1) (beginK sh wait opc s) with
  | .ok d => d.2.2
  | .error _ => beginK sh wait opc s

/-- Everything `Staged` asks of it, computed. -/
def wStagedOk (s : State) (sh wait opc : Nat) : Bool :=
  let x := getSh s sh
  let j := x.job.getD wJob
  let i := wIns s sh wait opc
  let q := (opInfo opc).getD ⟨[], 0, 0, fun _ => []⟩
  (alive s && x.job.isSome && shuttleRuns s sh) && ((kFetch s sh j x.pc).isSome && i.head / 64 == opc &&
    (decodeOpds sh j ((kFetch s sh j x.pc).getD 0 / 16 % 4) (x.pc + 1) (beginK sh wait opc s)).isOk) &&
  ((opInfo opc).isSome && decide (i.opn ∈ q.opns) && decide (i.sz ≤ q.szMax) &&
    decide (¬(opc = 0x50 ∧ i.opn = 2 ∧ i.sz ≠ 0)) && decide (∀ o ∈ i.ops, o.err = 0)) &&
  (!(List.zipWith immDest i.roles i.ops).any id && decide (¬(opc = 0x51 ∧ x.rpta = true)) &&
    (opc == 0x34 && x.gath.isSome || (stageOpds sh (wKS s sh wait opc) (i.roles.zip i.ops) 0).2.isNone))

theorem wStaged {s : State} {sh wait opc : Nat} (h : wStagedOk s sh wait opc = true) :
    Staged s sh wait opc (wIns s sh wait opc) (wKS s sh wait opc) := by
  simp only [wStagedOk, Bool.and_eq_true, decide_eq_true_eq, Bool.not_eq_true', beq_iff_eq, Option.isSome_iff_exists] at h
  obtain ⟨⟨⟨⟨⟨ha, j, hj⟩, hr⟩, ⟨⟨⟨hd, hf⟩, hop⟩, hk⟩⟩, ⟨⟨⟨⟨q, hq⟩, hn⟩, hz⟩, hl⟩, he⟩, ⟨hi, ht⟩, hs⟩ := h
  simp only [hj, Option.getD_some] at hf hk
  simp only [hq, Option.getD_some] at hn hz
  simp only [hf, Option.getD_some] at hk
  obtain ⟨d, hk⟩ : ∃ d, decodeOpds sh j (hd / 16 % 4) ((getSh s sh).pc + 1) (beginK sh wait opc s) = .ok d := by
    cases h : decodeOpds sh j (hd / 16 % 4) ((getSh s sh).pc + 1) (beginK sh wait opc s) with
    | ok d => exact ⟨d, rfl⟩
    | error e => simp [h, Except.isOk, Except.toBool] at hk
  have hI : wIns s sh wait opc = {
      head := hd, opc := opc, opn := hd / 16 % 4, sz := hd % 16, pc := (getSh s sh).pc,
      ops := List.zipWith (roleErr d.2.1) (q.roles (hd / 16 % 4))
        (if opc == 0x34 && (getSh s sh).gath.isSome then gathOps (getSh s sh) d.1 else d.1),
      roles := q.roles (hd / 16 % 4),
      len := d.2.1 - (getSh s sh).pc, after := d.2.1,
      cost := if opc == 0x34 && (getSh s sh).gath.isSome then 0
        else q.cycles + (d.1.filter (fun o => o.mode == 6 || o.mode == 3)).length } := by
    simp [wIns, hj, hf, hq, hk]
  have hK : wKS s sh wait opc = d.2.2 := by simp [wKS, hj, hf, hk]
  rw [hI] at hop hn hz hl he hi hs
  rw [hK] at hs
  rw [hI, hK]
  exact ⟨j, d.1, q, _, rfl, ha, hj, hr, rfl, hf, hop, rfl, rfl, rfl, hk, rfl, hq, hn, hz, hl, rfl, rfl, he, hi, ht,
    ((Bool.or_eq_true _ _).mp hs).imp id Option.isNone_iff_eq_none.mp, rfl⟩

theorem wAffords {s : State} {sh : Nat} {i : Ins} {k : KS} (h : overBudget s sh (i.cost + k.acc) (k.fin == some 0) = false) :
    Affords s sh i k := h

/-! ### Frames, answers and blocks on the wires -/

/-- A station frame on a link without keys: type, payload, ACK field and MAC. -/
def wFrame (t : Nat) (ack : Nat) (mac : Byte) (pay : List Byte) : List Byte :=
  let f := leBytes 1 t ++ [0] ++ leBytes 2 pay.length ++ leBytes 4 0 ++ leBytes 4 ack ++ leBytes 4 0 ++ pay ++
    List.replicate 8 mac
  f ++ leBytes 4 (crc32 f).toNat

/-- Lane 63, its link up. -/
def wLane (x : Lane) : State := { wS with lanes := [(63, { x with link := .up })] }

/-- A card's good answer. -/
def wAns (verb a : Nat) : List Byte :=
  let p : List Byte := [BitVec.ofNat 8 (verb + 128), BitVec.ofNat 8 a, 0, 0x20, 0]
  p ++ [crc8 p]

/-- A block of zeros as the bus carries it. -/
def wBlockData : List Byte :=
  let b := List.replicate 128 (0 : Byte)
  b ++ (List.range 4).flatMap (fun j => leBytes 2 (crc16 (blockLine b j)).toNat)

/-- Card 5 at address 3 of the bus, enrolled at index 0, with the blocks it has sent. -/
def wCard (blocks : KMap (List Byte)) : State := { wS with
  card := { wS.card with pres := true, named := [(3, some { id := 5, word := 0x2000, blocks := blocks })] }
  realms := { wS.realms with live := { wS.realms.live with cards := [(0, some ⟨5, [], none⟩)] } } }

/-- A STATE block that gives a sequence number and the status of the part's transaction 0. -/
def wState (q status : Byte) : List Byte :=
  ([0, 0, 0, 0, 0, 0, 0, 5] ++ List.replicate 11 0 ++ [q]) ++ Config.deviceId ++
    (List.replicate 12 0 ++ [status] ++ List.replicate 15 0)

theorem wGot {s : State} {k : Nat} {b : List Byte}
    (hn : s.card.named = [(3, some { id := 5, word := 0x2000, blocks := [(k, b)] })]) (hb : beNat (b.take 8) = 5) :
    gotBlock s 3 k = some b := by
  simp [gotBlock, namedCard, hn, mget, mfind, hb]

theorem wApproves {s : State} {a : Nat} {e : CardEntry} {p : List Byte} (hp : p.length = 8)
    (h1 : gotBlock s a 2 = some (p ++ hmac256 e.key (labelAprv ++ challenge48 s.card ++ p))) (h2 : entryAt s a = some e) :
    goodApproval s a = true := by
  simp [goodApproval, h1, h2, ← hp, List.take_of_length_le (Nat.le_of_eq (hmac256_length _ _))]

theorem wGoodState {s : State} {a : Nat} {e : CardEntry} {p : List Byte} (hp : p.length = 64)
    (h1 : gotBlock s a 1 = some (p ++ hmac256 e.key (p ++ s.card.nonce))) (h2 : entryAt s a = some e) :
    goodState s a = some (p ++ hmac256 e.key (p ++ s.card.nonce)) := by
  simp [goodState, h1, h2, ← hp, List.take_of_length_le (Nat.le_of_eq (hmac256_length _ _))]

theorem deviceId_length : Config.deviceId.length = 16 := by simp [Config.deviceId]

theorem wState_take (q st : Byte) (t : List Byte) : ((wState q st ++ t).drop 20).take 16 = Config.deviceId := by
  have h : wState q st ++ t = ([0, 0, 0, 0, 0, 0, 0, 5] ++ List.replicate 11 0 ++ [q]) ++ (Config.deviceId ++
      ((List.replicate 12 0 ++ [st] ++ List.replicate 15 0) ++ t)) := by simp [wState]
  rw [h, List.drop_left' (by simp), List.take_left' deviceId_length]

theorem wState_drop (q st : Byte) (t : List Byte) : (wState q st ++ t).drop 36 = List.replicate 12 0 ++ ([st] ++ List.replicate 15 0 ++ t) := by
  have h : wState q st ++ t = ([0, 0, 0, 0, 0, 0, 0, 5] ++ List.replicate 11 0 ++ [q] ++ Config.deviceId) ++
      (List.replicate 12 0 ++ ([st] ++ List.replicate 15 0 ++ t)) := by simp [wState]
  rw [h, List.drop_left' (by simp [deviceId_length])]

theorem wState_at (q st : Byte) (t : List Byte) (k : Nat) :
    (wState q st ++ t).getD (36 + k) 0 = (List.replicate 12 0 ++ ([st] ++ List.replicate 15 0 ++ t)).getD k 0 := by
  rw [← wState_drop q st t]; simp [List.getD_eq_getElem?_getD]

theorem wState_length (q st : Byte) : (wState q st).length = 64 := by simp [wState, deviceId_length]

theorem wState_last (q st : Byte) (t : List Byte) : stLast (wState q st ++ t) {} st.toNat = true := by
  have h := wState_at q st t 12
  have d : ∀ k, (wState q st ++ t).drop (36 + k) = (List.replicate 12 0 ++ ([st] ++ List.replicate 15 0 ++ t)).drop k := by
    intro k; rw [← wState_drop, List.drop_drop]
  have d0 := d 0
  have d4 := d 4
  have d8 := d 8
  simp only [Nat.add_zero, Nat.reduceAdd] at d0 d4 d8 h
  simp only [stLast, wState_take, d0, d4, d8, h]
  simp [beNat]

theorem wState_lastSeq (q st : Byte) (t : List Byte) : stLastSeq (wState q st ++ t) 0 st.toNat = true := by
  have h := wState_last q st t
  simp only [stLast, stLastSeq, decide_eq_true_eq] at h ⊢
  exact ⟨h.1, h.2.1, h.2.2.2.2⟩

theorem wEntry {s : State} {t : Option CardTxn} {bl : KMap (List Byte)}
    (hn : s.card.named = [(3, some { id := 5, word := 0x2000, blocks := bl })])
    (hr : s.realms.live.cards = [(0, some ⟨5, [], t⟩)]) : entryAt s 3 = some ⟨5, [], t⟩ ∧ addrOf s 0 = some 3 := by
  have h : enrolledAt s 5 = some 0 := by
    simp [enrolledAt, cardOf, hr, mget, List.range, List.range.loop]
  constructor
  · simp [entryAt, namedCard, hn, mget, h, cardOf, hr]
  · simp [addrOf, cardOf, hr, mget, addrs, hn, namedCard, mkeys]

/-- Card 5's STATE block with the part's transaction in a status. -/
def wStateBlock (st : Byte) : List Byte := wState 0 st ++ hmac256 [] (wState 0 st ++ [])

theorem wGoodCard {s : State} {t : Option CardTxn} {st : Byte}
    (hn : s.card.named = [(3, some { id := 5, word := 0x2000, blocks := [(1, wStateBlock st)] })])
    (hr : s.realms.live.cards = [(0, some ⟨5, [], t⟩)]) (ho : s.card.nonce = []) : goodState s 3 = some (wStateBlock st) := by
  have hg := wGot hn (by simp [wStateBlock, wState]; decide +kernel)
  have h := wGoodState (s := s) (a := 3) (e := ⟨5, [], t⟩) (p := wState 0 st) (wState_length 0 st)
    (by rw [ho]; exact hg) (wEntry hn hr).1
  rw [ho] at h; exact h

theorem test_witness_approvers : ∃ s : State, ∃ id : Nat, ∃ c : Cmd, ∃ i : Instr, Admitted s 0x71 id c ∧ wd c.words 8 = 7 ∧
    i = .scuttlePolicy id ∧ c.step = 1 ∧ exchanged s = true ∧ max 1 s.realms.live.threshold ≤ (approvers s).length ∧
    opReady s 7 (appArgs c) = true := by
  let p : List Byte := [0, 0, 0, 0, 0, 0, 0, 5]
  let s : State := { wCard [(2, p ++ hmac256 [] (labelAprv ++ challenge48 (wCard []).card ++ p))] with
    cmds := { wS.cmds with admitted := [{ wC 0x71 0 [(8, 7)] with step := 1 }] } }
  have h1 : goodApproval s 3 = true := wApproves (p := p) (e := ⟨5, [], none⟩) rfl (wGot rfl (by simp [p]; decide +kernel))
    (wEntry rfl rfl).1
  have h2 : (0, 3) ∈ approvers s := by
    simp only [approvers, presentEntries, List.mem_filter, List.mem_filterMap]
    exact ⟨⟨0, by simp, by rw [(wEntry (s := s) rfl rfl).2]; rfl⟩, by rw [h1]; rfl⟩
  exact ⟨s, 1, { wC 0x71 0 [(8, 7)] with step := 1 }, .scuttlePolicy 1, wAdmitted (by decide +kernel), by decide +kernel, rfl, rfl,
    by decide +kernel, List.length_pos_of_mem h2, by decide +kernel⟩

theorem test_witness_CardTransactions :
    (∃ s : State, ∃ b : List Byte, alive s = true ∧ s.card.use = .finish 0 0 ∧ 0 ≤ s.jn.durable ∧ exchanged s = true ∧
      addrOf s 0 = some 3 ∧ goodState s 3 = some b ∧ stLast b s.card.txn 2 = true) ∧
    (∃ s : State, ∃ b : List Byte, ∃ x : CardTxn, alive s = true ∧ (cardOf s.realms.live 0).bind CardEntry.txn = some x ∧
      addrOf s 0 = some 3 ∧ s.card.use = .resolve 0 1 ∧ exchanged s = true ∧ goodState s 3 = some b) ∧
    (∃ x : CardTxn, ∃ b : List Byte, x.committed = true ∧ stLastSeq b x.seq 1 = true) ∧
    (∃ x : CardTxn, ∃ b : List Byte, x.committed = false ∧ stSeq b ≠ x.seq ∧ stLastSeq b x.seq 1 = true) := by
  let s (u : CardUse) (t : Option CardTxn) : State := { wCard [] with
    card := { (wCard []).card with named := [(3, some { id := 5, word := 0x2000, blocks := [(1, wStateBlock 2)] })], use := u }
    realms := { (wCard []).realms with live := { (wCard []).realms.live with cards := [(0, some ⟨5, [], t⟩)] } } }
  refine ⟨⟨s (.finish 0 0) none, wStateBlock 2, by decide +kernel, rfl, Nat.zero_le _, rfl, (wEntry rfl rfl).2,
      wGoodCard rfl rfl rfl, wState_last 0 2 _⟩,
    ⟨s (.resolve 0 1) (some ⟨7, 0, 0, 0, 1, false⟩), wStateBlock 2, ⟨7, 0, 0, 0, 1, false⟩, by decide +kernel, rfl,
      (wEntry rfl rfl).2, rfl, rfl, wGoodCard rfl rfl rfl⟩,
    ⟨⟨0, 0, 0, 0, 1, true⟩, _, rfl, wState_lastSeq 0 1 []⟩,
    ⟨⟨0, 0, 0, 0, 1, false⟩, wState 7 1 ++ [], rfl, ?_, wState_lastSeq 7 1 []⟩⟩
  simp [stSeq, wState]; decide +kernel

theorem test_witness_failedCell : ∃ s : State, ∃ k n : Nat, phaseDue s [.plan] .selfTest = true ∧ cellExists (k, n) = true :=
  ⟨wPhase [.plan], 3, 191, by decide +kernel, by decide +kernel⟩

/-! ### Well-formedness: for each check a command that it refuses -/

theorem test_illFormed_refused :
    ([.flr 32, .admissionDecision 0 9, .winEnable 0 16 0, .icEoi 65536, .jobStart 24 0, .jobStart 0 8, .add 192 0,
      .engineBlockDone 28 true, .signatureOpDone 8, .ack 64 [], .holdTimerExpiry 0 33554432, .stewardInterrupt 0 512,
      .cardResolve 16, .vfEnableWrite true 32, .glitchIsland 5 0 false, .supplyRange 10 0, .tempTrip 20 0,
      .cardBlockTransfer 9 0 [] [], .cardBlockTransfer 0 0 [] [], .clockWindow 256 0 0, .pcieLinkUp 0 1 6, .pcieLinkUp 0 3 1,
      .pufRead 0 [], .reenrol 0 [0], .registerWrite 0 .bar0 0 (2 ^ 32), .registerWrite 0 .bar2Quad 0 (2 ^ 64),
      .busMasterDisable 0 (.device 65536), .msixUnmask 1 (some 4) 0, .indData (some 65536), .packetFetchDone 0 0 (some [0])] :
      List Instr).all (fun i => !i.wellFormed) = true := by decide +kernel

theorem test_wellFormed_accepted :
    ([.flr 31, .admissionDecision 0 8, .ack 63 [], .msixUnmask 0 (some 63) 0, .pcieLinkUp 0 8 5] : List Instr).all
      Instr.wellFormed = true := by decide +kernel

/-! ### Single values and steps, expected results by hand from the rules named -/

/-- The check value of CRC-16/CCITT with initial value 0xFFFF (R27). -/
theorem test_crc16 : crc16 [0x31, 0x32, 0x33, 0x34, 0x35, 0x36, 0x37, 0x38, 0x39] = 0x29B1 := by decide +kernel

/-- The check value of the CRC-32 of IEEE 802.3 (R84). -/
theorem test_crc32 : crc32 [0x31, 0x32, 0x33, 0x34, 0x35, 0x36, 0x37, 0x38, 0x39] = 0xCBF43926 := by decide +kernel

/-- The first bytes of the SHA-256 of "abc" (the example of FIPS 180-4). -/
theorem test_sha256 : (sha256 [0x61, 0x62, 0x63]).take 4 = [0xBA, 0x78, 0x16, 0xBF] := by decide +kernel

/-- The first bytes of the AES-128 example of FIPS 197, appendix C.1. -/
theorem test_aes128 : (aesEnc ((List.range 16).map (BitVec.ofNat 8)) ((List.range 16).map (fun i => BitVec.ofNat 8 (17 * i)))).take 4 =
    [0x69, 0xC4, 0xE0, 0xD8] := by decide +kernel

/-- The 8b/10b data symbol of 0xB5 is alternating ones and zeros whatever the disparity, and keeps it. -/
theorem test_lineCode : dataSymbol false 0xB5 = (0b1010101010, false) ∧ dataSymbol true 0xB5 = (0b1010101010, true) := by decide +kernel

/-- ADD wraps: C set, V clear (R244). -/
theorem test_add_wraps : (aluAdd 0xFFFF 1).val = 0 ∧ (aluAdd 0xFFFF 1).c = true ∧ (aluAdd 0xFFFF 1).v = false := by decide +kernel

/-- SUB of the least word and 1 overflows; no borrow (R244). -/
theorem test_sub_overflows : (aluSub 0x8000 1).val = 0x7FFF ∧ (aluSub 0x8000 1).c = false ∧ (aluSub 0x8000 1).v = true := by
  decide +kernel

/-- The state of an outcome. -/
def wNext : Host.Outcome State Fault Refusal → State
  | .next s => s
  | _ => State.reset

/-- An empty queue: a microsecond passes. -/
theorem test_idle_passes_time : (wNext (step wS)).clk.tos = 100001 := by decide +kernel

/-- No row gives bits. -/
theorem test_no_word_spells_a_command : decodeTableWord 32 0x0110 = none := rfl

/-- ADD at a shuttle: 7 + 3 in place, flags clear, the program counter past three words (R237, R244). -/
theorem test_add_step :
    let x := getSh (wNext (step { wProg { wSh with priv := [(1, ⟨0, 7⟩)] } [0x420, 1, 0x2803] with pending := [.add 5 0] })) 5
    mget {} x.priv 1 = ⟨0, 10⟩ ∧ x.pc = 0x23 ∧ x.z = false ∧ x.c = false := by decide +kernel

/-- LEDGER_CONFIRM of a RESERVED record makes it ISSUED (R31). -/
theorem test_confirm_step :
    rState (imageAt (wNext (step { wAt (wC 0x11 1 [(8, 1), (10, 1)]) with pending := [.ledgerConfirm 1] })) 1) = stIssued := by
  decide +kernel

/-- LEDGER_VOID of an EXPIRED record changes nothing (R31). -/
theorem test_void_expired_step :
    imageAt (wNext (step { wAt (wC 0x12 1 [(8, 7), (10, 1)]) with pending := [.ledgerVoid 1] })) 7 = wImg 7 := by decide +kernel

/-- A write to the warning threshold while ENABLE is 1 is refused and counted (R420). -/
theorem test_config_locked_step :
    let t := wNext (step { wS with pending := [.registerWrite 0 .bar0 0x6008 1] })
    t.tm.warn = 0x5F ∧ t.tm.ign = 1 := by decide +kernel

/-- Light above 20 µW is an L3 alarm: lockdown (R431, R437). -/
theorem test_light_step :
    let t := wNext (step { wS with pending := [.light 21] })
    t.tm.tripped = true ∧ t.tm.alarmN = true ∧ t.keys.rootIn = false := by decide +kernel

/-- A part without supply stays in STARTING. -/
theorem test_off_step : (wNext (step State.reset)).glb.service = 1 := by decide +kernel

/-- GATHER of two elements: the first step copies one and stays, the second ends it (R247, R248). -/
theorem test_gather_step :
    let p : KMap TW := [(10, ⟨0, 1⟩), (11, ⟨0, 0⟩), (20, ⟨0, 7⟩), (21, ⟨0, 9⟩)]
    let t := wNext (step { wProg { wSh with priv := p } [0xD31, 100, 20, 10] with pending := [.gather 5 0] })
    let x := getSh t 5
    mget {} x.priv 100 = ⟨0, 9⟩ ∧ x.gidx = 1 ∧ x.pc = 0x20 := by decide +kernel

/-- A packet read that completes frees its entry of the ring (R147). -/
theorem test_fetched_step :
    let s := wPair { fetching := [(3, 99990)], sqHead := 3, sqSize := 3 }
    (getPair (wNext (step { s with pending := [.packetFetchDone 1 0 (some (List.replicate 32 0))] })) 1 0).sqHead = 0 := by
  decide +kernel

/-- 1,000 µF between 11.0 V and 7.0 V hold 55 W for 654 µs, apart from resistance (R99, R498's example). -/
theorem test_holdup_example : holdupOf 1000000 0 11000 7000 = 654 := by decide +kernel

/-- There are 512 signal balls, and lane 21's stand where R491's example has them (AD66, AE66, AD64, AE64, AF65). -/
theorem test_signal_balls : signalBalls.length = 512 ∧
    laneBalls 21 = [(23, 66, .laneTx 21 0), (24, 66, .laneTx 21 1), (23, 64, .laneRx 21 0), (24, 64, .laneRx 21 1),
      (25, 65, .laneWakeN 21)] ∧ rowName 23 = ['A', 'D'] ∧ rowName 25 = ['A', 'F'] := by decide +kernel

/-! ### States and operands that meet the hypotheses of each statement -/

theorem test_witness_StepForm :
    (∃ s : State, s.pending = []) :=
  ⟨wS, (by decide +kernel)⟩

theorem test_witness_SettledKept :
    (∃ s : State, ∃ t : State, step s = .next t) :=
  ⟨wS, (settle (passTime 1 wS)), rfl⟩

theorem test_witness_SettleFrame :
    (∃ s : State, s.tm.raised = [] ∧ (∀ sh, (getSh s sh).lock = none)) ∧
    (∃ s : State, s.clk.supply = false) :=
  ⟨⟨wS, (by decide +kernel), (fun _ => rfl)⟩,
   ⟨State.reset, (by decide +kernel)⟩⟩

theorem test_witness_JournalSpells :
    (∃ slot : Nat, slot < slotCount) ∧
    (∃ old : List Word, ∃ r : List Word, old.length = 16 ∧ r.length = 16 ∧ (∀ i, i ∈ [2, 3, 4, 5, 6, 7, 11, 12] →
      old.getD i 0 = r.getD i 0)) ∧
    (∃ r : List Word, r.length = 16) ∧
    (∃ r : List Word, r.length = 16) :=
  ⟨⟨33554431, (by decide +kernel)⟩,
   ⟨(wImg 3), (wImg 4), (by decide +kernel), (by decide +kernel), (by decide +kernel)⟩,
   ⟨(wImg 3), (by decide +kernel)⟩,
   ⟨(wImg 3), (by decide +kernel)⟩⟩

theorem test_witness_CommitReads :
    (∃ slot : Nat, ∃ n : Nat, n ≠ slot) ∧
    (∃ s : State, mwf none s.led.overlay = true) ∧
    (∃ slot : Nat, ∃ n : Nat, n ≠ slot) ∧
    (∃ s : State, s.jn.openEntries.length < 59) :=
  ⟨⟨3, 33554431, (by decide +kernel)⟩,
   ⟨wS, (by decide +kernel)⟩,
   ⟨3, 0, (by decide +kernel)⟩,
   ⟨({ wS with jn := { wS.jn with openEntries := List.replicate 58 [] } }), (by decide +kernel)⟩⟩

theorem test_witness_LockdownAndScuttle :
    (∃ s : State, ∃ c : Cmd, s.tm.tripped = false ∧ c ∈ (lockdown s).cmds.admitted) ∧
    (∃ s : State, s.tm.tripped = false) ∧
    (∃ s : State, s.glb.lifecycle ≠ lcScuttled ∧ (s.jn.sealing && s.jn.flight.any (fun f => f.stage == .closed)) =
      false) ∧
    (∃ s : State, s.glb.lifecycle ≠ lcScuttled ∧ (s.jn.sealing && s.jn.flight.any (fun f => f.stage == .closed)) =
      true) ∧
    (∃ s : State, s.glb.lifecycle ≠ lcScuttled) ∧
    (∃ s : State, s.tm.tripped = true) ∧
    (∃ s : State, s.glb.lifecycle = lcScuttled) :=
  ⟨⟨(wAt { wC 0x11 1 [] with jsn := some 5 }), ({ wC 0x11 1 [] with jsn := some 5 }), (by decide +kernel),
     (by decide +kernel)⟩,
   ⟨wS, (by decide +kernel)⟩,
   ⟨wS, (by decide +kernel), (by decide +kernel)⟩,
   ⟨({ wS with jn := { wS.jn with sealing := true, flight := [⟨5, [], true, false, 0, 0, 0, .closed, []⟩] } }),
     (by decide +kernel), (by decide +kernel)⟩,
   ⟨wS, (by decide +kernel)⟩,
   ⟨({ wS with tm := { wS.tm with tripped := true } }), (by decide +kernel)⟩,
   ⟨({ wS with glb := { wS.glb with lifecycle := 0xFF } }), (by decide +kernel)⟩⟩

theorem test_witness_CredentialHeader :
    (∃ slot : Nat, ∃ r : List Word, ∃ auth : Nat, ∃ pay : Nat, slot < slotCount ∧ r.length = 16 ∧ rRealm r < 32 ∧
      auth < 4 ∧ pay ≤ 32) :=
  ⟨33554431, (wImg 3), 3, 32, (by decide +kernel), (by decide +kernel), (by decide +kernel), (by decide +kernel),
    (by decide +kernel)⟩

theorem test_witness_ServiceCommands :
    (∃ s : State, ∃ id : Nat, ∃ c : Cmd, Admitted s 0x01 id c) ∧
    (∃ s : State, ∃ id : Nat, ∃ c : Cmd, Admitted s 0x02 id c) ∧
    (∃ s : State, ∃ id : Nat, ∃ c : Cmd, Admitted s 0x80 id c) ∧
    (∃ s : State, ∃ id : Nat, ∃ c : Cmd, Admitted s 0x83 id c) ∧
    (∃ s : State, ∃ id : Nat, ∃ c : Cmd, Admitted s 0x84 id c) ∧
    (∃ s : State, ∃ c : Cmd, cOp c = 0x83 ∧ (s.glb.service = svReady ∨ s.glb.service = svReadOnly)) ∧
    (∃ s : State, ∃ c : Cmd, cOp c = 0x83 ∧ (s.glb.service = svQuiescing ∨ s.glb.service = svQuiesced)) ∧
    (∃ s : State, ∃ c : Cmd, cOp c = 0x84 ∧ (s.glb.service = svQuiescing ∨ s.glb.service = svQuiesced)) ∧
    (∃ s : State, ∃ c : Cmd, cOp c = 0x84 ∧ (s.glb.service = svReady ∨ s.glb.service = svReadOnly)) ∧
    (∃ s : State, ∃ id : Nat, ∃ c : Cmd, Admitted s 0xA0 id c) ∧
    (∃ c : Cmd, cOp c = 0xA0) ∧
    (∃ c : Cmd, cOp c = 0x80) ∧
    (∃ p, p < 8) ∧
    (∃ s : State, ∃ id : Nat, ∃ c : Cmd, Admitted s 0x91 id c) ∧
    (∃ s : State, ∃ id : Nat, ∃ c : Cmd, ∃ next : Nat, Admitted s 0x90 id c ∧ c.held = leNats 2 next ∧ next < 2 ^ 32
      ∧ logOldest s ≤ (max (pairAt c.words 8) (next - 4096))) ∧
    (∃ s : State, ∃ id : Nat, ∃ c : Cmd, ∃ next : Nat, Admitted s 0x90 id c ∧ c.held = leNats 2 next ∧ next < 2 ^ 32
      ∧ (max (pairAt c.words 8) (next - 4096)) < logOldest s) ∧
    (∃ s : State, ∃ c : Cmd, ∃ d : Cmd, d ∈ s.cmds.admitted ∧ d.id = c.id ∧ cOp d = 0x90) :=
  ⟨⟨(wAt (wC 0x01 0 [])), 1, (wC 0x01 0 []), wAdmitted (by decide +kernel)⟩,
   ⟨(wAt (wC 0x02 0 [])), 1, (wC 0x02 0 []), wAdmitted (by decide +kernel)⟩,
   ⟨(wAt (wC 0x80 0 [])), 1, (wC 0x80 0 []), wAdmitted (by decide +kernel)⟩,
   ⟨(wAt ({ wC 0x83 0 [] with held := [0] })), 1, ({ wC 0x83 0 [] with held := [0] }), wAdmitted (by decide +kernel)⟩,
   ⟨(wAt ({ wC 0x84 0 [] with held := [1] })), 1, ({ wC 0x84 0 [] with held := [1] }), wAdmitted (by decide +kernel)⟩,
   ⟨wS, (wC 0x83 0 []), (by decide +kernel), (by decide +kernel)⟩,
   ⟨({ wS with glb := { wS.glb with service := svQuiesced } }), (wC 0x83 0 []), (by decide +kernel),
     (by decide +kernel)⟩,
   ⟨({ wS with glb := { wS.glb with service := svQuiesced } }), (wC 0x84 0 []), (by decide +kernel),
     (by decide +kernel)⟩,
   ⟨({ wS with glb := { wS.glb with service := svReadOnly } }), (wC 0x84 0 []), (by decide +kernel),
     (by decide +kernel)⟩,
   ⟨(wAt (wC 0xA0 0 [])), 1, (wC 0xA0 0 []), wAdmitted (by decide +kernel)⟩,
   ⟨(wC 0xA0 0 []), (by decide +kernel)⟩,
   ⟨(wC 0x80 0 []), (by decide +kernel)⟩,
   ⟨7, (by decide +kernel)⟩,
   ⟨(wAt (wC 0x91 0 [])), 1, (wC 0x91 0 []), wAdmitted (by decide +kernel)⟩,

     ⟨({ wAt ({ wC 0x90 0 [(10, 1)] with held := [1, 0] }) with ob := { wS.ob with logNext := 1, log := [List.replicate 16 0] } }),
     1, ({ wC 0x90 0 [(10, 1)] with held := [1, 0] }), 1, wAdmitted (by decide +kernel), (by decide +kernel),
     (by decide +kernel), (by decide +kernel)⟩,

     ⟨({ wAt ({ wC 0x90 0 [(10, 1)] with held := [1, 0] }) with ob := { wS.ob with logNext := 5000, log := [List.replicate 16 0] } }),
     1, ({ wC 0x90 0 [(10, 1)] with held := [1, 0] }), 1, wAdmitted (by decide +kernel), (by decide +kernel),
     (by decide +kernel), (by decide +kernel)⟩,
   ⟨(wAt (wC 0x90 0 [])), (wC 0x90 0 []), (wC 0x90 0 []), (by decide +kernel), (by decide +kernel),
     (by decide +kernel)⟩⟩

theorem test_witness_LedgerReads :
    (∃ s : State, ∃ id : Nat, ∃ c : Cmd, Admitted s 0x13 id c ∧ c.lookupDone = true ∧ slotChecks s c.fn (pSlot
      c.words) (pGen c.words) = none) ∧
    (∃ s : State, ∃ id : Nat, ∃ c : Cmd, Admitted s 0x13 id c ∧ c.lookupDone = true ∧ slotChecks s c.fn (pSlot
      c.words) (pGen c.words) = some sSlotState) ∧
    (∃ s : State, ∃ id : Nat, ∃ c : Cmd, ∃ d : List Byte, ∃ e : List Word, Admitted s 0x14 id c ∧ c.lookupDone = true
      ∧ inData c 0 = some d ∧ (chunks 8 d).map bytesWords = [e] ∧ bits (pairAt e 0) 31 25 = 0 ∧ wd e 3 = 0 ∧
      slotChecks s c.fn (pairAt e 0 % 2 ^ 25) (wd e 2) = none) ∧
    (∃ s : State, ∃ id : Nat, ∃ c : Cmd, ∃ d : List Byte, Admitted s 0x14 id c ∧ c.lookupDone = true ∧ inData c 0 =
      some d ∧ (∀ e ∈ ((chunks 8 d).map bytesWords), bits (pairAt e 0) 31 25 = 0 ∧ wd e 3 = 0)) ∧
    (∃ s : State, ∃ id : Nat, ∃ c : Cmd, ∃ d : List Byte, Admitted s 0x14 id c ∧ c.lookupDone = true ∧ inData c 0 =
      some d ∧ (∃ e ∈ (chunks 8 d).map bytesWords, bits (pairAt e 0) 31 25 ≠ 0 ∨ wd e 3 ≠ 0)) ∧
    (∃ s : State, ∃ fn : Nat, ∃ e : List Word, ∃ st : Nat, slotChecks s fn (pairAt e 0 % 2 ^ 25) (wd e 2) = some st) ∧
    (∃ s : State, ∃ fn : Nat, ∃ e : List Word, slotChecks s fn (pairAt e 0 % 2 ^ 25) (wd e 2) = none) ∧
    (∃ s : State, ∃ id : Nat, ∃ c : Cmd, ∃ r : OutRec, Admitted s 0x17 id c ∧ c.needFrame ≤ s.jn.durable ∧
      (allOutcomes s).find? (fun r => r.fn == c.fn && r.tag == pairAt c.words 8) = some r) ∧
    (∃ s : State, ∃ id : Nat, ∃ c : Cmd, Admitted s 0x17 id c ∧ c.needFrame ≤ s.jn.durable ∧ (∀ r ∈ allOutcomes s,
      ¬(r.fn = c.fn ∧ r.tag = pairAt c.words 8))) ∧
    (∃ s : State, ∃ id : Nat, ∃ c : Cmd, Admitted s 0x16 id c ∧ wd c.words 8 = 0 ∧ pairAt c.words 9 ≤ s.clk.cal ∧
      mget 0 s.led.epCount (c.fn * 4 + (realmRow s c.fn).epoch) = 0) ∧
    (∃ s : State, ∃ id : Nat, ∃ c : Cmd, Admitted s 0x16 id c ∧ wd c.words 8 ≠ 0 ∧ pairAt c.words 9 = 0 ∧ baseOf s
      c.fn (realmRow s c.fn).epoch + wd c.words 8 * 86400 ≤ s.clk.cal ∧ 0 < mget 0 s.led.epCount (c.fn * 4 +
      (((realmRow s c.fn).epoch + 1) % 4))) ∧
    (∃ s : State, ∃ id : Nat, ∃ c : Cmd, Admitted s 0x16 id c ∧ wd c.words 8 ≠ 0 ∧ pairAt c.words 9 = 0 ∧ (baseOf s
      c.fn (realmRow s c.fn).epoch + wd c.words 8 * 86400) ≤ s.clk.cal ∧ mget 0 s.led.epCount (c.fn * 4 + (((realmRow
      s c.fn).epoch + 1) % 4)) = 0) ∧
    (∃ s : State, ∃ id : Nat, ∃ c : Cmd, Admitted s 0x16 id c ∧ wd c.words 8 ≠ 0 ∧ pairAt c.words 9 ≠ 0) ∧
    (∃ s : State, ∃ id : Nat, ∃ c : Cmd, Admitted s 0x16 id c ∧ wd c.words 8 = 0 ∧ s.clk.cal < pairAt c.words 9) ∧
    (∃ s : State, ∃ id : Nat, ∃ c : Cmd, Admitted s 0x16 id c ∧ wd c.words 8 ≠ 0 ∧ pairAt c.words 9 = 0 ∧ s.clk.cal <
      baseOf s c.fn (realmRow s c.fn).epoch + wd c.words 8 * 86400) :=
  ⟨⟨(wAt (wC 0x13 1 [(8, 3), (10, 1)])), 1, (wC 0x13 1 [(8, 3), (10, 1)]), wAdmitted (by decide +kernel),
     (by decide +kernel), (by decide +kernel)⟩,
   ⟨(wAt (wC 0x13 1 [(8, 15), (10, 1)])), 1, (wC 0x13 1 [(8, 15), (10, 1)]), wAdmitted (by decide +kernel),
     (by decide +kernel), (by decide +kernel)⟩,
   ⟨(wAt ({ wC 0x14 1 [] with inData := [(0, some [3, 0, 0, 0, 1, 0, 0, 0])] })), 1,
     ({ wC 0x14 1 [] with inData := [(0, some [3, 0, 0, 0, 1, 0, 0, 0])] }), ([3, 0, 0, 0, 1, 0, 0, 0]), ([3, 0, 1,
     0]), wAdmitted (by decide +kernel), (by decide +kernel), (by decide +kernel), (by decide +kernel),
     (by decide +kernel), (by decide +kernel), (by decide +kernel)⟩,
   ⟨(wAt
     ({ wC 0x14 1 [] with inData := [(0, some [3, 0, 0, 0, 1, 0, 0, 0, 4, 0, 0, 0, 2, 0, 0, 0])], lookupDone := true })),
     1,
     ({ wC 0x14 1 [] with inData := [(0, some [3, 0, 0, 0, 1, 0, 0, 0, 4, 0, 0, 0, 2, 0, 0, 0])], lookupDone := true }),
     ([3, 0, 0, 0, 1, 0, 0, 0, 4, 0, 0, 0, 2, 0, 0, 0]), wAdmitted (by decide +kernel), (by decide +kernel),
     (by decide +kernel), (by decide +kernel)⟩,
   ⟨(wAt ({ wC 0x14 1 [] with inData := [(0, some [3, 0, 0, 0, 1, 0, 1, 0])], lookupDone := true })), 1,
     ({ wC 0x14 1 [] with inData := [(0, some [3, 0, 0, 0, 1, 0, 1, 0])], lookupDone := true }), ([3, 0, 0, 0, 1, 0,
     1, 0]), wAdmitted (by decide +kernel), (by decide +kernel), (by decide +kernel), (by decide +kernel)⟩,
   ⟨wS, 1, ([3, 0, 2, 0]), sGenMismatch, (by decide +kernel)⟩,
   ⟨wS, 1, ([3, 0, 1, 0]), (by decide +kernel)⟩,
   ⟨({ wAt (wC 0x17 1 [(8, 7)]) with jn := { wS.jn with outOpen := [⟨1, 7, 320, 0⟩] } }), 1, (wC 0x17 1 [(8, 7)]),
     (⟨1, 7, 320, 0⟩), wAdmitted (by decide +kernel), (by decide +kernel), (by decide +kernel)⟩,
   ⟨(wAt (wC 0x17 1 [(8, 8)])), 1, (wC 0x17 1 [(8, 8)]), wAdmitted (by decide +kernel), (by decide +kernel),
     (by decide +kernel)⟩,
   ⟨(wAt (wC 0x16 1 [(9, 34464), (10, 1)])), 1, (wC 0x16 1 [(9, 34464), (10, 1)]), wAdmitted (by decide +kernel),
     (by decide +kernel), (by decide +kernel), (by decide +kernel)⟩,
   ⟨({ wAt (wC 0x16 1 [(8, 1)]) with led := { wS.led with epCount := [(5, 1)] } }), 1, (wC 0x16 1 [(8, 1)]),
     wAdmitted (by decide +kernel), (by decide +kernel), (by decide +kernel), (by decide +kernel),
     (by decide +kernel)⟩,
   ⟨(wAt (wC 0x16 1 [(8, 1)])), 1, (wC 0x16 1 [(8, 1)]), wAdmitted (by decide +kernel), (by decide +kernel),
     (by decide +kernel), (by decide +kernel), (by decide +kernel)⟩,
   ⟨(wAt (wC 0x16 1 [(8, 1), (9, 1)])), 1, (wC 0x16 1 [(8, 1), (9, 1)]), wAdmitted (by decide +kernel),
     (by decide +kernel), (by decide +kernel)⟩,
   ⟨(wAt (wC 0x16 1 [(10, 2)])), 1, (wC 0x16 1 [(10, 2)]), wAdmitted (by decide +kernel), (by decide +kernel),
     (by decide +kernel)⟩,
   ⟨(wAt (wC 0x16 1 [(8, 2)])), 1, (wC 0x16 1 [(8, 2)]), wAdmitted (by decide +kernel), (by decide +kernel),
     (by decide +kernel), (by decide +kernel)⟩⟩

theorem test_witness_LedgerChanges :
    (∃ s : State, ∃ id : Nat, ∃ c : Cmd, Admitted s 0x11 id c ∧ c.lookupDone = true ∧ slotChecks s c.fn (pSlot
      c.words) (pGen c.words) = none ∧ timedOut s (imageAt s (pSlot c.words)) = false ∧ rState (imageAt s (pSlot
      c.words)) = stReserved ∧ rTag (imageAt s (pSlot c.words)) = false) ∧
    (∃ s : State, ∃ id : Nat, ∃ c : Cmd, Admitted s 0x11 id c ∧ c.lookupDone = true ∧ slotChecks s c.fn (pSlot
      c.words) (pGen c.words) = none ∧ timedOut s (imageAt s (pSlot c.words)) = false ∧ rState (imageAt s (pSlot
      c.words)) = stReserved ∧ rTag (imageAt s (pSlot c.words)) = true) ∧
    (∃ s : State, ∃ id : Nat, ∃ c : Cmd, Admitted s 0x11 id c ∧ c.lookupDone = true ∧ slotChecks s c.fn (pSlot
      c.words) (pGen c.words) = none ∧ timedOut s (imageAt s (pSlot c.words)) = false ∧ rState (imageAt s (pSlot
      c.words)) = stUnconfirmed) ∧
    (∃ s : State, ∃ id : Nat, ∃ c : Cmd, Admitted s 0x11 id c ∧ c.lookupDone = true ∧ slotChecks s c.fn (pSlot
      c.words) (pGen c.words) = none ∧ timedOut s (imageAt s (pSlot c.words)) = true ∧ 0 < otherLeft s) ∧
    (∃ s : State, ∃ id : Nat, ∃ c : Cmd, Admitted s 0x11 id c ∧ c.lookupDone = true ∧ slotChecks s c.fn (pSlot
      c.words) (pGen c.words) = none ∧ timedOut s (imageAt s (pSlot c.words)) = true ∧ otherLeft s = 0) ∧
    (∃ s : State, ∃ id : Nat, ∃ c : Cmd, Admitted s 0x11 id c ∧ c.lookupDone = true ∧ slotChecks s c.fn (pSlot
      c.words) (pGen c.words) = none ∧ timedOut s (imageAt s (pSlot c.words)) = false ∧ rState (imageAt s (pSlot
      c.words)) = stIssued) ∧
    (∃ s : State, ∃ id : Nat, ∃ c : Cmd, Admitted s 0x12 id c ∧ c.lookupDone = true ∧ slotChecks s c.fn (pSlot
      c.words) (pGen c.words) = none ∧ timedOut s (imageAt s (pSlot c.words)) = false ∧ 1 ≤ rState (imageAt s (pSlot
      c.words)) ∧ rState (imageAt s (pSlot c.words)) ≤ 4) ∧
    (∃ s : State, ∃ id : Nat, ∃ c : Cmd, Admitted s 0x12 id c ∧ c.lookupDone = true ∧ slotChecks s c.fn (pSlot
      c.words) (pGen c.words) = none ∧ timedOut s (imageAt s (pSlot c.words)) = true ∧ 0 < otherLeft s) ∧
    (∃ s : State, ∃ id : Nat, ∃ c : Cmd, Admitted s 0x12 id c ∧ c.lookupDone = true ∧ slotChecks s c.fn (pSlot
      c.words) (pGen c.words) = none ∧ timedOut s (imageAt s (pSlot c.words)) = true ∧ otherLeft s = 0) ∧
    (∃ s : State, ∃ id : Nat, ∃ c : Cmd, Admitted s 0x12 id c ∧ c.lookupDone = true ∧ slotChecks s c.fn (pSlot
      c.words) (pGen c.words) = none ∧ timedOut s (imageAt s (pSlot c.words)) = false ∧ rState (imageAt s (pSlot
      c.words)) = stVoid) ∧
    (∃ s : State, ∃ id : Nat, ∃ c : Cmd, Admitted s 0x12 id c ∧ c.lookupDone = true ∧ slotChecks s c.fn (pSlot
      c.words) (pGen c.words) = none ∧ timedOut s (imageAt s (pSlot c.words)) = false ∧ rState (imageAt s (pSlot
      c.words)) = stExpired) ∧
    (∃ s : State, ∃ id : Nat, ∃ c : Cmd, Admitted s 0x15 id c ∧ c.lookupDone = true ∧ c.fn ≠ 0 ∧ slotChecks s c.fn
      (pSlot c.words) (pGen c.words) = none ∧ timedOut s (imageAt s (pSlot c.words)) = false ∧ 5 ≤ rState (imageAt s
      (pSlot c.words)) ∧ rState (imageAt s (pSlot c.words)) ≤ 7 ∧ rGen (imageAt s (pSlot c.words)) < 0xFFFF) ∧
    (∃ s : State, ∃ id : Nat, ∃ c : Cmd, Admitted s 0x15 id c ∧ c.lookupDone = true ∧ c.fn ≠ 0 ∧ slotChecks s c.fn
      (pSlot c.words) (pGen c.words) = none ∧ timedOut s (imageAt s (pSlot c.words)) = false ∧ 5 ≤ rState (imageAt s
      (pSlot c.words)) ∧ rState (imageAt s (pSlot c.words)) ≤ 7 ∧ 0xFFFF ≤ rGen (imageAt s (pSlot c.words))) ∧
    (∃ s : State, ∃ id : Nat, ∃ c : Cmd, Admitted s 0x15 id c ∧ c.lookupDone = true ∧ c.fn ≠ 0 ∧ slotChecks s c.fn
      (pSlot c.words) (pGen c.words) = none ∧ timedOut s (imageAt s (pSlot c.words)) = false ∧ rState (imageAt s
      (pSlot c.words)) = stFree) ∧
    (∃ s : State, ∃ id : Nat, ∃ c : Cmd, Admitted s 0x15 id c ∧ c.lookupDone = true ∧ c.fn = 0 ∧ quarOf s (pSlot
      c.words) = none) ∧
    (∃ s : State, ∃ id : Nat, ∃ c : Cmd, ∃ q : QEntry, Admitted s 0x15 id c ∧ c.lookupDone = true ∧ c.fn = 0 ∧ quarOf
      s (pSlot c.words) = some q ∧ approvalFor s (wd c.words 11) 5 (leNats 2 (pSlot c.words)) = none) ∧
    (∃ s : State, ∃ id : Nat, ∃ c : Cmd, ∃ q : QEntry, ∃ a : Approval, Admitted s 0x15 id c ∧ c.lookupDone = true ∧
      c.fn = 0 ∧ quarOf s (pSlot c.words) = some q ∧ approvalFor s (wd c.words 11) 5 (leNats 2 (pSlot c.words)) =
      some a) :=
  ⟨⟨(wAt (wC 0x11 1 [(8, 1), (10, 1)])), 1, (wC 0x11 1 [(8, 1), (10, 1)]), wAdmitted (by decide +kernel),
     (by decide +kernel), (by decide +kernel), (by decide +kernel), (by decide +kernel), (by decide +kernel)⟩,
   ⟨(wAt (wC 0x11 1 [(8, 14), (10, 1)])), 1, (wC 0x11 1 [(8, 14), (10, 1)]), wAdmitted (by decide +kernel),
     (by decide +kernel), (by decide +kernel), (by decide +kernel), (by decide +kernel), (by decide +kernel)⟩,
   ⟨(wAt (wC 0x11 1 [(8, 2), (10, 1)])), 1, (wC 0x11 1 [(8, 2), (10, 1)]), wAdmitted (by decide +kernel),
     (by decide +kernel), (by decide +kernel), (by decide +kernel), (by decide +kernel)⟩,
   ⟨(wAt (wC 0x11 1 [(8, 8), (10, 1)])), 1, (wC 0x11 1 [(8, 8), (10, 1)]), wAdmitted (by decide +kernel),
     (by decide +kernel), (by decide +kernel), (by decide +kernel), (by decide +kernel)⟩,
   ⟨({ wAt (wC 0x11 1 [(8, 8), (10, 1)]) with jn := { wS.jn with tickOther := 40 } }), 1, (wC 0x11 1 [(8, 8), (10,
     1)]), wAdmitted (by decide +kernel), (by decide +kernel), (by decide +kernel), (by decide +kernel),
     (by decide +kernel)⟩,
   ⟨(wAt (wC 0x11 1 [(8, 3), (10, 1)])), 1, (wC 0x11 1 [(8, 3), (10, 1)]), wAdmitted (by decide +kernel),
     (by decide +kernel), (by decide +kernel), (by decide +kernel), (by decide +kernel)⟩,
   ⟨(wAt (wC 0x12 1 [(8, 4), (10, 1)])), 1, (wC 0x12 1 [(8, 4), (10, 1)]), wAdmitted (by decide +kernel),
     (by decide +kernel), (by decide +kernel), (by decide +kernel), (by decide +kernel), (by decide +kernel)⟩,
   ⟨(wAt (wC 0x12 1 [(8, 8), (10, 1)])), 1, (wC 0x12 1 [(8, 8), (10, 1)]), wAdmitted (by decide +kernel),
     (by decide +kernel), (by decide +kernel), (by decide +kernel), (by decide +kernel)⟩,
   ⟨({ wAt (wC 0x12 1 [(8, 8), (10, 1)]) with jn := { wS.jn with tickOther := 40 } }), 1, (wC 0x12 1 [(8, 8), (10,
     1)]), wAdmitted (by decide +kernel), (by decide +kernel), (by decide +kernel), (by decide +kernel),
     (by decide +kernel)⟩,
   ⟨(wAt (wC 0x12 1 [(8, 6), (10, 1)])), 1, (wC 0x12 1 [(8, 6), (10, 1)]), wAdmitted (by decide +kernel),
     (by decide +kernel), (by decide +kernel), (by decide +kernel), (by decide +kernel)⟩,
   ⟨(wAt (wC 0x12 1 [(8, 7), (10, 1)])), 1, (wC 0x12 1 [(8, 7), (10, 1)]), wAdmitted (by decide +kernel),
     (by decide +kernel), (by decide +kernel), (by decide +kernel), (by decide +kernel)⟩,
   ⟨(wAt (wC 0x15 1 [(8, 5), (10, 1)])), 1, (wC 0x15 1 [(8, 5), (10, 1)]), wAdmitted (by decide +kernel),
     (by decide +kernel), (by decide +kernel), (by decide +kernel), (by decide +kernel), (by decide +kernel),
     (by decide +kernel), (by decide +kernel)⟩,
   ⟨(wAt (wC 0x15 1 [(8, 9), (10, 65535)])), 1, (wC 0x15 1 [(8, 9), (10, 65535)]), wAdmitted (by decide +kernel),
     (by decide +kernel), (by decide +kernel), (by decide +kernel), (by decide +kernel), (by decide +kernel),
     (by decide +kernel), (by decide +kernel)⟩,
   ⟨(wAt (wC 0x15 1 [(8, 0), (10, 1)])), 1, (wC 0x15 1 [(8, 0), (10, 1)]), wAdmitted (by decide +kernel),
     (by decide +kernel), (by decide +kernel), (by decide +kernel), (by decide +kernel), (by decide +kernel)⟩,
   ⟨(wAt (wC 0x15 0 [(8, 3), (10, 1)])), 1, (wC 0x15 0 [(8, 3), (10, 1)]), wAdmitted (by decide +kernel),
     (by decide +kernel), (by decide +kernel), (by decide +kernel)⟩,
   ⟨({ wAt (wC 0x15 0 [(8, 3), (10, 1)]) with led := { wS.led with quarantine := [⟨3, true, 1, false⟩] } }), 1, (wC
     0x15 0 [(8, 3), (10, 1)]), (⟨3, true, 1, false⟩), wAdmitted (by decide +kernel), (by decide +kernel),
     (by decide +kernel), (by decide +kernel), (by decide +kernel)⟩,

     ⟨({ wAt (wC 0x15 0 [(8, 3), (10, 1), (11, 1)]) with led := { wS.led with quarantine := [⟨3, true, 1, false⟩] }, card := { wS.card with approvals := [⟨1, 5, [3, 0, 0, 0, 0, 0], 1000⟩] } }),
     1, (wC 0x15 0 [(8, 3), (10, 1), (11, 1)]), (⟨3, true, 1, false⟩), (⟨1, 5, [3, 0, 0, 0, 0, 0], 1000⟩), wAdmitted
     (by decide +kernel), (by decide +kernel), (by decide +kernel), (by decide +kernel), (by decide +kernel)⟩⟩

theorem test_witness_LedgerReserves :
    (∃ s : State, ∃ id : Nat, ∃ c : Cmd, ∃ slot : Nat, ∃ t : State, Admitted s 0x10 id c ∧ reserveDaysBad s c = false
      ∧ reserveCurGen s c ≠ 0 ∧ heldOf s c.fn < (realmRow s c.fn).quota ∧ poolPick s = (some slot, t)) ∧
    (∃ s : State, ∃ id : Nat, ∃ c : Cmd, ∃ t : State, Admitted s 0x10 id c ∧ reserveDaysBad s c = false ∧
      reserveCurGen s c ≠ 0 ∧ heldOf s c.fn < (realmRow s c.fn).quota ∧ poolPick s = (none, t)) ∧
    (∃ s : State, ∃ id : Nat, ∃ c : Cmd, Admitted s 0x10 id c ∧ reserveDaysBad s c = false ∧ reserveCurGen s c ≠ 0 ∧
      (realmRow s c.fn).quota ≤ heldOf s c.fn) ∧
    (∃ s : State, ∃ id : Nat, ∃ c : Cmd, Admitted s 0x10 id c ∧ (reserveDaysBad s c = true ∨ reserveCurGen s c = 0)) ∧
    (∃ s : State, ∃ n, ∃ ns, s.led.prefetched = n :: ns) ∧
    (∃ s : State, s.led.prefetched = []) ∧
    (∃ s : State, ∃ n, slotGood (readSlot false n s) n = true) ∧
    (∃ s : State, ∃ n, slotGood (readSlot false n s) n = false) ∧
    (∃ c : Cmd, ∃ old : List Word, ∃ kg : Nat, (rGen old + 1 < 65536) ∧ c.fn < 256 ∧ kg < 256 ∧ c.appGen < 256) :=
  ⟨⟨({ wAt ({ wC 0x10 1 [(9, 0), (10, 1), (11, 2)] with table := wTable }) with led := { wS.led with prefetched := [20] } }),
     1, ({ wC 0x10 1 [(9, 0), (10, 1), (11, 2)] with table := wTable }), 20,
     ({ wAt ({ wC 0x10 1 [(9, 0), (10, 1), (11, 2)] with table := wTable }) with led := { wS.led with prefetched := [20] } }),
     wAdmitted (by decide +kernel), (by decide +kernel), (by decide +kernel), (by decide +kernel),
     (by decide +kernel)⟩,

     ⟨({ wAt ({ wC 0x10 1 [(9, 0), (10, 1), (11, 2)] with table := wTable }) with led := { wS.led with virgin := 33554432 } }),
     1, ({ wC 0x10 1 [(9, 0), (10, 1), (11, 2)] with table := wTable }),
     ({ wAt ({ wC 0x10 1 [(9, 0), (10, 1), (11, 2)] with table := wTable }) with led := { wS.led with virgin := 33554432 } }),
     wAdmitted (by decide +kernel), (by decide +kernel), (by decide +kernel), (by decide +kernel),
     (by decide +kernel)⟩,

     ⟨({ wAt ({ wC 0x10 1 [(9, 0), (10, 1), (11, 2)] with table := wTable }) with led := { wS.led with held := [(1, 5)] } }),
     1, ({ wC 0x10 1 [(9, 0), (10, 1), (11, 2)] with table := wTable }), wAdmitted (by decide +kernel),
     (by decide +kernel), (by decide +kernel), (by decide +kernel)⟩,
   ⟨(wAt ({ wC 0x10 1 [(9, 0), (10, 1), (11, 0)] with table := wTable })), 1,
     ({ wC 0x10 1 [(9, 0), (10, 1), (11, 0)] with table := wTable }), wAdmitted (by decide +kernel),
     (by decide +kernel)⟩,
   ⟨({ wS with led := { wS.led with prefetched := [20] } }), 20, [], (by decide +kernel)⟩,
   ⟨wS, (by decide +kernel)⟩,
   ⟨wS, 0, (by decide +kernel)⟩,
   ⟨wS, 15, (by decide +kernel)⟩,
   ⟨({ wC 0x10 255 [] with appGen := 255 }), (wImg 7), 255, (by decide +kernel), (by decide +kernel),
     (by decide +kernel), (by decide +kernel)⟩⟩

theorem test_witness_CredentialCommands :
    (∃ s : State, ∃ id : Nat, ∃ c : Cmd, ∃ b : List Byte, ∃ v : Nat, ∃ a : Option (Nat × Nat), c.lookupDone = true ∧
      credOf c = some b ∧ (∃ x, c.work = .done false true x) ∧ c.step = 0 ∧ c.job ≠ .ended .lockBroken ∧ credHeadBad
      c b true = none ∧ judgeRecord s c b = .pass ∧ verdictOf s c (imageAt s (crSlot b)) = .done v a ∧ Admitted s
      0x21 id c) ∧
    (∃ s : State, ∃ id : Nat, ∃ c : Cmd, ∃ b : List Byte, ∃ v : Nat, ∃ a : Option (Nat × Nat), c.lookupDone = true ∧
      credOf c = some b ∧ (∃ x, c.work = .done false true x) ∧ c.step = 0 ∧ c.job ≠ .ended .lockBroken ∧ credHeadBad
      c b true = none ∧ judgeRecord s c b = .pass ∧ verdictOf s c (imageAt s (crSlot b)) = .done v a ∧ Admitted s
      0x23 id c) ∧
    (∃ s : State, ∃ id : Nat, ∃ c : Cmd, ∃ b : List Byte, ∃ v : Nat, ∃ a : Option (Nat × Nat), c.lookupDone = true ∧
      credOf c = some b ∧ (∃ x, c.work = .done false true x) ∧ c.step = 0 ∧ c.job ≠ .ended .lockBroken ∧ credHeadBad
      c b true = none ∧ judgeRecord s c b = .pass ∧ verdictOf s c (imageAt s (crSlot b)) = .done v a ∧ Admitted s
      0x22 id c ∧ bit v 15 = true) ∧
    (∃ s : State, ∃ id : Nat, ∃ c : Cmd, ∃ b : List Byte, ∃ v : Nat, ∃ a : Option (Nat × Nat), c.lookupDone = true ∧
      credOf c = some b ∧ (∃ x, c.work = .done false true x) ∧ c.step = 0 ∧ c.job ≠ .ended .lockBroken ∧ credHeadBad
      c b true = none ∧ judgeRecord s c b = .pass ∧ verdictOf s c (imageAt s (crSlot b)) = .done v a ∧ Admitted s
      0x22 id c ∧ bit v 15 = false) ∧
    (∃ s : State, ∃ id : Nat, ∃ c : Cmd, ∃ b : List Byte, ∃ x : List Byte, c.lookupDone = true ∧ credOf c = some b ∧
      c.work = .done false false x ∧ c.step = 0 ∧ c.job ≠ .ended .lockBroken ∧ credFormBad c b = false ∧ crRealm b =
      c.fn ∧ Admitted s 0x21 id c) ∧
    (∃ s : State, ∃ id : Nat, ∃ c : Cmd, ∃ b : List Byte, ∃ x : List Byte, c.lookupDone = true ∧ credOf c = some b ∧
      c.work = .done false false x ∧ c.step = 0 ∧ c.job ≠ .ended .lockBroken ∧ credFormBad c b = false ∧ crRealm b =
      c.fn ∧ Admitted s 0x22 id c) ∧
    (∃ s : State, ∃ id : Nat, ∃ c : Cmd, ∃ b : List Byte, ∃ x : List Byte, c.lookupDone = true ∧ credOf c = some b ∧
      c.work = .done false false x ∧ c.step = 0 ∧ c.job ≠ .ended .lockBroken ∧ credFormBad c b = false ∧ crRealm b =
      c.fn ∧ Admitted s 0x23 id c) ∧
    (∃ s : State, ∃ id : Nat, ∃ c : Cmd, ∃ b : List Byte, ∃ v : Nat, Admitted s 0x22 id c ∧ c.step = 1 ∧ c.lookupDone
      = true ∧ credOf c = some b ∧ (∃ x, c.work = .done false true x) ∧ c.job ≠ .ended .lockBroken ∧ judgeRecord s c
      b = .pass ∧ verdictOf s c (imageAt s (crSlot b)) = .done v none ∧ bit v 15 = false) ∧
    (∃ s : State, ∃ id : Nat, ∃ c : Cmd, ∃ st : Nat, ∃ rs : List Nat, Admitted s 0x20 id c ∧ c.lookupDone = true ∧
      inReady c = true ∧ c.step = 0 ∧ issuePlan s c = .stop st rs) ∧
    (∃ s : State, ∃ id : Nat, ∃ c : Cmd, ∃ bl : List Nat, ∃ cr : List Byte, Admitted s 0x20 id c ∧ c.lookupDone =
      true ∧ inReady c = true ∧ c.step = 0 ∧ issuePlan s c = .emit bl cr) ∧
    (∃ s : State, ∃ id : Nat, ∃ c : Cmd, ∃ bl : List Nat, ∃ cr : List Byte, Admitted s 0x20 id c ∧ c.step = 1 ∧
      issuePlan s c = .emit bl cr ∧ laneOf c.words = none) ∧
    (∃ s : State, ∃ id : Nat, ∃ c : Cmd, ∃ b : List Byte, ∃ st : Nat, ∃ shown, Admitted s 0x22 id c ∧ c.step = 1 ∧
      c.lookupDone = true ∧ credOf c = some b ∧ (∃ x, c.work = .done false true x) ∧ c.job ≠ .ended .lockBroken ∧
      judgeRecord s c b = .fail st shown) ∧
    (∃ s : State, ∃ id : Nat, ∃ c : Cmd, ∃ b : List Byte, Admitted s 0x22 id c ∧ c.step = 1 ∧ c.lookupDone = true ∧
      credOf c = some b ∧ (∃ x, c.work = .done false true x) ∧ c.job ≠ .ended .lockBroken ∧ judgeRecord s c b =
      .expire) ∧
    (∃ s : State, ∃ id : Nat, ∃ c : Cmd, ∃ b : List Byte, Admitted s 0x22 id c ∧ c.step = 1 ∧ c.lookupDone = true ∧
      credOf c = some b ∧ (∃ x, c.work = .done false true x) ∧ c.job ≠ .ended .lockBroken ∧ judgeRecord s c b =
      .timeout ∧ 0 < otherLeft s) ∧
    (∃ s : State, ∃ id : Nat, ∃ c : Cmd, ∃ b : List Byte, Admitted s 0x22 id c ∧ c.step = 1 ∧ c.lookupDone = true ∧
      credOf c = some b ∧ (∃ x, c.work = .done false true x) ∧ c.job ≠ .ended .lockBroken ∧ judgeRecord s c b =
      .timeout ∧ otherLeft s = 0) ∧
    (∃ s : State, ∃ id : Nat, ∃ c : Cmd, ∃ b : List Byte, ∃ v : Nat, ∃ a : Option (Nat × Nat), Admitted s 0x22 id c ∧
      c.step = 1 ∧ c.lookupDone = true ∧ credOf c = some b ∧ (∃ x, c.work = .done false true x) ∧ c.job ≠ .ended
      .lockBroken ∧ judgeRecord s c b = .pass ∧ verdictOf s c (imageAt s (crSlot b)) = .done v a ∧ bit v 15 = true) ∧
    (∃ s : State, ∃ id : Nat, ∃ c : Cmd, ∃ b : List Byte, ∃ v : Nat, ∃ lo, ∃ hi, Admitted s 0x22 id c ∧ c.step = 1 ∧
      c.lookupDone = true ∧ credOf c = some b ∧ (∃ x, c.work = .done false true x) ∧ c.job ≠ .ended .lockBroken ∧
      judgeRecord s c b = .pass ∧ verdictOf s c (imageAt s (crSlot b)) = .done v (some (lo, hi)) ∧ bit v 15 = false) ∧
    (∃ s : State, ∃ id : Nat, ∃ c : Cmd, ∃ b : List Byte, ∃ st : Nat, Admitted s 0x22 id c ∧ c.step = 1 ∧
      c.lookupDone = true ∧ credOf c = some b ∧ (∃ x, c.work = .done false true x) ∧ c.job ≠ .ended .lockBroken ∧
      judgeRecord s c b = .pass ∧ verdictOf s c (imageAt s (crSlot b)) = .stop st) ∧
    (∃ s : State, ∃ id : Nat, ∃ c : Cmd, ∃ st : Nat, ∃ rs : List Nat, Admitted s 0x20 id c ∧ c.step = 1 ∧ issuePlan s
      c = .stop st rs) ∧
    (∃ s : State, ∃ id : Nat, ∃ c : Cmd, Admitted s 0x20 id c ∧ c.step = 1 ∧ issuePlan s c = .timeout ∧ 0 < otherLeft
      s) ∧
    (∃ s : State, ∃ id : Nat, ∃ c : Cmd, Admitted s 0x20 id c ∧ c.step = 1 ∧ issuePlan s c = .timeout ∧ otherLeft s =
      0) ∧
    (∃ s : State, ∃ id : Nat, ∃ c : Cmd, ∃ st : Nat, Admitted s 0x20 id c ∧ c.step = 1 ∧ issuePlan s c = .void st) ∧
    (∃ s : State, ∃ id : Nat, ∃ c : Cmd, ∃ bl : List Nat, ∃ cr : List Byte, ∃ l, Admitted s 0x20 id c ∧ c.step = 1 ∧
      issuePlan s c = .emit bl cr ∧ laneOf c.words = some l) :=
  ⟨⟨(wAt
     ({ wC 0x21 1 [(8, 22)] with words := wCredWords 0x21, lookupDone := true, table := wTable, work := .done false true [] })),
     1,
     ({ wC 0x21 1 [(8, 22)] with words := wCredWords 0x21, lookupDone := true, table := wTable, work := .done false true [] }),
     wCred, 0, none, (by decide +kernel), (by decide +kernel), ⟨_, rfl⟩, (by decide +kernel), (by decide +kernel),
     (by decide +kernel), (by decide +kernel), (by decide +kernel), wAdmitted (by decide +kernel)⟩,
   ⟨(wAt
     ({ wC 0x23 1 [(8, 22)] with words := wCredWords 0x23, lookupDone := true, table := wTable, work := .done false true [] })),
     1,
     ({ wC 0x23 1 [(8, 22)] with words := wCredWords 0x23, lookupDone := true, table := wTable, work := .done false true [] }),
     wCred, 0, none, (by decide +kernel), (by decide +kernel), ⟨_, rfl⟩, (by decide +kernel), (by decide +kernel),
     (by decide +kernel), (by decide +kernel), (by decide +kernel), wAdmitted (by decide +kernel)⟩,
   ⟨(wAt
     ({ wC 0x22 1 [(8, 22)] with words := wCredWords 0x22, lookupDone := true, table := wTable, work := .done false true [], job := .ended (.block (List.replicate 8 0 ++ [0x8000, 0])) })),
     1,
     ({ wC 0x22 1 [(8, 22)] with words := wCredWords 0x22, lookupDone := true, table := wTable, work := .done false true [], job := .ended (.block (List.replicate 8 0 ++ [0x8000, 0])) }),
     wCred, 0x8000, none, (by decide +kernel), (by decide +kernel), ⟨_, rfl⟩, (by decide +kernel),
     (by decide +kernel), (by decide +kernel), (by decide +kernel), (by decide +kernel), wAdmitted
     (by decide +kernel), (by decide +kernel)⟩,
   ⟨(wAt
     ({ wC 0x22 1 [(8, 22)] with words := wCredWords 0x22, lookupDone := true, table := wTable, work := .done false true [] })),
     1,
     ({ wC 0x22 1 [(8, 22)] with words := wCredWords 0x22, lookupDone := true, table := wTable, work := .done false true [] }),
     wCred, 0, none, (by decide +kernel), (by decide +kernel), ⟨_, rfl⟩, (by decide +kernel), (by decide +kernel),
     (by decide +kernel), (by decide +kernel), (by decide +kernel), wAdmitted (by decide +kernel),
     (by decide +kernel)⟩,
   ⟨(wAt
     ({ wC 0x21 1 [(8, 22)] with words := wCredWords 0x21, lookupDone := true, table := wTable, work := .done false false [] })),
     1,
     ({ wC 0x21 1 [(8, 22)] with words := wCredWords 0x21, lookupDone := true, table := wTable, work := .done false false [] }),
     wCred, [], (by decide +kernel), (by decide +kernel), (by decide +kernel), (by decide +kernel),
     (by decide +kernel), (by decide +kernel), (by decide +kernel), wAdmitted (by decide +kernel)⟩,
   ⟨(wAt
     ({ wC 0x22 1 [(8, 22)] with words := wCredWords 0x22, lookupDone := true, table := wTable, work := .done false false [] })),
     1,
     ({ wC 0x22 1 [(8, 22)] with words := wCredWords 0x22, lookupDone := true, table := wTable, work := .done false false [] }),
     wCred, [], (by decide +kernel), (by decide +kernel), (by decide +kernel), (by decide +kernel),
     (by decide +kernel), (by decide +kernel), (by decide +kernel), wAdmitted (by decide +kernel)⟩,
   ⟨(wAt
     ({ wC 0x23 1 [(8, 22)] with words := wCredWords 0x23, lookupDone := true, table := wTable, work := .done false false [] })),
     1,
     ({ wC 0x23 1 [(8, 22)] with words := wCredWords 0x23, lookupDone := true, table := wTable, work := .done false false [] }),
     wCred, [], (by decide +kernel), (by decide +kernel), (by decide +kernel), (by decide +kernel),
     (by decide +kernel), (by decide +kernel), (by decide +kernel), wAdmitted (by decide +kernel)⟩,
   ⟨(wAt
     ({ wC 0x22 1 [(8, 22)] with words := wCredWords 0x22, lookupDone := true, table := wTable, work := .done false true [], step := 1 })),
     1,
     ({ wC 0x22 1 [(8, 22)] with words := wCredWords 0x22, lookupDone := true, table := wTable, work := .done false true [], step := 1 }),
     wCred, 0, wAdmitted (by decide +kernel), (by decide +kernel), (by decide +kernel), (by decide +kernel), ⟨_,
     rfl⟩, (by decide +kernel), (by decide +kernel), (by decide +kernel), (by decide +kernel)⟩,
   ⟨(wAt (wC 0x20 1 [(8, 4), (10, 1), (11, 0)])), 1, (wC 0x20 1 [(8, 4), (10, 1), (11, 0)]), sSlotState, (issueWords
     (imageAt (wAt (wC 0x20 1 [(8, 4), (10, 1), (11, 0)])) 4) 0 0), wAdmitted (by decide +kernel),
     (by decide +kernel), (by decide +kernel), (by decide +kernel), (by decide +kernel)⟩,

     ⟨({ wAt ({ wC 0x20 1 [(8, 14), (10, 1), (11, 0)] with table := wTable, step := 0, job := .ended (.block (wBlock [(4, 2), (5, 4)])) }) with keys := { wS.keys with slots := [(5, { state := 2, realm := 1, family := 0, keyGen := 0, kind := 3, attr := 0xFFFF })] } }),
     1,
     ({ wC 0x20 1 [(8, 14), (10, 1), (11, 0)] with table := wTable, step := 0, job := .ended (.block (wBlock [(4, 2), (5, 4)])) }),
     (wBlock [(4, 2), (5, 4)]), (credHeader 14 (imageAt wS 14) 0 0), wAdmitted (by decide +kernel),
     (by decide +kernel), (by decide +kernel), (by decide +kernel), (by decide +kernel)⟩,

     ⟨({ wAt ({ wC 0x20 1 [(8, 14), (10, 1), (11, 0)] with table := wTable, step := 1, job := .ended (.block (wBlock [(4, 2), (5, 4)])) }) with keys := { wS.keys with slots := [(5, { state := 2, realm := 1, family := 0, keyGen := 0, kind := 3, attr := 0xFFFF })] } }),
     1,
     ({ wC 0x20 1 [(8, 14), (10, 1), (11, 0)] with table := wTable, step := 1, job := .ended (.block (wBlock [(4, 2), (5, 4)])) }),
     (wBlock [(4, 2), (5, 4)]), (credHeader 14 (imageAt wS 14) 0 0), wAdmitted (by decide +kernel),
     (by decide +kernel), (by decide +kernel), (by decide +kernel)⟩,

     ⟨({ wAt ({ wC 0x22 1 [(8, 22)] with words := wCredWords 0x22, lookupDone := true, table := wTable, work := .done false true [], step := 1 }) with led := { wS.led with overlay := [(3, some ⟨wRec [(0, 2), (1, 0x3000), (3, 0x100), (5, 100), (8, 50000)], 0, [0]⟩)] } }),
     1,
     ({ wC 0x22 1 [(8, 22)] with words := wCredWords 0x22, lookupDone := true, table := wTable, work := .done false true [], step := 1 }),
     wCred, sGenMismatch, false, wAdmitted (by decide +kernel), (by decide +kernel), (by decide +kernel),
     (by decide +kernel), ⟨_, rfl⟩, (by decide +kernel), (by decide +kernel)⟩,

     ⟨({ wAt ({ wC 0x22 1 [(8, 22)] with words := wCredWords 0x22, lookupDone := true, table := wTable, work := .done false true [], step := 1 }) with clk := { wS.clk with cal := 20000000 } }),
     1,
     ({ wC 0x22 1 [(8, 22)] with words := wCredWords 0x22, lookupDone := true, table := wTable, work := .done false true [], step := 1 }),
     wCred, wAdmitted (by decide +kernel), (by decide +kernel), (by decide +kernel), (by decide +kernel), ⟨_, rfl⟩,
     (by decide +kernel), (by decide +kernel)⟩,

     ⟨({ wAt ({ wC 0x22 1 [(8, 22)] with words := wCredWords 0x22, lookupDone := true, table := wTable, work := .done false true [], step := 1 }) with led := { wS.led with overlay := [(3, some ⟨wRec [(0, 1), (1, 0x1000), (3, 0x100), (5, 100)], 0, [0]⟩)] } }),
     1,
     ({ wC 0x22 1 [(8, 22)] with words := wCredWords 0x22, lookupDone := true, table := wTable, work := .done false true [], step := 1 }),
     wCred, wAdmitted (by decide +kernel), (by decide +kernel), (by decide +kernel), (by decide +kernel), ⟨_, rfl⟩,
     (by decide +kernel), (by decide +kernel), (by decide +kernel)⟩,

     ⟨({ wAt ({ wC 0x22 1 [(8, 22)] with words := wCredWords 0x22, lookupDone := true, table := wTable, work := .done false true [], step := 1 }) with led := { wS.led with overlay := [(3, some ⟨wRec [(0, 1), (1, 0x1000), (3, 0x100), (5, 100)], 0, [0]⟩)] }, jn := { wS.jn with tickOther := 40 } }),
     1,
     ({ wC 0x22 1 [(8, 22)] with words := wCredWords 0x22, lookupDone := true, table := wTable, work := .done false true [], step := 1 }),
     wCred, wAdmitted (by decide +kernel), (by decide +kernel), (by decide +kernel), (by decide +kernel), ⟨_, rfl⟩,
     (by decide +kernel), (by decide +kernel), (by decide +kernel)⟩,
   ⟨(wAt
     ({ wC 0x22 1 [(8, 22)] with words := wCredWords 0x22, lookupDone := true, table := wTable, work := .done false true [], step := 1, job := .ended (.block (List.replicate 8 0 ++ [0x8000, 0])) })),
     1,
     ({ wC 0x22 1 [(8, 22)] with words := wCredWords 0x22, lookupDone := true, table := wTable, work := .done false true [], step := 1, job := .ended (.block (List.replicate 8 0 ++ [0x8000, 0])) }),
     wCred, 0x8000, none, wAdmitted (by decide +kernel), (by decide +kernel), (by decide +kernel),
     (by decide +kernel), ⟨_, rfl⟩, (by decide +kernel), (by decide +kernel), (by decide +kernel),
     (by decide +kernel)⟩,
   ⟨(wAt
     ({ wC 0x22 1 [(8, 22)] with words := wCredWords 0x22, lookupDone := true, table := wTable, work := .done false true [], step := 1, job := .ended (.block (List.replicate 6 0 ++ [5, 6, 0, 1])) })),
     1,
     ({ wC 0x22 1 [(8, 22)] with words := wCredWords 0x22, lookupDone := true, table := wTable, work := .done false true [], step := 1, job := .ended (.block (List.replicate 6 0 ++ [5, 6, 0, 1])) }),
     wCred, 0, 5, 6, wAdmitted (by decide +kernel), (by decide +kernel), (by decide +kernel), (by decide +kernel),
     ⟨_, rfl⟩, (by decide +kernel), (by decide +kernel), (by decide +kernel), (by decide +kernel)⟩,
   ⟨(wAt
     ({ wC 0x22 1 [(8, 22)] with words := wCredWords 0x22, lookupDone := true, table := wTable, work := .done false true [], step := 1, job := .ended .trap })),
     1,
     ({ wC 0x22 1 [(8, 22)] with words := wCredWords 0x22, lookupDone := true, table := wTable, work := .done false true [], step := 1, job := .ended .trap }),
     wCred, sAppletTrap, wAdmitted (by decide +kernel), (by decide +kernel), (by decide +kernel),
     (by decide +kernel), ⟨_, rfl⟩, (by decide +kernel), (by decide +kernel), (by decide +kernel)⟩,
   ⟨(wAt ({ wC 0x20 1 [(8, 14), (10, 1), (11, 0)] with table := wTable, step := 1, job := .ended .lockBroken })), 1,
     ({ wC 0x20 1 [(8, 14), (10, 1), (11, 0)] with table := wTable, step := 1, job := .ended .lockBroken }),
     sLockBroken, (issueWords (imageAt (wAt
     ({ wC 0x20 1 [(8, 14), (10, 1), (11, 0)] with table := wTable, step := 1, job := .ended .lockBroken })) 14) 0
     0), wAdmitted (by decide +kernel), (by decide +kernel), (by decide +kernel)⟩,
   ⟨(wAt ({ wC 0x20 1 [(8, 8), (10, 1), (11, 0)] with table := wTable, step := 1 })), 1,
     ({ wC 0x20 1 [(8, 8), (10, 1), (11, 0)] with table := wTable, step := 1 }), wAdmitted (by decide +kernel),
     (by decide +kernel), (by decide +kernel), (by decide +kernel)⟩,

     ⟨({ wAt ({ wC 0x20 1 [(8, 8), (10, 1), (11, 0)] with table := wTable, step := 1 }) with jn := { wS.jn with tickOther := 40 } }),
     1, ({ wC 0x20 1 [(8, 8), (10, 1), (11, 0)] with table := wTable, step := 1 }), wAdmitted (by decide +kernel),
     (by decide +kernel), (by decide +kernel), (by decide +kernel)⟩,
   ⟨(wAt ({ wC 0x20 1 [(8, 14), (10, 1), (11, 0)] with table := wTable, step := 1, job := .ended .trap })), 1,
     ({ wC 0x20 1 [(8, 14), (10, 1), (11, 0)] with table := wTable, step := 1, job := .ended .trap }), sAppletTrap,
     wAdmitted (by decide +kernel), (by decide +kernel), (by decide +kernel)⟩,

     ⟨({ wAt ({ wC 0x20 1 [(6, 0x803F), (8, 14), (10, 1), (11, 0)] with table := wTable, step := 1, work := .done false true [], job := .ended (.block (wBlock [(4, 2), (5, 4)])) }) with keys := { wS.keys with slots := [(5, { state := 2, realm := 1, family := 0, keyGen := 0, kind := 3, attr := 0xFFFF })] } }),
     1,
     ({ wC 0x20 1 [(6, 0x803F), (8, 14), (10, 1), (11, 0)] with table := wTable, step := 1, work := .done false true [], job := .ended (.block (wBlock [(4, 2), (5, 4)])) }),
     (wBlock [(4, 2), (5, 4)]), (credHeader 14 (imageAt wS 14) 0 0), 63, wAdmitted (by decide +kernel),
     (by decide +kernel), (by decide +kernel), (by decide +kernel)⟩⟩

theorem test_witness_HeadOfQueue :
    (∃ s : State, ∃ fn : Nat, ∃ p : Nat, ∃ w : List Word, ∃ ws : List (List Word), ∃ t : Nat, alive s = true ∧
      s.jn.stopped = false ∧ s.adm.opened = true ∧ (getPair s fn p).live = true ∧ (getPair s fn p).fetched = w :: ws
      ∧ (getPair s fn p).headAt = some t ∧ (getPair s fn p).decided = none ∧ 0 < (getPair s fn p).flushLeft) ∧
    (∃ s : State, ∃ fn : Nat, ∃ p : Nat, ∃ w : List Word, ∃ ws : List (List Word), ∃ t : Nat, alive s = true ∧
      s.jn.stopped = false ∧ s.adm.opened = true ∧ (getPair s fn p).live = true ∧ (getPair s fn p).fetched = w :: ws
      ∧ (getPair s fn p).headAt = some t ∧ (getPair s fn p).decided = none ∧ (getPair s fn p).flushLeft = 0 ∧ verdict
      s fn p w = none) ∧
    (∃ s : State, ∃ fn : Nat, ∃ p : Nat, ∃ w : List Word, ∃ ws : List (List Word), ∃ t : Nat, ∃ r : Nat × List Nat,
      alive s = true ∧ s.jn.stopped = false ∧ s.adm.opened = true ∧ (getPair s fn p).live = true ∧ (getPair s fn
      p).fetched = w :: ws ∧ (getPair s fn p).headAt = some t ∧ (getPair s fn p).decided = none ∧ (getPair s fn
      p).flushLeft = 0 ∧ verdict s fn p w = some r) ∧
    (∃ w : List Word, w.getD 31 0 ≠ crc16 (wordBytes (w.take 31))) ∧
    (∃ w : List Word, w.getD 31 0 = crc16 (wordBytes (w.take 31)) ∧ pVersion w ≠ 1) ∧
    (∃ w : List Word, w.getD 31 0 = crc16 (wordBytes (w.take 31)) ∧ pVersion w = 1 ∧ formatReserved w = none ∧ opRow
      (pOpcode w) = none) ∧
    (∃ s : State, ∃ dt : Nat, ∃ fn : Nat, ∃ p : Nat, ∃ w : List Word, ∃ ws : List (List Word), ∃ t : Nat, ∃ r : Nat ×
      List Nat, alive (passTime dt s) = true ∧ (passTime dt s).jn.stopped = false ∧ (getPair (passTime dt s) fn
      p).fetched = w :: ws ∧ (getPair (passTime dt s) fn p).headAt = some t ∧ (getPair (passTime dt s) fn p).decided
      = some r ∧ (passTime dt s).now < t + 2) ∧
    (∃ s : State, ∃ dt : Nat, ∃ fn : Nat, ∃ p : Nat, ∃ w : List Word, ∃ ws : List (List Word), ∃ t : Nat, ∃ r : Nat ×
      List Nat, alive (passTime dt s) = true ∧ (passTime dt s).jn.stopped = false ∧ (getPair (passTime dt s) fn
      p).fetched = w :: ws ∧ (getPair (passTime dt s) fn p).headAt = some t ∧ (getPair (passTime dt s) fn p).decided
      = some r ∧ t + 2 ≤ (passTime dt s).now ∧ (getPair (passTime dt s) fn p).flushLeft = 0 ∧ r.1 ≠ sRefCapacity) ∧
    (∃ s : State, ∃ dt : Nat, ∃ fn : Nat, ∃ p : Nat, ∃ w : List Word, ∃ ws : List (List Word), ∃ t : Nat, ∃ r : Nat ×
      List Nat, alive (passTime dt s) = true ∧ (passTime dt s).jn.stopped = false ∧ (getPair (passTime dt s) fn
      p).fetched = w :: ws ∧ (getPair (passTime dt s) fn p).headAt = some t ∧ (getPair (passTime dt s) fn p).decided
      = some r ∧ t + 2 ≤ (passTime dt s).now ∧ 0 < (getPair (passTime dt s) fn p).flushLeft) ∧
    (∃ s : State, ∃ dt : Nat, ∃ fn : Nat, ∃ p : Nat, ∃ w : List Word, ∃ ws : List (List Word), ∃ t : Nat, ∃ r : Nat ×
      List Nat, alive (passTime dt s) = true ∧ (passTime dt s).jn.stopped = false ∧ (getPair (passTime dt s) fn
      p).fetched = w :: ws ∧ (getPair (passTime dt s) fn p).headAt = some t ∧ (getPair (passTime dt s) fn p).decided
      = some r ∧ t + 2 ≤ (passTime dt s).now ∧ (getPair (passTime dt s) fn p).flushLeft = 0 ∧ r.1 = sRefCapacity) ∧
    (∃ s : State, alive s = true ∧ Phase.plan ∈ s.start.done ∧ capStale s = true) ∧
    (∃ s : State, alive s = true ∧ Phase.plan ∈ s.start.done ∧ capStale s = false) :=
  ⟨⟨(wPair { fetched := [wPacket [(0, 0x110), (1, 0xC001)]], headAt := some 99999, flushLeft := 1 }), 1, 0, (wPacket
     [(0, 0x110), (1, 0xC001)]), [], 99999, (by decide +kernel), (by decide +kernel), (by decide +kernel),
     (by decide +kernel), (by decide +kernel), (by decide +kernel), (by decide +kernel), (by decide +kernel)⟩,
   ⟨(wPair { fetched := [wPacket [(0, 0x110), (1, 0xC001)]], headAt := some 99999 }), 1, 0, (wPacket [(0, 0x110), (1,
     0xC001)]), [], 99999, (by decide +kernel), (by decide +kernel), (by decide +kernel), (by decide +kernel),
     (by decide +kernel), (by decide +kernel), (by decide +kernel), (by decide +kernel), (by decide +kernel)⟩,
   ⟨(wPair { fetched := [wPacket [(0, 0x110), (1, 2)]], headAt := some 99999 }), 1, 0, (wPacket [(0, 0x110), (1,
     2)]), [], 99999, ((sNotPermitted, [])), (by decide +kernel), (by decide +kernel), (by decide +kernel),
     (by decide +kernel), (by decide +kernel), (by decide +kernel), (by decide +kernel), (by decide +kernel),
     (by decide +kernel)⟩,
   ⟨(List.replicate 32 1), (by decide +kernel)⟩,
   ⟨(wPacket []), (by decide +kernel), (by decide +kernel)⟩,
   ⟨(wPacket [(0, 0x310), (1, 1)]), (by decide +kernel), (by decide +kernel), (by decide +kernel),
     (by decide +kernel)⟩,
   ⟨(wPair
     { fetched := [wPacket [(0, 0x110), (1, 0xC001)]], headAt := some 99999, decided := some (sBadParam, [0]) }), 0,
     1, 0, (wPacket [(0, 0x110), (1, 0xC001)]), [], 99999, ((sBadParam, [0])), (by decide +kernel),
     (by decide +kernel), (by decide +kernel), (by decide +kernel), (by decide +kernel), (by decide +kernel)⟩,
   ⟨(wPair
     { fetched := [wPacket [(0, 0x110), (1, 0xC001)]], headAt := some 99999, decided := some (sBadParam, [0]) }), 1,
     1, 0, (wPacket [(0, 0x110), (1, 0xC001)]), [], 99999, ((sBadParam, [0])), (by decide +kernel),
     (by decide +kernel), (by decide +kernel), (by decide +kernel), (by decide +kernel), (by decide +kernel),
     (by decide +kernel), (by decide +kernel)⟩,
   ⟨(wPair
     { fetched := [wPacket [(0, 0x110), (1, 0xC001)]], headAt := some 99990, decided := some (sRefCapacity, []), flushLeft := 1 }),
     0, 1, 0, (wPacket [(0, 0x110), (1, 0xC001)]), [], 99990, ((sRefCapacity, [])), (by decide +kernel),
     (by decide +kernel), (by decide +kernel), (by decide +kernel), (by decide +kernel), (by decide +kernel),
     (by decide +kernel)⟩,
   ⟨(wPair
     { fetched := [wPacket [(0, 0x110), (1, 0xC001)]], headAt := some 99990, decided := some (sRefCapacity, []) }),
     0, 1, 0, (wPacket [(0, 0x110), (1, 0xC001)]), [], 99990, ((sRefCapacity, [])), (by decide +kernel),
     (by decide +kernel), (by decide +kernel), (by decide +kernel), (by decide +kernel), (by decide +kernel),
     (by decide +kernel), (by decide +kernel)⟩,
   ⟨wS, (by decide +kernel), (by decide +kernel), (by decide +kernel)⟩,
   ⟨({ wS with adm := { wS.adm with published := capRecordNow wS } }), (by decide +kernel), (by decide +kernel),
     (by decide +kernel)⟩⟩

theorem test_witness_CryptoCommands :
    (∃ s : State, ∃ id : Nat, ∃ c : Cmd, ∃ ok : Bool, ∃ bytes : List Byte, c.work = .done false ok bytes ∧ Admitted s
      0x30 id c) ∧
    (∃ s : State, ∃ id : Nat, ∃ c : Cmd, ∃ ok : Bool, ∃ bytes : List Byte, c.work = .done false ok bytes ∧ Admitted s
      0x31 id c) ∧
    (∃ s : State, ∃ id : Nat, ∃ c : Cmd, ∃ ok : Bool, ∃ bytes : List Byte, c.work = .done false ok bytes ∧ Admitted s
      0x32 id c) ∧
    (∃ s : State, ∃ id : Nat, ∃ c : Cmd, ∃ ok : Bool, ∃ bytes : List Byte, c.work = .done false ok bytes ∧ Admitted s
      0x33 id c) ∧
    (∃ s : State, ∃ id : Nat, ∃ c : Cmd, ∃ ok : Bool, ∃ bytes : List Byte, c.work = .done false ok bytes ∧ Admitted s
      0x34 id c) ∧
    (∃ s : State, ∃ id : Nat, ∃ c : Cmd, ∃ ok : Bool, ∃ bytes : List Byte, c.work = .done false ok bytes ∧ Admitted s
      0x35 id c) ∧
    (∃ s : State, ∃ id : Nat, ∃ c : Cmd, ∃ ok : Bool, ∃ bytes : List Byte, c.work = .done true ok bytes ∧ Admitted s
      0x30 id c) ∧
    (∃ s : State, ∃ id : Nat, ∃ c : Cmd, ∃ ok : Bool, ∃ bytes : List Byte, c.work = .done true ok bytes ∧ Admitted s
      0x31 id c) ∧
    (∃ s : State, ∃ id : Nat, ∃ c : Cmd, ∃ ok : Bool, ∃ bytes : List Byte, c.work = .done true ok bytes ∧ Admitted s
      0x32 id c) ∧
    (∃ s : State, ∃ id : Nat, ∃ c : Cmd, ∃ ok : Bool, ∃ bytes : List Byte, c.work = .done true ok bytes ∧ Admitted s
      0x33 id c) ∧
    (∃ s : State, ∃ id : Nat, ∃ c : Cmd, ∃ ok : Bool, ∃ bytes : List Byte, c.work = .done true ok bytes ∧ Admitted s
      0x34 id c) :=
  ⟨⟨(wAt ({ wC 0x30 1 [] with work := .done false true [1, 2] })), 1,
     ({ wC 0x30 1 [] with work := .done false true [1, 2] }), true, ([1, 2]), (by decide +kernel), wAdmitted
     (by decide +kernel)⟩,
   ⟨(wAt ({ wC 0x31 1 [] with work := .done false true [1, 2] })), 1,
     ({ wC 0x31 1 [] with work := .done false true [1, 2] }), true, ([1, 2]), (by decide +kernel), wAdmitted
     (by decide +kernel)⟩,
   ⟨(wAt ({ wC 0x32 1 [] with work := .done false true [1, 2] })), 1,
     ({ wC 0x32 1 [] with work := .done false true [1, 2] }), true, ([1, 2]), (by decide +kernel), wAdmitted
     (by decide +kernel)⟩,
   ⟨(wAt ({ wC 0x33 1 [] with work := .done false true [1, 2] })), 1,
     ({ wC 0x33 1 [] with work := .done false true [1, 2] }), true, ([1, 2]), (by decide +kernel), wAdmitted
     (by decide +kernel)⟩,
   ⟨(wAt ({ wC 0x34 1 [] with work := .done false true [1, 2] })), 1,
     ({ wC 0x34 1 [] with work := .done false true [1, 2] }), true, ([1, 2]), (by decide +kernel), wAdmitted
     (by decide +kernel)⟩,
   ⟨(wAt ({ wC 0x35 1 [] with work := .done false true [1, 2] })), 1,
     ({ wC 0x35 1 [] with work := .done false true [1, 2] }), true, ([1, 2]), (by decide +kernel), wAdmitted
     (by decide +kernel)⟩,
   ⟨(wAt ({ wC 0x30 1 [] with work := .done true false [] })), 1,
     ({ wC 0x30 1 [] with work := .done true false [] }), false, [], (by decide +kernel), wAdmitted
     (by decide +kernel)⟩,
   ⟨(wAt ({ wC 0x31 1 [] with work := .done true false [] })), 1,
     ({ wC 0x31 1 [] with work := .done true false [] }), false, [], (by decide +kernel), wAdmitted
     (by decide +kernel)⟩,
   ⟨(wAt ({ wC 0x32 1 [] with work := .done true false [] })), 1,
     ({ wC 0x32 1 [] with work := .done true false [] }), false, [], (by decide +kernel), wAdmitted
     (by decide +kernel)⟩,
   ⟨(wAt ({ wC 0x33 1 [] with work := .done true false [] })), 1,
     ({ wC 0x33 1 [] with work := .done true false [] }), false, [], (by decide +kernel), wAdmitted
     (by decide +kernel)⟩,
   ⟨(wAt ({ wC 0x34 1 [] with work := .done true false [] })), 1,
     ({ wC 0x34 1 [] with work := .done true false [] }), false, [], (by decide +kernel), wAdmitted
     (by decide +kernel)⟩⟩

theorem test_witness_KeyCommands :
    (∃ s : State, ∃ id : Nat, ∃ c : Cmd, ∃ m : List Byte, ∃ u : UpdMsg, Admitted s 0x40 id c ∧ inData c 0 = some m ∧
      parseUpdate m = some u ∧ slotPending s u.slot = false ∧ u.op = 1) ∧
    (∃ s : State, ∃ id : Nat, ∃ c : Cmd, ∃ m : List Byte, ∃ u : UpdMsg, Admitted s 0x40 id c ∧ inData c 0 = some m ∧
      parseUpdate m = some u ∧ slotPending s u.slot = false ∧ u.op = 2) ∧
    (∃ s : State, ∃ id : Nat, ∃ c : Cmd, ∃ m : List Byte, ∃ u : UpdMsg, Admitted s 0x40 id c ∧ inData c 0 = some m ∧
      parseUpdate m = some u ∧ slotPending s u.slot = false ∧ u.op = 3) ∧
    (∃ s : State, ∃ id : Nat, ∃ c : Cmd, ∃ m : List Byte, ∃ u : UpdMsg, Admitted s 0x40 id c ∧ inData c 0 = some m ∧
      parseUpdate m = some u ∧ slotPending s u.slot = false ∧ u.op = 4) ∧
    (∃ s : State, ∃ id : Nat, ∃ c : Cmd, ∃ m : List Byte, Admitted s 0x40 id c ∧ inData c 0 = some m ∧ parseUpdate m
      = none ∧ msgNat m 3 1 = 1) ∧
    (∃ s : State, ∃ id : Nat, ∃ c : Cmd, Admitted s 0x41 id c ∧ c.fn = 0 ∧ slotPending s (wd c.words 8 % 1024) =
      false ∧ s.keys.pend = []) ∧
    (∃ s : State, ∃ id : Nat, ∃ c : Cmd, Admitted s 0x43 id c ∧ slotPending s (wd c.words 8 % 1024) = false ∧ c.fn ≠
      (slotNow s (wd c.words 8 % 1024)).realm) ∧
    (∃ s : State, ∃ id : Nat, ∃ c : Cmd, Admitted s 0x43 id c ∧ slotPending s (wd c.words 8 % 1024) = false ∧ c.fn =
      (slotNow s (wd c.words 8 % 1024)).realm ∧ (slotNow s (wd c.words 8 % 1024)).state = ksAssigned ∧ (slotNow s (wd
      c.words 8 % 1024)).counter = pairAt c.words 9 ∧ pairAt c.words 9 ≠ 0xFFFFFFFF ∧ kekOf s (slotNow s (wd c.words
      8 % 1024)).realm ≠ some (wd c.words 8 % 1024)) ∧
    (∃ s : State, ∃ id : Nat, ∃ c : Cmd, Admitted s 0x42 id c ∧ s.keys.attestIn = true) :=
  ⟨⟨(wAt ({ wC 0x40 1 [] with inData := [(0, some (wMsg 1))] })), 1,
     ({ wC 0x40 1 [] with inData := [(0, some (wMsg 1))] }), (wMsg 1), (wUpd 1), wAdmitted (by decide +kernel),
     (by decide +kernel), (by decide +kernel), (by decide +kernel), (by decide +kernel)⟩,
   ⟨(wAt ({ wC 0x40 1 [] with inData := [(0, some (wMsg 2))] })), 1,
     ({ wC 0x40 1 [] with inData := [(0, some (wMsg 2))] }), (wMsg 2), (wUpd 2), wAdmitted (by decide +kernel),
     (by decide +kernel), (by decide +kernel), (by decide +kernel), (by decide +kernel)⟩,
   ⟨(wAt ({ wC 0x40 1 [] with inData := [(0, some (wMsg 3))] })), 1,
     ({ wC 0x40 1 [] with inData := [(0, some (wMsg 3))] }), (wMsg 3), (wUpd 3), wAdmitted (by decide +kernel),
     (by decide +kernel), (by decide +kernel), (by decide +kernel), (by decide +kernel)⟩,
   ⟨(wAt ({ wC 0x40 1 [] with inData := [(0, some (wMsg 4))] })), 1,
     ({ wC 0x40 1 [] with inData := [(0, some (wMsg 4))] }), (wMsg 4), (wUpd 4), wAdmitted (by decide +kernel),
     (by decide +kernel), (by decide +kernel), (by decide +kernel), (by decide +kernel)⟩,
   ⟨(wAt ({ wC 0x40 1 [] with inData := [(0, some [0, 0, 0, 1])] })), 1,
     ({ wC 0x40 1 [] with inData := [(0, some [0, 0, 0, 1])] }), ([0, 0, 0, 1]), wAdmitted (by decide +kernel),
     (by decide +kernel), (by decide +kernel), (by decide +kernel)⟩,
   ⟨(wAt (wC 0x41 0 [])), 1, (wC 0x41 0 []), wAdmitted (by decide +kernel), (by decide +kernel), (by decide +kernel),
     (by decide +kernel)⟩,
   ⟨(wAt (wC 0x43 1 [])), 1, (wC 0x43 1 []), wAdmitted (by decide +kernel), (by decide +kernel), (by decide +kernel)⟩,

     ⟨({ wAt (wC 0x43 1 [(8, 5), (9, 9)]) with keys := { wS.keys with slots := [(5, { state := 1, realm := 1, counter := 9 })] } }),
     1, (wC 0x43 1 [(8, 5), (9, 9)]), wAdmitted (by decide +kernel), (by decide +kernel), (by decide +kernel),
     (by decide +kernel), (by decide +kernel), (by decide +kernel), (by decide +kernel)⟩,
   ⟨(wAt (wC 0x42 1 [])), 1, (wC 0x42 1 []), wAdmitted (by decide +kernel), (by decide +kernel)⟩⟩

theorem test_witness_AppletCommands :
    (∃ s : State, ∃ id : Nat, ∃ c : Cmd, ∃ bytes : List Byte, Admitted s 0x50 id c ∧ inData c 0 = some bytes ∧ c.step
      = 0 ∧ imageOk (bytesWords bytes) (descLen c.words 0) = false) ∧
    (∃ s : State, ∃ id : Nat, ∃ c : Cmd, ∃ bytes : List Byte, Admitted s 0x50 id c ∧ inData c 0 = some bytes ∧ c.step
      = 0 ∧ imageOk (bytesWords bytes) (descLen c.words 0) = true ∧ wd (bytesWords bytes) 2 ≠ c.fn) ∧
    (∃ s : State, ∃ id : Nat, ∃ c : Cmd, ∃ bytes : List Byte, ∃ d : Bool, ∃ ok : Bool, ∃ x : List Byte, Admitted s
      0x50 id c ∧ inData c 0 = some bytes ∧ c.step = 0 ∧ loadHead c bytes = none ∧ c.work = .done d ok x ∧ (d = true
      ∨ ok = false)) ∧
    (∃ s : State, ∃ id : Nat, ∃ c : Cmd, ∃ bytes : List Byte, ∃ x : List Byte, Admitted s 0x50 id c ∧ inData c 0 =
      some bytes ∧ c.step = 0 ∧ loadHead c bytes = none ∧ c.work = .done (false) (true) x) ∧
    (∃ s : State, ∃ c : Cmd, (realmRow s c.fn).active = some (wd c.words 8 % 2)) ∧
    (∃ s : State, ∃ c : Cmd, ∃ bytes : List Byte, (realmRow s c.fn).active ≠ some (wd c.words 8 % 2) ∧ (bankStore s
      c.fn (wd c.words 8 % 2)).map BankStore.hash = some (sha256 bytes)) ∧
    (∃ s : State, ∃ c : Cmd, ∃ bytes : List Byte, (realmRow s c.fn).active ≠ some (wd c.words 8 % 2) ∧ (bankStore s
      c.fn (wd c.words 8 % 2)).map BankStore.hash ≠ some (sha256 bytes) ∧ (loadedGen s c.fn 0 = some (wd (bytesWords
      bytes) 3) ∨ loadedGen s c.fn 1 = some (wd (bytesWords bytes) 3))) ∧
    (∃ s : State, ∃ c : Cmd, ∃ bytes : List Byte, (realmRow s c.fn).active ≠ some (wd c.words 8 % 2) ∧ (bankStore s
      c.fn (wd c.words 8 % 2)).map BankStore.hash ≠ some (sha256 bytes) ∧ loadedGen s c.fn 0 ≠ some (wd (bytesWords
      bytes) 3) ∧ loadedGen s c.fn 1 ≠ some (wd (bytesWords bytes) 3) ∧ ((allot (shareOf s c.fn 5 + shareOf s c.fn
      6)).1 < progNeed (bytesWords bytes) + (blocksHeld s c.fn (some (wd c.words 8 % 2))).1 ∨ (allot (shareOf s c.fn
      5 + shareOf s c.fn 6)).2 < (segNeeds (bytesWords bytes)).sum + (blocksHeld s c.fn (some (wd c.words 8 %
      2))).2)) ∧
    (∃ s : State, ∃ c : Cmd, ∃ bytes : List Byte, (realmRow s c.fn).active ≠ some (wd c.words 8 % 2) ∧ (bankStore s
      c.fn (wd c.words 8 % 2)).map BankStore.hash ≠ some (sha256 bytes) ∧ loadedGen s c.fn 0 ≠ some (wd (bytesWords
      bytes) 3) ∧ loadedGen s c.fn 1 ≠ some (wd (bytesWords bytes) 3) ∧ progNeed (bytesWords bytes) + (blocksHeld s
      c.fn (some (wd c.words 8 % 2))).1 ≤ (allot (shareOf s c.fn 5 + shareOf s c.fn 6)).1 ∧ (segNeeds (bytesWords
      bytes)).sum + (blocksHeld s c.fn (some (wd c.words 8 % 2))).2 ≤ (allot (shareOf s c.fn 5 + shareOf s c.fn
      6)).2) ∧
    (∃ s : State, ∃ id : Nat, ∃ c : Cmd, ∃ bytes : List Byte, Admitted s 0x50 id c ∧ inData c 0 = some bytes ∧ c.step
      = 1 ∧ bankIdle s c.fn (wd c.words 8 % 2) = true) ∧
    (∃ s : State, ∃ id : Nat, ∃ c : Cmd, ∃ bytes : List Byte, Admitted s 0x50 id c ∧ inData c 0 = some bytes ∧ c.step
      = 2) ∧
    (∃ s : State, ∃ id : Nat, ∃ c : Cmd, Admitted s 0x52 id c ∧ (realmRow s c.fn).active = none) ∧
    (∃ s : State, ∃ id : Nat, ∃ c : Cmd, Admitted s 0x58 id c ∧ wd c.words 8 ≠ ((realmRow s c.fn).modeGen) + 1) ∧
    (∃ s : State, ∃ id : Nat, ∃ c : Cmd, Admitted s 0x58 id c ∧ wd c.words 8 = ((realmRow s c.fn).modeGen) + 1 ∧
      ((realmRow s c.fn).modeGen) < 0xFFFF ∧ (realmRow s c.fn).armed ≠ some (((realmRow s c.fn).modeGen) + 1, wd
      c.words 9)) ∧
    (∃ s : State, ∃ id : Nat, ∃ c : Cmd, Admitted s 0x59 id c ∧ c.step = 0 ∧ flipUnderWay s c.fn = false ∧ (wd
      c.words 8) = (realmRow s c.fn).modeGen) ∧
    (∃ s : State, ∃ id : Nat, ∃ c : Cmd, ∃ m : Nat, Admitted s 0x59 id c ∧ c.step = 0 ∧ flipUnderWay s c.fn = false ∧
      (wd c.words 8) ≠ (realmRow s c.fn).modeGen ∧ (realmRow s c.fn).armed = some ((wd c.words 8), m)) ∧
    (∃ s : State, ∃ dt : Nat, ∃ id : Nat, ∃ c : Cmd, ∃ t0 : Nat, ∃ n : Nat, Admitted (passTime dt s) 0x59 id c ∧
      flipStep c (passTime dt s) = passTime dt s ∧ c.id = id ∧ c.step = 1 ∧ c.held = [t0, n] ∧ t0 + 1000 ≤ (passTime
      dt s).now) :=
  ⟨⟨(wAt ({ wC 0x50 1 [] with inData := [(0, some [1])] })), 1, ({ wC 0x50 1 [] with inData := [(0, some [1])] }),
     [1], wAdmitted (by decide +kernel), (by decide +kernel), (by decide +kernel), (by decide +kernel)⟩,
   ⟨(wAt ({ wC 0x50 2 [(4, 1), (5, 1), (13, 232)] with inData := [(0, some wImage)] })), 1,
     ({ wC 0x50 2 [(4, 1), (5, 1), (13, 232)] with inData := [(0, some wImage)] }), wImage, wAdmitted
     (by decide +kernel), (by decide +kernel), (by decide +kernel), (by decide +kernel), (by decide +kernel)⟩,
   ⟨(wAt
     ({ wC 0x50 1 [(4, 1), (5, 1), (13, 232)] with inData := [(0, some wImage)], work := .done false false [] })), 1,
     ({ wC 0x50 1 [(4, 1), (5, 1), (13, 232)] with inData := [(0, some wImage)], work := .done false false [] }),
     wImage, false, false, [], wAdmitted (by decide +kernel), (by decide +kernel), (by decide +kernel),
     (by decide +kernel), rfl, (by decide +kernel)⟩,
   ⟨(wAt ({ wC 0x50 1 [(4, 1), (5, 1), (13, 232)] with inData := [(0, some wImage)], work := .done false true [] })),
     1, ({ wC 0x50 1 [(4, 1), (5, 1), (13, 232)] with inData := [(0, some wImage)], work := .done false true [] }),
     wImage, [], wAdmitted (by decide +kernel), (by decide +kernel), (by decide +kernel), (by decide +kernel), rfl⟩,
   ⟨(wBank wS (some 0)), (wC 0x50 1 []), (by decide +kernel)⟩,
   ⟨({ wBank wS none with cells := { wS.cells with store := [(2, some ⟨wImageWords, sha256 wImage⟩)] } }), (wC 0x50 1
     []), wImage, (by decide +kernel), (by decide +kernel)⟩,
   ⟨(wBank wS none), (wC 0x50 1 []), wImage, (by decide +kernel), (by decide +kernel), (by decide +kernel)⟩,
   ⟨wS, (wC 0x50 1 []), wImage, (by decide +kernel), (by decide +kernel), (by decide +kernel), (by decide +kernel),
     (by decide +kernel)⟩,
   ⟨({ wS with realms := { wS.realms with live := { rows := [(1, { shares := [(5, 4096), (6, 4096)] })] } } }), (wC
     0x50 1 []), wImage, (by decide +kernel), (by decide +kernel), (by decide +kernel), (by decide +kernel),
     (by decide +kernel), (by decide +kernel)⟩,
   ⟨(wAt ({ wC 0x50 1 [(4, 1), (5, 1), (13, 232)] with inData := [(0, some wImage)], step := 1 })), 1,
     ({ wC 0x50 1 [(4, 1), (5, 1), (13, 232)] with inData := [(0, some wImage)], step := 1 }), wImage, wAdmitted
     (by decide +kernel), (by decide +kernel), (by decide +kernel), (by decide +kernel)⟩,
   ⟨(wAt ({ wC 0x50 1 [(4, 1), (5, 1), (13, 232)] with inData := [(0, some wImage)], step := 2 })), 1,
     ({ wC 0x50 1 [(4, 1), (5, 1), (13, 232)] with inData := [(0, some wImage)], step := 2 }), wImage, wAdmitted
     (by decide +kernel), (by decide +kernel), (by decide +kernel)⟩,
   ⟨(wAt (wC 0x52 1 [])), 1, (wC 0x52 1 []), wAdmitted (by decide +kernel), (by decide +kernel)⟩,
   ⟨(wAt (wC 0x58 1 [])), 1, (wC 0x58 1 []), wAdmitted (by decide +kernel), (by decide +kernel)⟩,
   ⟨(wAt (wC 0x58 1 [(8, 1), (9, 6)])), 1, (wC 0x58 1 [(8, 1), (9, 6)]), wAdmitted (by decide +kernel),
     (by decide +kernel), (by decide +kernel), (by decide +kernel)⟩,
   ⟨(wAt (wC 0x59 1 [])), 1, (wC 0x59 1 []), wAdmitted (by decide +kernel), (by decide +kernel), (by decide +kernel),
     (by decide +kernel)⟩,

     ⟨({ wAt (wC 0x59 1 [(8, 1)]) with realms := { wS.realms with live := { rows := [(1, { armed := some (1, 6) })] } } }),
     1, (wC 0x59 1 [(8, 1)]), 6, wAdmitted (by decide +kernel), (by decide +kernel), (by decide +kernel),
     (by decide +kernel), (by decide +kernel)⟩,
   ⟨(wAt ({ wC 0x59 1 [(8, 1)] with step := 1, held := [99000, 0] })), 0, 1,
     ({ wC 0x59 1 [(8, 1)] with step := 1, held := [99000, 0] }), 99000, 0, wAdmitted (by decide +kernel),
     (by decide +kernel), (by decide +kernel), (by decide +kernel), (by decide +kernel), (by decide +kernel)⟩⟩

theorem test_witness_FirmwareCommands :
    (∃ s : State, ∃ id : Nat, ∃ c : Cmd, ∃ d : List Byte, Admitted s 0x81 id c ∧ inData c 0 = some d ∧ c.step = 0 ∧
      (∀ x ∈ s.cmds.admitted, x.id ≠ c.id → cOp x = 0x81 → x.step ≠ 1) ∧ s.fws.staged = [] ∧ (wd c.words 8 % 16) ≠ 0
      ∧ bit (wd c.words 8) 15 = false) ∧
    (∃ s : State, ∃ id : Nat, ∃ c : Cmd, ∃ d : List Byte, ∃ dn : Bool, ∃ ok : Bool, ∃ x : List Byte, Admitted s 0x81
      id c ∧ inData c 0 = some d ∧ c.step = 1 ∧ c.work = .done dn ok x) ∧
    (∃ s : State, ∃ id : Nat, ∃ c : Cmd, Admitted s 0x82 id c ∧ c.step = 0 ∧ s.glb.service ≠ svQuiesced) ∧
    (∃ s : State, ∃ id : Nat, ∃ c : Cmd, Admitted s 0x82 id c ∧ c.step = 0 ∧ activateBad c s = true) ∧
    (∃ s : State, ∃ id : Nat, ∃ c : Cmd, Admitted s 0x82 id c ∧ c.step = 0 ∧ activateBad c s = false) ∧
    (∃ s : State, ∃ n : Nat, alive s = true ∧ s.fws.restartDue = some n) :=
  ⟨⟨(wAt ({ wC 0x81 0 [(8, 1)] with inData := [(0, some [1, 2])] })), 1,
     ({ wC 0x81 0 [(8, 1)] with inData := [(0, some [1, 2])] }), ([1, 2]), wAdmitted (by decide +kernel),
     (by decide +kernel), (by decide +kernel), (by decide +kernel), (by decide +kernel), (by decide +kernel),
     (by decide +kernel)⟩,
   ⟨(wAt ({ wC 0x81 0 [(8, 1)] with inData := [(0, some [1, 2])], step := 1, work := .done false true [] })), 1,
     ({ wC 0x81 0 [(8, 1)] with inData := [(0, some [1, 2])], step := 1, work := .done false true [] }), ([1, 2]),
     false, true, [], wAdmitted (by decide +kernel), (by decide +kernel), (by decide +kernel), rfl⟩,
   ⟨(wAt (wC 0x82 0 [])), 1, (wC 0x82 0 []), wAdmitted (by decide +kernel), (by decide +kernel), (by decide +kernel)⟩,
   ⟨(wAt (wC 0x82 0 [])), 1, (wC 0x82 0 []), wAdmitted (by decide +kernel), (by decide +kernel), (by decide +kernel)⟩,

     ⟨({ wAt (wC 0x82 0 []) with glb := { wS.glb with service := svQuiesced }, fws := { wS.fws with staged := [1], slots := [(1, { valid := true, readFormats := 2 })], running := some 0 } }),
     1, (wC 0x82 0 []), wAdmitted (by decide +kernel), (by decide +kernel), (by decide +kernel)⟩,
   ⟨({ wS with fws := { wS.fws with restartDue := some 1 } }), 1, (by decide +kernel), (by decide +kernel)⟩⟩

theorem test_witness_CustodyCommands :
    (∃ s : State, ∃ id : Nat, ∃ c : Cmd, ∃ i : Instr, ∃ op : Nat, Admitted s 0x71 id c ∧ wd c.words 8 = op ∧ (op = 1
      ∧ i = Instr.enrol id ∨ op = 2 ∧ i = Instr.kekLoad id ∨ op = 3 ∧ i = Instr.provision id ∨ op = 4 ∧ i =
      Instr.decommission id ∨ op = 5 ∧ i = Instr.retireSlot id ∨ op = 6 ∧ i = Instr.draw id ∨ op = 7 ∧ i =
      Instr.scuttlePolicy id ∨ op = 8 ∧ i = Instr.cardAdd id ∨ op = 9 ∧ i = Instr.cardRevoke id ∨ op = 10 ∧ i =
      Instr.setThreshold id ∨ op = 11 ∧ i = Instr.setCustody id) ∧ c.step = 0) ∧
    (∃ s : State, ∃ id : Nat, ∃ c : Cmd, ∃ i : Instr, ∃ op : Nat, Admitted s 0x71 id c ∧ wd c.words 8 = op ∧ (op = 1
      ∧ i = Instr.enrol id ∨ op = 2 ∧ i = Instr.kekLoad id ∨ op = 3 ∧ i = Instr.provision id ∨ op = 4 ∧ i =
      Instr.decommission id ∨ op = 5 ∧ i = Instr.retireSlot id ∨ op = 6 ∧ i = Instr.draw id ∨ op = 7 ∧ i =
      Instr.scuttlePolicy id ∨ op = 8 ∧ i = Instr.cardAdd id ∨ op = 9 ∧ i = Instr.cardRevoke id ∨ op = 10 ∧ i =
      Instr.setThreshold id ∨ op = 11 ∧ i = Instr.setCustody id) ∧ c.step ≠ 0 ∧ exchanged s = false) ∧
    (∃ s : State, ∃ id : Nat, ∃ c : Cmd, ∃ i : Instr, ∃ op : Nat, Admitted s 0x71 id c ∧ wd c.words 8 = op ∧ (op = 1
      ∧ i = Instr.enrol id ∨ op = 2 ∧ i = Instr.kekLoad id ∨ op = 3 ∧ i = Instr.provision id ∨ op = 4 ∧ i =
      Instr.decommission id ∨ op = 5 ∧ i = Instr.retireSlot id ∨ op = 6 ∧ i = Instr.draw id ∨ op = 7 ∧ i =
      Instr.scuttlePolicy id ∨ op = 8 ∧ i = Instr.cardAdd id ∨ op = 9 ∧ i = Instr.cardRevoke id ∨ op = 10 ∧ i =
      Instr.setThreshold id ∨ op = 11 ∧ i = Instr.setCustody id) ∧ c.step = 1 ∧ exchanged s = true ∧ (approvers
      s).length < max 1 s.realms.live.threshold) ∧
    (∃ s : State, ∃ id : Nat, ∃ c : Cmd, Admitted s 0x70 id c ∧ c.step = 1 ∧ exchanged s = true) ∧
    (∃ s : State, ∃ id : Nat, ∃ c : Cmd, Admitted s 0x72 id c ∧ c.step = 0 ∧ custodyTurn c s = true ∧ wd c.words 8 %
      4 = 0 ∧ quotaBad s (drawRealm c) (pairAt c.words 10) = true) ∧
    (∃ s : State, ∃ id : Nat, ∃ c : Cmd, ∃ ap : Option Nat, Admitted s 0x72 id c ∧ c.step = 0 ∧ custodyTurn c s =
      true ∧ wd c.words 8 % 4 = 0 ∧ quotaBad s (drawRealm c) (pairAt c.words 10) = false ∧ drawApproval c s = .ok ap
      ∧ (realmRow s (drawRealm c)).debit = false) ∧
    (∃ s : State, ∃ id : Nat, ∃ c : Cmd, ∃ ap : Option Nat, Admitted s 0x72 id c ∧ c.step = 0 ∧ custodyTurn c s =
      true ∧ wd c.words 8 % 4 = 1 ∧ drawApproval c s = .ok ap ∧ wd c.words 10 ≠ 5 ∧ wd c.words 10 ≠ 6 ∧ ((List.range
      32).map (fun i => if i = drawRealm c then (wd c.words 11) else shareOf s i (wd c.words 10))).sum ≤ 4096 ∧
      drawRealm c ≠ 0) ∧
    (∃ s : State, ∃ id : Nat, ∃ c : Cmd, ∃ ap : Option Nat, Admitted s 0x72 id c ∧ c.step = 0 ∧ custodyTurn c s =
      true ∧ wd c.words 8 % 4 = 2 ∧ (getLane s (wd c.words 10 % 64)).state = 0 ∧ drawApproval c s = .ok ap ∧
      drawRealm c = 0) ∧
    (∃ s : State, ∃ id : Nat, ∃ c : Cmd, Admitted s 0x72 id c ∧ c.step = 0 ∧ custodyTurn c s = true ∧ wd c.words 8 %
      4 = 2 ∧ (getLane s (wd c.words 10 % 64)).state ≠ 0) ∧
    (∃ s : State, ∃ id : Nat, ∃ c : Cmd, ∃ ap : Option Nat, Admitted s 0x72 id c ∧ c.step = 0 ∧ custodyTurn c s =
      true ∧ wd c.words 8 % 4 = 3 ∧ bit (wd c.words 11) 0 = true ∧ grantOf s (wd c.words 10) = none ∧ drawApproval c
      s = .ok ap) :=
  ⟨⟨(wAt (wC 0x71 0 [(8, 1)])), 1, (wC 0x71 0 [(8, 1)]), (.enrol 1), 1, wAdmitted (by decide +kernel),
     (by decide +kernel), (by decide +kernel), (by decide +kernel)⟩,
   ⟨({ wAt ({ wC 0x71 0 [(8, 11)] with step := 1 }) with card := { wS.card with todo := [(3, 2)] } }), 1,
     ({ wC 0x71 0 [(8, 11)] with step := 1 }), (.setCustody 1), 11, wAdmitted (by decide +kernel),
     (by decide +kernel), (by decide +kernel), (by decide +kernel), (by decide +kernel)⟩,
   ⟨(wAt ({ wC 0x71 0 [(8, 2)] with step := 1 })), 1, ({ wC 0x71 0 [(8, 2)] with step := 1 }), (.kekLoad 1), 2,
     wAdmitted (by decide +kernel), (by decide +kernel), (by decide +kernel), (by decide +kernel),
     (by decide +kernel), (by decide +kernel)⟩,
   ⟨(wAt ({ wC 0x70 0 [] with step := 1 })), 1, ({ wC 0x70 0 [] with step := 1 }), wAdmitted (by decide +kernel),
     (by decide +kernel), (by decide +kernel)⟩,
   ⟨(wAt (wC 0x72 0 [(9, 0)])), 1, (wC 0x72 0 [(9, 0)]), wAdmitted (by decide +kernel), (by decide +kernel),
     (by decide +kernel), (by decide +kernel), (by decide +kernel)⟩,

     ⟨({ wAt (wC 0x72 0 [(9, 1), (10, 5)]) with realms := { wS.realms with live := { rows := [(1, { approveMask := 0 })] } } }),
     1, (wC 0x72 0 [(9, 1), (10, 5)]), none, wAdmitted (by decide +kernel), (by decide +kernel), (by decide +kernel),
     (by decide +kernel), (by decide +kernel), rfl, (by decide +kernel)⟩,
   ⟨(wAt (wC 0x72 0 [(8, 1), (9, 1), (10, 4), (11, 4)])), 1, (wC 0x72 0 [(8, 1), (9, 1), (10, 4), (11, 4)]), none,
     wAdmitted (by decide +kernel), (by decide +kernel), (by decide +kernel), (by decide +kernel), rfl,
     (by decide +kernel), (by decide +kernel), (by decide +kernel), (by decide +kernel)⟩,
   ⟨(wAt (wC 0x72 0 [(8, 2), (10, 63)])), 1, (wC 0x72 0 [(8, 2), (10, 63)]), none, wAdmitted (by decide +kernel),
     (by decide +kernel), (by decide +kernel), (by decide +kernel), (by decide +kernel), rfl, (by decide +kernel)⟩,
   ⟨({ wAt (wC 0x72 0 [(8, 2), (10, 63)]) with lanes := [(63, { state := 3 })] }), 1, (wC 0x72 0 [(8, 2), (10, 63)]),
     wAdmitted (by decide +kernel), (by decide +kernel), (by decide +kernel), (by decide +kernel),
     (by decide +kernel)⟩,
   ⟨(wAt (wC 0x72 0 [(8, 3), (9, 1), (10, 23), (11, 1)])), 1, (wC 0x72 0 [(8, 3), (9, 1), (10, 23), (11, 1)]), none,
     wAdmitted (by decide +kernel), (by decide +kernel), (by decide +kernel), (by decide +kernel),
     (by decide +kernel), (by decide +kernel), rfl⟩⟩

theorem test_witness_LaneCommands :
    (∃ s : State, ∃ id : Nat, ∃ c : Cmd, ∃ l : Nat, Admitted s 0x60 id c ∧ laneOf c.words = some l ∧ (getLane s
      l).state = 0) ∧
    (∃ s : State, ∃ id : Nat, ∃ c : Cmd, ∃ l : Nat, Admitted s 0x60 id c ∧ laneOf c.words = some l ∧ (getLane s
      l).state = 5) ∧
    (∃ s : State, ∃ id : Nat, ∃ c : Cmd, ∃ l : Nat, Admitted s 0x60 id c ∧ laneOf c.words = some l ∧ (getLane s
      l).state = 3 ∧ (getLane s l).link = .up) ∧
    (∃ s : State, ∃ id : Nat, ∃ c : Cmd, ∃ d : List Byte, ∃ l : Nat, Admitted s 0x61 id c ∧ inData c 0 = some d ∧
      c.lane = some l ∧ bit (wd c.words 8) 0 = false) ∧
    (∃ s : State, ∃ id : Nat, ∃ c : Cmd, ∃ l : Nat, Admitted s 0x62 id c ∧ laneOf c.words = some l) ∧
    (∃ s : State, ∃ id : Nat, ∃ c : Cmd, ∃ l : Nat, Admitted s 0x63 id c ∧ laneOf c.words = some l ∧ bit (wd c.words
      8) 0 = false ∧ c.step = 0 ∧ (getLane s l).state = 0) ∧
    (∃ s : State, ∃ id : Nat, ∃ c : Cmd, ∃ l : Nat, Admitted s 0x63 id c ∧ laneOf c.words = some l ∧ bit (wd c.words
      8) 0 = false ∧ c.step = 0 ∧ (getLane s l).state ∈ [1, 2, 3]) ∧
    (∃ s : State, ∃ id : Nat, ∃ c : Cmd, ∃ l : Nat, Admitted s 0x63 id c ∧ laneOf c.words = some l ∧ bit (wd c.words
      8) 0 = true ∧ (getLane s l).state ≠ 0) ∧
    (∃ s : State, ∃ id : Nat, ∃ c : Cmd, ∃ l : Nat, Admitted s 0x63 id c ∧ laneOf c.words = some l ∧ bit (wd c.words
      8) 0 = true ∧ (getLane s l).state = 0) :=
  ⟨⟨(wAt (wC 0x60 1 [(6, 0x8003), (8, 1)])), 1, (wC 0x60 1 [(6, 0x8003), (8, 1)]), 3, wAdmitted (by decide +kernel),
     (by decide +kernel), (by decide +kernel)⟩,
   ⟨({ wAt (wC 0x60 1 [(6, 0x8003), (8, 1)]) with lanes := [(3, { state := 5 })] }), 1, (wC 0x60 1 [(6, 0x8003), (8,
     1)]), 3, wAdmitted (by decide +kernel), (by decide +kernel), (by decide +kernel)⟩,
   ⟨({ wAt (wC 0x60 1 [(6, 0x8003), (8, 1)]) with lanes := [(3, { state := 3, link := .up, version := 1 })] }), 1,
     (wC 0x60 1 [(6, 0x8003), (8, 1)]), 3, wAdmitted (by decide +kernel), (by decide +kernel), (by decide +kernel),
     (by decide +kernel)⟩,

     ⟨({ wAt ({ wC 0x61 1 [(6, 0x8003)] with inData := [(0, some [7])], lane := some 3 }) with lanes := [(3, { state := 3 })] }),
     1, ({ wC 0x61 1 [(6, 0x8003)] with inData := [(0, some [7])], lane := some 3 }), [7], 3, wAdmitted
     (by decide +kernel), (by decide +kernel), (by decide +kernel), (by decide +kernel)⟩,
   ⟨({ wAt (wC 0x62 1 [(6, 0x8003)]) with lanes := [(3, { state := 3 })] }), 1, (wC 0x62 1 [(6, 0x8003)]), 3,
     wAdmitted (by decide +kernel), (by decide +kernel)⟩,
   ⟨(wAt (wC 0x63 1 [(6, 0x8003)])), 1, (wC 0x63 1 [(6, 0x8003)]), 3, wAdmitted (by decide +kernel),
     (by decide +kernel), (by decide +kernel), (by decide +kernel), (by decide +kernel)⟩,
   ⟨({ wAt (wC 0x63 1 [(6, 0x8003)]) with lanes := [(3, { state := 3 })] }), 1, (wC 0x63 1 [(6, 0x8003)]), 3,
     wAdmitted (by decide +kernel), (by decide +kernel), (by decide +kernel), (by decide +kernel),
     (by decide +kernel)⟩,
   ⟨({ wAt (wC 0x63 1 [(6, 0x8003), (8, 1)]) with lanes := [(3, { state := 3 })] }), 1, (wC 0x63 1 [(6, 0x8003), (8,
     1)]), 3, wAdmitted (by decide +kernel), (by decide +kernel), (by decide +kernel), (by decide +kernel)⟩,
   ⟨(wAt (wC 0x63 1 [(6, 0x8003), (8, 1)])), 1, (wC 0x63 1 [(6, 0x8003), (8, 1)]), 3, wAdmitted (by decide +kernel),
     (by decide +kernel), (by decide +kernel), (by decide +kernel)⟩⟩

theorem test_witness_ReplyForm :
    (∃ st : Nat, ∃ rs : List Nat, st ≠ sNotPermitted ∧ rs.length ≤ 7) ∧
    (∃ c : Cmd, ∃ j : Nat, c.jsn = some j) ∧
    (∃ c : Cmd, c.jsn = none ∧ slotOpcode (cOp c) = true) ∧
    (∃ s : State, ∃ c : Cmd, ∃ d : Cmd, d ∈ s.cmds.admitted ∧ d.id ≠ c.id) ∧
    (∃ c : Cmd, c.mute = false) :=
  ⟨⟨0, ([1, 2, 3, 4, 5, 6, 7]), (by decide +kernel), (by decide +kernel)⟩,
   ⟨({ wC 0x11 1 [] with jsn := some 320 }), 320, (by decide +kernel)⟩,
   ⟨(wC 0x13 1 []), (by decide +kernel), (by decide +kernel)⟩,
   ⟨(wAt (wC 0x11 1 [])), ({ wC 0x11 1 [] with id := 2 }), (wC 0x11 1 []), (by decide +kernel), (by decide +kernel)⟩,
   ⟨(wC 0x11 1 []), (by decide +kernel)⟩⟩

theorem test_witness_LedgerFrame :
    (∃ s : State, ∃ id : Nat, ∃ i : Instr, ∃ t : State, s.tm.raised = [] ∧ (∀ sh, (getSh s sh).lock = none) ∧ i ∈
      [Instr.echo id, .getCapability id, .ledgerRead id, .ledgerGather id, .txnQuery id, .issue id, .validate id,
      .revalidate id, .macGenerate id, .macVerify id, .cipher id, .sign id, .sigVerify id, .digest id, .keyInfo id,
      .attest id, .appletInfo id, .laneStatus id, .flush id, .quiesce id, .resume id, .logRead id, .countersRead id]
      ∧ exec i s = .next t) ∧
    (∃ s : State, ∃ id : Nat, ∃ i : Instr, ∃ t : State, s.tm.raised = [] ∧ (∀ sh, (getSh s sh).lock = none) ∧ i ∈
      [Instr.realmRebase id, .appletActivate id, .modeArm id, .compactNow id] ∧ exec i s = .next t) :=
  ⟨⟨(wAt (wC 0x01 1 [])), 1, (.echo 1), _, rfl, (fun _ => rfl), (by decide +kernel), rfl⟩,
   ⟨State.reset, 1, (.modeArm 1), _, rfl, (fun _ => rfl), (by decide +kernel), rfl⟩⟩

theorem test_witness_MinuteWindow :
    (∃ r : List Word, rWindow r = false) ∧
    (∃ r : List Word, rWindow r = true ∧ rStart r ≤ rEnd r) ∧
    (∃ r : List Word, rWindow r = true ∧ rEnd r < rStart r) ∧
    (∃ s : State, ∃ c : Cmd, ∃ b : List Byte, slotChecks s c.fn (crSlot b) (crGen b) = none ∧ crPolicy b = rPolicy
      (imageAt s (crSlot b)) ∧ crFrom b = rFrom (imageAt s (crSlot b)) ∧ crTo b = rTo (imageAt s (crSlot b)) ∧
      crKeyGen b = rKeyGen (imageAt s (crSlot b)) ∧ timedOut s (imageAt s (crSlot b)) = false ∧ (rState (imageAt s
      (crSlot b)) = stIssued ∨ rState (imageAt s (crSlot b)) = stActive ∨ rState (imageAt s (crSlot b)) =
      stUnconfirmed) ∧ (recBase s (imageAt s (crSlot b))) ≤ s.clk.cal ∧ ended (imageAt s (crSlot b)) (dayE s.clk.cal
      (recBase s (imageAt s (crSlot b)))) = false ∧ begun (imageAt s (crSlot b)) (dayE s.clk.cal (recBase s (imageAt
      s (crSlot b)))) = true ∧ windowTest (imageAt s (crSlot b)) (dayE s.clk.cal (recBase s (imageAt s (crSlot b))))
      (minuteE s.clk.cal (recBase s (imageAt s (crSlot b)))) = 1) ∧
    (∃ s : State, ∃ c : Cmd, ∃ b : List Byte, slotChecks s c.fn (crSlot b) (crGen b) = none ∧ crPolicy b = rPolicy
      (imageAt s (crSlot b)) ∧ crFrom b = rFrom (imageAt s (crSlot b)) ∧ crTo b = rTo (imageAt s (crSlot b)) ∧
      crKeyGen b = rKeyGen (imageAt s (crSlot b)) ∧ timedOut s (imageAt s (crSlot b)) = false ∧ (rState (imageAt s
      (crSlot b)) = stIssued ∨ rState (imageAt s (crSlot b)) = stActive ∨ rState (imageAt s (crSlot b)) =
      stUnconfirmed) ∧ (recBase s (imageAt s (crSlot b))) ≤ s.clk.cal ∧ ended (imageAt s (crSlot b)) (dayE s.clk.cal
      (recBase s (imageAt s (crSlot b)))) = false ∧ begun (imageAt s (crSlot b)) (dayE s.clk.cal (recBase s (imageAt
      s (crSlot b)))) = true ∧ windowTest (imageAt s (crSlot b)) (dayE s.clk.cal (recBase s (imageAt s (crSlot b))))
      (minuteE s.clk.cal (recBase s (imageAt s (crSlot b)))) = 2) :=
  ⟨⟨(wImg 3), (by decide +kernel)⟩,
   ⟨(wRec [(2, 0x2000), (6, 1438), (7, 1439)]), (by decide +kernel), (by decide +kernel)⟩,
   ⟨(wRec [(2, 0x2000), (6, 1439), (7, 1)]), (by decide +kernel), (by decide +kernel)⟩,
   ⟨wS, (wC 0x21 1 []), (credHeader 11 (imageAt wS 11) 0 0), (by decide +kernel), (by decide +kernel),
     (by decide +kernel), (by decide +kernel), (by decide +kernel), (by decide +kernel), (by decide +kernel),
     (by decide +kernel), (by decide +kernel), (by decide +kernel), (by decide +kernel)⟩,
   ⟨wS, (wC 0x21 1 []), (credHeader 12 (imageAt wS 12) 0 0), (by decide +kernel), (by decide +kernel),
     (by decide +kernel), (by decide +kernel), (by decide +kernel), (by decide +kernel), (by decide +kernel),
     (by decide +kernel), (by decide +kernel), (by decide +kernel), (by decide +kernel)⟩⟩

theorem test_witness_RetryEncoding :
    (∃ ns : Nat, 16383 * 4096 * 1000 < ns) ∧
    (∃ ns : Nat, ns ≤ 16383 * 4096 * 1000) :=
  ⟨⟨(16383 * 4096 * 1000 + 1), (by decide +kernel)⟩,
   ⟨(16383 * 4096 * 1000), (by decide +kernel)⟩⟩

theorem test_witness_AppletJobStart :
    (∃ sh : Nat, isSteward sh = false) ∧
    (∃ sh : Nat, isSteward sh = false) ∧
    (∃ sh : Nat, isSteward sh = false) ∧
    (∃ sh : Nat, isSteward sh = false) :=
  ⟨⟨191, (by decide +kernel)⟩,
   ⟨191, (by decide +kernel)⟩,
   ⟨191, (by decide +kernel)⟩,
   ⟨191, (by decide +kernel)⟩⟩

theorem test_witness_ActivateOutcomes :
    (∃ s : State, ∃ id : Nat, ∃ c : Cmd, Admitted s 0x51 id c ∧ loadedGen s c.fn (wd c.words 8 % 2) ≠ some (wd
      c.words 9 % 256)) ∧
    (∃ s : State, ∃ id : Nat, ∃ c : Cmd, Admitted s 0x51 id c ∧ loadedGen s c.fn (wd c.words 8 % 2) = some (wd
      c.words 9 % 256) ∧ (realmRow s c.fn).active = some (wd c.words 8 % 2)) ∧
    (∃ s : State, ∃ id : Nat, ∃ c : Cmd, Admitted s 0x51 id c ∧ loadedGen s c.fn (wd c.words 8 % 2) = some (wd
      c.words 9 % 256) ∧ (realmRow s c.fn).active ≠ some (wd c.words 8 % 2) ∧ genWindowBad s.led.agCount c.fn (wd
      c.words 9 % 256) = true) ∧
    (∃ s : State, ∃ id : Nat, ∃ c : Cmd, Admitted s 0x51 id c ∧ loadedGen s c.fn (wd c.words 8 % 2) = some (wd
      c.words 9 % 256) ∧ (realmRow s c.fn).active ≠ some (wd c.words 8 % 2) ∧ genWindowBad s.led.agCount c.fn (wd
      c.words 9 % 256) = false) ∧
    (∃ g : Nat, g < 256) :=
  ⟨⟨(wBank (wAt (wC 0x51 1 [(9, 8)])) (none)), 1, (wC 0x51 1 [(9, 8)]), wAdmitted (by decide +kernel),
     (by decide +kernel)⟩,
   ⟨(wBank (wAt (wC 0x51 1 [(9, 7)])) (some 0)), 1, (wC 0x51 1 [(9, 7)]), wAdmitted (by decide +kernel),
     (by decide +kernel), (by decide +kernel)⟩,
   ⟨({ wBank (wAt (wC 0x51 1 [(9, 7)])) (none) with led := { wS.led with agCount := [(264, 1)] } }), 1, (wC 0x51 1
     [(9, 7)]), wAdmitted (by decide +kernel), (by decide +kernel), (by decide +kernel), (by decide +kernel)⟩,
   ⟨(wBank (wAt (wC 0x51 1 [(9, 7)])) (none)), 1, (wC 0x51 1 [(9, 7)]), wAdmitted (by decide +kernel),
     (by decide +kernel), (by decide +kernel), (by decide +kernel)⟩,
   ⟨255, (by decide +kernel)⟩⟩

theorem test_witness_CrcRule :
    (∃ r : List Word, r.length = 16) ∧
    (∃ r : List Word, r.length = 16) ∧
    (∃ r : Reply, r.results.length ≤ 7) :=
  ⟨⟨(wImg 3), (by decide +kernel)⟩,
   ⟨(wImg 3), (by decide +kernel)⟩,
   ⟨(wReply 0x01 false), (by decide +kernel)⟩⟩

theorem test_witness_Doorbells :
    (∃ s : State, ∃ fn : Nat, ∃ p : Nat, ∃ v : Nat, p ≤ 8 ∧ barWrites s fn = true ∧ (getPair s fn p).live = true ∧
      (getPair s fn p).enable = true ∧ v ≤ (getPair s fn p).sqSize ∧ v < 4096) ∧
    (∃ s : State, ∃ fn : Nat, ∃ p : Nat, ∃ v : Nat, p ≤ 8 ∧ barWrites s fn = true ∧ (getPair s fn p).live = true ∧
      (getPair s fn p).enable = true ∧ (getPair s fn p).sqSize < v ∧ v < 4096 ∧ (getPair s fn p).fault = 0) ∧
    (∃ s : State, ∃ fn : Nat, ∃ p : Nat, p ≤ 8 ∧ barWrites s fn = true ∧ (getPair s fn p).live = false) ∧
    (∃ s : State, ∃ fn : Nat, ∃ p : Nat, ∃ v : Nat, p ≤ 8 ∧ barWrites s fn = true ∧ (getPair s fn p).live = true ∧ v
      ≤ (getPair s fn p).cqSize ∧ v < 4096 ∧ v ≠ (getPair s fn p).cqHead ∧ (getPair s fn p).cqHead ≤ (getPair s fn
      p).cqSize) ∧
    (∃ s : State, ∃ fn : Nat, barWrites s fn = false) ∧
    (∃ s : State, ∃ fn : Nat, ∃ p : Nat, ∃ w : Nat, p ≤ 8 ∧ barWrites s fn = true ∧ (getPair s fn p).enable = false ∧
      (getPair s fn p).live = false ∧ w < 65536 ∧ pairFault s fn
      { getPair s fn p with vector := w / 256 % 64, enable := true } = 0) ∧
    (∃ s : State, ∃ fn : Nat, ∃ p : Nat, ∃ w : Nat, ∃ f : Nat, p ≤ 8 ∧ barWrites s fn = true ∧ (getPair s fn
      p).enable = false ∧ (getPair s fn p).live = false ∧ w < 65536 ∧ pairFault s fn
      { getPair s fn p with vector := w / 256 % 64, enable := true } = f + 1) ∧
    (∃ s : State, ∃ fn : Nat, ∃ p : Nat, ∃ w : Nat, p ≤ 8 ∧ barWrites s fn = true ∧ (getPair s fn p).enable = true ∧
      w / 256 % 64 = (getPair s fn p).vector) :=
  ⟨⟨(wPair { enable := true, sqSize := 4095 }), 1, 0, 4095, (by decide +kernel), (by decide +kernel),
     (by decide +kernel), (by decide +kernel), (by decide +kernel), (by decide +kernel)⟩,
   ⟨(wPair { enable := true, sqSize := 63 }), 1, 0, 64, (by decide +kernel), (by decide +kernel),
     (by decide +kernel), (by decide +kernel), (by decide +kernel), (by decide +kernel), (by decide +kernel)⟩,
   ⟨wS, 1, 0, (by decide +kernel), (by decide +kernel), (by decide +kernel)⟩,
   ⟨(wPair { cqSize := 63, cqHead := 60 }), 1, 0, 2, (by decide +kernel), (by decide +kernel), (by decide +kernel),
     (by decide +kernel), (by decide +kernel), (by decide +kernel), (by decide +kernel)⟩,
   ⟨State.reset, 1, (by decide +kernel)⟩,

     ⟨({ wS with host := { wS.host with fns := [(1, { windows := [(0, { base := 0x1000, pages := 2, read := true, write := true, enable := true, live := true })], pairs := [(0, { sqBase := 0x1000, cqBase := 0x2000, sqSize := 1, cqSize := 1 })] })] } }),
     1, 0, 0x301, (by decide +kernel), (by decide +kernel), (by decide +kernel), (by decide +kernel),
     (by decide +kernel), (by decide +kernel)⟩,

     ⟨({ wS with host := { wS.host with fns := [(1, { windows := [(0, { base := 0x1000, pages := 2, read := true, write := true, enable := true, live := true })], pairs := [(0, { sqBase := 0x1000, cqBase := 0x2000, sqSize := 1, cqSize := 1 })] })] } }),
     1, 0, 0x401, (3 - 1), (by decide +kernel), (by decide +kernel), (by decide +kernel), (by decide +kernel),
     (by decide +kernel), (by decide +kernel)⟩,
   ⟨(wPair { enable := true }), 1, 0, 0, (by decide +kernel), (by decide +kernel), (by decide +kernel),
     (by decide +kernel)⟩⟩

theorem test_witness_WindowEnable :
    (∃ s : State, ∃ fn : Nat, ∃ w : Nat, ∃ v : Nat, w ≤ 15 ∧ barWrites s fn = true ∧ (getWin s fn w).enable = false ∧
      winFault { getWin s fn w with read := bit v 1, write := bit v 2, enable := true } = 0) ∧
    (∃ s : State, ∃ fn : Nat, ∃ w : Nat, ∃ v : Nat, ∃ f : Nat, w ≤ 15 ∧ barWrites s fn = true ∧ (getWin s fn
      w).enable = false ∧ winFault { getWin s fn w with read := bit v 1, write := bit v 2, enable := true } = f + 1) ∧
    (∃ s : State, ∃ fn : Nat, ∃ w : Nat, ∃ v : Nat, w ≤ 15 ∧ barWrites s fn = true ∧ (getWin s fn w).enable = true ∧
      bit v 1 = (getWin s fn w).read ∧ bit v 2 = (getWin s fn w).write ∧ winInUse s fn (getWin s fn w) = false) ∧
    (∃ s : State, ∃ fn : Nat, ∃ w : Nat, ∃ v : Nat, w ≤ 15 ∧ barWrites s fn = true ∧ (getWin s fn w).enable = true ∧
      bit v 1 = (getWin s fn w).read ∧ bit v 2 = (getWin s fn w).write ∧ winInUse s fn (getWin s fn w) = true) :=
  ⟨⟨({ wS with host := { wS.host with fns := [(1, { windows := [(15, { base := 0x1000, pages := 1 })], pairs := [] })] } }),
     1, 15, 7, (by decide +kernel), (by decide +kernel), (by decide +kernel), (by decide +kernel)⟩,
   ⟨wS, 1, 15, 7, 0, (by decide +kernel), (by decide +kernel), (by decide +kernel), (by decide +kernel)⟩,

     ⟨({ wS with host := { wS.host with fns := [(1, { windows := [(15, { base := 0x1000, pages := 1, enable := true, read := true, live := true })], pairs := [] })] } }),
     1, 15, 2, (by decide +kernel), (by decide +kernel), (by decide +kernel), (by decide +kernel),
     (by decide +kernel), (by decide +kernel)⟩,

     ⟨({ wS with host := { wS.host with fns := [(1, { windows := [(15, { base := 0x1000, pages := 1, enable := true, read := true, live := true })], pairs := [(0, { live := true, sqBase := 0x1000, sqSize := 1 })] })] } }),
     1, 15, 2, (by decide +kernel), (by decide +kernel), (by decide +kernel), (by decide +kernel),
     (by decide +kernel), (by decide +kernel)⟩⟩

theorem test_witness_ReadsComplete :
    (∃ s : State, ∃ fn : Nat, ∃ p : Nat, ∃ w : List Word, ∃ i : Nat, ∃ t : Nat, ∃ r : List (Nat × Nat), alive s =
      true ∧ (getPair s fn p).fetching = (i, t) :: r ∧ s.now ≤ t + 10 ∧ w.length = 32) ∧
    (∃ s : State, ∃ fn : Nat, ∃ p : Nat, ∃ i : Nat, ∃ t : Nat, ∃ r : List (Nat × Nat), alive s = true ∧ (getPair s fn
      p).fetching = (i, t) :: r ∧ s.now ≤ t + 10 ∧ (getPair s fn p).fault = 0) ∧
    (∃ s : State, ∃ fn : Nat, ∃ p : Nat, alive s = true ∧ (getPair s fn p).fetching = []) ∧
    (∃ s : State, ∃ fn : Nat, ∃ p : Nat, ∃ i : Nat, ∃ t : Nat, ∃ r : List (Nat × Nat), alive s = true ∧ (getPair s fn
      p).fetching = (i, t) :: r ∧ t + 10 < s.now) ∧
    (∃ s : State, ∃ id : Nat, ∃ k : Nat, ∃ fn : Nat, alive s = true ∧ cmdOf s id = none ∧ s.cmds.lateReads = [(id, k,
      fn)]) ∧
    (∃ s : State, ∃ dt : Nat, ∃ fn : Nat, ∃ p : Nat, ∃ i : Nat, ∃ t : Nat, ∃ r : List (Nat × Nat), alive (passTime dt
      s) = true ∧ (getPair (passTime dt s) fn p).fetching = (i, t) :: r ∧ t + 10 ≤ (passTime dt s).now ∧ (getPair
      (passTime dt s) fn p).fault = 0) ∧
    (∃ s : State, ∃ dt : Nat, ∃ id : Nat, ∃ c : Cmd, ∃ k : Nat, alive (passTime dt s) = true ∧ cmdOf (passTime dt s)
      id = some c ∧ readPending c = some k ∧ (passTime dt s).jn.stopped = false ∧ c.admitAt + readDeadline c.cls ≤
      (passTime dt s).now) ∧
    (∃ s : State, ∃ id : Nat, ∃ c : Cmd, ∃ k : Nat, alive s = true ∧ cmdOf s id = some c ∧ s.jn.stopped = false ∧
      (descDirs c.words).getD k true = false ∧ inData c k = none ∧ s.now ≤ c.admitAt + readDeadline c.cls) ∧
    (∃ s : State, ∃ id : Nat, ∃ c : Cmd, ∃ k : Nat, alive s = true ∧ cmdOf s id = some c ∧ s.jn.stopped = false ∧
      (descDirs c.words).getD k true = false ∧ inData c k = none ∧ s.now ≤ c.admitAt + readDeadline c.cls) :=
  ⟨⟨(wPair { fetching := [(3, 99990)] }), 1, 0, (List.replicate 32 0), 3, 99990, [], (by decide +kernel),
     (by decide +kernel), (by decide +kernel), (by decide +kernel)⟩,
   ⟨(wPair { fetching := [(3, 99990)] }), 1, 0, 3, 99990, [], (by decide +kernel), (by decide +kernel),
     (by decide +kernel), (by decide +kernel)⟩,
   ⟨wS, 1, 0, (by decide +kernel), (by decide +kernel)⟩,
   ⟨(wPair { fetching := [(3, 99980)] }), 1, 0, 3, 99980, [], (by decide +kernel), (by decide +kernel),
     (by decide +kernel)⟩,
   ⟨({ wS with cmds := { wS.cmds with lateReads := [(2, 0, 1)] } }), 2, 0, 1, (by decide +kernel),
     (by decide +kernel), (by decide +kernel)⟩,
   ⟨(wPair { fetching := [(3, 99990)] }), 0, 1, 0, 3, 99990, [], (by decide +kernel), (by decide +kernel),
     (by decide +kernel), (by decide +kernel)⟩,
   ⟨(wAt (wC 0x30 1 [])), 2, 1, (wC 0x30 1 []), 0, (by decide +kernel), (by decide +kernel), (by decide +kernel),
     (by decide +kernel), (by decide +kernel)⟩,
   ⟨(wAt (wC 0x30 1 [])), 1, (wC 0x30 1 []), 0, (by decide +kernel), (by decide +kernel), (by decide +kernel),
     (by decide +kernel), (by decide +kernel), (by decide +kernel)⟩,
   ⟨(wAt (wC 0x30 1 [])), 1, (wC 0x30 1 []), 0, (by decide +kernel), (by decide +kernel), (by decide +kernel),
     (by decide +kernel), (by decide +kernel), (by decide +kernel)⟩⟩

theorem test_witness_ReleaseInstants :
    (∃ s : State, ∃ dt : Nat, ∃ id : Nat, ∃ c : Cmd, ∃ t : Nat, alive (passTime dt s) = true ∧ cmdOf (passTime dt s)
      id = some c ∧ c.lookupAt = some t ∧ (passTime dt s).jn.stopped = false ∧ c.lookupDone = false ∧ t + 3 ≤
      (passTime dt s).now) ∧
    (∃ s : State, ∃ dt : Nat, ∃ id : Nat, ∃ c : Cmd, ∃ t : Nat, cmdOf (passTime dt s) id = some c ∧ c.lookupAt = some
      t ∧ (passTime dt s).now < t + 3) ∧
    (∃ s : State, ∃ dt : Nat, ∃ r : Reply, (passTime dt s).cmds.replies = [r] ∧ r.held = true ∧ r.opcode ≠ 0x40) ∧
    (∃ s : State, ∃ dt : Nat, ∃ r : Reply, (passTime dt s).cmds.replies = [r] ∧ r.held = true ∧ r.opcode = 0x40) ∧
    (∃ s : State, ∃ r : Reply, s.cmds.replies = [r] ∧ replyReady s r = true ∧ r.silentOk = false) ∧
    (∃ s : State, ∃ r : Reply, s.cmds.replies = [r] ∧ replyReady s r = true ∧ r.silentOk = true ∧ r.status = 0) ∧
    (∃ s : State, (∀ r ∈ s.cmds.replies, replyReady s r = false)) ∧
    (∃ r : Reply, r.id = none ∧ r.silentOk = false ∧ r.outs = []) :=
  ⟨⟨(wAt ({ wC 0x13 1 [(8, 3), (10, 1)] with lookupAt := some 99997, lookupDone := false })), 0, 1,
     ({ wC 0x13 1 [(8, 3), (10, 1)] with lookupAt := some 99997, lookupDone := false }), 99997, (by decide +kernel),
     (by decide +kernel), (by decide +kernel), (by decide +kernel), (by decide +kernel), (by decide +kernel)⟩,
   ⟨(wAt ({ wC 0x13 1 [(8, 3), (10, 1)] with lookupAt := some 99998, lookupDone := false })), 0, 1,
     ({ wC 0x13 1 [(8, 3), (10, 1)] with lookupAt := some 99998, lookupDone := false }), 99998, (by decide +kernel),
     (by decide +kernel), (by decide +kernel)⟩,
   ⟨({ wS with cmds := { wS.cmds with replies := [wReply 0x13 true] } }), 0, (wReply 0x13 true), (by decide +kernel),
     (by decide +kernel), (by decide +kernel)⟩,
   ⟨({ wS with cmds := { wS.cmds with replies := [wReply 0x40 true] } }), 0, (wReply 0x40 true), (by decide +kernel),
     (by decide +kernel), (by decide +kernel)⟩,
   ⟨({ wS with cmds := { wS.cmds with replies := [wReply 0x11 false] } }), (wReply 0x11 false), (by decide +kernel),
     (by decide +kernel), (by decide +kernel)⟩,
   ⟨({ wS with cmds := { wS.cmds with replies := [{ wReply 0x11 false with silentOk := true }] } }),
     ({ wReply 0x11 false with silentOk := true }), (by decide +kernel), (by decide +kernel), (by decide +kernel),
     (by decide +kernel)⟩,
   ⟨wS, (by decide +kernel)⟩,
   ⟨(wReply 0x11 false), (by decide +kernel), (by decide +kernel), (by decide +kernel)⟩⟩

theorem test_witness_InterruptRegisters :
    (∃ s : State, barOpen s 0 = true ∧ writesDropped s 0 0x1010 = false) ∧
    (∃ s : State, barOpen s 0 = true ∧ writesDropped s 0 0x1014 = false) ∧
    (∃ s : State, barOpen s 0 = true ∧ writesDropped s 0 0x101C = false) ∧
    (∃ s : State, barOpen s 0 = true ∧ writesDropped s 0 0x1020 = false) ∧
    (∃ s : State, ∃ n : Nat, n < 512 ∧ barOpen s 0 = true ∧ writesDropped s 0 0x1034 = false ∧ s.ic.insvc.getLsbD n =
      true) ∧
    (∃ s : State, ∃ n : Nat, n < 512 ∧ barOpen s 0 = true ∧ writesDropped s 0 0x1034 = false ∧ s.ic.insvc.getLsbD n =
      false) :=
  ⟨⟨({ wS with ic := { wS.ic with insvc := 1#512 <<< 3 } }), (by decide +kernel), (by decide +kernel)⟩,
   ⟨({ wS with ic := { wS.ic with insvc := 1#512 <<< 3 } }), (by decide +kernel), (by decide +kernel)⟩,
   ⟨({ wS with ic := { wS.ic with insvc := 1#512 <<< 3 } }), (by decide +kernel), (by decide +kernel)⟩,
   ⟨({ wS with ic := { wS.ic with insvc := 1#512 <<< 3 } }), (by decide +kernel), (by decide +kernel)⟩,
   ⟨({ wS with ic := { wS.ic with insvc := 1#512 <<< 511 } }), 511, (by decide +kernel), (by decide +kernel),
     (by decide +kernel), (by decide +kernel)⟩,
   ⟨({ wS with ic := { wS.ic with insvc := 1#512 <<< 3 } }), 511, (by decide +kernel), (by decide +kernel),
     (by decide +kernel), (by decide +kernel)⟩⟩

theorem test_witness_RegisterReads :
    (∃ s : State, ∃ fn : Nat, ∃ off : Nat, ∃ v : Nat, barOpen s fn = true ∧ ¬(fn = 0 ∧ off = 0x2008) ∧ barReg s fn
      off = some v ∧ readsZero s fn off = false ∧ latchedWith fn off = [] ∧ mfind (getFn s fn).latches off = none) ∧
    (∃ s : State, ∃ fn : Nat, ∃ off : Nat, ∃ v : Nat, ∃ x : Nat, barOpen s fn = true ∧ ¬(fn = 0 ∧ off = 0x2008) ∧
      barReg s fn off = some v ∧ readsZero s fn off = false ∧ latchedWith fn off = [] ∧ mfind (getFn s fn).latches
      off = some x) ∧
    (∃ s : State, ∃ fn : Nat, ∃ off : Nat, ∃ v : Nat, barOpen s fn = true ∧ ¬(fn = 0 ∧ off = 0x2008) ∧ barReg s fn
      off = some v ∧ readsZero s fn off = false) ∧
    (∃ k : Nat, k < 9) ∧
    (∃ s : State, ∃ fn : Nat, ∃ off : Nat, ∃ v : Nat, barOpen s fn = true ∧ readsZero s fn 0x2000 = false ∧ bar2Reg s
      fn off = some v) ∧
    (∃ s : State, ∃ fn : Nat, ∃ off : Nat, ∃ v : Nat, barOpen s fn = true ∧ readsZero s fn 0x2000 = false ∧ bar2Quad
      s fn off = some v) ∧
    (∃ s : State, ∃ fn : Nat, ∃ off : Nat, ∃ v : Nat, barOpen s fn = true ∧ ¬(fn = 0 ∧ off = 0x2008) ∧ barReg s fn
      off = some v ∧ readsZero s fn off = true ∧ s.glb.lifecycle ≠ 0xFF) ∧
    (∃ s : State, ∃ a : Nat, ∃ v : Nat, barOpen s 0 = true ∧ s.host.indAddr = a ∧ indirectReg s a = some v ∧
      readsZero s 0 0x2008 = false) ∧
    (∃ s : State, ∃ a : Nat, barOpen s 0 = true ∧ writesDropped s 0 0x2008 = false ∧ s.host.indAddr = a ∧ indirectReg
      s a = none ∧ s.glb.lifecycle ≠ 0xFF ∧ s.glb.service ≠ 6) ∧
    (∃ s : State, barOpen s 0 = true ∧ writesDropped s 0 0x2008 = false ∧ s.host.autoInc = true) ∧
    (∃ s : State, ∃ fn : Nat, ∃ bar : Bar, ∃ addr : Nat, barOpen s fn = true ∧ s.glb.lifecycle ≠ 0xFF ∧ s.glb.service
      ≠ 6 ∧ (bar = .bar0 → barReg s fn addr = none ∧ ¬(fn = 0 ∧ addr = 0x2008)) ∧ (bar = .bar2 → bar2Reg s fn addr =
      none) ∧ (bar = .bar2Quad → bar2Quad s fn addr = none)) ∧
    (∃ s : State, ∃ fn : Nat, ∃ addr : Nat, barOpen s fn = true ∧ s.glb.lifecycle ≠ 0xFF ∧ s.glb.service ≠ 6 ∧ ¬(fn =
      0 ∧ (Bar.bar0) = .bar0 ∧ addr = 0x2008)) ∧
    (∃ s : State, ∃ fn : Nat, ∃ bar : Bar, ∃ addr : Nat, barOpen s fn = true ∧ s.glb.lifecycle ≠ 0xFF ∧ s.glb.service
      ≠ 6 ∧ ¬(fn = 0 ∧ bar = .bar0 ∧ addr = 0x2008)) ∧
    (∃ s : State, barOpen s 0 = true ∧ s.glb.lifecycle ≠ 0xFF ∧ s.glb.service ≠ 6) :=
  ⟨⟨wS, 0, 0x6008, 0x5F, (by decide +kernel), (by decide +kernel), (by decide +kernel), (by decide +kernel),
     (by decide +kernel), (by decide +kernel)⟩,
   ⟨({ wS with host := { wS.host with fns := [(0, { latches := [(0x8020, 5)] })] } }), 0, 0x8020, 0, 5,
     (by decide +kernel), (by decide +kernel), (by decide +kernel), (by decide +kernel), (by decide +kernel),
     (by decide +kernel)⟩,
   ⟨wS, 1, 0x40C, ((barReg wS 1 0x40C).getD 0), (by decide +kernel), (by decide +kernel), (by decide +kernel),
     (by decide +kernel)⟩,
   ⟨8, (by decide +kernel)⟩,
   ⟨wS, 1, 16, ((bar2Reg wS 1 16).getD 0), (by decide +kernel), (by decide +kernel), (by decide +kernel)⟩,
   ⟨wS, 1, 8, ((bar2Quad wS 1 8).getD 0), (by decide +kernel), (by decide +kernel), (by decide +kernel)⟩,
   ⟨({ wS with glb := { wS.glb with service := svLockdown } }), 1, 0x40C, ((barReg wS 1 0x40C).getD 0),
     (by decide +kernel), (by decide +kernel), (by decide +kernel), (by decide +kernel), (by decide +kernel)⟩,
   ⟨({ wS with host := { wS.host with indAddr := 0x100000 } }), 0x100000, ((indirectReg wS 0x100000).getD 0),
     (by decide +kernel), (by decide +kernel), (by decide +kernel), (by decide +kernel)⟩,
   ⟨({ wS with host := { wS.host with indAddr := 1 } }), 1, (by decide +kernel), (by decide +kernel),
     (by decide +kernel), (by decide +kernel), (by decide +kernel), (by decide +kernel)⟩,
   ⟨wS, (by decide +kernel), (by decide +kernel), (by decide +kernel)⟩,
   ⟨wS, 1, .bar0, 2, (by decide +kernel), (by decide +kernel), (by decide +kernel), (by decide +kernel),
     (by decide +kernel), (by decide +kernel)⟩,
   ⟨wS, 1, 0x40C, (by decide +kernel), (by decide +kernel), (by decide +kernel), (by decide +kernel)⟩,
   ⟨wS, 0, .bar2, 0x2008, (by decide +kernel), (by decide +kernel), (by decide +kernel), (by decide +kernel)⟩,
   ⟨wS, (by decide +kernel), (by decide +kernel), (by decide +kernel)⟩⟩

theorem test_witness_ConfigurationRule :
    (∃ s : State, ∃ v : Nat, v < 256 ∧ barOpen s 0 = true ∧ writesDropped s 0 0x6008 = false ∧ s.tm.enable = false) ∧
    (∃ s : State, ∃ v : Nat, v < 256 ∧ barOpen s 0 = true ∧ writesDropped s 0 0x6008 = false ∧ s.tm.enable = true ∧ v
      ≠ s.tm.warn) ∧
    (∃ s : State, (s.tm.warn) < 256 ∧ barOpen s 0 = true ∧ s.tm.enable = true) ∧
    (∃ s : State, ∃ v : Nat, v < 65536 ∧ barOpen s 0 = true ∧ writesDropped s 0 0x803C = false) ∧
    (∃ s : State, ∃ g : Nat, g < 10 ∧ barOpen s 0 = true ∧ writesDropped s 0 0x1800 = false ∧ mget none s.host.cfgCur
      g = none) ∧
    (∃ s : State, ∃ g : Nat, ∃ c : Nat, g < 10 ∧ barOpen s 0 = true ∧ writesDropped s 0 0x1800 = false ∧ mget none
      s.host.cfgCur g = some c) ∧
    (∃ s : State, alive s = true ∧ Phase.registers ∈ s.start.done ∧ s.host.cfgWalk < 15) ∧
    (∃ s : State, alive s = true ∧ Phase.registers ∈ s.start.done ∧ s.host.cfgWalk = 15) :=
  ⟨⟨({ wS with tm := { wS.tm with enable := false } }), 255, (by decide +kernel), (by decide +kernel),
     (by decide +kernel), (by decide +kernel)⟩,
   ⟨wS, 1, (by decide +kernel), (by decide +kernel), (by decide +kernel), (by decide +kernel), (by decide +kernel)⟩,
   ⟨wS, (by decide +kernel), (by decide +kernel), (by decide +kernel)⟩,
   ⟨wS, 65535, (by decide +kernel), (by decide +kernel), (by decide +kernel)⟩,
   ⟨wS, 9, (by decide +kernel), (by decide +kernel), (by decide +kernel), (by decide +kernel)⟩,
   ⟨({ wS with host := { wS.host with cfgCur := [(9, some 3)] } }), 9, 3, (by decide +kernel), (by decide +kernel),
     (by decide +kernel), (by decide +kernel)⟩,
   ⟨wS, (by decide +kernel), (by decide +kernel), (by decide +kernel)⟩,
   ⟨({ wS with host := { wS.host with cfgWalk := 15 } }), (by decide +kernel), (by decide +kernel),
     (by decide +kernel)⟩⟩

theorem test_witness_FunctionControls :
    (∃ s : State, ∃ fn : Nat, s.clk.supply = true ∧ fnThere s fn = true ∧ fn ≠ 0) ∧
    (∃ s : State, s.clk.supply = true ∧ s.host.linkUp = true) ∧
    (∃ s : State, ∃ fn : Nat, ∃ w : Nat, s.clk.supply = true ∧ fnThere s fn = true ∧ bit w 2 = true) ∧
    (∃ s : State, ∃ fn : Nat, ∃ w : Nat, s.clk.supply = true ∧ fnThere s fn = true ∧ bit w 2 = false ∧ (getFn (setFn
      fn { getFn s fn with memEn := bit w 1 } s) fn).busEn = false) ∧
    (∃ s : State, ∃ fn : Nat, ∃ w : Nat, s.clk.supply = true ∧ fnThere s fn = true ∧ bit w 2 = false ∧ (getFn (setFn
      fn { getFn s fn with memEn := bit w 1 } s) fn).busEn = true) ∧
    (∃ s : State, ∃ fn : Nat, s.clk.supply = true ∧ fnThere s fn = true) ∧
    (∃ s : State, ∃ fn : Nat, s.clk.supply = true ∧ fnThere s fn = true) ∧
    (∃ s : State, ∃ fn : Nat, s.clk.supply = true ∧ fnThere s fn = true ∧ (getFn s fn).d3 = true) ∧
    (∃ s : State, s.clk.supply = true ∧ s.glb.lifecycle = 0x0F) ∧
    (∃ s : State, ∃ num : Nat, s.clk.supply = true ∧ s.glb.lifecycle = 0x0F ∧ num ≤ 31) ∧
    (∃ s : State, s.clk.supply = true) ∧
    (∃ k : Nat, ∃ n : Nat, 0 < k ∧ n < 32 ∧ k ≤ n) ∧
    (∃ s : State, ∃ num : Nat, s.clk.supply = true ∧ s.glb.lifecycle ≠ 0x0F ∧ num ≤ 31) ∧
    (∃ s : State, ∃ fn : Nat, s.clk.supply = true ∧ fnThere s fn = true) ∧
    (∃ s : State, ∃ dt : Nat, ∃ w : Nat, ∃ g : Nat, (passTime dt s).clk.supply = true ∧ heldReset (passTime dt s) =
      false ∧ (w = 1 ∨ w = 2 ∨ w = 4 ∨ w = 8) ∧ 1 ≤ g ∧ g ≤ 5) ∧
    (∃ s : State, ∃ n : Nat, ∃ v : Nat, v < 64 ∧ (getFn s n).msixEn = true ∧ (getFn s n).busEn = true ∧ (getFn s
      n).d3 = false ∧ (getFn s n).fnMask = false ∧ (getFn s n).vecMask.getLsbD v = false) ∧
    (∃ s : State, ∃ n : Nat, ∃ v : Nat, v < 64 ∧ (getFn s n).msixEn = true ∧ (getFn s n).busEn = true ∧ (getFn s
      n).d3 = false ∧ ((getFn s n).fnMask = true ∨ (getFn s n).vecMask.getLsbD v = true)) ∧
    (∃ s : State, ∃ n : Nat, ∃ v : Nat, v < 64 ∧ (getFn s n).msixEn = true ∧ (getFn s n).busEn = true ∧ (getFn s
      n).d3 = false ∧ (getFn s n).fnMask = false ∧ (getFn s n).pba = 1#64 <<< v) :=
  ⟨⟨wS, 1, (by decide +kernel), (by decide +kernel), (by decide +kernel)⟩,
   ⟨wS, (by decide +kernel), (by decide +kernel)⟩,
   ⟨wS, 1, 4, (by decide +kernel), (by decide +kernel), (by decide +kernel)⟩,
   ⟨({ wS with host := { wS.host with fns := [(1, { busEn := false })] } }), 1, 0, (by decide +kernel),
     (by decide +kernel), (by decide +kernel), (by decide +kernel)⟩,
   ⟨({ wS with host := { wS.host with fns := [(1, { busEn := true })] } }), 1, 2, (by decide +kernel),
     (by decide +kernel), (by decide +kernel), (by decide +kernel)⟩,
   ⟨wS, 1, (by decide +kernel), (by decide +kernel)⟩,
   ⟨wS, 1, (by decide +kernel), (by decide +kernel)⟩,
   ⟨({ wS with host := { wS.host with fns := [(1, { d3 := true })] } }), 1, (by decide +kernel), (by decide +kernel),
     (by decide +kernel)⟩,
   ⟨wS, (by decide +kernel), (by decide +kernel)⟩,
   ⟨wS, 31, (by decide +kernel), (by decide +kernel), (by decide +kernel)⟩,
   ⟨wS, (by decide +kernel)⟩,
   ⟨1, 31, (by decide +kernel), (by decide +kernel), (by decide +kernel)⟩,
   ⟨({ wS with glb := { wS.glb with lifecycle := 3 } }), 31, (by decide +kernel), (by decide +kernel),
     (by decide +kernel)⟩,
   ⟨wS, 1, (by decide +kernel), (by decide +kernel)⟩,
   ⟨wS, 0, 8, 5, (by decide +kernel), (by decide +kernel), (by decide +kernel), (by decide +kernel),
     (by decide +kernel)⟩,
   ⟨({ wS with host := { wS.host with fns := [(1, { msixEn := true, busEn := true, vecMask := 0 })] } }), 1, 63,
     (by decide +kernel), (by decide +kernel), (by decide +kernel), (by decide +kernel), (by decide +kernel),
     (by decide +kernel)⟩,
   ⟨({ wS with host := { wS.host with fns := [(1, { msixEn := true, busEn := true, fnMask := true })] } }), 1, 63,
     (by decide +kernel), (by decide +kernel), (by decide +kernel), (by decide +kernel), (by decide +kernel)⟩,
   ⟨({ wS with host := { wS.host with fns := [(1, { msixEn := true, busEn := true, pba := 8, vecMask := 8 })] } }),
     1, 3, (by decide +kernel), (by decide +kernel), (by decide +kernel), (by decide +kernel), (by decide +kernel),
     (by decide +kernel)⟩⟩

theorem test_witness_ClockAndBallWrites :
    (∃ s : State, ∃ w : Nat, w < 65536 ∧ barOpen s 0 = true ∧ writesDropped s 0 0x7000 = false ∧ s.clk.sscEnable =
      false ∧ w / 2 % 4 < 3) ∧
    (∃ s : State, ∃ w : Nat, w < 65536 ∧ barOpen s 0 = true ∧ writesDropped s 0 0x7000 = false ∧ s.clk.sscEnable =
      true ∧ w / 2 % 4 = s.clk.sscDepth) ∧
    (∃ s : State, barOpen s 0 = true ∧ writesDropped s 0 0x7058 = false ∧ s.clk.cal < s.clk.calSet) ∧
    (∃ s : State, barOpen s 0 = true ∧ writesDropped s 0 0x7058 = false ∧ s.clk.calSet < s.clk.cal ∧ s.clk.cal ≤
      s.clk.calSet + 600) ∧
    (∃ s : State, barOpen s 0 = true ∧ writesDropped s 0 0x7058 = false ∧ s.clk.calSet + 600 < s.clk.cal) ∧
    (∃ s : State, barOpen s 0 = true ∧ writesDropped s 0 0x9000 = false ∧ s.pm.enable = false ∧ s.pm.svc =
      s.pm.inForce ∧ (∀ n, n < 64 → ballFault (mget 0x0041 s.pm.svc n) n = 0)) ∧
    (∃ s : State, ∃ n : Nat, barOpen s 0 = true ∧ writesDropped s 0 0x9000 = false ∧ s.pm.enable = false ∧ n < 64 ∧
      ballFault (mget 0x0041 s.pm.svc n) n ≠ 0 ∧ (∀ m, m < n → ballFault (mget 0x0041 s.pm.svc m) m = 0)) ∧
    (∃ s : State, barOpen s 0 = true ∧ writesDropped s 0 0x9000 = false ∧ s.pm.enable = false ∧ (∀ n, n < 64 →
      ballFault (mget 0x0041 s.pm.svc n) n = 0)) ∧
    (∃ s : State, ∃ l : Nat, l < 64 ∧ barOpen s 0 = true ∧ writesDropped s 0 0x2008 = false ∧ (getLane s l).phyEnable
      = true ∧ s.host.autoInc = false ∧ phyWord (getLane s l) = 0) ∧
    (∃ s : State, ∃ l : Nat, ∃ w : Nat, l < 64 ∧ w < 65536 ∧ barOpen s 0 = true ∧ writesDropped s 0 0x2008 = false ∧
      (getLane s l).phyEnable = true ∧ s.host.autoInc = false ∧ bits w 6 1 * 2 = phyWord (getLane s l)) ∧
    (∃ s : State, ∃ l : Nat, ∃ w : Nat, l < 64 ∧ w < 65536 ∧ barOpen s 0 = true ∧ writesDropped s 0 0x2008 = false ∧
      (getLane s l).phyEnable = true ∧ s.host.autoInc = false ∧ bits w 6 1 * 2 ≠ phyWord (getLane s l)) ∧
    (∃ s : State, (addrs s).Nodup ∧ s.card.removals + (addrs s).length ≤ 0xFFFF ∧ (∀ a ∈ addrs s, namedCard s a ≠
      none)) ∧
    (∃ s : State, ∃ w : Nat, w < 65536 ∧ barOpen s 0 = true ∧ writesDropped s 0 0xA000 = false ∧ w / 2 % 256 =
      s.card.clkDiv) ∧
    (∃ s : State, ∃ v : Nat, ∃ e : List Nat, v < 65536 ∧ barOpen s 0 = true ∧ writesDropped s 0 0x8044 = false ∧
      logFind s (putWord s.ob.sel 0 v) = some e) ∧
    (∃ s : State, ∃ v : Nat, v < 65536 ∧ barOpen s 0 = true ∧ writesDropped s 0 0x801C = false ∧ s.ob.cntEnable =
      false ∧ cntSelOk v = true) ∧
    (∃ s : State, ∃ v : Nat, v < 65536 ∧ barOpen s 0 = true ∧ writesDropped s 0 0x801C = false ∧ s.ob.cntEnable =
      false ∧ cntSelOk v = false) ∧
    (∃ s : State, s.ob.traceEnable = true ∧ s.tm.tripped = false ∧ s.clk.running = true ∧ s.ob.intake = [] ∧ 0 <
      (s.clk.era * 2 ^ 48 + s.clk.tos)) ∧
    (∃ s : State, alive s = true ∧ 0 < s.ob.pendingLost ∧ s.ob.intake = [] ∧ s.ob.traceEnable = true ∧ bit
      s.ob.traceTypes 7 = true) :=
  ⟨⟨({ wS with clk := { wS.clk with sscEnable := false } }), 4, (by decide +kernel), (by decide +kernel),
     (by decide +kernel), (by decide +kernel), (by decide +kernel)⟩,
   ⟨wS, 4, (by decide +kernel), (by decide +kernel), (by decide +kernel), (by decide +kernel), (by decide +kernel)⟩,
   ⟨({ wS with clk := { wS.clk with calSet := 100001 } }), (by decide +kernel), (by decide +kernel),
     (by decide +kernel)⟩,
   ⟨({ wS with clk := { wS.clk with calSet := 99400 } }), (by decide +kernel), (by decide +kernel),
     (by decide +kernel), (by decide +kernel)⟩,
   ⟨({ wS with clk := { wS.clk with calSet := 99399 } }), (by decide +kernel), (by decide +kernel),
     (by decide +kernel)⟩,
   ⟨({ wS with pm := { wS.pm with enable := false } }), (by decide +kernel), (by decide +kernel),
     (by decide +kernel), (by decide +kernel), (by decide +kernel)⟩,
   ⟨({ wS with pm := { wS.pm with enable := false, svc := [(17, 0x51)] } }), 17, (by decide +kernel),
     (by decide +kernel), (by decide +kernel), (by decide +kernel), (by decide +kernel), (by decide +kernel)⟩,
   ⟨({ wS with pm := { wS.pm with enable := false } }), (by decide +kernel), (by decide +kernel),
     (by decide +kernel), (by decide +kernel)⟩,
   ⟨({ wS with host := { wS.host with autoInc := false }, lanes := [(63, { txSwing := 0, txDeemph := 0 })] }), 63,
     (by decide +kernel), (by decide +kernel), (by decide +kernel), (by decide +kernel), (by decide +kernel),
     (by decide +kernel)⟩,
   ⟨({ wS with host := { wS.host with autoInc := false }, lanes := [(63, { phyEnable := true })] }), 63, (phyWord
     {}), (by decide +kernel), (by decide +kernel), (by decide +kernel), (by decide +kernel), (by decide +kernel),
     (by decide +kernel), (by decide +kernel)⟩,
   ⟨({ wS with host := { wS.host with autoInc := false }, lanes := [(63, { phyEnable := true })] }), 63, 0,
     (by decide +kernel), (by decide +kernel), (by decide +kernel), (by decide +kernel), (by decide +kernel),
     (by decide +kernel), (by decide +kernel)⟩,
   ⟨(wCard []), (by decide +kernel), (by decide +kernel), (by decide +kernel)⟩,
   ⟨wS, 28, (by decide +kernel), (by decide +kernel), (by decide +kernel), (by decide +kernel)⟩,
   ⟨({ wS with ob := { wS.ob with log := [List.replicate 16 0] } }), 0, (List.replicate 16 0), (by decide +kernel),
     (by decide +kernel), (by decide +kernel), (by decide +kernel)⟩,
   ⟨({ wS with ob := { wS.ob with cntEnable := false } }), 0x21F, (by decide +kernel), (by decide +kernel),
     (by decide +kernel), (by decide +kernel), (by decide +kernel)⟩,
   ⟨({ wS with ob := { wS.ob with cntEnable := false } }), 0x220, (by decide +kernel), (by decide +kernel),
     (by decide +kernel), (by decide +kernel), (by decide +kernel)⟩,
   ⟨({ wS with ob := { wS.ob with traceEnable := true } }), (by decide +kernel), (by decide +kernel),
     (by decide +kernel), (by decide +kernel), (by decide +kernel)⟩,
   ⟨({ wS with ob := { wS.ob with traceEnable := true, pendingLost := 1 } }), (by decide +kernel),
     (by decide +kernel), (by decide +kernel), (by decide +kernel), (by decide +kernel)⟩⟩

theorem test_witness_TapInstructions :
    (∃ s : State, s.clk.supply = true) ∧
    (∃ s : State, s.clk.supply = true ∧ s.glb.lifecycle = 0x03) ∧
    (∃ s : State, s.clk.supply = true ∧ s.glb.lifecycle ≠ 0x03) ∧
    (∃ s : State, ∃ k : Nat, ∃ c : Instr, (k = 4 ∧ c = Instr.extest ∨ k = 5 ∧ c = Instr.clamp ∨ k = 6 ∧ c =
      Instr.highz) ∧ s.clk.supply = true ∧ s.glb.lifecycle = 0x03 ∧ heldReset s = false) ∧
    (∃ s : State, s.clk.supply = true ∧ s.tap.heldReset = true ∧ s.clk.powerFailHold = false ∧ s.clk.resetN = false ∧
      s.clk.perstN = false ∧ s.clk.testEn = false) :=
  ⟨⟨wS, (by decide +kernel)⟩,
   ⟨({ wS with glb := { wS.glb with lifecycle := 3 } }), (by decide +kernel), (by decide +kernel)⟩,
   ⟨wS, (by decide +kernel), (by decide +kernel)⟩,
   ⟨({ wS with glb := { wS.glb with lifecycle := 3 } }), 6, .highz, (by decide +kernel), (by decide +kernel),
     (by decide +kernel), (by decide +kernel)⟩,
   ⟨({ wS with tap := { wS.tap with heldReset := true } }), (by decide +kernel), (by decide +kernel),
     (by decide +kernel), (by decide +kernel), (by decide +kernel), (by decide +kernel)⟩⟩

theorem test_witness_FramePath :
    (∃ s : State, ∃ dt : Nat, alive (passTime dt s) = true ∧ (passTime dt s).jn.stopped = false ∧ (passTime dt
      s).jn.replayDone = true ∧ (passTime dt s).jn.tickAt + 4 ≤ (passTime dt s).now ∧ (passTime dt s).jn.openEntries
      ≠ []) ∧
    (∃ s : State, ∃ dt : Nat, alive (passTime dt s) = true ∧ (passTime dt s).jn.stopped = false ∧ (passTime dt
      s).jn.replayDone = true ∧ (passTime dt s).jn.tickAt + 4 ≤ (passTime dt s).now ∧ (passTime dt s).jn.openEntries
      = []) ∧
    (∃ s : State, s.jn.heldWork = []) ∧
    (∃ s : State, ∃ w : HeldWork, ∃ ws : List HeldWork, s.jn.heldWork = w :: ws ∧ s.jn.tickOther < 40 ∧ s.jn.stopped
      = false) ∧
    (∃ s : State, ∃ f : Frame, ∃ fs : List Frame, s.jn.inhibit = false ∧ s.keys.ledgerIn = true ∧ s.jn.flight = f ::
      fs ∧ f.stage = .closed) ∧
    (∃ s : State, ∃ f : Frame, ∃ fs : List Frame, s.jn.inhibit = false ∧ s.jn.flight = f :: fs ∧ f.stage = .sealed ∧
      (f.sealing = false ∨ s.jn.drained = true) ∧ f.no < min (tailFrame s) s.jn.outFrame + 524288) ∧
    (∃ s : State, ∃ f : Frame, ∃ fs : List Frame, s.jn.flight = f :: fs ∧ f.stage = .sealed ∧ (f.sealing = false ∨
      s.jn.drained = true) ∧ min (tailFrame s) s.jn.outFrame + 524288 ≤ f.no) ∧
    (∃ s : State, ∃ f : Frame, ∃ fs : List Frame, s.jn.inhibit = false ∧ s.jn.flight = f :: fs ∧ f.stage =
      .programmed) ∧
    (∃ s : State, s.jn.inhibit = true) :=
  ⟨⟨({ wS with jn := { wS.jn with openEntries := [[]] } }), 0, (by decide +kernel), (by decide +kernel),
     (by decide +kernel), (by decide +kernel), (by decide +kernel)⟩,
   ⟨wS, 0, (by decide +kernel), (by decide +kernel), (by decide +kernel), (by decide +kernel), (by decide +kernel)⟩,
   ⟨wS, (by decide +kernel)⟩,
   ⟨({ wS with jn := { wS.jn with heldWork := [.breaker 3 1] } }), (.breaker 3 1), [], (by decide +kernel),
     (by decide +kernel), (by decide +kernel)⟩,
   ⟨({ wS with jn := { wS.jn with flight := [⟨5, [], true, false, 0, 0, 0, .closed, []⟩] } }), (⟨5, [], true, false,
     0, 0, 0, .closed, []⟩), [], (by decide +kernel), (by decide +kernel), (by decide +kernel), (by decide +kernel)⟩,
   ⟨({ wS with jn := { wS.jn with flight := [⟨5, [], true, false, 0, 0, 0, .sealed, []⟩] } }), (⟨5, [], true, false,
     0, 0, 0, .sealed, []⟩), [], (by decide +kernel), (by decide +kernel), (by decide +kernel), (by decide +kernel),
     (by decide +kernel)⟩,
   ⟨({ wS with jn := { wS.jn with flight := [⟨524290, [], true, false, 0, 0, 0, .sealed, []⟩], outFrame := 2 } }),
     (⟨524290, [], true, false, 0, 0, 0, .sealed, []⟩), [], (by decide +kernel), (by decide +kernel),
     (by decide +kernel), (by decide +kernel)⟩,
   ⟨({ wS with jn := { wS.jn with flight := [⟨5, [], true, false, 0, 0, 0, .programmed, []⟩] } }), (⟨5, [], true,
     false, 0, 0, 0, .programmed, []⟩), [], (by decide +kernel), (by decide +kernel), (by decide +kernel)⟩,
   ⟨({ wS with jn := { wS.jn with inhibit := true } }), (by decide +kernel)⟩⟩

theorem test_witness_AppendPlaces :
    (∃ s : State, s.jn.openEntries.length < 59) ∧
    (∃ s : State, s.jn.openEntries.length = 59) :=
  ⟨⟨({ wS with jn := { wS.jn with openEntries := List.replicate 58 [] } }), (by decide +kernel)⟩,
   ⟨({ wS with jn := { wS.jn with openEntries := List.replicate 59 [] } }), (by decide +kernel)⟩⟩

theorem test_witness_BatchSteps :
    (∃ s : State, alive s = true ∧ mayWrite s = true ∧ s.jn.batches = [] ∧ batchPages (compactionOn s) ≠ [] ∧
      s.jn.tickOther < 40) ∧
    (∃ s : State, alive s = true ∧ mayWrite s = true ∧ s.jn.batches = [] ∧ batchPages (compactionOn s) ≠ [] ∧ 40 ≤
      s.jn.tickOther) ∧
    (∃ s : State, alive s = true ∧ mayWrite s = true ∧ s.jn.batches = [] ∧ batchPages (compactionOn s) = []) ∧
    (∃ s : State, alive s = true ∧ mayWrite s = false) ∧
    (∃ s : State, ∃ b : Batch, ∃ r : List Batch, alive s = true ∧ mayWrite s = true ∧ s.jn.batches = b :: r ∧
      b.unsent ≠ []) ∧
    (∃ s : State, (262144 ≤ spanEntries s ∨ 16384 ≤ spanFrameCount s)) ∧
    (∃ s : State, spanEntries s < 131072 ∧ spanFrameCount s < 8192 ∧ s.jn.compactNow = false) ∧
    (∃ s : State, spanEntries s < 262144 ∧ spanFrameCount s < 16384 ∧ (131072 ≤ spanEntries s ∨ 8192 ≤ spanFrameCount
      s)) ∧
    (∃ s : State, ∃ b : Batch, ∃ r : List Batch, alive s = true ∧ mayWrite s = true ∧ s.jn.batches = b :: r ∧ b.step
      = .opened ∧ b.unsent = [] ∧ b.waitFrame ≤ s.jn.durable) ∧
    (∃ s : State, ∃ b : Batch, ∃ r : List Batch, alive s = true ∧ mayWrite s = true ∧ s.jn.batches = b :: r ∧ b.step
      = .opened ∧ s.jn.durable < b.waitFrame) ∧
    (∃ s : State, ∃ b : Batch, ∃ r : List Batch, alive s = true ∧ mayWrite s = true ∧ s.jn.batches = b :: r ∧ b.step
      = .staged) ∧
    (∃ s : State, ∃ b : Batch, ∃ r : List Batch, alive s = true ∧ mayWrite s = true ∧ s.jn.batches = b :: r ∧ b.step
      = .committed) ∧
    (∃ s : State, ∃ b : Batch, ∃ r : List Batch, alive s = true ∧ mayWrite s = true ∧ s.jn.batches = b :: r ∧ b.step
      = .copied) ∧
    (∃ s : State, alive s = true ∧ mayWrite s = true ∧ s.realms.copyA.elim 0 RealmCopy.seq ≤ s.realms.copyB.elim 0
      RealmCopy.seq) ∧
    (∃ s : State, alive s = true ∧ mayWrite s = true ∧ s.realms.copyB.elim 0 RealmCopy.seq < s.realms.copyA.elim 0
      RealmCopy.seq) ∧
    (∃ s : State, alive s = true ∧ mayWrite s = true ∧ Phase.slots ∈ s.start.done ∧ s.keys.wiped = false) ∧
    (∃ s : State, dirSeq s.keys.dirA ≤ dirSeq s.keys.dirB) ∧
    (∃ s : State, dirSeq s.keys.dirB < dirSeq s.keys.dirA) ∧
    (∃ s : State, mayWrite s = true ∧ 8192 ≤ s.jn.realmFrames.length ∧ s.jn.keyFrames.length < 8192) ∧
    (∃ s : State, s.jn.realmFrames.length < 8192 ∧ 8192 ≤ s.jn.keyFrames.length) ∧
    (∃ s : State, s.jn.realmFrames.length < 8192 ∧ s.jn.keyFrames.length < 8192) ∧
    (∃ s : State, alive s = true ∧ mayWrite s = false) :=
  ⟨⟨({ wS with jn := { wS.jn with compacting := true, compactNow := true } }), (by decide +kernel),
     (by decide +kernel), (by decide +kernel), (by decide +kernel), (by decide +kernel)⟩,
   ⟨({ wS with jn := { wS.jn with compacting := true, compactNow := true, tickOther := 40 } }), (by decide +kernel),
     (by decide +kernel), (by decide +kernel), (by decide +kernel), (by decide +kernel)⟩,
   ⟨wS, (by decide +kernel), (by decide +kernel), (by decide +kernel), (by decide +kernel)⟩,
   ⟨({ wS with jn := { wS.jn with inhibit := true } }), (by decide +kernel), (by decide +kernel)⟩,

     ⟨({ wS with jn := { wS.jn with batches := [{ no := 1, pages := [], stageFirst := 0, stageCount := 0, openFrame := 1, waitFrame := 0, step := .opened, staged := [], newRoot := none, unsent := [[]] }] } }),
     ({ no := 1, pages := [], stageFirst := 0, stageCount := 0, openFrame := 1, waitFrame := 0, step := .opened, staged := [], newRoot := none, unsent := [[]] }),
     [], (by decide +kernel), (by decide +kernel), (by decide +kernel), (by decide +kernel)⟩,
   ⟨({ wS with jn := { wS.jn with spanFrames := [(5, 262144)], durable := 5 } }), (by decide +kernel)⟩,
   ⟨wS, (by decide +kernel), (by decide +kernel), (by decide +kernel)⟩,
   ⟨({ wS with jn := { wS.jn with spanFrames := [(5, 131072)], durable := 5 } }), (by decide +kernel),
     (by decide +kernel), (by decide +kernel)⟩,

     ⟨({ wS with jn := { wS.jn with batches := [{ no := 1, pages := [], stageFirst := 0, stageCount := 0, openFrame := 1, waitFrame := 0, step := .opened, staged := [], newRoot := none }] } }),
     ({ no := 1, pages := [], stageFirst := 0, stageCount := 0, openFrame := 1, waitFrame := 0, step := .opened, staged := [], newRoot := none }),
     [], (by decide +kernel), (by decide +kernel), (by decide +kernel), (by decide +kernel), (by decide +kernel),
     (by decide +kernel)⟩,

     ⟨({ wS with jn := { wS.jn with batches := [{ no := 1, pages := [], stageFirst := 0, stageCount := 0, openFrame := 1, waitFrame := 1, step := .opened, staged := [], newRoot := none }] } }),
     ({ no := 1, pages := [], stageFirst := 0, stageCount := 0, openFrame := 1, waitFrame := 1, step := .opened, staged := [], newRoot := none }),
     [], (by decide +kernel), (by decide +kernel), (by decide +kernel), (by decide +kernel), (by decide +kernel)⟩,

     ⟨({ wS with jn := { wS.jn with batches := [{ no := 1, pages := [], stageFirst := 0, stageCount := 0, openFrame := 1, waitFrame := 0, step := .staged, staged := [], newRoot := none }] } }),
     ({ no := 1, pages := [], stageFirst := 0, stageCount := 0, openFrame := 1, waitFrame := 0, step := .staged, staged := [], newRoot := none }),
     [], (by decide +kernel), (by decide +kernel), (by decide +kernel), (by decide +kernel)⟩,

     ⟨({ wS with jn := { wS.jn with batches := [{ no := 1, pages := [], stageFirst := 0, stageCount := 0, openFrame := 1, waitFrame := 0, step := .committed, staged := [], newRoot := none }] } }),
     ({ no := 1, pages := [], stageFirst := 0, stageCount := 0, openFrame := 1, waitFrame := 0, step := .committed, staged := [], newRoot := none }),
     [], (by decide +kernel), (by decide +kernel), (by decide +kernel), (by decide +kernel)⟩,

     ⟨({ wS with jn := { wS.jn with batches := [{ no := 1, pages := [], stageFirst := 0, stageCount := 0, openFrame := 1, waitFrame := 0, step := .copied, staged := [], newRoot := none }] } }),
     ({ no := 1, pages := [], stageFirst := 0, stageCount := 0, openFrame := 1, waitFrame := 0, step := .copied, staged := [], newRoot := none }),
     [], (by decide +kernel), (by decide +kernel), (by decide +kernel), (by decide +kernel)⟩,
   ⟨wS, (by decide +kernel), (by decide +kernel), (by decide +kernel)⟩,
   ⟨({ wS with realms := { wS.realms with copyA := some ⟨0, 1, ⟨0, []⟩⟩ } }), (by decide +kernel),
     (by decide +kernel), (by decide +kernel)⟩,
   ⟨wS, (by decide +kernel), (by decide +kernel), (by decide +kernel), (by decide +kernel)⟩,
   ⟨wS, (by decide +kernel)⟩,
   ⟨({ wS with keys := { wS.keys with dirA := some (dirBytes 0 1 0 0 (fun _ => (0, 0))) } }), (by decide +kernel)⟩,
   ⟨({ wS with jn := { wS.jn with realmFrames := List.replicate 8192 0 } }), (by decide +kernel),
     (Nat.le_of_eq List.length_replicate.symm), (by decide +kernel)⟩,
   ⟨({ wS with jn := { wS.jn with keyFrames := List.replicate 8192 0 } }), (by decide +kernel),
     (Nat.le_of_eq List.length_replicate.symm)⟩,
   ⟨wS, (by decide +kernel), (by decide +kernel)⟩,
   ⟨({ wS with jn := { wS.jn with inhibit := true } }), (by decide +kernel), (by decide +kernel)⟩⟩

theorem test_witness_LedgerTimers :
    (∃ s : State, ∃ dt : Nat, ∃ slot : Nat, alive (passTime dt s) = true ∧ (passTime dt s).jn.stopped = false ∧
      (passTime dt s).glb.holdupOk = true ∧ (passTime dt s).glb.service = 2 ∧ slot ∈ (passTime dt s).led.hold ∧
      timedOut (passTime dt s) (imageAt (passTime dt s) slot) = true ∧ (passTime dt s).jn.tickOther < 40 ∧ ((passTime
      dt s).led.reserveAt = (passTime dt s).now → (passTime dt s).led.reserveUsed < 16)) ∧
    (∃ s : State, ∃ dt : Nat, ∃ slot : Nat, alive (passTime dt s) = true ∧ (passTime dt s).jn.stopped = false ∧
      (passTime dt s).glb.holdupOk = true ∧ (passTime dt s).glb.service = 2 ∧ slot ∈ (passTime dt s).led.hold ∧
      timedOut (passTime dt s) (imageAt (passTime dt s) slot) = true ∧ (40 ≤ (passTime dt s).jn.tickOther ∨
      ((passTime dt s).led.reserveAt = (passTime dt s).now ∧ 16 ≤ (passTime dt s).led.reserveUsed))) ∧
    (∃ s : State, ∃ dt : Nat, ∃ slot : Nat, alive (passTime dt s) = true ∧ timedOut (passTime dt s) (imageAt
      (passTime dt s) slot) = false) ∧
    (∃ s : State, ∃ dt : Nat, ∃ failed : Bool, alive (passTime dt s) = true ∧ (passTime dt s).jn.stopped = false ∧
      (passTime dt s).glb.service = 2 ∧ ((passTime dt s).led.reserveAt = (passTime dt s).now → (passTime dt
      s).led.reserveUsed < 16) ∧ quarOf (passTime dt s) (passTime dt s).led.sweep = none ∧ slotGood (readSlot failed
      (passTime dt s).led.sweep (useLookup (passTime dt s))) (passTime dt s).led.sweep = false) ∧
    (∃ s : State, ∃ dt : Nat, ∃ failed : Bool, alive (passTime dt s) = true ∧ (passTime dt s).jn.stopped = false ∧
      (passTime dt s).glb.service = 2 ∧ ((passTime dt s).led.reserveAt = (passTime dt s).now → (passTime dt
      s).led.reserveUsed < 16) ∧ quarOf (passTime dt s) (passTime dt s).led.sweep = none ∧ slotGood (readSlot failed
      (passTime dt s).led.sweep (useLookup (passTime dt s))) (passTime dt s).led.sweep = true ∧ timedOut (readSlot
      failed (passTime dt s).led.sweep (useLookup (passTime dt s))) (imageAt (readSlot failed (passTime dt
      s).led.sweep (useLookup (passTime dt s))) (passTime dt s).led.sweep) = false ∧ rState (imageAt (readSlot failed
      (passTime dt s).led.sweep (useLookup (passTime dt s))) (passTime dt s).led.sweep) = 3 ∧ recBase (readSlot
      failed (passTime dt s).led.sweep (useLookup (passTime dt s))) (imageAt (readSlot failed (passTime dt
      s).led.sweep (useLookup (passTime dt s))) (passTime dt s).led.sweep) ≤ (readSlot failed (passTime dt
      s).led.sweep (useLookup (passTime dt s))).clk.cal ∧ ended (imageAt (readSlot failed (passTime dt s).led.sweep
      (useLookup (passTime dt s))) (passTime dt s).led.sweep) (dayE (readSlot failed (passTime dt s).led.sweep
      (useLookup (passTime dt s))).clk.cal (recBase (readSlot failed (passTime dt s).led.sweep (useLookup (passTime
      dt s))) (imageAt (readSlot failed (passTime dt s).led.sweep (useLookup (passTime dt s))) (passTime dt
      s).led.sweep))) = true) ∧
    (∃ s : State, ∃ dt : Nat, ∃ failed : Bool, alive (passTime dt s) = true ∧ (passTime dt s).jn.stopped = false ∧
      (passTime dt s).glb.service = 2 ∧ ((passTime dt s).led.reserveAt = (passTime dt s).now → (passTime dt
      s).led.reserveUsed < 16) ∧ quarOf (passTime dt s) (passTime dt s).led.sweep = none ∧ slotGood (readSlot failed
      (passTime dt s).led.sweep (useLookup (passTime dt s))) (passTime dt s).led.sweep = true ∧ timedOut (readSlot
      failed (passTime dt s).led.sweep (useLookup (passTime dt s))) (imageAt (readSlot failed (passTime dt
      s).led.sweep (useLookup (passTime dt s))) (passTime dt s).led.sweep) = true) ∧
    (∃ s : State, ∃ dt : Nat, ∃ failed : Bool, alive (passTime dt s) = true ∧ (passTime dt s).jn.stopped = false ∧
      (passTime dt s).glb.service = 2 ∧ ((passTime dt s).led.reserveAt = (passTime dt s).now → (passTime dt
      s).led.reserveUsed < 16) ∧ quarOf (passTime dt s) (passTime dt s).led.sweep = none ∧ slotGood (readSlot failed
      (passTime dt s).led.sweep (useLookup (passTime dt s))) (passTime dt s).led.sweep = true ∧ rState (imageAt
      (readSlot failed (passTime dt s).led.sweep (useLookup (passTime dt s))) (passTime dt s).led.sweep) = 0) ∧
    (∃ s : State, ∃ dt : Nat, alive (passTime dt s) = true ∧ (passTime dt s).led.reserveAt = (passTime dt s).now ∧ 16
      ≤ (passTime dt s).led.reserveUsed) ∧
    (∃ s : State, ∃ n : Nat, alive s = true ∧ s.jn.stopped = false ∧ (s.led.reserveAt = s.now → s.led.reserveUsed <
      16) ∧ (poolFirst 16 s).find? (fun n => !s.led.prefetched.contains n) = some n) ∧
    (∃ s : State, alive s = true ∧ (∀ n ∈ poolFirst 16 s, n ∈ s.led.prefetched)) :=
  ⟨⟨({ wS with led := { wS.led with hold := [8] } }), 0, 8, (by decide +kernel), (by decide +kernel),
     (by decide +kernel), (by decide +kernel), (by decide +kernel), (by decide +kernel), (by decide +kernel),
     (by decide +kernel)⟩,
   ⟨({ wS with led := { wS.led with hold := [8] }, jn := { wS.jn with tickOther := 40 } }), 0, 8,
     (by decide +kernel), (by decide +kernel), (by decide +kernel), (by decide +kernel), (by decide +kernel),
     (by decide +kernel), (by decide +kernel)⟩,
   ⟨wS, 0, 1, (by decide +kernel), (by decide +kernel)⟩,
   ⟨({ wS with led := { wS.led with sweep := 15 } }), 0, false, (by decide +kernel), (by decide +kernel),
     (by decide +kernel), (by decide +kernel), (by decide +kernel), (by decide +kernel)⟩,

     ⟨({ wS with led := { wS.led with sweep := 33554431, overlay := [(33554431, some ⟨wRec [(0, 1), (1, 0x3000), (3, 0x100), (5, 0), (8, 50000)], 0, [0]⟩)] } }),
     0, false, (by decide +kernel), (by decide +kernel), (by decide +kernel), (by decide +kernel),
     (by decide +kernel), (by decide +kernel), (by decide +kernel), (by decide +kernel), (by decide +kernel),
     (by decide +kernel)⟩,
   ⟨({ wS with led := { wS.led with sweep := 8 } }), 0, false, (by decide +kernel), (by decide +kernel),
     (by decide +kernel), (by decide +kernel), (by decide +kernel), (by decide +kernel), (by decide +kernel)⟩,
   ⟨({ wS with led := { wS.led with sweep := 0 } }), 0, false, (by decide +kernel), (by decide +kernel),
     (by decide +kernel), (by decide +kernel), (by decide +kernel), (by decide +kernel), (by decide +kernel)⟩,
   ⟨({ wS with led := { wS.led with reserveAt := 100000, reserveUsed := 16 } }), 0, (by decide +kernel),
     (by decide +kernel), (by decide +kernel)⟩,
   ⟨wS, 20, (by decide +kernel), (by decide +kernel), (by decide +kernel), (by decide +kernel)⟩,
   ⟨({ wS with led := { wS.led with virgin := 33554432 } }), (by decide +kernel), (by decide +kernel)⟩⟩

theorem test_witness_JobStarts :
    (∃ s : State, ∃ h : Nat, ∃ i : Nat, ∃ c : Cmd, ∃ bank : Nat, ∃ entry : Nat, alive s = true ∧ h < 24 ∧ i < 8 ∧
      shuttleInService s (h * 8 + i) = true ∧ (getSh s (h * 8 + i)).job = none ∧ s.jn.stopped = false ∧ isSteward (h
      * 8 + i) = false ∧ earliest (s.cmds.admitted.filter (takesJob s (h * 8 + i))) = some c ∧ c.job = .queued bank
      entry) ∧
    (∃ s : State, ∃ h : Nat, ∃ i : Nat, ∃ c : Cmd, alive s = true ∧ h < 24 ∧ i < 8 ∧ shuttleInService s (h * 8 + i) =
      true ∧ (getSh s (h * 8 + i)).job = none ∧ s.jn.stopped = false ∧ isSteward (h * 8 + i) = true ∧ earliest
      (s.cmds.admitted.filter (fun c => c.cls == 3 && c.job == .idle && inReady c)) = some c) ∧
    (∃ c : Cmd, c.cls = 3) ∧
    (∃ s : State, ∃ id : Nat, ∃ c : Cmd, cmdOf s id = some c ∧ served c = false) ∧
    (∃ s : State, ∃ h : Nat, ∃ i : Nat, alive s = true ∧ (getSh s (h * 8 + i)).job.isSome = true) ∧
    (∃ s : State, ∃ h : Nat, ∃ r : Nat, ∃ k : Nat, ∃ a : Nat, alive s = true ∧ lockCands s h r k = [a]) ∧
    (∃ s : State, ∃ h : Nat, ∃ r : Nat, ∃ k : Nat, ∃ a : Nat, ∃ b : Nat, alive s = true ∧ lockCands s h r k = [a, b]
      ∧ lockOwner s a k = none ∧ lockOwner s b k = none) ∧
    (∃ s : State, ∃ h : Nat, ∃ r : Nat, ∃ k : Nat, alive s = true ∧ lockCands s h r k = []) ∧
    (∃ s : State, ∃ sh : Nat, ∃ j : Job, alive s = true ∧ (getSh s sh).job = some j ∧ (getSh s sh).lrBusy = true) ∧
    (∃ s : State, ∃ sh : Nat, ∃ j : Job, alive s = true ∧ (getSh s sh).job = some j ∧ isSteward sh = false ∧ (getSh s
      sh).left = 0) ∧
    (∃ s : State, ∃ sh : Nat, ∃ source : Nat, ∃ j : Job, alive s = true ∧ isSteward sh = true ∧ (getSh s sh).job =
      some j ∧ shuttleRuns s sh = true ∧ (getSh s sh).trapping = false ∧ ((getSh s sh).rpta = true → (getSh s
      sh).rpti = true) ∧ stewardDue s source = true) ∧
    (∃ s : State, ∃ n : Nat, ∃ a : Nat, alive s = true ∧ n < 192 ∧ a < 0x8000) ∧
    (∃ s : State, ∃ n : Nat, ∃ a : Nat, alive s = true ∧ n < 192 ∧ 0xE800 ≤ a ∧ a < 0xEB20) ∧
    (∃ s : State, ∃ h : Nat, ∃ a : Nat, alive s = true ∧ h < 24 ∧ a < 24576) :=
  ⟨⟨(wBank (wAt ({ wC 0x21 1 [] with job := .queued 0 0x20 })) (some 0)), 23, 7,
     ({ wC 0x21 1 [] with job := .queued 0 0x20 }), 0, 0x20, (by decide +kernel), (by decide +kernel),
     (by decide +kernel), (by decide +kernel), (by decide +kernel), (by decide +kernel), (by decide +kernel),
     (by decide +kernel), (by decide +kernel)⟩,
   ⟨(wAt ({ wC 0x80 0 [] with cls := 3 })), 0, 0, ({ wC 0x80 0 [] with cls := 3 }), (by decide +kernel),
     (by decide +kernel), (by decide +kernel), (by decide +kernel), (by decide +kernel), (by decide +kernel),
     (by decide +kernel), (by decide +kernel)⟩,
   ⟨({ wC 0x80 0 [] with cls := 3 }), (by decide +kernel)⟩,
   ⟨(wAt ({ wC 0x80 0 [] with cls := 3 })), 1, ({ wC 0x80 0 [] with cls := 3 }), (by decide +kernel),
     (by decide +kernel)⟩,
   ⟨(wProg wSh []), 0, 5, (by decide +kernel), (by decide +kernel)⟩,
   ⟨(wProg { wSh with lockWait := some 2 } []), 0, 1, 2, 5, (by decide +kernel), (by decide +kernel)⟩,

     ⟨({ wS with cells := { wS.cells with shuttles := [(5, { wSh with lockWait := some 2 }), (6, { wSh with lockWait := some 2, waitNo := 1 })] } }),
     0, 1, 2, 5, 6, (by decide +kernel), (by decide +kernel), (by decide +kernel), (by decide +kernel)⟩,
   ⟨wS, 0, 1, 2, (by decide +kernel), (by decide +kernel)⟩,
   ⟨(wProg { wSh with lrBusy := true } []), 5, wJob, (by decide +kernel), (by decide +kernel), (by decide +kernel)⟩,
   ⟨(wProg { wSh with left := 0 } []), 5, wJob, (by decide +kernel), (by decide +kernel), (by decide +kernel),
     (by decide +kernel)⟩,

     ⟨({ wS with cells := { wS.cells with shuttles := [(0, wSh)] }, ic := { wS.ic with pendSteward := 1#512 <<< 380 } }),
     0, 380, wJob, (by decide +kernel), (by decide +kernel), (by decide +kernel), (by decide +kernel),
     (by decide +kernel), (by decide +kernel), (by decide +kernel)⟩,
   ⟨wS, 191, 0x7FFF, (by decide +kernel), (by decide +kernel), (by decide +kernel)⟩,
   ⟨wS, 191, 0xEB1F, (by decide +kernel), (by decide +kernel), (by decide +kernel), (by decide +kernel)⟩,
   ⟨wS, 23, 24575, (by decide +kernel), (by decide +kernel), (by decide +kernel)⟩⟩

theorem test_witness_EngineSteps :
    (∃ s : State, ∃ u : Nat, ∃ ci : Bool, ∃ k : Nat, alive s = true ∧ unitRuns s u = true ∧ nextBlock s ci u = some
      k) ∧
    (∃ s : State, ∃ u : Nat, ∃ ci : Bool, alive s = true ∧ nextBlock s ci u = none) ∧
    (∃ s : State, ∃ u : Nat, ∃ ch : Nat, ∃ id : Nat, alive s = true ∧ unitRuns s u = true ∧ chanFree true (getChan s
      true u ch) = true ∧ (getChan s true u ch).fin = true ∧ chanBlocks s true (getChan s true u ch) ≤ (getChan s
      true u ch).blocks ∧ u < 24 ∧ (getChan s true u ch).host = some id) ∧
    (∃ s : State, ∃ u : Nat, ∃ ci : Bool, ∃ ch : Nat, alive s = true ∧ (getChan s ci u ch).blocks < chanBlocks s ci
      (getChan s ci u ch)) ∧
    (∃ s : State, ∃ u : Nat, ∃ ch : Nat, alive s = true ∧ u < 24 ∧ ch < 12 ∧ (getChan s false u ch).host = none) ∧
    (∃ s : State, ∃ g : Nat, alive s = true ∧ g < 8 ∧ (getSg s g).cur = none) ∧
    (∃ s : State, ∃ g : Nat, ∃ j : SigJob, alive s = true ∧ (getSg s g).cur = some j ∧ (getSg s g).keyWait = false ∧
      loomInService s (g / 2) = true ∧ j.verify = true) ∧
    (∃ s : State, ∃ g : Nat, ∃ j : SigJob, alive s = true ∧ (getSg s g).cur = some j ∧ (getSg s g).keyWait = false ∧
      loomInService s (g / 2) = true ∧ j.verify = false ∧ (getSg s g).denied = false ∧ j.alg ≠ 2) ∧
    (∃ s : State, ∃ g : Nat, ∃ j : SigJob, alive s = true ∧ (getSg s g).cur = some j ∧ (getSg s g).keyWait = false ∧
      loomInService s (g / 2) = true ∧ j.verify = false ∧ (getSg s g).denied = false ∧ j.alg = 2) ∧
    (∃ s : State, ∃ g : Nat, ∃ j : SigJob, alive s = true ∧ (getSg s g).cur = some j ∧ (getSg s g).keyWait = false ∧
      loomInService s (g / 2) = true ∧ j.verify = false ∧ (getSg s g).denied = true) ∧
    (∃ s : State, ∃ g : Nat, alive s = true ∧ (getSg s g).cur = none) :=
  ⟨⟨({ wS with engs := { wS.engs with ci := [(23, { chans := [(11, { busy := true, host := some 1, data := List.replicate 16 0 })] })] } }),
     23, true, 11, (by decide +kernel), (by decide +kernel), (by decide +kernel)⟩,
   ⟨wS, 0, false, (by decide +kernel), (by decide +kernel)⟩,

     ⟨({ wS with engs := { wS.engs with ci := [(23, { chans := [(11, { busy := true, host := some 1, fin := true })] })] } }),
     23, 11, 1, (by decide +kernel), (by decide +kernel), (by decide +kernel), (by decide +kernel),
     (by decide +kernel), (by decide +kernel), (by decide +kernel)⟩,

     ⟨({ wS with engs := { wS.engs with ci := [(23, { chans := [(11, { busy := true, host := some 1, data := List.replicate 16 0 })] })] } }),
     23, true, 11, (by decide +kernel), (by decide +kernel)⟩,
   ⟨wS, 23, 11, (by decide +kernel), (by decide +kernel), (by decide +kernel), (by decide +kernel)⟩,
   ⟨wS, 7, (by decide +kernel), (by decide +kernel), (by decide +kernel)⟩,

     ⟨({ wS with engs := { wS.engs with sg := [(7, { cur := some { cmd := 1, verify := true, alg := 3, prehashed := false, slot := none, realm := 1, attrs := 0, msg := [], sig := [], deadline := 0 } })] } }),
     7,
     ({ cmd := 1, verify := true, alg := 3, prehashed := false, slot := none, realm := 1, attrs := 0, msg := [], sig := [], deadline := 0 }),
     (by decide +kernel), (by decide +kernel), (by decide +kernel), (by decide +kernel), (by decide +kernel)⟩,

     ⟨({ wS with engs := { wS.engs with sg := [(7, { cur := some { cmd := 1, verify := false, alg := 3, prehashed := false, slot := none, realm := 1, attrs := 0, msg := [], sig := [], deadline := 0 } })] } }),
     7,
     ({ cmd := 1, verify := false, alg := 3, prehashed := false, slot := none, realm := 1, attrs := 0, msg := [], sig := [], deadline := 0 }),
     (by decide +kernel), (by decide +kernel), (by decide +kernel), (by decide +kernel), (by decide +kernel),
     (by decide +kernel), (by decide +kernel)⟩,

     ⟨({ wS with engs := { wS.engs with sg := [(7, { cur := some { cmd := 1, verify := false, alg := 2, prehashed := false, slot := none, realm := 1, attrs := 0, msg := [], sig := [], deadline := 0 } })] } }),
     7,
     ({ cmd := 1, verify := false, alg := 2, prehashed := false, slot := none, realm := 1, attrs := 0, msg := [], sig := [], deadline := 0 }),
     (by decide +kernel), (by decide +kernel), (by decide +kernel), (by decide +kernel), (by decide +kernel),
     (by decide +kernel), (by decide +kernel)⟩,

     ⟨({ wS with engs := { wS.engs with sg := [(7, { cur := some { cmd := 1, verify := false, alg := 2, prehashed := false, slot := none, realm := 1, attrs := 0, msg := [], sig := [], deadline := 0 }, denied := true })] } }),
     7,
     ({ cmd := 1, verify := false, alg := 2, prehashed := false, slot := none, realm := 1, attrs := 0, msg := [], sig := [], deadline := 0 }),
     (by decide +kernel), (by decide +kernel), (by decide +kernel), (by decide +kernel), (by decide +kernel),
     (by decide +kernel)⟩,
   ⟨wS, 0, (by decide +kernel), (by decide +kernel)⟩⟩

theorem test_witness_KeyBus :
    (∃ s : State, ∃ r : KeyReq, ∃ rs : List KeyReq, alive s = true ∧ s.keys.busOpen = true ∧ s.keys.reqs = r :: rs ∧
      r.eng = 2 ∧ keyUsable s r = true) ∧
    (∃ s : State, ∃ r : KeyReq, ∃ rs : List KeyReq, alive s = true ∧ s.keys.busOpen = true ∧ s.keys.reqs = r :: rs ∧
      r.eng = 2 ∧ keyUsable s r = false) ∧
    (∃ s : State, ∃ r : KeyReq, (∃ n, r.slot = some n) ∧ keyUsable s r = true) ∧
    (∃ s : State, ∃ r : KeyReq, ∃ n : Nat, r.slot = some n ∧ (slotBus s n).kind = 2 ∧ (slotBus s n).family < 15 ∧
      r.attrs &&& (aMacg + aMacv) ≠ 0 ∧ r.attrs &&& aDerive = 0) ∧
    (∃ s : State, alive s = true ∧ s.keys.reqs = []) ∧
    (∃ s : State, alive s = true) ∧
    (∃ s : State, ∃ dt : Nat, alive (passTime dt s) = true ∧ (passTime dt s).keys.busOpen = true ∧ (passTime dt
      s).keys.drbgOk = true ∧ (passTime dt s).keys.remaskNext < 1023 ∧ (slotBus (passTime dt s) (passTime dt
      s).keys.remaskNext).state ≠ 2) ∧
    (∃ s : State, ∃ dt : Nat, alive (passTime dt s) = true ∧ (passTime dt s).keys.busOpen = true ∧ (passTime dt
      s).keys.drbgOk = true ∧ (passTime dt s).keys.remaskNext < 1023 ∧ (slotBus (passTime dt s) (passTime dt
      s).keys.remaskNext).state = 2) ∧
    (∃ s : State, ∃ dt : Nat, alive (passTime dt s) = true ∧ reenrolMay (passTime dt s) = true ∧ (passTime dt
      s).keys.reenrolReads.length < 31 ∧ ((passTime dt s).keys.reenrolReads = [] ∨ (passTime dt s).keys.reenrolAt +
      1000 ≤ (passTime dt s).now)) ∧
    (∃ s : State, ∃ dt : Nat, alive (passTime dt s) = true ∧ reenrolMay (passTime dt s) = true ∧ (passTime dt
      s).keys.reenrolReads ≠ [] ∧ (passTime dt s).now < (passTime dt s).keys.reenrolAt + 1000) ∧
    (∃ s : State, ∃ dt : Nat, alive (passTime dt s) = true ∧ reenrolMay (passTime dt s) = true ∧ 31 ≤ (passTime dt
      s).keys.reenrolReads.length ∧ (passTime dt s).keys.reenrolAt + 1000 ≤ (passTime dt s).now) ∧
    (∃ s : State, ∃ dt : Nat, alive (passTime dt s) = true ∧ reenrolMay (passTime dt s) = false) :=
  ⟨⟨({ wS with keys := { wS.keys with reqs := [⟨2, 7, 0, some 5, 1, 0, [6]⟩], slots := [(5, { state := 2, realm := 1, kind := 6 })] } }),
     (⟨2, 7, 0, some 5, 1, 0, [6]⟩), [], (by decide +kernel), (by decide +kernel), (by decide +kernel),
     (by decide +kernel), (by decide +kernel)⟩,

     ⟨({ wS with keys := { wS.keys with reqs := [⟨2, 7, 0, none, 1, 0, [6]⟩], slots := [(5, { state := 2, realm := 1, kind := 6 })] } }),
     (⟨2, 7, 0, none, 1, 0, [6]⟩), [], (by decide +kernel), (by decide +kernel), (by decide +kernel),
     (by decide +kernel), (by decide +kernel)⟩,

     ⟨({ wS with keys := { wS.keys with reqs := [⟨2, 7, 0, some 5, 1, 0, [6]⟩], slots := [(5, { state := 2, realm := 1, kind := 6 })] } }),
     (⟨2, 7, 0, some 5, 1, 0, [6]⟩), ⟨_, rfl⟩, (by decide +kernel)⟩,
   ⟨({ wS with keys := { wS.keys with slots := [(5, { state := 2, realm := 1, kind := 2, family := 14 })] } }), (⟨0,
     7, 0, some 5, 1, aMacg, [1, 2]⟩), 5, (by decide +kernel), (by decide +kernel), (by decide +kernel),
     (by decide +kernel), (by decide +kernel)⟩,
   ⟨wS, (by decide +kernel), (by decide +kernel)⟩,
   ⟨wS, (by decide +kernel)⟩,
   ⟨wS, 0, (by decide +kernel), (by decide +kernel), (by decide +kernel), (by decide +kernel), (by decide +kernel)⟩,
   ⟨({ wS with keys := { wS.keys with remaskNext := 1022, slots := [(1022, { state := 2 })] } }), 0,
     (by decide +kernel), (by decide +kernel), (by decide +kernel), (by decide +kernel), (by decide +kernel)⟩,
   ⟨({ wS with keys := { wS.keys with ber := 601 } }), 0, (by decide +kernel), (by decide +kernel),
     (by decide +kernel), (by decide +kernel)⟩,
   ⟨({ wS with keys := { wS.keys with ber := 601, reenrolReads := [[]], reenrolAt := 99001 } }), 0,
     (by decide +kernel), (by decide +kernel), (by decide +kernel), (by decide +kernel)⟩,
   ⟨({ wS with keys := { wS.keys with ber := 601, reenrolReads := List.replicate 31 [], reenrolAt := 99000 } }), 0,
     (by decide +kernel), (by decide +kernel), (by decide +kernel), (by decide +kernel)⟩,
   ⟨wS, 0, (by decide +kernel), (by decide +kernel)⟩⟩

theorem test_witness_ResetsAndSupplies :
    (∃ s : State, ∃ x : SupplyIn, s.clk.supply = false ∧ supplyOk x s = true ∧ heldReset
      ({ s with clk := { s.clk with supply := true, powerFailHold := false, kept := s.clk.kept && x.kept } }) =
      false) ∧
    (∃ s : State, ∃ x : SupplyIn, s.clk.supply = false ∧ supplyOk x s = true ∧ heldReset
      ({ s with clk := { s.clk with supply := true, powerFailHold := false, kept := s.clk.kept && x.kept } }) = true) ∧
    (∃ s : State, ∃ x : SupplyIn, (s.clk.supply = true ∨ supplyOk x s = false)) ∧
    (∃ s : State, ∃ x : SupplyIn, supplyOk x s = true) ∧
    (∃ s : State, s.clk.supply = true ∧ s.clk.powerFailHold = false) ∧
    (∃ s : State, s.clk.supply = true ∧ heldReset s = false) ∧
    (∃ s : State, s.clk.supply = true ∧ s.clk.powerFailHold = false ∧ s.tap.heldReset = false ∧ (s.clk.resetN = true
      ∨ s.clk.perstN = true ∨ s.clk.testEn = true)) ∧
    (∃ s : State, s.clk.supply = true ∧ s.clk.running = false) ∧
    (∃ s : State, s.clk.supply = true ∧ s.clk.running = true) ∧
    (∃ s : State, s.clk.supply = true ∧ s.jn.sealing = true ∧ s.jn.flight = [] ∧ s.jn.inhibit = false ∧
      s.glb.holdupOk = false) ∧
    (∃ s : State, s.clk.supply = true ∧ s.jn.sealing = true ∧ s.jn.flight = [] ∧ s.jn.inhibit = false ∧
      s.glb.holdupOk = true ∧ s.jn.replayDone = true ∧ Phase.recWrites ∈ s.start.done ∧ newestSealed s = false) :=
  ⟨⟨State.reset, (⟨true, [some 850, some 850, some 850, some 850, some 850, some 1200, some 900, some 1800, some
     1800, none], 631, 1000⟩), (by decide +kernel), (by decide +kernel), (by decide +kernel)⟩,
   ⟨({ State.reset with clk := { State.reset.clk with resetN := true } }), (⟨true, [some 850, some 850, some 850,
     some 850, some 850, some 1200, some 900, some 1800, some 1800, none], 631, 1000⟩), (by decide +kernel),
     (by decide +kernel), (by decide +kernel)⟩,
   ⟨wS, (⟨true, [some 850, some 850, some 850, some 850, some 850, some 1200, some 900, some 1800, some 1800, none],
     631, 1000⟩), (by decide +kernel)⟩,
   ⟨State.reset, (⟨true, [some 850, some 850, some 850, some 850, some 850, some 1200, some 900, some 1800, some
     1800, none], 631, 1000⟩), (by decide +kernel)⟩,
   ⟨wS, (by decide +kernel), (by decide +kernel)⟩,
   ⟨wS, (by decide +kernel), (by decide +kernel)⟩,
   ⟨({ wS with clk := { wS.clk with testEn := true } }), (by decide +kernel), (by decide +kernel),
     (by decide +kernel), (by decide +kernel)⟩,
   ⟨({ wS with clk := { wS.clk with running := false } }), (by decide +kernel), (by decide +kernel)⟩,
   ⟨wS, (by decide +kernel), (by decide +kernel)⟩,
   ⟨({ wS with jn := { wS.jn with sealing := true }, glb := { wS.glb with holdupOk := false } }),
     (by decide +kernel), (by decide +kernel), (by decide +kernel), (by decide +kernel), (by decide +kernel)⟩,
   ⟨({ wS with jn := { wS.jn with sealing := true } }), (by decide +kernel), (by decide +kernel),
     (by decide +kernel), (by decide +kernel), (by decide +kernel), (by decide +kernel), (by decide +kernel),
     (by decide +kernel)⟩⟩

theorem test_witness_EarlyPhases :
    (∃ s : State, phaseDue s [.tamper] .fuses = true ∧ s.glb.lifecycle ≠ 0xFF) ∧
    (∃ s : State, phaseDue s [.fuses] .clocks = true ∧ s.clk.kept = true ∧ s.tm.watchGapNoted = false) ∧
    (∃ s : State, phaseDue s [.fuses] .clocks = true ∧ (s.clk.kept = false ∨ s.tm.watchGapNoted = true)) ∧
    (∃ s : State, phaseDue s [.clocks] .registers = true ∧ s.glb.lifecycle = 0x0F) ∧
    (∃ s : State, phaseDue s [.registers] .ballast = true) ∧
    (∃ s : State, phaseDue s [.registers] .plan = true) ∧
    (∃ s : State, phaseDue s [.firmware, .release, .plan] .steward = true) ∧
    (∃ s : State, phaseDue s [.plan] .selfTest = true) ∧
    (∃ s : State, phaseDue s [.release, .selfTest] .applets = true) ∧
    (∃ s : State, phaseDue s [.applets, .steward] .ready = true ∧ restageWaits s = false) ∧
    (∃ s : State, phaseDue s [.tamper] .fuses = false) ∧
    (∃ s : State, phaseDue s [.fuses] .clocks = false) ∧
    (∃ s : State, phaseDue s [.clocks] .registers = false) ∧
    (∃ s : State, phaseDue s [.registers] .ballast = false) ∧
    (∃ s : State, phaseDue s [.registers] .plan = false) ∧
    (∃ s : State, phaseDue s [.registers] .entropy = false) ∧
    (∃ s : State, phaseDue s [.entropy] .pufRead = false) ∧
    (∃ s : State, phaseDue s [.pufRead] .extract = false) ∧
    (∃ s : State, phaseDue s [.extract] .derive = false) ∧
    (∃ s : State, phaseDue s [.derive] .firmware = false) ∧
    (∃ s : State, phaseDue s [.derive] .recAnchor = false) ∧
    (∃ s : State, phaseDue s [.recAnchor] .recChain = false) ∧
    (∃ s : State, phaseDue s [.recChain] .recTree = false) ∧
    (∃ s : State, phaseDue s [.recTree] .recReplay = false) ∧
    (∃ s : State, phaseDue s [.recReplay] .recOutcomes = false) ∧
    (∃ s : State, phaseDue s [.recOutcomes, .ballast] .recWrites = false) ∧
    (∃ s : State, phaseDue s [.recWrites] .slots = false) ∧
    (∃ s : State, phaseDue s [.slots] .release = false) ∧
    (∃ s : State, phaseDue s [.firmware, .release, .plan] .steward = false) ∧
    (∃ s : State, phaseDue s [.plan] .selfTest = false) ∧
    (∃ s : State, phaseDue s [.release, .selfTest] .applets = false) ∧
    (∃ s : State, (phaseDue s [.applets, .steward] .ready = false ∨ restageWaits s = true)) :=
  ⟨⟨(wPhase [.tamper]), (by decide +kernel), (by decide +kernel)⟩,
   ⟨({ wPhase [.fuses] with clk := { State.reset.clk with supply := true, kept := true } }), (by decide +kernel),
     (by decide +kernel), (by decide +kernel)⟩,
   ⟨({ wPhase [.fuses] with clk := { State.reset.clk with supply := true, kept := false } }), (by decide +kernel),
     (by decide +kernel)⟩,
   ⟨({ wPhase [.clocks] with glb := { State.reset.glb with lifecycle := 0x0F } }), (by decide +kernel),
     (by decide +kernel)⟩,
   ⟨(wPhase [.registers]), (by decide +kernel)⟩,
   ⟨(wPhase [.registers]), (by decide +kernel)⟩,
   ⟨(wPhase [.firmware, .release, .plan]), (by decide +kernel)⟩,
   ⟨(wPhase [.plan]), (by decide +kernel)⟩,
   ⟨(wPhase [.release, .selfTest]), (by decide +kernel)⟩,
   ⟨(wPhase [.applets, .steward]), (by decide +kernel), (by decide +kernel)⟩,
   ⟨State.reset, (by decide +kernel)⟩,
   ⟨State.reset, (by decide +kernel)⟩,
   ⟨State.reset, (by decide +kernel)⟩,
   ⟨State.reset, (by decide +kernel)⟩,
   ⟨State.reset, (by decide +kernel)⟩,
   ⟨State.reset, (by decide +kernel)⟩,
   ⟨State.reset, (by decide +kernel)⟩,
   ⟨State.reset, (by decide +kernel)⟩,
   ⟨State.reset, (by decide +kernel)⟩,
   ⟨State.reset, (by decide +kernel)⟩,
   ⟨State.reset, (by decide +kernel)⟩,
   ⟨State.reset, (by decide +kernel)⟩,
   ⟨State.reset, (by decide +kernel)⟩,
   ⟨State.reset, (by decide +kernel)⟩,
   ⟨State.reset, (by decide +kernel)⟩,
   ⟨State.reset, (by decide +kernel)⟩,
   ⟨State.reset, (by decide +kernel)⟩,
   ⟨State.reset, (by decide +kernel)⟩,
   ⟨State.reset, (by decide +kernel)⟩,
   ⟨State.reset, (by decide +kernel)⟩,
   ⟨State.reset, (by decide +kernel)⟩,
   ⟨State.reset, (by decide +kernel)⟩⟩

theorem test_witness_KeyPhases :
    (∃ s : State, phaseDue s [.registers] .entropy = true ∧ s.glb.lifecycle ≠ 0x3F) ∧
    (∃ s : State, phaseDue s [.entropy] .pufRead = true) ∧
    (∃ s : State, phaseDue s [.pufRead] .extract = true) ∧
    (∃ s : State, phaseDue s [.extract] .derive = true ∧ s.glb.lifecycle ≠ 0x3F) ∧
    (∃ s : State, phaseDue s [.extract] .derive = true ∧ s.glb.lifecycle = 0x3F) ∧
    (∃ s : State, phaseDue s [.recWrites] .slots = true ∧ s.glb.lifecycle = 0x3F) ∧
    (∃ s : State, phaseDue s [.derive] .firmware = true ∧ (fwSlot s 0).valid = true ∧ (fwSlot s 1).valid = true ∧
      fwHeadOk (fwSlot s 0) = true ∧ fwHeadOk (fwSlot s 1) = true ∧ fwPartsOk 0 (fwSlot s 0) = true ∧ fwPartsOk 1
      (fwSlot s 1) = true) ∧
    (∃ s : State, phaseDue s [.slots] .release = true) ∧
    (∃ s : State, phaseDue s [.recWrites] .slots = true ∧ s.glb.lifecycle ≠ 0x3F) :=
  ⟨⟨(wPhase [.registers]), (by decide +kernel), (by decide +kernel)⟩,
   ⟨(wPhase [.entropy]), (by decide +kernel)⟩,
   ⟨(wPhase [.pufRead]), (by decide +kernel)⟩,
   ⟨(wPhase [.extract]), (by decide +kernel), (by decide +kernel)⟩,
   ⟨({ wPhase [.extract] with glb := { State.reset.glb with lifecycle := 0x3F } }), (by decide +kernel),
     (by decide +kernel)⟩,
   ⟨({ wPhase [.recWrites] with glb := { State.reset.glb with lifecycle := 0x3F } }), (by decide +kernel),
     (by decide +kernel)⟩,

     ⟨({ wPhase [.derive] with fws := { State.reset.fws with slots := [(0, { valid := true }), (1, { valid := true })] } }),
     (by decide +kernel), (by decide +kernel), (by decide +kernel), (by decide +kernel), (by decide +kernel),
     (by decide +kernel), (by decide +kernel)⟩,
   ⟨(wPhase [.slots]), (by decide +kernel)⟩,
   ⟨(wPhase [.recWrites]), (by decide +kernel), (by decide +kernel)⟩⟩

theorem test_witness_RecoveryPhases :
    (∃ s : State, ∃ dt : Nat, ∃ torn : List Nat, ∃ a : Anchor, phaseDue s [.derive] .recAnchor = true ∧
      s.keys.ledgerIn = true ∧ bestAnchor (tearCells torn (phaseEnds .recAnchor [.derive] 0 200 dt s)) = some a) ∧
    (∃ s : State, ∃ dt : Nat, ∃ torn : List Nat, phaseDue s [.derive] .recAnchor = true ∧ s.keys.ledgerIn = true ∧
      bestAnchor (tearCells torn (phaseEnds .recAnchor [.derive] 0 200 dt s)) = none) ∧
    (∃ s : State, ∃ dt : Nat, ∃ lost : List Nat, ∃ rs : List FrameRead, phaseDue s [.recAnchor] .recChain = true ∧
      s.keys.ledgerIn = true ∧ recFrames
      ({ (phaseEnds .recChain [.recAnchor] 0 20000 dt s) with jn := { (phaseEnds .recChain [.recAnchor] 0 20000 dt s).jn with ring := lost.foldl (fun m q => mdel m (q % 524288)) (phaseEnds .recChain [.recAnchor] 0 20000 dt s).jn.ring } })
      = .ok rs) ∧
    (∃ s : State, ∃ dt : Nat, ∃ lost : List Nat, ∃ q : Nat, phaseDue s [.recAnchor] .recChain = true ∧
      s.keys.ledgerIn = true ∧ recFrames
      ({ (phaseEnds .recChain [.recAnchor] 0 20000 dt s) with jn := { (phaseEnds .recChain [.recAnchor] 0 20000 dt s).jn with ring := lost.foldl (fun m q => mdel m (q % 524288)) (phaseEnds .recChain [.recAnchor] 0 20000 dt s).jn.ring } })
      = .error q) ∧
    (∃ s : State, phaseDue s [.recChain] .recTree = true ∧ s.keys.ledgerIn = true) ∧
    (∃ s : State, phaseDue s [.recTree] .recReplay = true ∧ s.keys.ledgerIn = true) ∧
    (∃ s : State, phaseDue s [.recReplay] .recOutcomes = true ∧ s.keys.ledgerIn = true) ∧
    (∃ s : State, phaseDue s [.recOutcomes, .ballast] .recWrites = true ∧ s.keys.ledgerIn = true) :=
  ⟨⟨({ wPhase [.derive] with keys := { State.reset.keys with ledgerIn := true } }), 0, [63], shippedAnchor,
     (by decide +kernel), (by decide +kernel), (by decide +kernel)⟩,
   ⟨({ wPhase [.derive] with keys := { State.reset.keys with ledgerIn := true } }), 0, [0], (by decide +kernel),
     (by decide +kernel), (by decide +kernel)⟩,

     ⟨({ wPhase [.recAnchor] with keys := { State.reset.keys with ledgerIn := true }, jn := { State.reset.jn with anchorSel := some shippedAnchor } }),
     0, [], [], (by decide +kernel), (by decide +kernel), rfl⟩,
   ⟨({ wPhase [.recAnchor] with keys := { State.reset.keys with ledgerIn := true } }), 0, [], 0, (by decide +kernel),
     (by decide +kernel), rfl⟩,
   ⟨({ wPhase [.recChain] with keys := { State.reset.keys with ledgerIn := true } }), (by decide +kernel),
     (by decide +kernel)⟩,
   ⟨({ wPhase [.recTree] with keys := { State.reset.keys with ledgerIn := true } }), (by decide +kernel),
     (by decide +kernel)⟩,
   ⟨({ wPhase [.recReplay] with keys := { State.reset.keys with ledgerIn := true } }), (by decide +kernel),
     (by decide +kernel)⟩,
   ⟨({ wPhase [.recOutcomes, .ballast] with keys := { State.reset.keys with ledgerIn := true } }),
     (by decide +kernel), (by decide +kernel)⟩⟩

theorem test_witness_ClockWork :
    (∃ s : State, ∃ dt : Nat, ∃ t : Nat, ∃ ns : Nat, (passTime dt s).clk.slew = some (t, ns) ∧ (passTime dt
      s).clk.cal = t ∧ (passTime dt s).clk.calNs = ns) ∧
    (∃ s : State, ∃ dt : Nat, alive (passTime dt s) = true ∧ (passTime dt s).clk.retainAt ≤ (passTime dt s).now) ∧
    (∃ s : State, ∃ dt : Nat, s.clk.running = true ∧ s.clk.tos < 2 ^ 48 ∧ dt < 2 ^ 48 ∧ 0 < dt) ∧
    (∃ s : State, ∃ c : Nat, s.clk.running = true ∧ 3 ≤ c) ∧
    (∃ s : State, s.clk.running = true) ∧
    (∃ s : State, ∃ dt : Nat, alive (passTime dt s) = true ∧ (passTime dt s).glb.service = 2 ∧ (passTime dt
      s).ag.planAt + 86400000000 ≤ (passTime dt s).clk.readyUs) ∧
    (∃ s : State, ∃ dt : Nat, alive (passTime dt s) = true ∧ inService (passTime dt s) = true ∧ (passTime dt
      s).ag.tickAt + 1000000 ≤ (passTime dt s).now ∧ (passTime dt s).ag.ticks < 59) :=
  ⟨⟨({ wS with clk := { wS.clk with slew := some (100000, 0) } }), 0, 100000, 0, (by decide +kernel),
     (by decide +kernel), (by decide +kernel)⟩,
   ⟨({ wS with clk := { wS.clk with retainAt := 0 } }), 0, (by decide +kernel), (by decide +kernel)⟩,
   ⟨({ wS with clk := { wS.clk with tos := 2 ^ 48 - 1 } }), 1, (by decide +kernel), (by decide +kernel),
     (by decide +kernel), (by decide +kernel)⟩,
   ⟨wS, 3, (by decide +kernel), (by decide +kernel)⟩,
   ⟨wS, (by decide +kernel)⟩,
   ⟨({ wS with clk := { wS.clk with readyUs := 86400000000 } }), 0, (by decide +kernel), (by decide +kernel),
     (by decide +kernel)⟩,
   ⟨({ wS with now := 1000000 }), 0, (by decide +kernel), (by decide +kernel), (by decide +kernel),
     (by decide +kernel)⟩⟩

theorem test_witness_KarefBinary :
    (∃ s : State, ∃ sh : Nat, ∃ wait : Nat, ∃ i : Ins, ∃ k : KS, ∃ a : TW, ∃ b : TW, ∃ k1 : KS, ∃ k2 : KS, ∃ row :
      Nat → Nat → Instr, ∃ opc : Nat, ∃ f : Ins → Nat → Nat → Bool → Alu, (row, opc, f) ∈ [(Instr.add, 0x10, fun _ a
      b _ => aluAdd a b), (Instr.adc, 0x11, fun _ a b c => aluAdc a b c), (Instr.sub, 0x12, fun _ a b _ => aluSub a
      b), (Instr.sbc, 0x13, fun _ a b c => aluSbc a b c), (Instr.mul, 0x15, fun _ a b _ => aluMul a b), (Instr.mulhu,
      0x16, fun _ a b _ => aluMulhu a b), (Instr.mulhs, 0x17, fun _ a b _ => aluMulhs a b), (Instr.and, 0x20, fun _ a
      b _ => aluAnd a b), (Instr.or, 0x21, fun _ a b _ => aluOr a b), (Instr.xor, 0x22, fun _ a b _ => aluXor a b),
      (Instr.andn, 0x23, fun _ a b _ => aluAndn a b), (Instr.lsl, 0x28, fun _ a b _ => aluLsl a b), (Instr.lsr, 0x29,
      fun _ a b _ => aluLsr a b), (Instr.asr, 0x2A, fun _ a b _ => aluAsr a b), (Instr.rol, 0x2B, fun _ a b _ =>
      aluRol a b), (Instr.ror, 0x2C, fun _ a b _ => aluRor a b), (Instr.bfext, 0x30, fun i a b _ => aluBfext (i.sz ==
      1) a b), (Instr.bperm, 0x33, fun i a b _ => aluBperm i.sz a b)] ∧ Staged s sh wait opc i k ∧ binarySrc sh
      tagCompute i k = .ok (a, b, k1) ∧ writeTo sh (opd i 0) ⟨max a.tag b.tag, (f i a.val b.val (getSh k.st
      sh).c).val⟩ (if max a.tag b.tag ≤ 1 then some (f i a.val b.val (getSh k.st sh).c) else none) k1 = .ok k2 ∧
      Affords s sh i k2) :=
  ⟨(wProg wSh [1056, 1, 10243]), 5, 0, _, _, _, _, _, _, _, _, _, (.head _), wStaged (by decide +kernel),
    okOf_eq (by decide +kernel), okOf_eq (by decide +kernel), wAffords (by decide +kernel)⟩

theorem test_witness_KarefOther :
    (∃ s : State, ∃ sh : Nat, ∃ wait : Nat, ∃ i : Ins, ∃ k : KS, Staged s sh wait 0x00 i k ∧ Affords s sh i k) ∧
    (∃ s : State, ∃ sh : Nat, ∃ wait : Nat, ∃ i : Ins, ∃ k : KS, ∃ w : TW, ∃ k1 : KS, ∃ k2 : KS, Staged s sh wait
      0x01 i k ∧ srcK sh tagAny (opd i 1) k = .ok (w, k1) ∧ writeTo sh (opd i 0) w none k1 = .ok k2 ∧ Affords s sh i
      k2) ∧
    (∃ s : State, ∃ sh : Nat, ∃ wait : Nat, ∃ i : Ins, ∃ k : KS, ∃ k2 : KS, Staged s sh wait 0x02 i k ∧ writeTo sh
      (opd i 0) ⟨0, 0⟩ none k = .ok k2 ∧ Affords s sh i k2) ∧
    (∃ s : State, ∃ sh : Nat, ∃ wait : Nat, ∃ i : Ins, ∃ k : KS, ∃ w : TW, ∃ k1 : KS, ∃ k2 : KS, Staged s sh wait
      0x03 i k ∧ srcK sh tagAny (opd i 1) k = .ok (w, k1) ∧ writeTo sh (opd i 0) ⟨0, w.tag⟩ none k1 = .ok k2 ∧
      Affords s sh i k2) ∧
    (∃ s : State, ∃ sh : Nat, ∃ wait : Nat, ∃ i : Ins, ∃ k : KS, ∃ a : TW, ∃ k1 : KS, ∃ k2 : KS, ∃ row : Nat → Nat →
      Instr, ∃ opc : Nat, ∃ f : Nat → Alu, (row, opc, f) ∈ [(Instr.neg, 0x14, aluNeg), (Instr.not, 0x24, aluNot),
      (Instr.clz, 0x32, aluClz)] ∧ Staged s sh wait opc i k ∧ srcK sh tagCompute (opd i (i.opn - 1)) k = .ok (a, k1)
      ∧ writeTo sh (opd i 0) ⟨a.tag, (f a.val).val⟩ (if a.tag ≤ 1 then some (f a.val) else none) k1 = .ok k2 ∧
      Affords s sh i k2) ∧
    (∃ s : State, ∃ sh : Nat, ∃ wait : Nat, ∃ i : Ins, ∃ k : KS, ∃ a : TW, ∃ b : TW, ∃ k1 : KS, ∃ k2 : KS, ∃ row :
      Nat → Nat → Instr, ∃ opc : Nat, ∃ f : Nat → Nat → Alu, (row, opc, f) ∈ [(Instr.divu, 0x18, aluDivu),
      (Instr.divs, 0x19, aluDivs), (Instr.remu, 0x1A, aluRemu), (Instr.rems, 0x1B, aluRems)] ∧ Staged s sh wait opc i
      k ∧ binarySrc sh tagStrict i k = .ok (a, b, k1) ∧ b.val ≠ 0 ∧ writeTo sh (opd i 0) ⟨max a.tag b.tag, (f a.val
      b.val).val⟩ (if max a.tag b.tag ≤ 1 then some (f a.val b.val) else none) k1 = .ok k2 ∧ Affords s sh i k2) ∧
    (∃ s : State, ∃ sh : Nat, ∃ wait : Nat, ∃ i : Ins, ∃ k : KS, ∃ a : TW, ∃ b : TW, ∃ k1 : KS, ∃ k2 : KS, ∃ row :
      Nat → Nat → Instr, ∃ opc : Nat, ∃ f : Nat → Nat → Alu, (row, opc, f) ∈ [(Instr.cmp, 0x40, aluSub), (Instr.tst,
      0x41, aluAnd)] ∧ Staged s sh wait opc i k ∧ srcK sh tagStrict (opd i 0) k = .ok (a, k1) ∧ srcK sh tagStrict
      (opd i 1) k1 = .ok (b, k2) ∧ Affords s sh i k2) ∧
    (∃ s : State, ∃ sh : Nat, ∃ wait : Nat, ∃ i : Ins, ∃ k : KS, ∃ d : TW, ∃ a : TW, ∃ b : TW, ∃ k1 : KS, ∃ k2 : KS,
      ∃ k3 : KS, ∃ k4 : KS, Staged s sh wait 0x31 i k ∧ srcK sh tagCompute (opd i 0) k = .ok (d, k1) ∧ srcK sh
      tagCompute (opd i 1) k1 = .ok (a, k2) ∧ srcK sh tagCompute (opd i 2) k2 = .ok (b, k3) ∧ writeTo sh (opd i 0)
      ⟨max d.tag (max a.tag b.tag), (aluBfins d.val a.val b.val).val⟩ (if max d.tag (max a.tag b.tag) ≤ 1 then some
      (aluBfins d.val a.val b.val) else none) k3 = .ok k4 ∧ Affords s sh i k4) :=
  ⟨⟨(wProg wSh [0]), 5, 0, _, _, wStaged (by decide +kernel), wAffords (by decide +kernel)⟩,
   ⟨(wProg wSh [96, 1, 10243]), 5, 0, _, _, _, _, _, wStaged (by decide +kernel), okOf_eq (by decide +kernel),
     okOf_eq (by decide +kernel), wAffords (by decide +kernel)⟩,
   ⟨(wProg wSh [144, 1]), 5, 0, _, _, _, wStaged (by decide +kernel), okOf_eq (by decide +kernel),
     wAffords (by decide +kernel)⟩,
   ⟨(wProg wSh [224, 1, 2]), 5, 0, _, _, _, _, _, wStaged (by decide +kernel), okOf_eq (by decide +kernel),
     okOf_eq (by decide +kernel), wAffords (by decide +kernel)⟩,
   ⟨(wProg wSh [1312, 1, 10243]), 5, 0, _, _, _, _, _, _, _, _, (.head _), wStaged (by decide +kernel),
     okOf_eq (by decide +kernel), okOf_eq (by decide +kernel), wAffords (by decide +kernel)⟩,
   ⟨(wProg wSh [1584, 1, 10247, 10242]), 5, 0, _, _, _, _, _, _, _, _, _, (.head _), wStaged (by decide +kernel),
     okOf_eq (by decide +kernel), (by decide +kernel), okOf_eq (by decide +kernel), wAffords (by decide +kernel)⟩,
   ⟨(wProg wSh [4128, 10247, 10242]), 5, 0, _, _, _, _, _, _, _, _, _, (.head _), wStaged (by decide +kernel),
     okOf_eq (by decide +kernel), okOf_eq (by decide +kernel), wAffords (by decide +kernel)⟩,
   ⟨(wProg wSh [3184, 1, 10247, 10242]), 5, 0, _, _, _, _, _, _, _, _, _, wStaged (by decide +kernel),
     okOf_eq (by decide +kernel), okOf_eq (by decide +kernel), okOf_eq (by decide +kernel),
     okOf_eq (by decide +kernel), wAffords (by decide +kernel)⟩⟩

theorem test_witness_KarefArithmetic :
    (∃ b : BitVec 16, b ≠ 0) :=
  ⟨1, (by decide +kernel)⟩

theorem test_witness_KarefControl :
    (∃ s : State, ∃ sh : Nat, ∃ wait : Nat, ∃ i : Ins, ∃ k : KS, ∃ t : Nat, ∃ k1 : KS, Staged s sh wait 0x48 i k ∧
      targetSrc sh (opd i 0) k = .ok (t, k1) ∧ Affords s sh i k1 ∧ brCond i.sz (getSh k1.st sh).z (getSh k1.st sh).n
      (getSh k1.st sh).c (getSh k1.st sh).v = false) ∧
    (∃ s : State, ∃ sh : Nat, ∃ wait : Nat, ∃ i : Ins, ∃ k : KS, ∃ t : Nat, ∃ k1 : KS, Staged s sh wait 0x48 i k ∧
      targetSrc sh (opd i 0) k = .ok (t, k1) ∧ Affords s sh i k1 ∧ brCond i.sz (getSh k1.st sh).z (getSh k1.st sh).n
      (getSh k1.st sh).c (getSh k1.st sh).v = true) ∧
    (∃ x : Shuttle, x.ldepth = 0) ∧
    (∃ x : Shuttle, ∃ t : Nat, ∃ d : Nat, x.ldepth = d + 1 ∧ mget 0 x.ls d ≤ t ∧ t ≤ mget 0 x.le d) ∧
    (∃ x : Shuttle, ∃ t : Nat, ∃ d : Nat, x.ldepth = d + 1 ∧ d < 3 ∧ (t < mget 0 x.ls d ∨ mget 0 x.le d < t)) ∧
    (∃ s : State, ∃ sh : Nat, ∃ wait : Nat, ∃ i : Ins, ∃ k : KS, ∃ t : Nat, ∃ k1 : KS, ∃ k2 : KS, Staged s sh wait
      0x49 i k ∧ targetSrc sh (opd i 1) k = .ok (t, k1) ∧ writeTo sh (opd i 0) ⟨5, i.after % 32768⟩ none k1 = .ok k2
      ∧ Affords s sh i k2) ∧
    (∃ s : State, ∃ sh : Nat, ∃ wait : Nat, ∃ i : Ins, ∃ k : KS, ∃ w : TW, ∃ k1 : KS, Staged s sh wait 0x4A i k ∧
      srcK sh tagRet (opd i 0) k = .ok (w, k1) ∧ Affords s sh i k1) ∧
    (∃ s : State, ∃ sh : Nat, ∃ wait : Nat, ∃ i : Ins, ∃ k : KS, ∃ w : TW, ∃ k1 : KS, Staged s sh wait 0x50 i k ∧
      srcK sh tagPlace (opd i 0) k = .ok (w, k1) ∧ (getSh k1.st sh).ldepth < 3 ∧ Affords s sh i k1 ∧ w.val = 0) ∧
    (∃ s : State, ∃ sh : Nat, ∃ wait : Nat, ∃ i : Ins, ∃ k : KS, ∃ w : TW, ∃ k1 : KS, Staged s sh wait 0x50 i k ∧
      srcK sh tagPlace (opd i 0) k = .ok (w, k1) ∧ (getSh k1.st sh).ldepth < 3 ∧ Affords s sh i k1 ∧ w.val ≠ 0) ∧
    (∃ s : State, ∃ sh : Nat, ∃ wait : Nat, ∃ i : Ins, ∃ k : KS, ∃ w : TW, ∃ k1 : KS, Staged s sh wait 0x51 i k ∧
      (getSh k.st sh).rpta = false ∧ srcK sh tagPlace (opd i 0) k = .ok (w, k1) ∧ rptTarget sh i k1 = false ∧ (w.val
      ≤ 64 ∨ (getSh k.st sh).rpti = true) ∧ Affords s sh i k1 ∧ 1 ≤ w.val) ∧
    (∃ s : State, ∃ sh : Nat, ∃ wait : Nat, ∃ i : Ins, ∃ k : KS, ∃ w : TW, ∃ k1 : KS, Staged s sh wait 0x51 i k ∧
      (getSh k.st sh).rpta = false ∧ srcK sh tagPlace (opd i 0) k = .ok (w, k1) ∧ rptTarget sh i k1 = false ∧ (w.val
      ≤ 64 ∨ (getSh k.st sh).rpti = true) ∧ Affords s sh i k1 ∧ w.val = 0) ∧
    (∃ s : State, ∃ sh : Nat, ∃ wait : Nat, ∃ i : Ins, ∃ k : KS, Staged s sh wait 0x59 i k ∧ (getSh k.st sh).trapping
      = true ∧ (mget {} (getSh k.st sh).priv 0x7FFF).tag = 5 ∧ (∀ a, 0x7FFC ≤ a → a < 0x7FFF → frameCause (mget {}
      (getSh k.st sh).priv a) = none) ∧ Affords s sh i k) :=
  ⟨⟨(wProg wSh [4625, 10288]), 5, 0, _, _, _, _, wStaged (by decide +kernel), okOf_eq (by decide +kernel),
     wAffords (by decide +kernel), (by decide +kernel)⟩,
   ⟨(wProg wSh [4624, 10288]), 5, 0, _, _, _, _, wStaged (by decide +kernel), okOf_eq (by decide +kernel),
     wAffords (by decide +kernel), (by decide +kernel)⟩,
   ⟨wSh, (by decide +kernel)⟩,
   ⟨({ wSh with ldepth := 3, ls := [(2, 5)], le := [(2, 9)] }), 9, 2, (by decide +kernel), (by decide +kernel),
     (by decide +kernel)⟩,
   ⟨({ wSh with ldepth := 3, ls := [(2, 5)], le := [(2, 9)] }), 10, 2, (by decide +kernel), (by decide +kernel),
     (by decide +kernel)⟩,
   ⟨(wProg wSh [4704, 1, 10288]), 5, 0, _, _, _, _, _, wStaged (by decide +kernel), okOf_eq (by decide +kernel),
     okOf_eq (by decide +kernel), wAffords (by decide +kernel)⟩,
   ⟨(wProg { wSh with priv := [(1, ⟨5, 0x30⟩)] } [4752, 1]), 5, 0, _, _, _, _, wStaged (by decide +kernel),
     okOf_eq (by decide +kernel), wAffords (by decide +kernel)⟩,
   ⟨(wProg { wSh with ldepth := 2 } [5137, 10240]), 5, 0, _, _, _, _, wStaged (by decide +kernel),
     okOf_eq (by decide +kernel), (by decide +kernel), wAffords (by decide +kernel), (by decide +kernel)⟩,
   ⟨(wProg { wSh with ldepth := 2 } [5137, 10243]), 5, 0, _, _, _, _, wStaged (by decide +kernel),
     okOf_eq (by decide +kernel), (by decide +kernel), wAffords (by decide +kernel), (by decide +kernel)⟩,
   ⟨(wProg wSh [5200, 10304]), 5, 0, _, _, _, _, wStaged (by decide +kernel), (by decide +kernel),
     okOf_eq (by decide +kernel), (by decide +kernel), (by decide +kernel), wAffords (by decide +kernel),
     (by decide +kernel)⟩,
   ⟨(wProg wSh [5200, 10240]), 5, 0, _, _, _, _, wStaged (by decide +kernel), (by decide +kernel),
     okOf_eq (by decide +kernel), (by decide +kernel), (by decide +kernel), wAffords (by decide +kernel),
     (by decide +kernel)⟩,
   ⟨(wProg { wSh with trapping := true, priv := [(0x7FFF, ⟨5, 0x30⟩)] } [5696]), 5, 0, _, _,
     wStaged (by decide +kernel), (by decide +kernel), (by decide +kernel),
     (by intro a h1 h2; have h: a=0x7FFC ∨ a=0x7FFD ∨ a=0x7FFE:= (by omega); rcases h with rfl|rfl|rfl <;> decide +kernel),
     wAffords (by decide +kernel)⟩⟩

theorem test_witness_KarefUnits :
    (∃ s : State, ∃ sh : Nat, ∃ wait : Nat, ∃ i : Ins, ∃ k : KS, ∃ d : Nat, ∃ t : Nat, ∃ n : Nat, ∃ k1 : KS, Staged s
      sh wait 0x34 i k ∧ ((getSh k.st sh).gidx) ≤ i.sz ∧ (getSh k.st sh).gath.getD ((opd i 0).val, (opd i 1).val,
      (opd i 2).val) = (d, t, n) ∧ gatherElem sh d t n ((getSh k.st sh).gidx) k = .ok k1 ∧ ((getSh k.st sh).gidx) <
      i.sz ∧ Affords s sh i k1) ∧
    (∃ s : State, ∃ sh : Nat, ∃ wait : Nat, ∃ i : Ins, ∃ k : KS, ∃ d : Nat, ∃ t : Nat, ∃ n : Nat, ∃ k1 : KS, Staged s
      sh wait 0x34 i k ∧ ((getSh k.st sh).gidx) ≤ i.sz ∧ (getSh k.st sh).gath.getD ((opd i 0).val, (opd i 1).val,
      (opd i 2).val) = (d, t, n) ∧ gatherElem sh d t n ((getSh k.st sh).gidx) k = .ok k1 ∧ ((getSh k.st sh).gidx) =
      i.sz ∧ Affords s sh i (commitBps sh
      { k1 with st := setSh sh { getSh k1.st sh with gidx := 0, gath := none } k1.st })) ∧
    (∃ s : State, ∃ sh : Nat, ∃ wait : Nat, ∃ i : Ins, ∃ k : KS, ∃ w : TW, ∃ k1 : KS, ∃ j : Job, Staged s sh wait
      0x60 i k ∧ srcK sh tagPlace (opd i 0) k = .ok (w, k1) ∧ engOut i (getSh k1.st sh) = false ∧ Affords s sh i k1 ∧
      (getSh (commitBps sh k1).st sh).job = some j) ∧
    (∃ s : State, ∃ sh : Nat, ∃ wait : Nat, ∃ i : Ins, ∃ k : KS, Staged s sh wait 0x61 i k ∧ engOut i (getSh k.st sh)
      = true ∧ (getChan k.st (i.sz % 2 == 1) (shUnit sh) (shChan sh)).fault = false ∧ (getChan k.st (i.sz % 2 == 1)
      (shUnit sh) (shChan sh)).cleared = false ∧ (getChan k.st (i.sz % 2 == 1) (shUnit sh) (shChan sh)).fin = true ∧
      (getChan k.st (i.sz % 2 == 1) (shUnit sh) (shChan sh)).done = false) ∧
    (∃ s : State, ∃ sh : Nat, ∃ wait : Nat, ∃ i : Ins, ∃ k : KS, ∃ k2 : KS, Staged s sh wait 0x61 i k ∧ engOut i
      (getSh k.st sh) = true ∧ (getChan k.st (i.sz % 2 == 1) (shUnit sh) (shChan sh)).fault = false ∧ (getChan k.st
      (i.sz % 2 == 1) (shUnit sh) (shChan sh)).cleared = false ∧ (getChan k.st (i.sz % 2 == 1) (shUnit sh) (shChan
      sh)).fin = true ∧ (getChan k.st (i.sz % 2 == 1) (shUnit sh) (shChan sh)).done = true ∧ writeTo sh (opd i 0) ⟨0,
      (getChan k.st (i.sz % 2 == 1) (shUnit sh) (shChan sh)).status⟩ none
      ({ useWait k with st := setSh sh (setOut i false (getSh (setChan (i.sz % 2 == 1) (shUnit sh) (shChan sh) { (getChan k.st (i.sz % 2 == 1) (shUnit sh) (shChan sh)) with busy := false } (useWait k).st) sh)) (setChan (i.sz % 2 == 1) (shUnit sh) (shChan sh) { (getChan k.st (i.sz % 2 == 1) (shUnit sh) (shChan sh)) with busy := false } (useWait k).st) })
      = .ok k2 ∧ Affords s sh i k2) ∧
    (∃ s : State, ∃ sh : Nat, ∃ wait : Nat, ∃ i : Ins, ∃ k : KS, Staged s sh wait 0x61 i k ∧ engOut i (getSh k.st sh)
      = true ∧ ((getChan k.st (i.sz % 2 == 1) (shUnit sh) (shChan sh)).fault = true ∨ (getChan k.st (i.sz % 2 == 1)
      (shUnit sh) (shChan sh)).cleared = true)) ∧
    (∃ s : State, ∃ sh : Nat, ∃ wait : Nat, ∃ i : Ins, ∃ k : KS, ∃ w : TW, ∃ k1 : KS, ∃ j : Job, ∃ k3 : KS, Staged s
      sh wait 0x68 i k ∧ srcK sh tagLref (opd i 1) k = .ok (w, k1) ∧ acceptRun 16 (opd i 0).val k1 = .ok () ∧ (getSh
      k1.st sh).job = some j ∧ writeRun sh ((padTo 16 0 (imageAt (commitBps sh (useWait k1)).st j.slot)).map
      BitVec.toNat) (opd i 0).val
      { (commitBps sh (useWait k1)) with st := jobNeeds j (commitBps sh (useWait k1)).st } = .ok k3 ∧ Affords s sh i
      k3) ∧
    (∃ s : State, ∃ sh : Nat, ∃ wait : Nat, ∃ i : Ins, ∃ k : KS, ∃ w : TW, ∃ k1 : KS, Staged s sh wait 0x70 i k ∧
      srcK sh tagPlace (opd i 0) k = .ok (w, k1) ∧ Affords s sh i k1) :=
  ⟨⟨(wProg wSh [3377, 1, 10, 20]), 5, 0, _, _, 1, 10, 20, _, wStaged (by decide +kernel), (by decide +kernel),
     (by decide +kernel), okOf_eq (by decide +kernel), (by decide +kernel), wAffords (by decide +kernel)⟩,
   ⟨(wProg { wSh with gidx := 1, gath := some (1, 10, 20) } [3377, 1, 10, 20]), 5, 0, _, _, 1, 10, 20, _,
     wStaged (by decide +kernel), (by decide +kernel), (by decide +kernel), okOf_eq (by decide +kernel),
     (by decide +kernel), wAffords (by decide +kernel)⟩,
   ⟨(wProg wSh [6161, 10240]), 5, 0, _, _, _, _, wJob, wStaged (by decide +kernel), okOf_eq (by decide +kernel),
     (by decide +kernel), wAffords (by decide +kernel), (by decide +kernel)⟩,

     ⟨({ wProg { wSh with ciOut := true } [6225, 1] with engs := { wS.engs with ci := [(0, { chans := [(5, { fin := true, done := false })] })] } }),
     5, 0, _, _, wStaged (by decide +kernel), (by decide +kernel), (by decide +kernel), (by decide +kernel),
     (by decide +kernel), (by decide +kernel)⟩,

     ⟨({ wProg { wSh with ciOut := true } [6225, 1] with engs := { wS.engs with ci := [(0, { chans := [(5, { fin := true, done := true })] })] } }),
     5, 0, _, _, _, wStaged (by decide +kernel), (by decide +kernel), (by decide +kernel), (by decide +kernel),
     (by decide +kernel), (by decide +kernel), okOf_eq (by decide +kernel), wAffords (by decide +kernel)⟩,

     ⟨({ wProg { wSh with ciOut := true } [6225, 1] with engs := { wS.engs with ci := [(0, { chans := [(5, { fin := true, fault := true })] })] } }),
     5, 0, _, _, wStaged (by decide +kernel), (by decide +kernel), (by decide +kernel)⟩,
   ⟨(wProg { wSh with priv := [(1, ⟨4, 0⟩)] } [6688, 100, 1]), 5, 0, _, _, _, _, wJob, _,
     wStaged (by decide +kernel), okOf_eq (by decide +kernel), okOf_eq (by decide +kernel), (by decide +kernel),
     okOf_eq (by decide +kernel), wAffords (by decide +kernel)⟩,
   ⟨(wProg wSh [7187, 10243]), 5, 0, _, _, _, _, wStaged (by decide +kernel), okOf_eq (by decide +kernel),
     wAffords (by decide +kernel)⟩⟩

theorem test_witness_KarefTraps :
    (∃ s : State, ∃ sh : Nat, ∃ wait : Nat, ∃ i : Ins, ∃ k : KS, Staged s sh wait 0x58 i k ∧ overBudget s sh (i.cost
      + trapCycles s sh (0x20 + i.sz)) false = false) ∧
    (∃ s : State, ∃ sh : Nat, ∃ wait : Nat, ∃ j : Job, ∃ head : Nat, ∃ ops : List Opd, ∃ after : Nat, ∃ k : KS, alive
      s = true ∧ (getSh s sh).job = some j ∧ shuttleRuns s sh = true ∧ kFetch s sh j (getSh s sh).pc = some head ∧
      opInfo (head / 64) = none ∧ decodeOpds sh j (head / 16 % 4) ((getSh s sh).pc + 1) (beginK sh wait (head / 64)
      s) = .ok (ops, after, k) ∧ (getSh s sh).rpta = false) ∧
    (∃ s : State, ∃ sh : Nat, ∃ c : Nat, ∃ j : Job, ∃ v : Nat, ∃ h : Nat, ∃ a : Nat, (getSh s sh).job = some j ∧
      (getSh s sh).trapping = false ∧ vectorOf c = some v ∧ kFetch s sh j v = some h ∧ h ≠ 0 ∧ a < 0x7FF7) ∧
    (∃ s : State, ∃ sh : Nat, ∃ c : Nat, ∃ j : Job, ∃ v : Nat, ∃ h : Nat, (getSh s sh).job = some j ∧ (getSh s
      sh).trapping = false ∧ vectorOf c = some v ∧ kFetch s sh j v = some h ∧ h ≠ 0) ∧
    (∃ s : State, ∃ sh : Nat, ∃ c : Nat, ∃ j : Job, ∃ v : Nat, (getSh s sh).job = some j ∧ (getSh s sh).trapping =
      false ∧ vectorOf c = some v ∧ (kFetch s sh j v).getD 0 = 0) ∧
    (∃ s : State, ∃ sh : Nat, ∃ j : Job, alive s = true ∧ (getSh s sh).job = some j ∧ shuttleRuns s sh = true ∧
      kFetch s sh j (getSh s sh).pc = none) :=
  ⟨⟨(wProg wSh [5635]), 5, 0, _, _, wStaged (by decide +kernel), (by decide +kernel)⟩,
   ⟨(wProg wSh [960]), 5, 0, wJob, 960, _, _, _, (by decide +kernel), (by decide +kernel), (by decide +kernel),
     (by decide +kernel), (by decide +kernel), okOf_eq (by decide +kernel), (by decide +kernel)⟩,
   ⟨(wProg wSh []), 5, 1, wJob, 1, 0x14, 0, (by decide +kernel), (by decide +kernel), (by decide +kernel),
     (by decide +kernel), (by decide +kernel), (by decide +kernel)⟩,
   ⟨(wProg wSh []), 5, 1, wJob, 1, 0x14, (by decide +kernel), (by decide +kernel), (by decide +kernel),
     (by decide +kernel), (by decide +kernel)⟩,
   ⟨(wProg wSh []), 5, 2, wJob, 2, (by decide +kernel), (by decide +kernel), (by decide +kernel),
     (by decide +kernel)⟩,
   ⟨(wProg { wSh with pc := 64 } []), 5, wJob, (by decide +kernel), (by decide +kernel), (by decide +kernel),
     (by decide +kernel)⟩⟩

theorem test_witness_LaneBringUp :
    (∃ s : State, ∃ id : Nat, ∃ c : Cmd, ∃ d : List Byte, ∃ l : Nat, alive s = true ∧ cmdOf s id = some c ∧ c.lane =
      some l ∧ s.jn.stopped = false ∧ (getLane s l).state ≠ 0 ∧ cOp c = 0x61 ∧ inData c 0 = some d) ∧
    (∃ s : State, ∃ id : Nat, ∃ c : Cmd, ∃ l : Nat, ∃ b : List Nat, ∃ cr : List Byte, alive s = true ∧ cmdOf s id =
      some c ∧ c.lane = some l ∧ s.jn.stopped = false ∧ (getLane s l).state ≠ 0 ∧ cOp c = 0x20 ∧ c.step = 1 ∧
      issuePlan s c = .emit b cr) ∧
    (∃ s : State, ∃ l : Nat, alive s = true ∧ l < 64 ∧ (getLane s l).link = .off) ∧
    (∃ s : State, ∃ l : Nat, alive s = true ∧ l < 64 ∧ (getLane s l).link = .wake) ∧
    (∃ s : State, ∃ dt : Nat, ∃ l : Nat, alive (passTime dt s) = true ∧ l < 64 ∧ (getLane (passTime dt s) l).link =
      .hello ∧ (getLane (passTime dt s) l).startAt + 3000 ≤ (passTime dt s).now) ∧
    (∃ s : State, ∃ dt : Nat, ∃ l : Nat, ∃ t : Nat, alive (passTime dt s) = true ∧ l < 64 ∧ (getLane (passTime dt s)
      l).retryAt = some t ∧ (passTime dt s).now < t) ∧
    (∃ s : State, ∃ dt : Nat, ∃ l : Nat, ∃ t : Nat, alive (passTime dt s) = true ∧ l < 64 ∧ (getLane (passTime dt s)
      l).retryAt = some t ∧ t ≤ (passTime dt s).now ∧ (getLane (passTime dt s) l).opening = false) ∧
    (∃ s : State, ∃ l : Nat, (getLane s l).tries = 0) ∧
    (∃ s : State, ∃ dt : Nat, ∃ l : Nat, alive (passTime dt s) = true ∧ l < 64 ∧ (getLane (passTime dt s) l).link =
      .up ∧ (getLane (passTime dt s) l).timeAt + 1000 ≤ (passTime dt s).now) ∧
    (∃ s : State, ∃ dt : Nat, ∃ l : Nat, alive (passTime dt s) = true ∧ l < 64 ∧ (getLane (passTime dt s) l).link =
      .up ∧ (passTime dt s).now < (getLane (passTime dt s) l).timeAt + 1000) ∧
    (∃ s : State, ∃ dt : Nat, ∃ l : Nat, alive (passTime dt s) = true ∧ l < 64 ∧ (getLane (passTime dt s) l).link =
      .up ∧ (getLane (passTime dt s) l).lastRx + 5000 ≤ (passTime dt s).now) ∧
    (∃ s : State, ∃ dt : Nat, ∃ l : Nat, ∃ p : Place, ∃ ps : List Place, ∃ a : Nat, alive (passTime dt s) = true ∧ l
      < 64 ∧ (getLane (passTime dt s) l).link = .up ∧ (getLane (passTime dt s) l).places = p :: ps ∧ p.sentAt = some
      a ∧ a + 500 ≤ (passTime dt s).now) ∧
    (∃ s : State, ∃ l : Nat, alive s = true ∧ l < 64 ∧ (getLane s l).link = .up) ∧
    (∃ s : State, ∃ l : Nat, alive s = true ∧ l < 64 ∧ (getLane s l).link ≠ .up ∧ (getLane s l).link ≠ .off) ∧
    (∃ s : State, ∃ dt : Nat, ∃ l : Nat, alive (passTime dt s) = true ∧ l < 64 ∧ (getLane (passTime dt s) l).state =
      4 ∧ (getLane (passTime dt s) l).places ≠ [] ∧ (getLane (passTime dt s) l).sleepAt + 100 ≤ (passTime dt s).now) ∧
    (∃ s : State, ∃ dt : Nat, ∃ l : Nat, ∃ e : Nat, alive (passTime dt s) = true ∧ l < 64 ∧ (getLane (passTime dt s)
      l).state = 4 ∧ errorBound (passTime dt s) (getLane (passTime dt s) l) = some e ∧ (getLane (passTime dt s)
      l).wakeAt ≠ 0 ∧ tosDiff (passTime dt s).clk.tos (((getLane (passTime dt s) l).wakeAt + e) % 2 ^ 48) < 2 ^ 47) ∧
    (∃ s : State, ∃ dt : Nat, ∃ l : Nat, ∃ p : Place, ∃ a : Nat, alive (passTime dt s) = true ∧ l < 64 ∧ (getLane
      (passTime dt s) l).places = [p] ∧ p.type = 0x11 ∧ p.sentAt = none ∧ p.time = some a ∧ atGuard (passTime dt s) a
      = true) ∧
    (∃ s : State, ∃ dt : Nat, ∃ l : Nat, ∃ p : Place, ∃ a : Nat, alive (passTime dt s) = true ∧ l < 64 ∧ (getLane
      (passTime dt s) l).places = [p] ∧ p.type = 0x11 ∧ p.sentAt = none ∧ p.time = some a ∧ atGuard (passTime dt s) a
      = false) ∧
    (∃ s : State, ∃ dt : Nat, ∃ l : Nat, alive (passTime dt s) = true ∧ l < 64) ∧
    (∃ s : State, ∃ dt : Nat, ∃ l : Nat, alive (passTime dt s) = true ∧ l < 64 ∧ (getLane (passTime dt s) l).state =
      5 ∧ (getLane (passTime dt s) l).closeAt + 40000 ≤ (passTime dt s).now) ∧
    (∃ s : State, ∃ dt : Nat, ∃ l : Nat, alive (passTime dt s) = true ∧ l < 64 ∧ (getLane (passTime dt s) l).state =
      5 ∧ (passTime dt s).now < (getLane (passTime dt s) l).closeAt + 40000) :=
  ⟨⟨({ wAt ({ wC 0x61 1 [] with inData := [(0, some [7])], lane := some 63 }) with lanes := [(63, { state := 3 })] }),
     1, ({ wC 0x61 1 [] with inData := [(0, some [7])], lane := some 63 }), [7], 63, (by decide +kernel),
     (by decide +kernel), (by decide +kernel), (by decide +kernel), (by decide +kernel), (by decide +kernel),
     (by decide +kernel)⟩,

     ⟨({ wAt ({ wC 0x20 1 [(8, 14), (10, 1), (11, 0)] with table := wTable, step := 1, lane := some 63, job := .ended (.block (wBlock [(4, 2), (5, 4)])) }) with keys := { wS.keys with slots := [(5, { state := 2, realm := 1, family := 0, keyGen := 0, kind := 3, attr := 0xFFFF })] }, lanes := [(63, { state := 3 })] }),
     1,
     ({ wC 0x20 1 [(8, 14), (10, 1), (11, 0)] with table := wTable, step := 1, lane := some 63, job := .ended (.block (wBlock [(4, 2), (5, 4)])) }),
     63, (wBlock [(4, 2), (5, 4)]), (credHeader 14 (imageAt wS 14) 0 0), (by decide +kernel), (by decide +kernel),
     (by decide +kernel), (by decide +kernel), (by decide +kernel), (by decide +kernel), (by decide +kernel),
     (by decide +kernel)⟩,
   ⟨wS, 63, (by decide +kernel), (by decide +kernel), (by decide +kernel)⟩,
   ⟨({ wS with lanes := [(63, { link := .wake })] }), 63, (by decide +kernel), (by decide +kernel),
     (by decide +kernel)⟩,
   ⟨({ wS with lanes := [(63, { link := .hello, startAt := 97000 })] }), 0, 63, (by decide +kernel),
     (by decide +kernel), (by decide +kernel), (by decide +kernel)⟩,
   ⟨({ wS with lanes := [(63, { retryAt := some 100001 })] }), 0, 63, 100001, (by decide +kernel),
     (by decide +kernel), (by decide +kernel), (by decide +kernel)⟩,
   ⟨({ wS with lanes := [(63, { retryAt := some 100000 })] }), 0, 63, 100000, (by decide +kernel),
     (by decide +kernel), (by decide +kernel), (by decide +kernel), (by decide +kernel)⟩,
   ⟨({ wS with lanes := [(63, { link := .wake })] }), 63, (by decide +kernel)⟩,
   ⟨({ wS with lanes := [(63, { link := .up, timeAt := 99000 })] }), 0, 63, (by decide +kernel), (by decide +kernel),
     (by decide +kernel), (by decide +kernel)⟩,
   ⟨({ wS with lanes := [(63, { link := .up, timeAt := 99001 })] }), 0, 63, (by decide +kernel), (by decide +kernel),
     (by decide +kernel), (by decide +kernel)⟩,
   ⟨({ wS with lanes := [(63, { link := .up, lastRx := 95000 })] }), 0, 63, (by decide +kernel), (by decide +kernel),
     (by decide +kernel), (by decide +kernel)⟩,
   ⟨({ wS with lanes := [(63, { link := .up, places := [⟨7, 0x11, [], 0, none, some 99500⟩] })] }), 0, 63, (⟨7, 0x11,
     [], 0, none, some 99500⟩), [], 99500, (by decide +kernel), (by decide +kernel), (by decide +kernel),
     (by decide +kernel), (by decide +kernel), (by decide +kernel)⟩,
   ⟨({ wS with lanes := [(63, { link := .up })] }), 63, (by decide +kernel), (by decide +kernel),
     (by decide +kernel)⟩,
   ⟨({ wS with lanes := [(63, { link := .first })] }), 63, (by decide +kernel), (by decide +kernel),
     (by decide +kernel), (by decide +kernel)⟩,
   ⟨({ wS with lanes := [(63, { state := 4, places := [⟨7, 0x11, [], 0, none, none⟩], sleepAt := 99900 })] }), 0, 63,
     (by decide +kernel), (by decide +kernel), (by decide +kernel), (by decide +kernel), (by decide +kernel)⟩,
   ⟨({ wS with lanes := [(63, { state := 4, tSync := some 100000, wakeAt := 99998 })] }), 0, 63, 2,
     (by decide +kernel), (by decide +kernel), (by decide +kernel), (by decide +kernel), (by decide +kernel),
     (by decide +kernel)⟩,
   ⟨({ wS with lanes := [(63, { places := [⟨7, 0x11, [], 0, some 100049, none⟩] })] }), 0, 63, (⟨7, 0x11, [], 0, some
     100049, none⟩), 100049, (by decide +kernel), (by decide +kernel), (by decide +kernel), (by decide +kernel),
     (by decide +kernel), (by decide +kernel), (by decide +kernel)⟩,
   ⟨({ wS with lanes := [(63, { places := [⟨7, 0x11, [], 0, some 100050, none⟩] })] }), 0, 63, (⟨7, 0x11, [], 0, some
     100050, none⟩), 100050, (by decide +kernel), (by decide +kernel), (by decide +kernel), (by decide +kernel),
     (by decide +kernel), (by decide +kernel), (by decide +kernel)⟩,
   ⟨wS, 0, 63, (by decide +kernel), (by decide +kernel)⟩,
   ⟨({ wS with lanes := [(63, { state := 5, closeAt := 60000 })] }), 0, 63, (by decide +kernel), (by decide +kernel),
     (by decide +kernel), (by decide +kernel)⟩,
   ⟨({ wS with lanes := [(63, { state := 5, closeAt := 60001 })] }), 0, 63, (by decide +kernel), (by decide +kernel),
     (by decide +kernel), (by decide +kernel)⟩⟩

theorem test_witness_StationFrames :
    (∃ s : State, ∃ l : Nat, ∃ f : List Byte, ∃ i : Instr, ∃ t : Nat, ∃ act : State → State, alive s = true ∧ l < 64
      ∧ (i = Instr.helloS l f ∧ t = 0x81 ∧ act = helloAct l f ∨ i = Instr.readyS l f ∧ t = 0x82 ∧ act = readyAct l f
      ∨ i = Instr.ack l f ∧ t = 0x84 ∧ act = ackAct l ∨ i = Instr.sleep l f ∧ t = 0x86 ∧ act = sleepAct l f ∨ i =
      Instr.report l f ∧ t = 0x90 ∧ act = reportAct l f ∨ i = Instr.lateFail l f ∧ t = 0x91 ∧ act = lateAct l f ∨ i =
      Instr.close l f ∧ t = 7 ∧ act = closeAct l f ∨ (∃ r, i = Instr.timeEcho l r f ∧ t = 0x83 ∧ act = echoAct l r
      f)) ∧ listening (getLane s l) = true ∧ fType f = t ∧ crcBad f = false ∧ headBad (getLane s l) f = false ∧
      macBad (getLane s l) f = false ∧ fieldsBad (getLane s l) f = false) ∧
    (∃ s : State, ∃ l : Nat, ∃ f : List Byte, ∃ i : Instr, ∃ t : Nat, ∃ act : State → State, alive s = true ∧ l < 64
      ∧ (i = Instr.helloS l f ∧ t = 0x81 ∧ act = helloAct l f ∨ i = Instr.readyS l f ∧ t = 0x82 ∧ act = readyAct l f
      ∨ i = Instr.ack l f ∧ t = 0x84 ∧ act = ackAct l ∨ i = Instr.sleep l f ∧ t = 0x86 ∧ act = sleepAct l f ∨ i =
      Instr.report l f ∧ t = 0x90 ∧ act = reportAct l f ∨ i = Instr.lateFail l f ∧ t = 0x91 ∧ act = lateAct l f ∨ i =
      Instr.close l f ∧ t = 7 ∧ act = closeAct l f ∨ (∃ r, i = Instr.timeEcho l r f ∧ t = 0x83 ∧ act = echoAct l r
      f)) ∧ listening (getLane s l) = true ∧ fType f = t ∧ crcBad f = false ∧ headBad (getLane s l) f = false ∧
      macBad (getLane s l) f = true) ∧
    (∃ s : State, ∃ l : Nat, ∃ f : List Byte, ∃ i : Instr, ∃ t : Nat, ∃ act : State → State, alive s = true ∧ l < 64
      ∧ (i = Instr.helloS l f ∧ t = 0x81 ∧ act = helloAct l f ∨ i = Instr.readyS l f ∧ t = 0x82 ∧ act = readyAct l f
      ∨ i = Instr.ack l f ∧ t = 0x84 ∧ act = ackAct l ∨ i = Instr.sleep l f ∧ t = 0x86 ∧ act = sleepAct l f ∨ i =
      Instr.report l f ∧ t = 0x90 ∧ act = reportAct l f ∨ i = Instr.lateFail l f ∧ t = 0x91 ∧ act = lateAct l f ∨ i =
      Instr.close l f ∧ t = 7 ∧ act = closeAct l f ∨ (∃ r, i = Instr.timeEcho l r f ∧ t = 0x83 ∧ act = echoAct l r
      f)) ∧ listening (getLane s l) = true ∧ fType f = t ∧ crcBad f = false ∧ headBad (getLane s l) f = false ∧
      macBad (getLane s l) f = false ∧ fieldsBad (getLane s l) f = true) ∧
    (∃ s : State, ∃ l : Nat, ∃ v : List Nat, alive s = true ∧ l < 64 ∧ listening (getLane s l) = true ∧ crcBad
      ((rxLine v).getD []) = true) ∧
    (∃ s : State, ∃ l : Nat, ∃ v : List Nat, alive s = true ∧ l < 64 ∧ listening (getLane s l) = true ∧ crcBad
      ((rxLine v).getD []) = false ∧ headBad (getLane s l) ((rxLine v).getD []) = true ∧ ((getLane s l).link = .up ∨
      (getLane s l).link = .first)) ∧
    (∃ s : State, ∃ l : Nat, ∃ v : List Nat, alive s = true ∧ l < 64 ∧ listening (getLane s l) = true ∧ crcBad
      ((rxLine v).getD []) = false ∧ headBad (getLane s l) ((rxLine v).getD []) = true ∧ ((getLane s l).link = .hello
      ∨ (getLane s l).link = .ready)) ∧
    (∃ s : State, ∃ l : Nat, ∃ rest : List Place, ∃ g : Nat, (getLane s l).link = .up ∧ (getLane s l).places = (⟨g,
      0x11, [], 0, none, none⟩) :: rest ∧ rest.all (fun p => !seqLe p.seq g) = true ∧ seqLe g g = true) ∧
    (∃ gen : Nat, ∃ r : List Word, rGen r = gen ∧ rState r = stUnconfirmed ∧ rTag r = true) ∧
    (∃ gen : Nat, ∃ r : List Word, rGen r = gen ∧ rState r = stUnconfirmed ∧ rTag r = true) ∧
    (∃ gen : Nat, ∃ r : List Word, rGen r = gen ∧ rState r = stUnconfirmed ∧ rTag r = true) ∧
    (∃ s : State, ∃ l : Nat, ∃ f : List Byte, ((((fPay f).getD 0 0).toNat) = 0 ∨ 3 < (((fPay f).getD 0 0).toNat) ∨
      bit (getLane s l).permit ((((fPay f).getD 0 0).toNat) - 1) = false)) ∧
    (∃ s : State, ∃ l : Nat, ∃ f : List Byte, 1 ≤ (((fPay f).getD 0 0).toNat) ∧ (((fPay f).getD 0 0).toNat) ≤ 3 ∧ bit
      (getLane s l).permit ((((fPay f).getD 0 0).toNat) - 1) = true ∧ transportSlot (setLane l
      { getLane s l with ppmSeen := ((fPay f).getD 2 0).toNat, stationId := ((fPay f).drop 8).take 8 } s) (laneRealm
      (setLane l { getLane s l with ppmSeen := ((fPay f).getD 2 0).toNat, stationId := ((fPay f).drop 8).take 8 } s)
      l) (((fPay f).getD 1 0).toNat) = none) ∧
    (∃ s : State, ∃ l : Nat, ∃ f : List Byte, ∃ n : Nat, ∃ k : KeySlot, 1 ≤ (((fPay f).getD 0 0).toNat) ∧ (((fPay
      f).getD 0 0).toNat) ≤ 3 ∧ bit (getLane s l).permit ((((fPay f).getD 0 0).toNat) - 1) = true ∧ transportSlot
      (setLane l { getLane s l with ppmSeen := ((fPay f).getD 2 0).toNat, stationId := ((fPay f).drop 8).take 8 } s)
      (laneRealm (setLane l
      { getLane s l with ppmSeen := ((fPay f).getD 2 0).toNat, stationId := ((fPay f).drop 8).take 8 } s) l) (((fPay
      f).getD 1 0).toNat) = some (n, k) ∧ 1 ≤ ((fPay f).getD 2 0).toNat ∧ ((fPay f).getD 2 0).toNat ≤ 200 ∧ ((fPay
      f).getD 3 0).toNat = 0 ∧ leNat (((fPay f).drop 4).take 4) = 0) ∧
    (∃ s : State, ∃ l : Nat, ∃ f : List Byte, fPay f ≠ (getLane s l).helloD ++ (getLane s l).helloS) ∧
    (∃ s : State, ∃ l : Nat, ∃ f : List Byte, fPay f = (getLane s l).helloD ++ (getLane s l).helloS) ∧
    (∃ s : State, ∃ l : Nat, (getLane s l).echoDue = false) ∧
    (∃ s : State, ∃ l : Nat, (getLane s l).echoDue = true ∧ (getLane s l).link = .first) ∧
    (∃ s : State, ∃ l : Nat, (getLane s l).echoDue = true ∧ (getLane s l).link ≠ .first) ∧
    (∃ f : List Byte, (∃ b ∈ (fPay f).drop 6, b ≠ 0)) ∧
    (∃ s : State, ∃ l : Nat, ∃ f : List Byte, (∀ b ∈ (fPay f).drop 6, b = 0) ∧ (getLane s l).link = .up ∧ leNat
      ((fPay f).take 6) = 0 ∧ (getLane s l).places = [] ∧ (getLane s l).acksDue = [] ∧ (getLane s l).unanswered = []) ∧
    (∃ s : State, ∃ l : Nat, ∃ f : List Byte, (∀ b ∈ (fPay f).drop 6, b = 0) ∧ (getLane s l).places ≠ []) ∧
    (∃ s : State, ∃ l : Nat, ∃ f : List Byte, (∀ b ∈ (fPay f).drop 6, b = 0) ∧ (getLane s l).places = [] ∧ (getLane s
      l).unanswered ≠ []) ∧
    (∃ s : State, ∃ l : Nat, ∃ f : List Byte, ((getLane s l).link = .up ∨ (getLane s l).link = .first) ∧ leNat ((fPay
      f).take 4) ∈ (getLane s l).dataAcked ∧ 1 ≤ (((fPay f).getD 4 0).toNat) ∧ ((((fPay f).getD 4 0).toNat) < 6 ∨
      0x80 ≤ (((fPay f).getD 4 0).toNat)) ∧ (∀ b ∈ (fPay f).drop 5, b = 0)) ∧
    (∃ s : State, ∃ l : Nat, ∃ f : List Byte, ((getLane s l).link = .up ∨ (getLane s l).link = .first) ∧ leNat ((fPay
      f).take 4) ∉ (getLane s l).dataAcked) ∧
    (∃ s : State, ∃ l : Nat, ∃ f : List Byte, (getLane s l).link = .up ∧ ((fPay f).getD 0 0).toNat ≠ 5) ∧
    (∃ s : State, ∃ l : Nat, ∃ f : List Byte, (getLane s l).link = .up ∧ ((fPay f).getD 0 0).toNat = 5) ∧
    (∃ s : State, ∃ l : Nat, (getLane s l).link ≠ .up ∧ (getLane s l).link ≠ .off) :=
  ⟨⟨(wLane {  }), 63, (wFrame 0x84 0 0 []), (.ack 63 (wFrame 0x84 0 0 [])), 0x84, (ackAct 63), (by decide +kernel),
     (by decide +kernel), (.inr (.inr (.inl ⟨rfl, rfl, rfl⟩))), (by decide +kernel), (by decide +kernel),
     (by decide +kernel), (by decide +kernel), (by decide +kernel), (by decide +kernel)⟩,
   ⟨(wLane {  }), 63, (wFrame 0x84 0 1 []), (.ack 63 (wFrame 0x84 0 1 [])), 0x84, (ackAct 63), (by decide +kernel),
     (by decide +kernel), (.inr (.inr (.inl ⟨rfl, rfl, rfl⟩))), (by decide +kernel), (by decide +kernel),
     (by decide +kernel), (by decide +kernel), (by decide +kernel)⟩,
   ⟨(wLane {  }), 63, (wFrame 0x84 1 0 []), (.ack 63 (wFrame 0x84 1 0 [])), 0x84, (ackAct 63), (by decide +kernel),
     (by decide +kernel), (.inr (.inr (.inl ⟨rfl, rfl, rfl⟩))), (by decide +kernel), (by decide +kernel),
     (by decide +kernel), (by decide +kernel), (by decide +kernel), (by decide +kernel)⟩,
   ⟨(wLane {  }), 63, [], (by decide +kernel), (by decide +kernel), (by decide +kernel), (by decide +kernel)⟩,
   ⟨(wLane {  }), 63, ((lineSymbols false (frameChars false (wFrame 0x99 0 0 []))).1), (by decide +kernel),
     (by decide +kernel), (by decide +kernel), (by decide +kernel), (by decide +kernel), (by decide +kernel)⟩,
   ⟨({ wS with lanes := [(63, { link := .hello })] }), 63, ((lineSymbols false (frameChars false (wFrame 0x99 0 0
     []))).1), (by decide +kernel), (by decide +kernel), (by decide +kernel), (by decide +kernel),
     (by decide +kernel), (by decide +kernel)⟩,
   ⟨(wLane { places := [⟨7, 0x11, [], 0, none, none⟩, ⟨8, 0x11, [], 0, none, none⟩] }), 63, ([⟨8, 0x11, [], 0, none,
     none⟩]), 7, (by decide +kernel), (by decide +kernel), (by decide +kernel), (by decide +kernel)⟩,
   ⟨1, (wRec [(0, 1), (1, 0x2000), (2, 0x1000)]), (by decide +kernel), (by decide +kernel), (by decide +kernel)⟩,
   ⟨1, (wRec [(0, 1), (1, 0x2000), (2, 0x1000)]), (by decide +kernel), (by decide +kernel), (by decide +kernel)⟩,
   ⟨1, (wRec [(0, 1), (1, 0x2000), (2, 0x1000)]), (by decide +kernel), (by decide +kernel), (by decide +kernel)⟩,
   ⟨wS, 63, (wFrame 0x81 0 0 (List.replicate 32 0)), (by decide +kernel)⟩,
   ⟨({ wS with lanes := [(63, { permit := 7 })] }), 63, (wFrame 0x81 0 0 (1 :: List.replicate 31 0)),
     (by decide +kernel), (by decide +kernel), (by decide +kernel), (by decide +kernel)⟩,

     ⟨({ wS with lanes := [(63, { permit := 7 })], keys := { wS.keys with slots := [(5, { state := 2, realm := 0, attr := 0x0400 })] } }),
     63, (wFrame 0x81 0 0 ([1, 0, 200] ++ List.replicate 29 0)), 5, ({ state := 2, realm := 0, attr := 0x0400 }),
     (by decide +kernel), (by decide +kernel), (by decide +kernel), (by decide +kernel), (by decide +kernel),
     (by decide +kernel), (by decide +kernel), (by decide +kernel)⟩,
   ⟨wS, 63, (wFrame 0x82 0 0 ([1])), (by decide +kernel)⟩,
   ⟨wS, 63, (wFrame 0x82 0 0 ([])), (by decide +kernel)⟩,
   ⟨wS, 63, (by decide +kernel)⟩,
   ⟨({ wS with lanes := [(63, { echoDue := true, link := .first })] }), 63, (by decide +kernel), (by decide +kernel)⟩,
   ⟨({ wS with lanes := [(63, { echoDue := true, link := .up })] }), 63, (by decide +kernel), (by decide +kernel)⟩,
   ⟨(wFrame 0x86 0 0 (List.replicate 7 1)), (by decide +kernel)⟩,
   ⟨({ wS with lanes := [(63, { link := .up })] }), 63, (wFrame 0x86 0 0 (List.replicate 7 0)), (by decide +kernel),
     (by decide +kernel), (by decide +kernel), (by decide +kernel), (by decide +kernel), (by decide +kernel)⟩,
   ⟨({ wS with lanes := [(63, { places := [⟨7, 0x11, [], 0, none, none⟩] })] }), 63, (wFrame 0x86 0 0 (List.replicate
     7 0)), (by decide +kernel), (by decide +kernel)⟩,
   ⟨({ wS with lanes := [(63, { unanswered := [1] })] }), 63, (wFrame 0x86 0 0 (List.replicate 7 0)),
     (by decide +kernel), (by decide +kernel), (by decide +kernel)⟩,
   ⟨({ wS with lanes := [(63, { link := .first, dataAcked := [7] })] }), 63, (wFrame 0x91 0 0 ([7, 0, 0, 0, 0x80,
     0])), (by decide +kernel), (by decide +kernel), (by decide +kernel), (by decide +kernel), (by decide +kernel)⟩,
   ⟨({ wS with lanes := [(63, { link := .up, dataAcked := [6] })] }), 63, (wFrame 0x91 0 0 ([7, 0, 0, 0, 1, 0])),
     (by decide +kernel), (by decide +kernel)⟩,
   ⟨({ wS with lanes := [(63, { link := .up })] }), 63, (wFrame 0x07 0 0 ([1])), (by decide +kernel),
     (by decide +kernel)⟩,
   ⟨({ wS with lanes := [(63, { link := .up })] }), 63, (wFrame 0x07 0 0 ([5])), (by decide +kernel),
     (by decide +kernel)⟩,
   ⟨({ wS with lanes := [(63, { link := .hello })] }), 63, (by decide +kernel), (by decide +kernel)⟩⟩

theorem test_witness_CardBus :
    (∃ s : State, s.card.named = []) ∧
    (∃ s : State, ∃ dt : Nat, alive (passTime dt s) = true ∧ busUp (passTime dt s) = true ∧ (passTime dt
      s).card.rollDue = true ∧ (passTime dt s).card.todo = [] ∧ (passTime dt s).card.hold = none) ∧
    (∃ s : State, ∃ frame : List Byte, ∃ answer : List Byte, ∃ a : Nat, ∃ w : Nat, frame.length = 9 ∧ crc8
      (frame.take 8) = frame.getD 8 0 ∧ freeAddr s = some a ∧ answerWord 0x13 a answer = some w ∧ 1 ≤ bits w 15 13) ∧
    (∃ s : State, ∃ frame : List Byte, ∃ answer : List Byte, ∃ a : Nat, ∃ w : Nat, frame.length = 9 ∧ crc8
      (frame.take 8) = frame.getD 8 0 ∧ freeAddr s = some a ∧ answerWord 0x13 a answer = some w ∧ bits w 15 13 = 0) ∧
    (∃ s : State, ∃ frame : List Byte, frame.length = 9 ∧ crc8 (frame.take 8) = frame.getD 8 0 ∧ freeAddr s = none) ∧
    (∃ s : State, ∃ id : Nat, ∃ b : Nat, ∃ c : NamedCard, namedCard s b = some c ∧ c.id = id) ∧
    (∃ s : State, ∃ a : Nat, freeAddr s = some a) ∧
    (∃ s : State, ∃ a : Nat, ∃ c : NamedCard, namedCard s a = some c ∧ c.miss = 0) ∧
    (∃ s : State, ∃ a : Nat, ∃ c : NamedCard, namedCard s a = some c ∧ 1 ≤ c.miss) ∧
    (∃ s : State, ∃ a : Nat, ∃ c : NamedCard, ∃ b : Nat, namedCard s a = some c ∧ b ≠ a) ∧
    (∃ s : State, ∃ a : Nat, ∃ c : NamedCard, namedCard s a = some c) ∧
    (∃ s : State, ∃ verb : Nat, ∃ a : Nat, ∃ b : List Byte, ∃ c : NamedCard, ∃ w : Nat, namedCard s a = some c ∧
      answerWord verb a b = some w ∧ bits w 15 13 = 0) ∧
    (∃ verb : Nat, ∃ a : Nat, ∃ b : List Byte, answerWord verb a b = none) ∧
    (∃ s : State, (addrs s).Nodup ∧ s.card.removals + (addrs s).length ≤ 0xFFFF ∧ (∀ a ∈ addrs s, namedCard s a ≠
      none)) ∧
    (∃ s : State, ∃ dt : Nat, ∃ a : Nat, ∃ c : NamedCard, ∃ b : List Byte, ∃ w : Nat, alive (passTime dt s) = true ∧
      busUp (passTime dt s) = true ∧ (passTime dt s).card.todo = [] ∧ (passTime dt s).card.hold = none ∧ (passTime dt
      s).card.pollAt + 100 ≤ (passTime dt s).now ∧ (passTime dt s).card.named = [(a, some c)] ∧ answerWord 0x14 a b =
      some w ∧ 1 ≤ bits w 15 13) ∧
    (∃ s : State, ∃ a : Nat, ∃ kind : Nat, ∃ b : List Byte, ∃ w : Nat, ∃ d : List Byte, ∃ c : NamedCard, ∃ r : List
      (Nat × Nat), alive s = true ∧ busUp s = true ∧ s.card.hold = none ∧ s.card.todo = (a, kind) :: r ∧ kind ≤ 0x10
      ∧ namedCard s a = some c ∧ answerWord 0x21 a b = some w ∧ 1 ≤ bits w 15 13 ∧ d.length = 136 ∧ badLines d = 0) ∧
    (∃ verb : Nat, ∃ a : Nat, ∃ b : List Byte, ∃ w : Nat, answerWord verb a b = some w) ∧
    (∃ s : State, ∃ id : Nat, ∃ c : Cmd, Admitted s 0x72 id c ∧ c.step = 2 ∧ s.jn.durable < c.held.getD 1 0) ∧
    (∃ s : State, ∃ id : Nat, ∃ c : Cmd, ∃ a : Nat, Admitted s 0x72 id c ∧ c.step = 2 ∧ c.held.getD 1 0 ≤
      s.jn.durable ∧ addrOf s (c.held.getD 0 0) = some a) ∧
    (∃ s : State, ∃ i : Nat, ∃ f : Nat, ∃ a : Nat, alive s = true ∧ s.card.use = .finish i f ∧ f ≤ s.jn.durable ∧
      exchanged s = true ∧ addrOf s i = some a ∧ f ≠ 0) ∧
    (∃ s : State, ∃ i : Nat, ∃ x : CardTxn, ∃ a : Nat, alive s = true ∧ (cardOf s.realms.live i).bind CardEntry.txn =
      some x ∧ addrOf s i = some a ∧ s.card.use = .idle ∧ s.glb.service = svReady ∧ busUp s = true ∧ s.jn.stopped =
      false) ∧
    (∃ x : CardTxn, ∃ b : List Byte, x.committed = false ∧ stSeq b = x.seq) ∧
    (∃ s : State, ∃ dt : Nat, alive (passTime dt s) = true) :=
  ⟨⟨wS, (by decide +kernel)⟩,
   ⟨({ wCard [] with card := { (wCard []).card with rollDue := true } }), 0, (by decide +kernel),
     (by decide +kernel), (by decide +kernel), (by decide +kernel), (by decide +kernel)⟩,
   ⟨(wCard []), (([0, 0, 0, 0, 0, 0, 0, 5] ++ [crc8 [0, 0, 0, 0, 0, 0, 0, 5]])), ((let p : List Byte := [147, 1, 0,
     32, 0]; p ++ [crc8 p])), 1, 0x2000, (by decide +kernel), (by decide +kernel), (by decide +kernel),
     (by decide +kernel), (by decide +kernel)⟩,
   ⟨(wCard []), (([0, 0, 0, 0, 0, 0, 0, 5] ++ [crc8 [0, 0, 0, 0, 0, 0, 0, 5]])), ((let p : List Byte := [147, 1, 0,
     0, 0]; p ++ [crc8 p])), 1, 0, (by decide +kernel), (by decide +kernel), (by decide +kernel),
     (by decide +kernel), (by decide +kernel)⟩,

     ⟨({ wCard [] with card := { (wCard []).card with named := [1, 2, 3, 4, 5, 6, 7, 8].map (fun a => (a, some { id := a, word := 0x2000 })) } }),
     (([0, 0, 0, 0, 0, 0, 0, 5] ++ [crc8 [0, 0, 0, 0, 0, 0, 0, 5]])), (by decide +kernel), (by decide +kernel),
     (by decide +kernel)⟩,
   ⟨(wCard []), 5, 3, ({ id := 5, word := 0x2000 }), (by decide +kernel), (by decide +kernel)⟩,
   ⟨(wCard []), 1, (by decide +kernel)⟩,
   ⟨(wCard []), 3, ({ id := 5, word := 0x2000 }), (by decide +kernel), (by decide +kernel)⟩,
   ⟨({ wCard [] with card := { (wCard []).card with named := [(3, some { id := 5, word := 0x2000, miss := 1 })] } }),
     3, ({ id := 5, word := 0x2000, miss := 1 }), (by decide +kernel), (by decide +kernel)⟩,
   ⟨(wCard []), 3, ({ id := 5, word := 0x2000 }), 8, (by decide +kernel), (by decide +kernel)⟩,
   ⟨(wCard []), 3, ({ id := 5, word := 0x2000 }), (by decide +kernel)⟩,
   ⟨(wCard []), 0x14, 3, ((let p : List Byte := [148, 3, 0, 0, 0]; p ++ [crc8 p])), ({ id := 5, word := 0x2000 }), 0,
     (by decide +kernel), (by decide +kernel), (by decide +kernel)⟩,
   ⟨0x14, 3, [], (by decide +kernel)⟩,
   ⟨(wCard []), (by decide +kernel), (by decide +kernel), (by decide +kernel)⟩,
   ⟨(wCard []), 0, 3, ({ id := 5, word := 0x2000 }), (wAns 0x14 3), 0x2000, (by decide +kernel), (by decide +kernel),
     (by decide +kernel), (by decide +kernel), (by decide +kernel), (by decide +kernel), (by decide +kernel),
     (by decide +kernel)⟩,
   ⟨({ wCard [] with card := { (wCard []).card with todo := [(3, 0x10)] } }), 3, 0x10, (wAns 0x21 3), 0x2000,
     wBlockData, ({ id := 5, word := 0x2000 }), [], (by decide +kernel), (by decide +kernel), (by decide +kernel),
     (by decide +kernel), (by decide +kernel), (by decide +kernel), (by decide +kernel), (by decide +kernel),
     (by decide +kernel), (by decide +kernel)⟩,
   ⟨0x14, 3, (wAns 0x14 3), 0x2000, (by decide +kernel)⟩,
   ⟨(wAt ({ wC 0x72 0 [] with step := 2, held := [0, 1] })), 1, ({ wC 0x72 0 [] with step := 2, held := [0, 1] }),
     wAdmitted (by decide +kernel), (by decide +kernel), (by decide +kernel)⟩,
   ⟨({ wCard [] with cmds := { wS.cmds with admitted := [{ wC 0x72 0 [] with step := 2 }] } }), 1,
     ({ wC 0x72 0 [] with step := 2 }), 3, wAdmitted (by decide +kernel), (by decide +kernel), (by decide +kernel),
     (by decide +kernel)⟩,
   ⟨({ wCard [] with card := { (wCard []).card with use := .finish 0 5 }, jn := { wS.jn with durable := 5 } }), 0, 5,
     3, (by decide +kernel), (by decide +kernel), (by decide +kernel), (by decide +kernel), (by decide +kernel),
     (by decide +kernel)⟩,

     ⟨({ wCard [] with realms := { wS.realms with live := { wS.realms.live with cards := [(0, some ⟨5, [], some ⟨7, 0, 0, 0, 1, false⟩⟩)] } } }),
     0, (⟨7, 0, 0, 0, 1, false⟩), 3, (by decide +kernel), (by decide +kernel), (by decide +kernel),
     (by decide +kernel), (by decide +kernel), (by decide +kernel), (by decide +kernel)⟩,
   ⟨(⟨7, 0, 0, 0, 1, false⟩), (List.replicate 19 0 ++ [7]), (by decide +kernel), (by decide +kernel)⟩,
   ⟨wS, 0, (by decide +kernel)⟩⟩

theorem test_witness_SensorTrips :
    (∃ s : State, ∃ uw : Nat, s.clk.supply = true ∧ 20 < uw) ∧
    (∃ uw : Nat, uw ≤ 20) ∧
    (∃ s : State, ∃ n : Nat, ∃ t : Int, s.clk.supply = true ∧ n < 20 ∧ (t < -200 ∨ 960 < t)) ∧
    (∃ s : State, ∃ n : Nat, ∃ rate : Int, s.clk.supply = true ∧ n < 20 ∧ (160 < rate ∨ rate < -160)) ∧
    (∃ s : State, ∃ len : Int, s.clk.running = true ∧ len < 4000) ∧
    (∃ s : State, ∃ h : Nat, ∃ len : Int, s.clk.running = true ∧ h < 24 ∧ len < 4000) ∧
    (∃ s : State, ∃ l : Nat, ∃ len : Int, s.clk.running = true ∧ l < 4 ∧ len < 4000) ∧
    (∃ s : State, ∃ r, ∃ len : Int, s.clk.running = true ∧ clockRegion r = true ∧ len < 4000) ∧
    (∃ s : State, ∃ i, ∃ mv : Int, s.clk.supply = true ∧ i < 5 ∧ (mv < -80 ∨ 100 < mv)) ∧
    (∃ s : State, ∃ l : Nat, ∃ mv : Int, s.clk.supply = true ∧ l < 4 ∧ (mv < -80 ∨ 100 < mv)) ∧
    (∃ s : State, ∃ mv : Int, s.clk.supply = true ∧ (mv < -80 ∨ 100 < mv)) ∧
    (∃ s : State, ∃ dev : Int, ∃ osc : Int, ∃ l : Nat, s.clk.running = true ∧ -200 ≤ osc ∧ osc ≤ 200 ∧ (100 < dev ∨
      dev < -300) ∧ l < 4) ∧
    (∃ s : State, ∃ dev : Int, ∃ osc : Int, ∃ h : Nat, s.clk.running = true ∧ -200 ≤ osc ∧ osc ≤ 200 ∧ (100 < dev ∨
      dev < -300) ∧ h < 24) ∧
    (∃ s : State, ∃ dev : Int, ∃ osc : Int, s.clk.running = true ∧ -200 ≤ osc ∧ osc ≤ 200 ∧ (100 < dev ∨ dev < -300)) ∧
    (∃ s : State, ∃ r, ∃ dev : Int, ∃ osc : Int, s.clk.running = true ∧ clockRegion r = true ∧ (osc < -200 ∨ 200 <
      osc) ∧ -300 ≤ dev ∧ dev ≤ 100) ∧
    (∃ s : State, ∃ n : Nat, s.clk.supply = true ∧ n < 64 ∧ mget 0 s.tm.netRuns n = 2) ∧
    (∃ s : State, ∃ nets : List Nat, s.clk.supply = true ∧ 1 ≤ ((nets.filter (fun n => n < 64)).eraseDups).length ∧
      ((nets.filter (fun n => n < 64)).eraseDups).length ≤ 3 ∧ (∀ n ∈ ((nets.filter (fun n => n < 64)).eraseDups),
      mget 0 s.tm.netRuns n < 2)) ∧
    (∃ s : State, s.clk.supply = true) ∧
    (∃ s : State, ∃ nets : List Nat, s.clk.supply = false ∧ s.tm.checkPattern = true ∧ 4 ≤ ((nets.filter (fun n => n
      < 64)).eraseDups).length) ∧
    (∃ s : State, ∃ nets : List Nat, s.clk.supply = true ∧ 4 ≤ ((nets.filter (fun n => n < 64)).eraseDups).length) ∧
    (∃ s : State, ∃ mv : Nat, ∃ o : Bool, s.clk.running = true ∧ (holdupNow s mv < 450 ∨ o = true) ∧ standing s 0x0D
      0 = false) ∧
    (∃ s : State, ∃ mv : Nat, s.clk.running = true ∧ 450 ≤ holdupNow s mv) ∧
    (∃ s : State, ∃ mv : Int, s.clk.supply = true ∧ (mv < 1164 ∨ 1236 < mv) ∧ standing s 0x04 0 = false) ∧
    (∃ s : State, ∃ n : Nat, ∃ t : Int, s.clk.supply = true ∧ n < 20 ∧ (t < -80 ∨ 840 < t) ∧ -200 ≤ t ∧ t ≤ 960 ∧
      standing s 0x0B (tempRegion n) = false) ∧
    (∃ s : State, s.clk.supply = true) ∧
    (∃ s : State, ∃ dt : Nat, ∃ n : Nat, ∃ t : Nat, (passTime dt s).clk.running = true ∧ mfind (passTime dt
      s).host.cfgSince n = some (some t) ∧ t + 10000 ≤ (passTime dt s).now ∧ standing (passTime dt s) 0x0E 0 = false) ∧
    (∃ s : State, ∃ temp : List Int, s.clk.running = true ∧ s.tm.nbr = 0 ∧ (∀ p, p < 8 → pairDiff temp p ≤ 144)) ∧
    (∃ s : State, s.clk.running = true) ∧
    (∃ b : BitVec 32, ∃ a : BitVec 32, ∃ l : Nat, ∃ p : Nat, (∀ p, p < 8 → b.getLsbD (8 * l + p) = false) ∧ p < 8 ∧
      a.getLsbD (8 * l + p) = true ∧ (∀ q, q < p → a.getLsbD (8 * l + q) = false)) ∧
    (∃ b : BitVec 32, ∃ a : BitVec 32, ∃ l : Nat, (∀ p, p < 8 → b.getLsbD (8 * l + p) = false) ∧ (∀ p, p < 8 →
      a.getLsbD (8 * l + p) = false)) ∧
    (∃ b : BitVec 32, ∃ a : BitVec 32, ∃ l : Nat, ∃ p : Nat, p < 8 ∧ b.getLsbD (8 * l + p) = true ∧ (∀ q, q < 8 →
      a.getLsbD (8 * l + q) = false)) ∧
    (∃ b : BitVec 32, ∃ a : BitVec 32, ∃ l : Nat, ∃ p : Nat, ∃ q : Nat, p < 8 ∧ b.getLsbD (8 * l + p) = true ∧ q < 8
      ∧ a.getLsbD (8 * l + q) = true) ∧
    (∃ s : State, ∃ dt : Nat, ∃ t : Nat, (passTime dt s).tm.pulseEnd = some t ∧ t ≤ (passTime dt s).now) ∧
    (∃ s : State, s.tm.zeroiseDue = true ∧ (∀ f ∈ s.jn.flight, f.stage ≠ .closed)) ∧
    (∃ s : State, s.clk.supply = true ∧ s.glb.lifecycle = 0xFF ∧ s.tm.scuttleStep = 2) ∧
    (∃ s : State, s.clk.supply = true ∧ s.glb.lifecycle = 0xFF ∧ s.tm.scuttleStep = 3) ∧
    (∃ s : State, s.clk.supply = true ∧ s.glb.lifecycle = 0xFF ∧ s.tm.scuttleStep = 4) :=
  ⟨⟨wS, 21, (by decide +kernel), (by decide +kernel)⟩,
   ⟨20, (by decide +kernel)⟩,
   ⟨wS, 19, -201, (by decide +kernel), (by decide +kernel), (by decide +kernel)⟩,
   ⟨wS, 19, 161, (by decide +kernel), (by decide +kernel), (by decide +kernel)⟩,
   ⟨wS, 3999, (by decide +kernel), (by decide +kernel)⟩,
   ⟨wS, 23, 3999, (by decide +kernel), (by decide +kernel), (by decide +kernel)⟩,
   ⟨wS, 3, 3999, (by decide +kernel), (by decide +kernel), (by decide +kernel)⟩,
   ⟨wS, 0, 3999, (by decide +kernel), (by decide +kernel), (by decide +kernel)⟩,
   ⟨wS, 4, 101, (by decide +kernel), (by decide +kernel), (by decide +kernel)⟩,
   ⟨wS, 3, 101, (by decide +kernel), (by decide +kernel), (by decide +kernel)⟩,
   ⟨wS, -81, (by decide +kernel), (by decide +kernel)⟩,
   ⟨wS, 101, 200, 3, (by decide +kernel), (by decide +kernel), (by decide +kernel), (by decide +kernel),
     (by decide +kernel)⟩,
   ⟨wS, -301, -200, 23, (by decide +kernel), (by decide +kernel), (by decide +kernel), (by decide +kernel),
     (by decide +kernel)⟩,
   ⟨wS, 101, 200, (by decide +kernel), (by decide +kernel), (by decide +kernel), (by decide +kernel)⟩,
   ⟨wS, 0, 100, 201, (by decide +kernel), (by decide +kernel), (by decide +kernel), (by decide +kernel),
     (by decide +kernel)⟩,
   ⟨({ wS with tm := { wS.tm with netRuns := [(63, 2)] } }), 63, (by decide +kernel), (by decide +kernel),
     (by decide +kernel)⟩,
   ⟨wS, ([0, 1, 63, 63]), (by decide +kernel), (by decide +kernel), (by decide +kernel), (by decide +kernel)⟩,
   ⟨wS, (by decide +kernel)⟩,
   ⟨({ State.reset with tm := { State.reset.tm with checkPattern := true } }), ([0, 1, 2, 63]), (by decide +kernel),
     (by decide +kernel), (by decide +kernel)⟩,
   ⟨wS, ([0, 1, 2, 63]), (by decide +kernel), (by decide +kernel)⟩,
   ⟨wS, 0, false, (by decide +kernel), (by decide +kernel), (by decide +kernel)⟩,
   ⟨({ wS with jn := { wS.jn with reserveNf := 1000000, reserveMohm := 10, reserveLeast := 5000 } }), 12000,
     (by decide +kernel), (by decide +kernel)⟩,
   ⟨wS, 1163, (by decide +kernel), (by decide +kernel), (by decide +kernel)⟩,
   ⟨wS, 19, 841, (by decide +kernel), (by decide +kernel), (by decide +kernel), (by decide +kernel),
     (by decide +kernel), (by decide +kernel)⟩,
   ⟨wS, (by decide +kernel)⟩,
   ⟨({ wS with host := { wS.host with cfgSince := [(9, some 90000)] } }), 0, 9, 90000, (by decide +kernel),
     (by decide +kernel), (by decide +kernel), (by decide +kernel)⟩,
   ⟨wS, [], (by decide +kernel), (by decide +kernel), (by decide +kernel)⟩,
   ⟨wS, (by decide +kernel)⟩,
   ⟨0, 0x20000000, 3, 5, (by decide +kernel), (by decide +kernel), (by decide +kernel), (by decide +kernel)⟩,
   ⟨0, 0x01000000, 2, (by decide +kernel), (by decide +kernel)⟩,
   ⟨0x20000000, 0, 3, 5, (by decide +kernel), (by decide +kernel), (by decide +kernel)⟩,
   ⟨0x20000000, 0x80000000, 3, 5, 7, (by decide +kernel), (by decide +kernel), (by decide +kernel),
     (by decide +kernel)⟩,
   ⟨({ wS with tm := { wS.tm with pulseEnd := some 100000 } }), 0, 100000, (by decide +kernel), (by decide +kernel)⟩,
   ⟨({ wS with tm := { wS.tm with zeroiseDue := true } }), (by decide +kernel), (by decide +kernel)⟩,
   ⟨({ wS with tm := { wS.tm with scuttleStep := 2 }, glb := { wS.glb with lifecycle := 0xFF } }),
     (by decide +kernel), (by decide +kernel), (by decide +kernel)⟩,
   ⟨({ wS with tm := { wS.tm with scuttleStep := 3 }, glb := { wS.glb with lifecycle := 0xFF } }),
     (by decide +kernel), (by decide +kernel), (by decide +kernel)⟩,
   ⟨({ wS with tm := { wS.tm with scuttleStep := 4 }, glb := { wS.glb with lifecycle := 0xFF } }),
     (by decide +kernel), (by decide +kernel), (by decide +kernel)⟩⟩

end
end

section
/-! The part before its first power-up: what every slot reads as shipped, and what reset leaves in the registers. -/

namespace Sys2Proof.Machine

/-! ### What a slot reads where nothing was ever written to it -/

/-- R53, R85: a slot without an overlay entry, in a home page that was never written, reads as shipped. -/
theorem imageAt_of_unwritten {s : State} {slot : Nat} (hov : overlayOf s slot = none)
    (hpage : storedPage s (slot / 128) = none) : imageAt s slot = shippedRec := by
  simp only [imageAt, hov, homeRec, hpage]

theorem overlayOf_reset (slot : Nat) : overlayOf State.reset slot = none := mget_nil none slot

theorem storedPage_reset (page : Nat) : storedPage State.reset page = none := rfl

theorem imageAt_reset (slot : Nat) : imageAt State.reset slot = shippedRec :=
  imageAt_of_unwritten (overlayOf_reset slot) (storedPage_reset _)

/-! ### RECORD_CHECK and the shipped record -/

/-- R27: RECORD_CHECK stands in W15, so that writing it keeps W0 to W14. -/
theorem wd_fixCheck (r : List Word) {i : Nat} (hi : i ≠ 15) : wd (fixCheck r) i = wd r i := by
  simp only [wd, fixCheck, List.getD_eq_getElem?_getD, List.getElem?_set_ne hi.symm]

/-- R30: STATE stands in W1. -/
theorem rState_fixCheck (r : List Word) : rState (fixCheck r) = rState r := by
  simp only [rState, wd_fixCheck r (show 1 ≠ 15 by decide)]

theorem rState_shippedRec : rState shippedRec = stFree := by
  rw [shippedRec, rState_fixCheck]
  rfl

/-! ### The interrupt controller -/

/-- IC_ROUTE's default has STEWARD set and HOST clear (the register table under R427); no route was written. -/
theorem icRoute_of_routes_nil {s : State} (h : s.ic.routes = []) (n : Nat) : icRoute s n = 0x4000 := by
  rw [icRoute, h, mget_nil]

/-- A part without supply owes no delivery. -/
theorem settled_of_supply_off {s : State} (h : s.clk.supply = false) : Settled s := fun hon =>
  absurd (h.symm.trans hon) Bool.false_ne_true

/-- Settles O3: no slot was ever written, the check leaves STATE alone, no IC_ROUTE was written and the supply is off;
the other parts read fields of the reset state. -/
theorem resetValues : Obligations.ResetValues := by
  unfold Obligations.ResetValues
  have himage : imageAt State.reset 0 = shippedRec := imageAt_reset 0
  have hroute : icRoute State.reset 380 = 0x4000 := icRoute_of_routes_nil rfl 380
  have hsettled : Settled State.reset := settled_of_supply_off rfl
  exact ⟨rfl, rfl, rfl, rfl, rfl, rfl, rfl, himage, rState_shippedRec, rfl, hroute, rfl, rfl, rfl, rfl, rfl, rfl, hsettled⟩

end Sys2Proof.Machine
end

section
/-! The ledger's reads, and what a finished command leaves. -/

namespace Sys2Proof.Machine

/-! ### The rows of the ledger's reads -/

theorem exec_ledgerRead (id : Nat) (s : State) : exec (.ledgerRead id) s = serve (onLooked 0x13 id ledgerRead) s := rfl
theorem exec_ledgerGather (id : Nat) (s : State) : exec (.ledgerGather id) s = serve (onLooked 0x14 id ledgerGather) s := rfl
theorem exec_txnQuery (id : Nat) (s : State) : exec (.txnQuery id) s = serve (onCmd 0x17 id txnQuery) s := rfl
theorem exec_realmRebase (id : Nat) (s : State) : exec (.realmRebase id) s = serve (onCmd 0x16 id realmRebase) s := rfl

/-! ### What a finished command leaves -/

theorem padTo_of_le {α : Type} {n : Nat} {l : List α} (d : α) (h : l.length ≤ n) :
    padTo n d l = l ++ List.replicate (n - l.length) d := by rw [padTo, List.take_of_length_le h]

@[simp] theorem freeLane_cmds (c : Cmd) (s : State) : (freeLane c s).cmds = s.cmds := by
  unfold freeLane; split <;> rfl
@[simp] theorem pushReply_admitted (r : Reply) (s : State) : (pushReply r s).cmds.admitted = s.cmds.admitted := by
  unfold pushReply; split <;> rfl
@[simp] theorem dropCmd_admitted (id : Nat) (s : State) :
    (dropCmd id s).cmds.admitted = s.cmds.admitted.filter (fun d => d.id ≠ id) := rfl

theorem finish_admitted (c : Cmd) (st : Nat) (rs : List Nat) (outs : List (Nat × List Byte)) (s : State) :
    (finish c st rs outs s).cmds.admitted = s.cmds.admitted.filter (fun d => d.id ≠ c.id) := by
  simp [finish]

/-- A reply leaves on the queue of replies unless its function was reset (R176). -/
theorem mem_pushReply {r : Reply} (h : r.mute = false) (s : State) : r ∈ (pushReply r s).cmds.replies := by
  simp [pushReply, h]

/-- The end of a command changes the commands and its lane's reserved places alone. -/
theorem finish_frame (c : Cmd) (st : Nat) (rs : List Nat) (outs : List (Nat × List Byte)) (s : State) :
    ∃ cmds' lanes', finish c st rs outs s = { s with cmds := cmds', lanes := lanes' } := by
  unfold finish pushReply freeLane
  split <;> split <;> exact ⟨_, _, rfl⟩

/-- The command itself is gone. -/
theorem cmdOf_finish (c : Cmd) (st : Nat) (rs : List Nat) (outs : List (Nat × List Byte)) (s : State) :
    cmdOf (finish c st rs outs s) c.id = none := by
  simp [cmdOf, finish_admitted]

/-- Settles O22: each field of the reply is read off `replyOf`; `finish` filters the command out of the admitted ones
and changes nothing outside the commands and the lanes. -/
theorem replyForm : Obligations.ReplyForm := by
  unfold Obligations.ReplyForm
  refine ⟨?denied, ?results, ?journalled, ?held, fun s c st rs outs => cmdOf_finish c st rs outs s, ?others, ?reply, ?frame⟩
  case denied => intro c rs outs; simp [replyOf]
  case results =>
    intro c st rs outs hst hlen
    exact ⟨by simp [replyOf, hst, padTo_of_le 0 hlen], rfl⟩
  case journalled =>
    intro c st rs outs j hj
    have hframe : (replyOf c st rs outs).needFrame = max c.needFrame (jsnFrame j) := by simp only [replyOf, hj]
    rw [hframe]
    exact ⟨Nat.le_max_right _ _, Nat.le_max_left _ _, by simp [replyOf, hj], by simp [replyOf, hj]⟩
  case held =>
    intro c st rs outs hj hop
    simp [replyOf, hj, hop]
  case others =>
    intro s c d st rs outs hd hne
    rw [finish_admitted]
    exact List.mem_filter.mpr ⟨hd, by simpa using hne⟩
  case reply =>
    intro s c st rs outs hmute
    exact mem_pushReply hmute _
  case frame =>
    intro s c st rs outs
    obtain ⟨cmds', lanes', h⟩ := finish_frame c st rs outs s
    rw [h]
    exact ⟨rfl, rfl, rfl, rfl, rfl, rfl⟩

/-! ### LEDGER_READ, LEDGER_GATHER, TXN_QUERY and REALM_REBASE -/

/-- R167: what an element of a gather gives, by what the checks of its slot found. -/
theorem gatherOne_of_some {s : State} {fn st : Nat} {e : List Word}
    (h : slotChecks s fn (pairAt e 0 % 2 ^ 25) (wd e 2) = some st) :
    gatherOne s fn e = (if st = sSlotState then (0x1, List.replicate 32 0)
      else if st = sGenMismatch then (0x2, wordBytes (imageAt s (pairAt e 0 % 2 ^ 25)))
      else if st = sRetired then (0x7, wordBytes (imageAt s (pairAt e 0 % 2 ^ 25))) else (0xC, List.replicate 32 0)) := by
  simp only [gatherOne, h]

theorem gatherOne_of_none {s : State} {fn : Nat} {e : List Word}
    (h : slotChecks s fn (pairAt e 0 % 2 ^ 25) (wd e 2) = none) :
    gatherOne s fn e = (0, wordBytes (imageAt s (pairAt e 0 % 2 ^ 25))) := by
  simp only [gatherOne, h]

theorem gatherReserved_eq_false {e : List Word} : gatherReserved e = false ↔ bits (pairAt e 0) 31 25 = 0 ∧ wd e 3 = 0 := by
  simp [gatherReserved]

theorem gatherReserved_eq_true {e : List Word} : gatherReserved e = true ↔ bits (pairAt e 0) 31 25 ≠ 0 ∨ wd e 3 ≠ 0 := by
  simp [gatherReserved]

/-- R166: a record that passes the checks is read. -/
theorem ledgerRead_of_none {c : Cmd} {s : State} (h : slotChecks s c.fn (pSlot c.words) (pGen c.words) = none) :
    ledgerRead c s = finish (needs c (imageFrame s (pSlot c.words))) sOk
      [rState (imageAt s (pSlot c.words)) * 4096, 0] (outTo c 0 (wordBytes (imageAt s (pSlot c.words)))) s := by
  simp [ledgerRead, h, show sOk ≠ sGenMismatch by decide]

/-- R166: a record in no state to be read gives its STATE alone. -/
theorem ledgerRead_of_slotState {c : Cmd} {s : State}
    (h : slotChecks s c.fn (pSlot c.words) (pGen c.words) = some sSlotState) :
    ledgerRead c s = finish (needs c (imageFrame s (pSlot c.words))) sSlotState
      [rState (imageAt s (pSlot c.words)) * 4096] [] s := by
  have hread : ¬(sSlotState = sOk ∨ sSlotState = sGenMismatch ∨ sSlotState = sRetired) := by decide
  simp only [ledgerRead, h, Option.getD_some, if_neg hread]

/-- R167: a list without a reserved bit is gathered. -/
theorem ledgerGather_of_clean {c : Cmd} {s : State} {d : List Byte} {es : List (List Word)} (hd : inData c 0 = some d)
    (hes : es = (chunks 8 d).map bytesWords) (hclean : ∀ e ∈ es, bits (pairAt e 0) 31 25 = 0 ∧ wd e 3 = 0) :
    ledgerGather c s = finish (needs c ((es.map (fun e => imageFrame s (pairAt e 0 % 2 ^ 25))).foldl max 0)) sOk
      (packCodes ((es.map (gatherOne s c.fn)).map Prod.fst) ++
        [((es.map (gatherOne s c.fn)).filter (fun p => p.1 == 0)).length])
      (outTo c 1 ((es.map (gatherOne s c.fn)).flatMap Prod.snd)) s := by
  have hany : es.any gatherReserved = false :=
    List.any_eq_false.mpr fun e he => by simp [gatherReserved_eq_false.mpr (hclean e he)]
  simp only [ledgerGather, hd, ← hes, hany, Bool.false_eq_true, if_false]

/-- R167: a reserved bit anywhere in the list refuses it. -/
theorem ledgerGather_of_reserved {c : Cmd} {s : State} {d : List Byte} (hd : inData c 0 = some d)
    (hres : ∃ e ∈ (chunks 8 d).map bytesWords, bits (pairAt e 0) 31 25 ≠ 0 ∨ wd e 3 ≠ 0) :
    ledgerGather c s = finish c sReservedNz [] [] s := by
  obtain ⟨e, he, hbit⟩ := hres
  have hany : ((chunks 8 d).map bytesWords).any gatherReserved = true :=
    List.any_eq_true.mpr ⟨e, he, gatherReserved_eq_true.mpr hbit⟩
  simp only [ledgerGather, hd, hany, if_true]

/-- R96: once the frames that were open at its admission are durable, the query answers from the outcome store. -/
theorem txnQuery_of_found {c : Cmd} {s : State} {r : OutRec} (h : c.needFrame ≤ s.jn.durable)
    (hr : (allOutcomes s).find? (fun r => r.fn == c.fn && r.tag == pairAt c.words 8) = some r) :
    txnQuery c s = finish c sOk ([1, r.status] ++ leNats 4 r.jsn) [] s := by
  simp only [txnQuery, if_neg (Nat.not_lt.mpr h), hr]

theorem txnQuery_of_absent {c : Cmd} {s : State} (h : c.needFrame ≤ s.jn.durable)
    (hr : ∀ r ∈ allOutcomes s, ¬(r.fn = c.fn ∧ r.tag = pairAt c.words 8)) :
    txnQuery c s = finish c sOk [] [] s := by
  have hfind : (allOutcomes s).find? (fun r => r.fn == c.fn && r.tag == pairAt c.words 8) = none :=
    List.find?_eq_none.mpr fun r hmem => by simpa using hr r hmem
  simp only [txnQuery, if_neg (Nat.not_lt.mpr h), hfind]

/-- R42: the epoch that a REALM_REBASE sets the base of: the current one for N = 0, else the next. -/
def rebaseEpoch (c : Cmd) (s : State) : Nat :=
  if wd c.words 8 = 0 then (realmRow s c.fn).epoch else ((realmRow s c.fn).epoch + 1) % 4

/-- R42: the base it sets: B for N = 0, else that of the current epoch N days on. -/
def rebaseBase (c : Cmd) (s : State) : Nat :=
  if wd c.words 8 = 0 then pairAt c.words 9 else baseOf s c.fn (realmRow s c.fn).epoch + wd c.words 8 * 86400

/-- R42: the checks of REALM_REBASE in their order, and what it does. -/
theorem realmRebase_eq (c : Cmd) (s : State) : realmRebase c s =
    (if wd c.words 8 ≠ 0 ∧ pairAt c.words 9 ≠ 0 then finish c sReservedNz [] [] s
    else if s.clk.cal < rebaseBase c s then finish c sBadParam [] [] s
    else if 0 < mget 0 s.led.epCount (c.fn * 4 + rebaseEpoch c s) then finish c sSlotState [] [] s
    else finish (withJsn c (nextJsn s)) sOk (rebaseEpoch c s :: leNats 2 (rebaseBase c s)) []
      (append (realmEntry 2 c.fn (rebaseEpoch c s :: leNats 2 (rebaseBase c s)) (cOrigin c) sOk) s)) := rfl

/-- Settles O11: each row is its command's function on the admitted command; the clauses are the cases of that
function. -/
theorem ledgerReads : Obligations.LedgerReads := by
  unfold Obligations.LedgerReads
  refine ⟨?read, ?readState, ?gatherOne, ?gather, ?gatherReserved, fun s fn e st h => gatherOne_of_some h,
    fun s fn e h => gatherOne_of_none h, ?query, ?queryNone, ?rebase, ?rebaseUsed, ?rebaseNext, ?rebaseReserved,
    ?rebaseLate, ?rebaseNextLate⟩
  case read =>
    intro s id c hc hl h
    rw [exec_ledgerRead, serve_onLooked hc hl, ledgerRead_of_none h]
  case readState =>
    intro s id c hc hl h
    rw [exec_ledgerRead, serve_onLooked hc hl, ledgerRead_of_slotState h]
  case gatherOne =>
    intro s id c d e hc hl hd hone hbits hword h
    have hclean : ∀ x ∈ [e], bits (pairAt x 0) 31 25 = 0 ∧ wd x 3 = 0 := by simp [hbits, hword]
    have hpack : packCodes [0] ++ [1] = [0xFFF0, 0xFFFF, 0xFFFF, 0xFFFF, 1] := by decide
    rw [exec_ledgerGather, serve_onLooked hc hl, ledgerGather_of_clean hd hone.symm hclean]
    simp [gatherOne_of_none h, ← hpack]
  case gather =>
    intro s id c d es hc hl hd hes hclean rs hrs need hneed
    rw [exec_ledgerGather, serve_onLooked hc hl, ledgerGather_of_clean hd hes hclean, hrs, hneed]
  case gatherReserved =>
    intro s id c d hc hl hd hres
    rw [exec_ledgerGather, serve_onLooked hc hl, ledgerGather_of_reserved hd hres]
  case query =>
    intro s id c r hc hdur hfind
    rw [exec_txnQuery, serve_onCmd hc, txnQuery_of_found hdur hfind]
  case queryNone =>
    intro s id c hc hdur hnone
    rw [exec_txnQuery, serve_onCmd hc, txnQuery_of_absent hdur hnone]
  case rebase =>
    intro s id c hc hn hcal hcount
    simp [exec_realmRebase, serve_onCmd hc, realmRebase_eq, rebaseBase, rebaseEpoch, hn, hcount, Nat.not_lt.mpr hcal]
  case rebaseUsed =>
    intro s id c e hc hn hb he hcal hcount
    simp [exec_realmRebase, serve_onCmd hc, realmRebase_eq, rebaseBase, rebaseEpoch, hn, hb, ← he, hcount,
      Nat.not_lt.mpr hcal]
  case rebaseNext =>
    intro s id c e base hc hn hb he hbase hcal hcount
    simp [exec_realmRebase, serve_onCmd hc, realmRebase_eq, rebaseBase, rebaseEpoch, hn, hb, ← he, ← hbase, hcount,
      Nat.not_lt.mpr hcal]
  case rebaseReserved =>
    intro s id c hc hn hb
    simp [exec_realmRebase, serve_onCmd hc, realmRebase_eq, hn, hb]
  case rebaseLate =>
    intro s id c hc hn hcal
    simp [exec_realmRebase, serve_onCmd hc, realmRebase_eq, rebaseBase, hn, hcal]
  case rebaseNextLate =>
    intro s id c hc hn hb hcal
    simp [exec_realmRebase, serve_onCmd hc, realmRebase_eq, rebaseBase, hn, hb, hcal]

end Sys2Proof.Machine
end

section
/-! The journal's frames: where an entry stands, and the way of a frame from its close to its anchor. -/

namespace Sys2Proof.Machine

/-! ### The rows of a frame's way -/

theorem exec_journalTick (dt : Nat) (s : State) :
    exec (.journalTick dt) s = lapseServe dt (fun t => heldAdvance (journalTick t)) s := rfl
theorem exec_frameSeal (s : State) : exec .frameSeal s = .next (settle (frameSeal s)) := rfl
theorem exec_frameProgram (s : State) : exec .frameProgram s = .next (settle (frameProgram s)) := rfl
theorem exec_frameAnchor (s : State) : exec .frameAnchor s = .next (settle (frameAnchor s)) := rfl

/-! ### Appending an entry and closing the open frame -/

/-- What the close of a frame that holds an entry leaves. -/
theorem closeFrame_of_ne_nil {s : State} (b : Bool) (h : s.jn.openEntries ≠ []) :
    (closeFrame b s).jn.openEntries = [] ∧ (closeFrame b s).jn.openNo = s.jn.openNo + 1 ∧
    ∃ f, (closeFrame b s).jn.flight = s.jn.flight ++ [f] ∧ f.no = s.jn.openNo ∧ f.entries = s.jn.openEntries ∧
      f.stage = .closed ∧ f.sealing = b := by
  rw [closeFrame, if_neg (by simpa using h)]
  exact ⟨rfl, rfl, _, rfl, rfl, rfl, rfl, rfl⟩

/-- `append` without the close: the entry takes its place and is counted. -/
def placeEntry (e : List Word) (s : State) : State :=
  count 5 (eKind e) { s with
    realms := { s.realms with live := applyTableEntry e s.realms.live }
    jn := { s.jn with
      openEntries := s.jn.openEntries ++ [e]
      realmFrames := if tableEntry e then s.jn.realmFrames ++ [s.jn.openNo] else s.jn.realmFrames
      keyFrames := if eKind e = 5 then s.jn.keyFrames ++ [s.jn.openNo] else s.jn.keyFrames } }

@[simp] theorem placeEntry_openEntries (e : List Word) (s : State) :
    (placeEntry e s).jn.openEntries = s.jn.openEntries ++ [e] := by simp [placeEntry, count]
@[simp] theorem placeEntry_openNo (e : List Word) (s : State) : (placeEntry e s).jn.openNo = s.jn.openNo := by
  simp [placeEntry, count]
@[simp] theorem placeEntry_flight (e : List Word) (s : State) : (placeEntry e s).jn.flight = s.jn.flight := by
  simp [placeEntry, count]

/-- R80: the 60th entry closes the frame. -/
theorem append_eq (e : List Word) (s : State) :
    append e s = if 60 ≤ s.jn.openEntries.length + 1 then closeFrame false (placeEntry e s) else placeEntry e s := by
  have hlen : (placeEntry e s).jn.openEntries.length = s.jn.openEntries.length + 1 := by simp
  rw [← hlen]
  rfl

/-- Settles O40: short of 59 entries `append` only places the entry; on the 59th it closes the frame behind it. -/
theorem appendPlaces : Obligations.AppendPlaces := by
  unfold Obligations.AppendPlaces
  refine ⟨?place, ?close⟩
  case place =>
    intro s e h
    rw [append_eq, if_neg (by omega)]
    simp [nextJsn]
    omega
  case close =>
    intro s e h
    rw [append_eq, if_pos (by omega)]
    obtain ⟨hopen, hno, f, hflight, hfno, hentries, hstage, hsealing⟩ :=
      closeFrame_of_ne_nil (s := placeEntry e s) false (by simp)
    simp only [placeEntry_openNo, placeEntry_flight, placeEntry_openEntries] at hno hflight hfno hentries
    refine ⟨hopen, hno, ?_, f, hflight, hfno, hentries, hstage, hsealing⟩
    simp [nextJsn, hopen, hno, Nat.mul_comm]

/-! ### The tick -/

/-- R80, R128: a due tick begins its takes afresh, and closes the open frame where it holds an entry. -/
theorem journalTick_of_due {s : State} (hrun : s.jn.stopped = false) (hrep : s.jn.replayDone = true)
    (hdue : s.jn.tickAt + 4 ≤ s.now) : journalTick s =
      (if s.jn.openEntries.isEmpty then { s with
        jn := { s.jn with tickAt := s.now, tickOther := 0 }
        cmds := { s.cmds with replies := closeReplies s.now s.cmds.replies } }
      else closeFrame false { s with jn := { s.jn with tickAt := s.now, tickOther := 0 } }) := by
  simp [journalTick, hrun, hrep, Nat.not_lt.mpr hdue]

theorem heldAdvance_of_nil {s : State} (h : s.jn.heldWork = []) : heldAdvance s = s := by simp [heldAdvance, h]

theorem otherLeft_eq_zero {s : State} : otherLeft s = 0 ↔ 40 ≤ s.jn.tickOther := Nat.sub_eq_zero_iff_le

/-- What waited for a tick goes on in its order. -/
theorem heldAdvance_of_cons {s : State} {w : HeldWork} {ws : List HeldWork} (h : s.jn.heldWork = w :: ws)
    (htake : s.jn.tickOther < 40) (hrun : s.jn.stopped = false) :
    heldAdvance s = (w :: ws).foldl heldOne { s with jn := { s.jn with heldWork := [] } } := by
  have hleft : ¬ otherLeft s = 0 := fun hz => absurd (otherLeft_eq_zero.mp hz) (Nat.not_le.mpr htake)
  simp [heldAdvance, h, hleft, hrun]

/-! ### Seal, program, anchor -/

theorem frameSeal_of_closed {s : State} {f : Frame} {fs : List Frame} (hin : s.jn.inhibit = false)
    (hkey : s.keys.ledgerIn = true) (hflight : s.jn.flight = f :: fs) (hstage : f.stage = .closed) :
    frameSeal s = { s with jn := { s.jn with
      flight := { f with stage := .sealed, bytes := frameBytes f s.jn.lastMac } :: fs
      lastMac := (frameBytes f s.jn.lastMac).drop 2016 } } := by
  simp [frameSeal, hin, hkey, hflight, sealOne, hstage]

/-- The frame that a program step takes: the oldest sealed one, unless it seals and other work still drains. -/
theorem programOne_of_sealed {d : Bool} {f : Frame} (fs : List Frame) (hstage : f.stage = .sealed)
    (hfree : f.sealing = false ∨ d = true) :
    programOne d (f :: fs) = ({ f with stage := .programmed } :: fs, some f) := by
  have hgo : ¬ (f.sealing && !d) = true := by rcases hfree with h | h <;> simp [h]
  rw [programOne, if_pos hstage, if_neg hgo]

theorem frameProgram_of_sealed {s : State} {f : Frame} {fs : List Frame} (hin : s.jn.inhibit = false)
    (hflight : s.jn.flight = f :: fs) (hstage : f.stage = .sealed) (hfree : f.sealing = false ∨ s.jn.drained = true) :
    frameProgram s = if ringFree s f.no then { s with jn := { s.jn with
      flight := { f with stage := .programmed } :: fs, ring := mput s.jn.ring (f.no % 524288) f.bytes } } else s := by
  simp [frameProgram, hin, hflight, programOne_of_sealed fs hstage hfree, ringSize]

theorem ringFree_iff {s : State} {n : Nat} : ringFree s n = true ↔ n < min (tailFrame s) s.jn.outFrame + 524288 :=
  decide_eq_true_iff

theorem frameAnchor_of_programmed {s : State} {f : Frame} {fs : List Frame} (hin : s.jn.inhibit = false)
    (hflight : s.jn.flight = f :: fs) (hstage : f.stage = .programmed) :
    frameAnchor s = sealEnd (dueCopies (anchorFrame f { s with jn := { s.jn with flight := fs } })) := by
  simp [frameAnchor, hin, hflight, hstage]

/-- R462: an inhibited stack takes nothing more of a frame. -/
theorem frameSeal_of_inhibit {s : State} (h : s.jn.inhibit = true) : frameSeal s = s := by simp [frameSeal, h]
theorem frameProgram_of_inhibit {s : State} (h : s.jn.inhibit = true) : frameProgram s = s := by
  simp [frameProgram, h]
theorem frameAnchor_of_inhibit {s : State} (h : s.jn.inhibit = true) : frameAnchor s = s := by simp [frameAnchor, h]

/-! ### What anchoring a frame makes durable -/

/-- The two states hold the same durable frame, anchor cells and realm tables. -/
structure SameDurable (s t : State) : Prop where
  durable : t.jn.durable = s.jn.durable
  durableMac : t.jn.durableMac = s.jn.durableMac
  cellNo : t.jn.cellNo = s.jn.cellNo
  anchors : t.jn.anchors = s.jn.anchors
  realms : t.realms = s.realms

theorem SameDurable.refl (s : State) : SameDurable s s := ⟨rfl, rfl, rfl, rfl, rfl⟩

theorem SameDurable.trans {s t u : State} (h : SameDurable s t) (k : SameDurable t u) : SameDurable s u :=
  ⟨k.durable.trans h.durable, k.durableMac.trans h.durableMac, k.cellNo.trans h.cellNo, k.anchors.trans h.anchors,
    k.realms.trans h.realms⟩

/-- A fold of steps each of which keeps what is durable. -/
theorem sameDurable_foldl {α : Type} {f : State → α → State} (h : ∀ t x, SameDurable t (f t x)) (l : List α) (s : State) :
    SameDurable s (l.foldl f s) :=
  foldl_inv (P := SameDurable s) (.refl s) fun t x ht => ht.trans (h t x)

theorem sameDurable_keysDurable (no : Nat) (s : State) : SameDurable s (keysDurable no s) := ⟨rfl, rfl, rfl, rfl, rfl⟩
theorem sameDurable_banksDurable (f : Frame) (s : State) : SameDurable s (banksDurable f s) := ⟨rfl, rfl, rfl, rfl, rfl⟩
theorem sameDurable_retiredDurable (no : Nat) (s : State) : SameDurable s (retiredDurable no s) :=
  ⟨rfl, rfl, rfl, rfl, rfl⟩

theorem sameDurable_takePolicy (t : RealmTable) (s : State) : SameDurable s (takePolicy t s) := by
  unfold takePolicy
  split <;> exact ⟨rfl, rfl, rfl, rfl, rfl⟩

theorem sameDurable_policyDurable (f : Frame) (s : State) : SameDurable s (policyDurable f s) := by
  unfold policyDurable
  split
  · exact sameDurable_takePolicy _ s
  · exact .refl s

theorem sameDurable_writeOutPage (n : Nat) (s : State) : SameDurable s (writeOutPage n s) := by
  unfold writeOutPage
  split <;> exact ⟨rfl, rfl, rfl, rfl, rfl⟩

/-- A page may be written before the record is taken and another after it. -/
theorem sameDurable_addOutcome (r : OutRec) (more : Bool) (s : State) : SameDurable s (addOutcome r more s) := by
  unfold addOutcome
  extract_lets fr s1 _ s2
  have hfirst : SameDurable s s1 := by
    unfold s1
    split
    · split
      · exact sameDurable_writeOutPage fr s
      · exact .refl s
    · exact .refl s
  have htaken : SameDurable s s2 := hfirst.trans ⟨rfl, rfl, rfl, rfl, rfl⟩
  split
  · exact htaken.trans (sameDurable_writeOutPage _ s2)
  · exact htaken

theorem sameDurable_addOutcomes (rs : List OutRec) (s : State) : SameDurable s (addOutcomes rs s) := by
  induction rs generalizing s with
  | nil => exact .refl s
  | cons r rs ih => exact (sameDurable_addOutcome r _ s).trans (ih _)

theorem sameDurable_countN (e q n : Nat) (s : State) : SameDurable s (countN e q n s) := by
  constructor <;> simp

theorem sameDurable_trace (t h : Nat) (w : List Nat) (s : State) : SameDurable s (trace t h w s) := by
  constructor <;> simp

theorem sameDurable_batchCommitted (b : Batch) (s : State) : SameDurable s (batchCommitted b s) := by
  unfold batchCommitted
  constructor <;> simp

theorem sameDurable_batchFinished (b : Batch) (s : State) : SameDurable s (batchFinished b s) := ⟨rfl, rfl, rfl, rfl, rfl⟩

theorem sameDurable_batchesDurable (s : State) : SameDurable s (batchesDurable s) := by
  unfold batchesDurable
  refine SameDurable.trans ?_ (sameDurable_foldl (fun t b => sameDurable_batchFinished b t) _ _)
  exact (sameDurable_foldl (fun t b => sameDurable_batchCommitted b t) _ s).trans ⟨rfl, rfl, rfl, rfl, rfl⟩

theorem sameDurable_compactionOn (s : State) : SameDurable s (compactionOn s) := ⟨rfl, rfl, rfl, rfl, rfl⟩

/-- R82, R91: FRAME_NO and the end of the frame are durable, and the table with the frame's entries and quota cuts. -/
def frameTaken (f : Frame) (s : State) : State :=
  tableDurable f { s with jn := { s.jn with
    durable := f.no
    durableMac := f.bytes.drop 2016
    spanFrames := mput s.jn.spanFrames f.no f.entries.length
    lastEntry := f.entries.getLast? } }

/-- R94: OUT_FRAME goes on to the next frame where no outcome waits for a page. -/
def outFrameOn (no : Nat) (s : State) : State :=
  if s.jn.outOpen.isEmpty then { s with jn := { s.jn with outFrame := no + 1 } } else s

/-- What the units take over of a frame that became durable, before its anchor is written. -/
def frameFollowed (f : Frame) (prev : Option (List Word)) (s : State) : State :=
  outFrameOn f.no (batchesDurable (addOutcomes (outcomesOf f.no 0 (if f.start then none else prev) f.entries)
    (retiredDurable f.no (policyDurable f (banksDurable f (keysDurable f.no s))))))

/-- The frames before the tail leave the span. -/
def spanFromTail (s : State) : State :=
  { s with jn := { s.jn with spanFrames := s.jn.spanFrames.filter (fun p => decide (tailFrame s ≤ p.1)) } }

theorem anchorFrame_eq (f : Frame) (s : State) : anchorFrame f s =
    trace 5 f.entries.length ((leNats 4 f.no).take 3) (count 6 0 (compactionOn (spanFromTail
      (writeAnchor f.sealing (frameFollowed f s.jn.lastEntry (frameTaken f s)))))) := rfl

theorem sameDurable_outFrameOn (no : Nat) (s : State) : SameDurable s (outFrameOn no s) := by
  unfold outFrameOn
  split
  · exact ⟨rfl, rfl, rfl, rfl, rfl⟩
  · exact .refl s

theorem sameDurable_spanFromTail (s : State) : SameDurable s (spanFromTail s) := ⟨rfl, rfl, rfl, rfl, rfl⟩

theorem sameDurable_frameFollowed (f : Frame) (prev : Option (List Word)) (s : State) :
    SameDurable s (frameFollowed f prev s) := by
  have hunits : SameDurable s (retiredDurable f.no (policyDurable f (banksDurable f (keysDurable f.no s)))) :=
    (((sameDurable_keysDurable f.no s).trans (sameDurable_banksDurable f _)).trans
      (sameDurable_policyDurable f _)).trans (sameDurable_retiredDurable f.no _)
  exact ((hunits.trans (sameDurable_addOutcomes _ _)).trans (sameDurable_batchesDurable _)).trans
    (sameDurable_outFrameOn f.no _)

theorem sameDurable_anchorFrame (f : Frame) (s : State) :
    SameDurable (writeAnchor f.sealing (frameFollowed f s.jn.lastEntry (frameTaken f s))) (anchorFrame f s) := by
  rw [anchorFrame_eq]
  exact (((sameDurable_spanFromTail _).trans (sameDurable_compactionOn _)).trans (sameDurable_countN _ _ _ _)).trans
    (sameDurable_trace _ _ _ _)

/-- R82: a new anchor cell in the ring of 64 names the durable frame. -/
theorem writeAnchor_cell (sealed : Bool) (s : State) :
    mget none (writeAnchor sealed s).jn.anchors ((s.jn.cellNo + 1) % 64) = some (cellBytes (anchorNow sealed s)) := by
  simp only [writeAnchor, mget_mset_self]

/-- What anchoring a frame makes durable. -/
theorem anchorFrame_durable (f : Frame) (s : State) :
    (anchorFrame f s).jn.durable = f.no ∧ (anchorFrame f s).jn.durableMac = f.bytes.drop 2016 ∧
    (anchorFrame f s).jn.cellNo = s.jn.cellNo + 1 ∧ (anchorFrame f s).realms.durable = (frameTaken f s).realms.durable ∧
    ∃ a, mget none (anchorFrame f s).jn.anchors ((s.jn.cellNo + 1) % 64) = some (cellBytes a) ∧
      a.cellNo = s.jn.cellNo + 1 ∧ a.frameNo = f.no ∧ a.sealed = f.sealing := by
  obtain ⟨hdur, hmac, hcell, -, hrealms⟩ := sameDurable_frameFollowed f s.jn.lastEntry (frameTaken f s)
  obtain ⟨hdur', hmac', hcell', hanchors', hrealms'⟩ := sameDurable_anchorFrame f s
  have hcellNo : (frameFollowed f s.jn.lastEntry (frameTaken f s)).jn.cellNo = s.jn.cellNo := hcell
  refine ⟨hdur'.trans hdur, hmac'.trans hmac, hcell'.trans (congrArg (· + 1) hcellNo),
    congrArg Realms.durable (hrealms'.trans hrealms), anchorNow f.sealing _, ?_, congrArg (· + 1) hcellNo, hdur, rfl⟩
  rw [hanchors', ← hcellNo]
  exact writeAnchor_cell f.sealing _

/-- Settles O39: each row is one step of the frame at the front, and what anchoring makes durable is
`anchorFrame_durable`. -/
theorem framePath : Obligations.FramePath := by
  unfold Obligations.FramePath
  refine ⟨?tick, ?tickEmpty, fun s h => heldAdvance_of_nil h, fun s w ws h ht hr => heldAdvance_of_cons h ht hr,
    ?frameSeal, ?program, ?ringFull, ?anchor, ?inhibited, fun f s => anchorFrame_durable f s⟩
  case tick =>
    intro s dt hal hrun hrep hdue hopen
    rw [exec_journalTick, lapseServe_alive hal, journalTick_of_due hrun hrep hdue, if_neg (by simpa using hopen)]
  case tickEmpty =>
    intro s dt hal hrun hrep hdue hopen
    rw [exec_journalTick, lapseServe_alive hal, journalTick_of_due hrun hrep hdue, if_pos (by simpa using hopen)]
  case frameSeal =>
    intro s f fs hin hkey hflight hstage
    rw [exec_frameSeal, frameSeal_of_closed hin hkey hflight hstage]
  case program =>
    intro s f fs hin hflight hstage hgo hfree
    rw [exec_frameProgram, frameProgram_of_sealed hin hflight hstage hgo, if_pos (ringFree_iff.mpr hfree)]
  case ringFull =>
    intro s f fs hflight hstage hgo hfull
    rw [exec_frameProgram]
    cases hin : s.jn.inhibit with
    | true => rw [frameProgram_of_inhibit hin]
    | false =>
      rw [frameProgram_of_sealed hin hflight hstage hgo, if_neg (fun h => absurd (ringFree_iff.mp h) (Nat.not_lt.mpr hfull))]
  case anchor =>
    intro s f fs hin hflight hstage
    rw [exec_frameAnchor, frameAnchor_of_programmed hin hflight hstage]
  case inhibited =>
    intro s hin
    rw [exec_frameSeal, exec_frameProgram, exec_frameAnchor, frameSeal_of_inhibit hin, frameProgram_of_inhibit hin,
      frameAnchor_of_inhibit hin]
    exact ⟨rfl, rfl, rfl⟩

end Sys2Proof.Machine
end

section
/-! Compaction: when it runs, the six steps of a batch, and the copies written in turn. -/

namespace Sys2Proof.Machine

/-! ### The rows of compaction -/

theorem exec_batchOpen (failed : List Nat) (s : State) : exec (.batchOpen failed) s = serve (batchOpen failed) s := rfl
theorem exec_batchStageWrite (s : State) : exec .batchStageWrite s = serve batchStage s := rfl
theorem exec_batchCommit (s : State) : exec .batchCommit s = serve batchCommit s := rfl
theorem exec_batchCopyBack (s : State) : exec .batchCopyBack s = serve batchCopy s := rfl
theorem exec_batchDone (s : State) : exec .batchDone s = serve batchDone s := rfl
theorem exec_realmTableCopyWrite (s : State) : exec .realmTableCopyWrite s = serve realmCopyWrite s := rfl
theorem exec_directoryCopyWrite (s : State) : exec .directoryCopyWrite s = serve dirCopyWrite s := rfl

/-! ### When compaction runs -/

theorem spanHigh_iff {s : State} : spanHigh s = true ↔ 262144 ≤ spanEntries s ∨ 16384 ≤ spanFrameCount s := by
  simp [spanHigh]

theorem spanLow_iff {s : State} : spanLow s = true ↔ spanEntries s < 131072 ∧ spanFrameCount s < 8192 := by
  simp [spanLow]

theorem compactionOn_compacting (s : State) :
    (compactionOn s).jn.compacting = (spanHigh s || (s.jn.compacting && (!spanLow s || s.jn.compactNow))) := rfl

/-- R86: compaction starts at the upper thresholds. -/
theorem compactionOn_of_high {s : State} (h : spanHigh s = true) : (compactionOn s).jn.compacting = true := by
  simp [compactionOn_compacting, h]

theorem compactionOn_of_not_high {s : State} (h : spanHigh s = false) :
    (compactionOn s).jn.compacting = (s.jn.compacting && (!spanLow s || s.jn.compactNow)) := by
  simp [compactionOn_compacting, h]

theorem spanHigh_eq_false {s : State} (he : spanEntries s < 262144) (hf : spanFrameCount s < 16384) :
    spanHigh s = false := by
  rw [Bool.eq_false_iff, ne_eq, spanHigh_iff]
  omega

/-! ### The steps of a batch -/

/-- R127: the tick takes another entry. -/
theorem otherLeft_pos {s : State} : 0 < otherLeft s ↔ s.jn.tickOther < 40 := Nat.sub_pos_iff_lt

theorem mayOpen_iff {s : State} (h : s.jn.batches = []) :
    mayOpen s = true ↔ batchPages s ≠ [] ∧ s.jn.tickOther < 40 := by
  simp [mayOpen, h, otherLeft_pos]

/-- B1: without a batch under way a batch opens where there are pages and the tick takes its entries. -/
theorem batchOpen_of_none {s : State} (failed : List Nat) (hw : mayWrite s = true) (h : s.jn.batches = []) :
    batchOpen failed s = (if mayOpen (compactionOn s) then openBatch (batchPages (compactionOn s)) failed (compactionOn s)
      else if (batchPages (compactionOn s)).isEmpty then
        compactionOn { compactionOn s with jn := { (compactionOn s).jn with compactNow := false } }
      else compactionOn s) := by
  simp [batchOpen, hw, h]

/-- R127: a step that needs a take of the tick waits where none is left. -/
theorem ite_otherLeft (s t u : State) :
    (if otherLeft s = 0 then t else u) = if s.jn.tickOther < 40 then u else t := by
  by_cases h : s.jn.tickOther < 40
  · rw [if_pos h, if_neg (fun hz => absurd (otherLeft_eq_zero.mp hz) (Nat.not_le.mpr h))]
  · rw [if_neg h, if_pos (otherLeft_eq_zero.mpr (Nat.not_lt.mp h))]

/-- B2: a batch with SWITCH entries not yet taken goes on before another opens. -/
theorem batchOpen_of_unsent {s : State} {b : Batch} {r : List Batch} (failed : List Nat) (hw : mayWrite s = true)
    (h : s.jn.batches = b :: r) (hun : b.unsent ≠ []) :
    batchOpen failed s = if s.jn.tickOther < 40 then sendSwitches b s else s := by
  rw [← ite_otherLeft]
  simp [batchOpen, hw, h, hun]

theorem batchOpen_of_readOnly {s : State} (failed : List Nat) (hw : mayWrite s = false) : batchOpen failed s = s := by
  simp [batchOpen, hw]

theorem pastCommit_of_opened {b : Batch} (h : b.step = .opened) : pastCommit b = false := by
  simp [pastCommit, h]

/-- B3: the oldest batch is staged once its entries are durable. -/
theorem batchStage_of_opened {s : State} {b : Batch} {r : List Batch} (hw : mayWrite s = true)
    (h : s.jn.batches = b :: r) (hstep : b.step = .opened) :
    batchStage s = if b.unsent = [] ∧ b.waitFrame ≤ s.jn.durable then stageBatch b s else s := by
  simp [batchStage, hw, h, pastCommit_of_opened hstep, hstep]

/-- B4: COMMIT once the batch is staged. -/
theorem batchCommit_of_staged {s : State} {b : Batch} {r : List Batch} (hw : mayWrite s = true)
    (h : s.jn.batches = b :: r) (hstep : b.step = .staged) :
    batchCommit s = if s.jn.tickOther < 40 then
      setBatch { b with step := .committing, waitFrame := s.jn.openNo }
        (append (batchEntry 2 b.no b.pages.length b.stageFirst b.stageCount) (useOther 1 s)) else s := by
  rw [← ite_otherLeft]
  simp [batchCommit, hw, h, hstep]

/-- B5: copy-back once the batch is committed. -/
theorem batchCopy_of_committed {s : State} {b : Batch} {r : List Batch} (hw : mayWrite s = true)
    (h : s.jn.batches = b :: r) (hstep : b.step = .committed) : batchCopy s = copyBack b s := by
  simp [batchCopy, hw, h, hstep]

/-- B6: DONE once the batch is copied back. -/
theorem batchDone_of_copied {s : State} {b : Batch} {r : List Batch} (hw : mayWrite s = true)
    (h : s.jn.batches = b :: r) (hstep : b.step = .copied) :
    batchDone s = if s.jn.tickOther < 40 then
      setBatch { b with step := .closing, waitFrame := s.jn.openNo }
        (append (batchEntry 3 b.no b.pages.length b.stageFirst b.stageCount) (useOther 1 s)) else s := by
  simp [batchDone, hw, h, hstep, otherLeft_pos, closeBatch]

/-! ### The copies of the realm table and of the slot directory -/

/-- R91: the older copy is written over, A where neither is newer. -/
theorem writeRealmCopy_of_le {s : State} (h : s.realms.copyA.elim 0 RealmCopy.seq ≤ s.realms.copyB.elim 0 RealmCopy.seq) :
    writeRealmCopy s = { s with
      realms := { s.realms with
        copyA := some (makeCopy 0 s.jn.durable (s.realms.copyB.elim 0 RealmCopy.seq + 1) s.realms.durable) }
      jn := { s.jn with realmFrames := s.jn.realmFrames.filter (fun f => decide (s.jn.durable < f)) } } := by
  simp [writeRealmCopy, h]

theorem writeRealmCopy_of_lt {s : State} (h : s.realms.copyB.elim 0 RealmCopy.seq < s.realms.copyA.elim 0 RealmCopy.seq) :
    writeRealmCopy s = { s with
      realms := { s.realms with
        copyB := some (makeCopy 1 s.jn.durable (s.realms.copyA.elim 0 RealmCopy.seq + 1) s.realms.durable) }
      jn := { s.jn with realmFrames := s.jn.realmFrames.filter (fun f => decide (s.jn.durable < f)) } } := by
  simp [writeRealmCopy, Nat.not_le.mpr h, Nat.max_eq_left (Nat.le_of_lt h)]

theorem realmCopyWrite_of_mayWrite {s : State} (hw : mayWrite s = true) :
    realmCopyWrite s = compactionOn (writeRealmCopy s) := by simp [realmCopyWrite, hw]

theorem dirCopyWrite_of_mayWrite {s : State} (hw : mayWrite s = true) (hslots : Phase.slots ∈ s.start.done)
    (hkeys : s.keys.wiped = false) : dirCopyWrite s = compactionOn (writeDirCopy s) := by
  simp [dirCopyWrite, hw, hslots, hkeys]

/-- R91, R315: no copy is written where the part may not write. -/
theorem copyWrites_of_readOnly {s : State} (hw : mayWrite s = false) : realmCopyWrite s = s ∧ dirCopyWrite s = s := by
  simp [realmCopyWrite, dirCopyWrite, hw]

/-- R315: the older slot directory copy is written over, A where neither is newer. -/
theorem writeDirCopy_keys {s : State} {b : List Byte}
    (hb : b = dirBytes (if dirSeq s.keys.dirA ≤ dirSeq s.keys.dirB then 0 else 1)
      (max (dirSeq s.keys.dirA) (dirSeq s.keys.dirB) + 1) s.adm.startNo s.jn.durable
      (fun n => ((slotBus s n).counter, (slotBus s n).pos))) :
    (writeDirCopy s).keys = if dirSeq s.keys.dirA ≤ dirSeq s.keys.dirB then { s.keys with dirA := some b }
      else { s.keys with dirB := some b } := by
  subst hb
  by_cases h : dirSeq s.keys.dirA ≤ dirSeq s.keys.dirB <;> simp [writeDirCopy, h]

theorem dueCopies_of_few_realm {s : State} (h : s.jn.realmFrames.length < 8192) :
    dueCopies s = if 8192 ≤ s.jn.keyFrames.length then dirCopyWrite s else s := by
  simp [dueCopies, Nat.not_le.mpr h]

/-- R91: writing the realm table's copy lets no frame of the directory go. -/
theorem compactionOn_writeRealmCopy_keyFrames (s : State) :
    (compactionOn (writeRealmCopy s)).jn.keyFrames = s.jn.keyFrames := rfl

theorem dueCopies_of_realm {s : State} (hw : mayWrite s = true) (h : 8192 ≤ s.jn.realmFrames.length)
    (hkey : s.jn.keyFrames.length < 8192) : dueCopies s = compactionOn (writeRealmCopy s) := by
  simp [dueCopies, hw, h, compactionOn_writeRealmCopy_keyFrames, Nat.not_le.mpr hkey]

/-- Settles O41: each row takes the oldest batch in the step it stands in; compaction and the copies by their
thresholds. -/
theorem batchSteps : Obligations.BatchSteps := by
  unfold Obligations.BatchSteps
  refine ⟨?opening, ?readOnly, ?unsent, ?thresholds, ?staging, ?waiting, ?commit, ?copyBack, ?finish, ?copyA, ?copyB,
    fun copy d n t => ⟨rfl, rfl, rfl⟩, ?directory, ?directoryKeys, fun s hw hr hk => dueCopies_of_realm hw hr hk,
    ?keysDue, ?noneDue, ?copiesReadOnly⟩
  case opening =>
    rintro s failed _ hal hw hnone rfl
    have hopen : mayOpen (compactionOn s) = true ↔ batchPages (compactionOn s) ≠ [] ∧ s.jn.tickOther < 40 :=
      mayOpen_iff (s := compactionOn s) hnone
    rw [exec_batchOpen, serve_alive hal, batchOpen_of_none failed hw hnone]
    refine ⟨fun hp ht => ?_, fun hp ht => ?_, fun hp => ?_⟩
    · rw [if_pos (hopen.mpr ⟨hp, ht⟩)]
    · rw [if_neg (fun h => absurd (hopen.mp h).2 (Nat.not_lt.mpr ht)), if_neg (by simpa using hp)]
    · rw [if_neg (fun h => (hopen.mp h).1 hp), if_pos (by simpa using hp)]
  case readOnly =>
    intro s failed hal hw
    rw [exec_batchOpen, serve_alive hal, batchOpen_of_readOnly failed hw]
  case unsent =>
    intro s failed b r hal hw hb hun
    rw [exec_batchOpen, serve_alive hal, batchOpen_of_unsent failed hw hb hun]
  case thresholds =>
    intro s
    refine ⟨fun h => compactionOn_of_high (spanHigh_iff.mpr h), fun he hf hnow => ?_, fun he hf hlow => ?_⟩
    · have hhigh : spanHigh s = false := spanHigh_eq_false (by omega) (by omega)
      simp [compactionOn_of_not_high hhigh, spanLow_iff.mpr ⟨he, hf⟩, hnow]
    · have hnotLow : spanLow s = false := by
        rw [Bool.eq_false_iff, ne_eq, spanLow_iff]
        omega
      simp [compactionOn_of_not_high (spanHigh_eq_false he hf), hnotLow]
  case staging =>
    intro s b r hal hw hb hstep hun hdur
    rw [exec_batchStageWrite, serve_alive hal, batchStage_of_opened hw hb hstep, if_pos ⟨hun, hdur⟩]
  case waiting =>
    intro s b r hal hw hb hstep hdur
    rw [exec_batchStageWrite, serve_alive hal, batchStage_of_opened hw hb hstep,
      if_neg (fun h => absurd h.2 (Nat.not_le.mpr hdur))]
  case commit =>
    intro s b r hal hw hb hstep
    rw [exec_batchCommit, serve_alive hal, batchCommit_of_staged hw hb hstep]
  case copyBack =>
    intro s b r hal hw hb hstep
    rw [exec_batchCopyBack, serve_alive hal, batchCopy_of_committed hw hb hstep]
  case finish =>
    intro s b r hal hw hb hstep
    rw [exec_batchDone, serve_alive hal, batchDone_of_copied hw hb hstep]
  case copyA =>
    intro s hal hw hseq
    rw [exec_realmTableCopyWrite, serve_alive hal, realmCopyWrite_of_mayWrite hw, writeRealmCopy_of_le hseq]
  case copyB =>
    intro s hal hw hseq
    rw [exec_realmTableCopyWrite, serve_alive hal, realmCopyWrite_of_mayWrite hw, writeRealmCopy_of_lt hseq]
  case directory =>
    intro s hal hw hslots hkeys
    rw [exec_directoryCopyWrite, serve_alive hal, dirCopyWrite_of_mayWrite hw hslots hkeys]
  case directoryKeys =>
    intro s b hb
    rw [writeDirCopy_keys hb]
    exact ⟨fun h => if_pos h, fun h => if_neg (Nat.not_le.mpr h), rfl⟩
  case keysDue =>
    intro s hr hk
    rw [dueCopies_of_few_realm hr, if_pos hk]
  case noneDue =>
    intro s hr hk
    rw [dueCopies_of_few_realm hr, if_neg (Nat.not_le.mpr hk)]
  case copiesReadOnly =>
    intro s hal hw
    obtain ⟨hrealm, hdir⟩ := copyWrites_of_readOnly hw
    rw [exec_realmTableCopyWrite, exec_directoryCopyWrite, serve_alive hal, serve_alive hal, hrealm, hdir]
    exact ⟨rfl, rfl⟩

end Sys2Proof.Machine
end

section
/-! Supplies and resets, and the SEALED anchor. -/

namespace Sys2Proof.Machine

/-! ### The rows of the supplies and resets -/

theorem exec_supplyGood (dt : Nat) (x : SupplyIn) (envBad : Bool) (s : State) :
    exec (.supplyGood dt x envBad) s = .next (settle (supplyGood dt x envBad s)) := rfl
theorem exec_powerFailDetect (s : State) : exec .powerFailDetect s = .next (settle (powerFail s)) := rfl
theorem exec_deviceReset (line : ResetLine) (s : State) :
    exec (.deviceReset line) s = .next (settle (deviceReset line s)) := rfl
theorem exec_resetRelease (dt : Nat) (envBad : Bool) (s : State) :
    exec (.resetRelease dt envBad) s = .next (settle (resetRelease dt envBad s)) := rfl
theorem exec_powerDown (vbat : Bool) (s : State) : exec (.powerDown vbat) s = .next (settle (powerDown vbat s)) := rfl
theorem exec_sealDrainDone (s : State) : exec .sealDrainDone s = .next (settle (sealDrainDone s)) := rfl

/-! ### Supply good -/

/-- The supply is good: power is on, and the clock is kept where it was kept throughout (R456). -/
def supplied (x : SupplyIn) (s : State) : State :=
  { s with clk := { s.clk with supply := true, powerFailHold := false, kept := s.clk.kept && x.kept } }

/-- R458, R490: the part starts from its first phase, or waits where a line holds it in reset. -/
theorem supplyGood_of_ok {s : State} {x : SupplyIn} (dt : Nat) (envBad : Bool) (hoff : s.clk.supply = false)
    (hok : supplyOk x s = true) : supplyGood dt x envBad s =
      (if heldReset (supplied x s) then { coldStart (supplied x s) with
        clk := { (coldStart (supplied x s)).clk with resetCause := s.clk.resetCause, nextCause := s.clk.nextCause } }
      else tamperPhase dt envBad (supplied x s)) := by
  rw [supplyGood, if_neg (by simp [hoff, hok])]
  rfl

theorem supplyGood_of_not_ok {s : State} {x : SupplyIn} (dt : Nat) (envBad : Bool)
    (h : s.clk.supply = true ∨ supplyOk x s = false) : supplyGood dt x envBad s = s := by
  rcases h with h | h <;> simp [supplyGood, h]

/-- R490, R495: what supply good needs of HU_SENSE and of every rail but the battery. -/
theorem supplyOk_needs {x : SupplyIn} {s : State} (h : supplyOk x s = true) :
    630 < x.huSense ∧ 1000 ≤ x.huUs ∧ ∀ k, k < 9 → ∃ v lo hi,
      x.rails.getD k none = some v ∧ railRange (coldStart s) k = some (lo, hi) ∧ lo ≤ v ∧ v ≤ hi := by
  simp only [supplyOk, Bool.and_eq_true, decide_eq_true_eq, List.all_eq_true, List.mem_range] at h
  obtain ⟨⟨hrails, hsense⟩, hus⟩ := h
  refine ⟨hsense, hus, fun k hk => ?_⟩
  have hrail := hrails k (by omega)
  have hnot : (k == 9) = false := by simp; omega
  cases hv : x.rails.getD k none with
  | none => simp only [hv, hnot, Bool.false_eq_true] at hrail
  | some v =>
    cases hr : railRange (coldStart s) k with
    | none => simp only [hv, hr, hnot, Bool.false_eq_true] at hrail
    | some r =>
      obtain ⟨lo, hi⟩ := r
      simp only [hv, hr, Bool.and_eq_true, decide_eq_true_eq] at hrail
      exact ⟨v, lo, hi, rfl, rfl, hrail.1, hrail.2⟩

/-! ### Power-fail detection, resets and power-down -/

theorem powerFail_of_supplied {s : State} (hon : s.clk.supply = true) (hhold : s.clk.powerFailHold = false) :
    powerFail s = { sealForReset s with
      clk := { (sealForReset s).clk with
        powerFailHold := true, pfCount := satInc (sealForReset s).clk.pfCount 0xFFFF, nextCause := 2 } } := by
  rw [powerFail, if_neg (by simp [hon, hhold])]

/-- R442, R458: the line that is asserted holds the part and gives the cause of its next start. -/
theorem deviceReset_of_free {s : State} (line : ResetLine) (hon : s.clk.supply = true) (hfree : heldReset s = false) :
    deviceReset line s = { sealForReset s with
      host := { (sealForReset s).host with linkUp := false }
      clk := match line with
        | .resetN => { (sealForReset s).clk with resetN := true, nextCause := 3 }
        | .perstN => { (sealForReset s).clk with perstN := true, nextCause := 4 }
        | .testEn => { (sealForReset s).clk with testEn := true, nextCause := 3 } } := by
  unfold deviceReset
  extract_lets pins
  rw [if_neg (by simp [hon, hfree])]
  cases line <;> rfl

theorem heldReset_of_line {s : State} (h : s.clk.resetN = true ∨ s.clk.perstN = true ∨ s.clk.testEn = true) :
    heldReset s = true := by
  rcases h with h | h | h <;> simp [heldReset, h]

/-- The reset lines are released. -/
def linesReleased (s : State) : State := { s with clk := { s.clk with resetN := false, perstN := false, testEn := false } }

theorem resetRelease_eq (dt : Nat) (envBad : Bool) (s : State) : resetRelease dt envBad s =
    (if !(linesReleased s).clk.supply || !heldReset s || heldReset (linesReleased s) then linesReleased s
    else tamperPhase dt envBad (finishSeal (s.jn.flight.length + 1) (linesReleased s))) := rfl

/-- R98, R458: the release of the last line that held the part ends the seal and starts it. -/
theorem resetRelease_of_held {s : State} (dt : Nat) (envBad : Bool) (hon : s.clk.supply = true)
    (hpf : s.clk.powerFailHold = false) (htap : s.tap.heldReset = false) (hheld : heldReset s = true) :
    resetRelease dt envBad s = tamperPhase dt envBad (finishSeal (s.jn.flight.length + 1) (linesReleased s)) := by
  have hsupply : (linesReleased s).clk.supply = true := hon
  have hfree : heldReset (linesReleased s) = false := by simp [heldReset, linesReleased, hpf, htap]
  rw [resetRelease_eq, if_neg (by simp [hsupply, hheld, hfree])]

/-- R459: what a power-down leaves of a part whose work is lost already. -/
theorem powerDown_of_idle {s : State} (vbat : Bool) (hon : s.clk.supply = true) (hidle : s.clk.running = false) :
    powerDown vbat s = { s with
      glb := { s.glb with service := 1 }
      host := { s.host with linkUp := false }
      tap := {}
      jn := { s.jn with stopped := true, inhibit := true }
      tm := { s.tm with checkPattern := vbat, netRuns := [] }
      clk := { s.clk with
        supply := false, kept := vbat, nextCause := if s.clk.powerFailHold = true then 2 else 1 } } := by
  rw [powerDown, if_neg (by simp [hon]), if_neg (by simp [hidle]), ← hidle]
  rfl

theorem powerDown_of_running {s : State} (vbat : Bool) (hon : s.clk.supply = true) (hrun : s.clk.running = true) :
    powerDown vbat s = { loseWork s with
      glb := { (loseWork s).glb with service := 1 }
      host := { (loseWork s).host with linkUp := false }
      tap := {}
      jn := { (loseWork s).jn with stopped := true, inhibit := true }
      tm := { (loseWork s).tm with checkPattern := vbat, netRuns := [] }
      clk := { (loseWork s).clk with
        running := false, supply := false, kept := vbat
        nextCause := if (loseWork s).clk.powerFailHold then 2 else 1 } } := by
  rw [powerDown, if_neg (by simp [hon]), if_pos hrun]
  rfl

/-- A power-down leaves the part without supply. -/
theorem powerDown_supply (vbat : Bool) (s : State) : (powerDown vbat s).clk.supply = false := by
  unfold powerDown
  split
  · simp_all
  · rfl

/-- R456, R459: nothing comes about by itself after a power-down. -/
theorem exec_powerDown_eq (vbat : Bool) (s : State) : exec (.powerDown vbat) s = .next (powerDown vbat s) := by
  rw [exec_powerDown, settle_off (powerDown_supply vbat s)]

/-! ### The end of a seal -/

theorem sealDrainDone_of_sealing {s : State} (hon : s.clk.supply = true) (hseal : s.jn.sealing = true) :
    sealDrainDone s = sealEnd { s with jn := { s.jn with drained := true } } := by
  rw [sealDrainDone, if_pos (by simp [hon, hseal])]

/-- R98, R462: a drained seal with nothing left to program inhibits the stack, after a SEALED anchor where the reserve
is good, the Writes phase is done and the newest anchor is not one. -/
theorem sealEnd_of_drained {s : State} (hseal : s.jn.sealing = true) (hflight : s.jn.flight = [])
    (hdrained : s.jn.drained = true) (hin : s.jn.inhibit = false) : sealEnd s =
      (if s.glb.holdupOk && s.jn.replayDone && s.start.done.contains .recWrites && !newestSealed s then
        { writeAnchor true s with jn := { (writeAnchor true s).jn with inhibit := true } }
      else { s with jn := { s.jn with inhibit := true } }) := by
  rw [sealEnd, if_pos (by simp [hseal, hflight, hdrained, hin])]
  cases s.glb.holdupOk && s.jn.replayDone && s.start.done.contains .recWrites && !newestSealed s <;> rfl

theorem sealDrainDone_of_drained {s : State} (hon : s.clk.supply = true) (hseal : s.jn.sealing = true)
    (hflight : s.jn.flight = []) (hin : s.jn.inhibit = false) : sealDrainDone s =
      (if s.glb.holdupOk && s.jn.replayDone && s.start.done.contains .recWrites && !newestSealed s then
        { writeAnchor true { s with jn := { s.jn with drained := true } } with
          jn := { (writeAnchor true { s with jn := { s.jn with drained := true } }).jn with inhibit := true } }
      else { s with jn := { s.jn with drained := true, inhibit := true } }) :=
  (sealDrainDone_of_sealing hon hseal).trans
    (sealEnd_of_drained (s := { s with jn := { s.jn with drained := true } }) hseal hflight rfl hin)

/-- Settles O46: each row by the case of its function that its hypotheses name. -/
theorem resetsAndSupplies : Obligations.ResetsAndSupplies := by
  unfold Obligations.ResetsAndSupplies
  refine ⟨?good, ?notGood, fun s x h => supplyOk_needs h, ?powerFail, ?reset, ?release, ?downIdle, ?downRunning,
    ?sealPlain, ?sealAnchor⟩
  case good =>
    rintro s dt x envBad hoff hok _ rfl
    rw [exec_supplyGood, supplyGood_of_ok dt envBad hoff hok]
    exact ⟨fun h => by rw [supplied, if_neg (by simp [h])], fun h => by rw [supplied, if_pos h]⟩
  case notGood =>
    intro s dt x envBad h
    rw [exec_supplyGood, supplyGood_of_not_ok dt envBad h]
  case powerFail =>
    intro s hon hhold
    rw [exec_powerFailDetect, powerFail_of_supplied hon hhold]
  case reset =>
    intro s hon hfree
    simp only [exec_deviceReset, deviceReset_of_free _ hon hfree]
    exact ⟨trivial, trivial, trivial⟩
  case release =>
    intro s dt envBad hon hpf htap hline
    rw [exec_resetRelease, resetRelease_of_held dt envBad hon hpf htap (heldReset_of_line hline), linesReleased]
  case downIdle =>
    intro s vbat hon hidle
    rw [exec_powerDown_eq, powerDown_of_idle vbat hon hidle]
  case downRunning =>
    rintro s vbat hon hrun _ rfl
    rw [exec_powerDown_eq, powerDown_of_running vbat hon hrun]
  case sealPlain =>
    intro s hon hseal hflight hin hbad
    have hplain : ¬ (s.glb.holdupOk && s.jn.replayDone && s.start.done.contains .recWrites && !newestSealed s) = true := by
      simp [hbad]
    rw [exec_sealDrainDone, sealDrainDone_of_drained hon hseal hflight hin, if_neg hplain]
  case sealAnchor =>
    intro s hon hseal hflight hin hgood hrep hwrites hnew
    have hanchor : (s.glb.holdupOk && s.jn.replayDone && s.start.done.contains .recWrites && !newestSealed s) = true := by
      simp [hgood, hrep, hwrites, hnew]
    rw [exec_sealDrainDone, sealDrainDone_of_drained hon hseal hflight hin, if_pos hanchor]

end Sys2Proof.Machine
end

section
/-! The phases of start-up from Fuses to Ready. -/

namespace Sys2Proof.Machine

/-! ### A phase that is due and one that is not -/

/-- R460: a phase that is due ends, and then does its work. -/
theorem phase_of_due {s : State} {p : Phase} {after : List Phase} (h : phaseDue s after p = true) (least most dt : Nat)
    (f : State → State) : phase p after least most dt f s = f (phaseEnds p after least most dt s) := by
  rw [phase, if_pos h]
  rfl

theorem phase_of_not_due {s : State} {p : Phase} {after : List Phase} (h : phaseDue s after p = false)
    (least most dt : Nat) (f : State → State) : phase p after least most dt f s = s := by
  rw [phase, if_neg (by simp [h])]

/-- R463: the row of a phase that is not due changes nothing. -/
theorem exec_of_not_due {c : Instr} {s : State} {p : Phase} {after : List Phase} {least most dt : Nat} {f : State → State}
    (hrow : exec c s = .next (settle (phase p after least most dt f s))) (h : phaseDue s after p = false) :
    exec c s = .next (settle s) := by
  rw [hrow, phase_of_not_due h]

/-- The row of a phase that is due. -/
theorem exec_of_due {c : Instr} {s : State} {p : Phase} {after : List Phase} {least most dt : Nat} {f : State → State}
    (hrow : exec c s = .next (settle (phase p after least most dt f s))) (h : phaseDue s after p = true) :
    exec c s = .next (settle (f (phaseEnds p after least most dt s))) := by
  rw [hrow, phase_of_due h]

/-! ### The rows of start-up -/

theorem exec_startFuses (dt : Nat) (s : State) : exec (.startFuses dt) s = .next (settle (startFuses dt s)) := rfl
theorem exec_startClocks (dt : Nat) (found : ClocksIn) (s : State) :
    exec (.startClocks dt found) s = .next (settle (startClocks dt found s)) := rfl
theorem exec_startRegisters (dt : Nat) (s : State) :
    exec (.startRegisters dt) s = .next (settle (startRegisters dt s)) := rfl
theorem exec_startBallast (dt step drop trip least : Nat) (s : State) :
    exec (.startBallast dt step drop trip least) s = .next (settle (startBallast dt step drop trip least s)) := rfl
theorem exec_startPlan (dt : Nat) (v0 deltas eol : List Nat) (smb : List (Option Regulator)) (fc : Nat) (s : State) :
    exec (.startPlan dt v0 deltas eol smb fc) s = .next (settle (startPlan dt ⟨v0, deltas, eol, smb, fc⟩ s)) := rfl
theorem exec_entropy (dt : Nat) (good : Bool) (s : State) :
    exec (.entropy dt good) s = .next (settle (entropy dt good s)) := rfl
theorem exec_pufRead (dt : Nat) (cells : List Byte) (s : State) :
    exec (.pufRead dt cells) s = .next (settle (pufRead dt cells s)) := rfl
theorem exec_extract (dt : Nat) (s : State) : exec (.extract dt) s = .next (settle (extract dt s)) := rfl
theorem exec_derive (dt : Nat) (lost : List Nat) (s : State) :
    exec (.derive dt lost) s = .next (settle (derive dt lost s)) := rfl
theorem exec_startFirmware (dt : Nat) (dmg : List Nat) (s : State) :
    exec (.startFirmware dt dmg) s = .next (settle (startFirmware dt dmg s)) := rfl
theorem exec_recoveryAnchor (dt : Nat) (torn : List Nat) (s : State) :
    exec (.recoveryAnchor dt torn) s = .next (settle (recoveryAnchor dt torn s)) := rfl
theorem exec_recoveryChain (dt : Nat) (lost : List Nat) (s : State) :
    exec (.recoveryChain dt lost) s = .next (settle (recoveryChain dt lost s)) := rfl
theorem exec_recoveryTree (dt : Nat) (lost : List Nat) (s : State) :
    exec (.recoveryTree dt lost) s = .next (settle (recoveryTree dt lost s)) := rfl
theorem exec_recoveryReplay (dt : Nat) (lost : List Nat) (s : State) :
    exec (.recoveryReplay dt lost) s = .next (settle (recoveryReplay dt lost s)) := rfl
theorem exec_recoveryOutcomes (dt : Nat) (s : State) :
    exec (.recoveryOutcomes dt) s = .next (settle (recoveryOutcomes dt s)) := rfl
theorem exec_recoveryWrites (dt : Nat) (s : State) :
    exec (.recoveryWrites dt) s = .next (settle (recoveryWrites dt s)) := rfl
theorem exec_slots (dt : Nat) (dmg : List Nat) (s : State) :
    exec (.slots dt dmg) s = .next (settle (slotsPhase dt dmg s)) := rfl
theorem exec_release (dt : Nat) (s : State) : exec (.release dt) s = .next (settle (release dt s)) := rfl
theorem exec_startSteward (dt : Nat) (failed : List Nat) (s : State) :
    exec (.startSteward dt failed) s = .next (settle (startSteward_ dt failed s)) := rfl
theorem exec_startSelfTest (dt : Nat) (failed : List (Nat × Nat)) (s : State) :
    exec (.startSelfTest dt failed) s = .next (settle (startSelfTest dt failed s)) := rfl
theorem exec_startApplets (dt : Nat) (lost : List Nat) (s : State) :
    exec (.startApplets dt lost) s = .next (settle (startApplets dt lost s)) := rfl
theorem exec_startReady (dt : Nat) (s : State) : exec (.startReady dt) s = .next (settle (startReady dt s)) := rfl

/-! ### What the end of a phase leaves alone -/

@[simp] theorem phaseEnds_glb (p : Phase) (after : List Phase) (least most dt : Nat) (s : State) :
    (phaseEnds p after least most dt s).glb = s.glb := passTime_glb _ s
@[simp] theorem phaseEnds_keys (p : Phase) (after : List Phase) (least most dt : Nat) (s : State) :
    (phaseEnds p after least most dt s).keys = s.keys := passTime_keys _ s
@[simp] theorem phaseEnds_tm (p : Phase) (after : List Phase) (least most dt : Nat) (s : State) :
    (phaseEnds p after least most dt s).tm = s.tm := passTime_tm _ s

@[simp] theorem calPass_kept (n : Nat) (c : Clk) : (calPass n c).kept = c.kept := by
  unfold calPass
  dsimp only
  split <;> rfl

@[simp] theorem tosPass_kept (n : Nat) (s : State) : (tosPass n s).clk.kept = s.clk.kept := by
  unfold tosPass
  dsimp only
  split <;> simp

@[simp] theorem tracePass_clk (n : Nat) (s : State) : (tracePass n s).clk = s.clk := by
  obtain ⟨_, _, h⟩ := tracePass_frame n s
  rw [h]

@[simp] theorem writeLog_clk (s : State) : (writeLog s).clk = s.clk := by
  obtain ⟨_, h⟩ := writeLog_frame s
  rw [h]

/-- R456: that the clock was kept is known from supply good on. -/
@[simp] theorem passTime_kept (n : Nat) (s : State) : (passTime n s).clk.kept = s.clk.kept := by
  unfold passTime
  dsimp only
  split
  · rfl
  · rw [tracePass_clk]
    split
    · simp
    · split <;> simp

@[simp] theorem phaseEnds_kept (p : Phase) (after : List Phase) (least most dt : Nat) (s : State) :
    (phaseEnds p after least most dt s).clk.kept = s.clk.kept := passTime_kept _ s

/-! ### The work of the early phases -/

@[simp] theorem tearCells_clk (torn : List Nat) (s : State) : (tearCells torn s).clk = s.clk := rfl
@[simp] theorem tearCells_tm (torn : List Nat) (s : State) : (tearCells torn s).tm = s.tm := rfl

/-- R433, R450, R453, R454: the work of the Clocks phase once torn cells are gone. -/
def clocksStarted (ppm : Int) (t : State) : State :=
  { t with
    clk :=
      if t.clk.kept && !t.tm.watchGapNoted then { t.clk with
        running := true, refOk := decide (-50 ≤ ppm) && decide (ppm ≤ 50), pllLock := true, sscActive := t.clk.sscDepth
        tos := 0, era := 0, retainAt := t.now + 60000000, calSource := 1 }
      else { t.clk with
        running := true, refOk := decide (-50 ≤ ppm) && decide (ppm ≤ 50), pllLock := true, sscActive := t.clk.sscDepth
        tos := 0, era := 0, retainAt := t.now + 60000000
        calSource := 2, cal := max t.clk.calRetained (anchoredCal t), calNs := 0 }
    tm := { t.tm with oscOk := true } }

theorem startClocks_eq (dt : Nat) (found : ClocksIn) (s : State) : startClocks dt found s =
    phase .clocks [.fuses] 200 1000 dt (fun t => clocksStarted found.ppm (tearCells found.torn t)) s := rfl

/-- R454: a clock kept throughout goes on. -/
theorem clocksStarted_of_kept {ppm : Int} {t : State} (hkept : t.clk.kept = true) (hgap : t.tm.watchGapNoted = false) :
    clocksStarted ppm t = { t with
      clk := { t.clk with
        running := true, refOk := decide (-50 ≤ ppm ∧ ppm ≤ 50), pllLock := true, sscActive := t.clk.sscDepth
        tos := 0, era := 0, calSource := 1, retainAt := t.now + 60000000 }
      tm := { t.tm with oscOk := true } } := by
  rw [clocksStarted, if_pos (by simp [hkept, hgap]), Bool.decide_and]

/-- R454: otherwise calendar time is the greater of the retained and the anchored one. -/
theorem clocksStarted_of_lost {ppm : Int} {t : State} (h : t.clk.kept = false ∨ t.tm.watchGapNoted = true) :
    clocksStarted ppm t = { t with
      clk := { t.clk with
        running := true, refOk := decide (-50 ≤ ppm ∧ ppm ≤ 50), pllLock := true, sscActive := t.clk.sscDepth
        tos := 0, era := 0, calSource := 2, cal := max t.clk.calRetained (anchoredCal t), calNs := 0
        retainAt := t.now + 60000000 }
      tm := { t.tm with oscOk := true } } := by
  have hlost : ¬ (t.clk.kept && !t.tm.watchGapNoted) = true := by rcases h with h | h <;> simp [h]
  rw [clocksStarted, if_neg hlost, Bool.decide_and]

/-- R468: 60 s of equivalent ageing are added to each island's sum. -/
def agedSums (t : State) : KMap Nat :=
  (List.range 5).foldl (fun m i => mset 0 m i (mget 0 t.ag.sumsRetained i + 60000000)) []

/-- R141, R463, R468, R479: what the Registers phase sets. -/
def registersSet (t : State) : State :=
  { t with
    adm := { t.adm with startNo := (t.adm.startNo + 1) % 4294967296 }
    ag := { t.ag with sums := agedSums t, lifeUsed := lifeOf (agedSums t), planning := true, tickAt := t.now }
    ob := { t.ob with
      counters := [(0, { event := 0x01FF }), (1, { event := 0x02FF }), (2, { event := 0x06FF }), (3, { event := 0x1200 })] }
    pm := { t.pm with allParked := false } }

/-- R19, R463: SCUTTLED ends the start, and an undefined lifecycle raises an alarm. -/
def lifecycleChecked (u : State) : State :=
  if u.glb.lifecycle = lcScuttled then { u with start := { u.start with stopped := true } }
  else if u.glb.lifecycle ∉ [lcUnprovisioned, lcProvisioned, lcDecommissioned] then alarm 0x21 0 3 0 u
  else u

theorem startRegisters_eq (dt : Nat) (s : State) : startRegisters dt s =
    phase .registers [.clocks] 0 5000 dt (fun t => lifecycleChecked (capChanged (registersSet t))) s := rfl

theorem lifecycleChecked_of_provisioned {u : State} (h : u.glb.lifecycle = 0x0F) : lifecycleChecked u = u := by
  simp [lifecycleChecked, h, lcScuttled, lcProvisioned]

/-- R460: a part that is not SCUTTLED does nothing but pass the time of the Fuses phase. -/
theorem startFuses_of_due {s : State} (dt : Nat) (h : phaseDue s [.tamper] .fuses = true) (hlc : s.glb.lifecycle ≠ 0xFF) :
    startFuses dt s = phaseEnds .fuses [.tamper] 0 100 dt s := by
  have hnot : ¬ s.glb.lifecycle = lcScuttled := hlc
  rw [startFuses, phase_of_due h, if_neg (by rw [phaseEnds_glb]; exact hnot), if_neg hnot]

/-- R141: the capability record that the plan gives is published. -/
def capPublished (u : State) : State := { u with adm := { u.adm with published := capRecordNow u } }

theorem startPlan_eq (dt : Nat) (x : PlanIn) (s : State) : startPlan dt x s =
    phase .plan [.registers] 1000 20000 dt (fun t => capPublished (makePlan (max 1000 (min 20000 dt)) x t)) s := rfl

/-- R461: packet fetch opens with the firmware that runs. -/
def stewardOpened (v : State) : State :=
  { v with glb := { v.glb with fwVer := ((fwRunning v).map FwSlot.version).getD 0 }
           adm := { v.adm with opened := true } }

theorem startSteward_eq (dt : Nat) (s : State) : startSteward_ dt [] s =
    phase .steward [.firmware, .release, .plan] 0 5000 dt (fun t => stewardOpened (loadSteward t)) s := rfl

/-- R440 to R442: the Ready phase compares the scuttle policy and raises a watch gap. -/
def readyMeasured (t : State) : State := noteLevels (raiseWatchGap (comparePolicy t))

/-- R22, R460: the looms in service and the start's time are kept, and the capability record is published. -/
def readyPublished (u : State) : State :=
  publish { u with
    glb := { u.glb with loomIn := loomBits (loomInService u) }
    clk := { u.clk with startMs := min 0xFFFF ((u.now - u.clk.startAt) / 1000) } }

theorem startReady_eq {s : State} (dt : Nat) (hwait : restageWaits s = false) : startReady dt s =
    phase .ready [.applets, .steward] 0 1000 dt (fun t => setService
      (if (readyPublished (readyMeasured t)).glb.lifecycle ≠ lcDecommissioned ∧
        (readyPublished (readyMeasured t)).glb.holdupOk then svReady else svReadOnly)
      (readyPublished (readyMeasured t))) s := by
  rw [startReady, if_neg (by simp [hwait])]
  rfl

/-- R90: Ready waits for every abandoned page to be staged again. -/
theorem startReady_of_waiting {s : State} (dt : Nat)
    (h : phaseDue s [.applets, .steward] .ready = false ∨ restageWaits s = true) : startReady dt s = s := by
  by_cases hwait : restageWaits s = true
  · rw [startReady, if_pos hwait]
  · rw [startReady_eq dt (by simpa using hwait), phase_of_not_due (h.resolve_right hwait)]

/-- R22, R460: READY, or READ_ONLY where the reserve is not good or the part is decommissioned. -/
theorem serviceAfterStart_ready {v : State} (hlc : v.glb.lifecycle ≠ 0x3F) (hok : v.glb.holdupOk = true) :
    (if v.glb.lifecycle ≠ lcDecommissioned ∧ v.glb.holdupOk then svReady else svReadOnly) = 2 :=
  if_pos ⟨hlc, hok⟩

theorem serviceAfterStart_readOnly {v : State} (h : v.glb.lifecycle = 0x3F ∨ v.glb.holdupOk = false) :
    (if v.glb.lifecycle ≠ lcDecommissioned ∧ v.glb.holdupOk then svReady else svReadOnly) = 3 := by
  refine if_neg fun ⟨hlc, hok⟩ => ?_
  rcases h with h | h
  · exact hlc h
  · exact absurd (h.symm.trans hok) Bool.false_ne_true

/-- Settles O47: a due phase does its work after its time has passed (`exec_of_due`), one that is not due changes
nothing (`exec_of_not_due`). -/
theorem earlyPhases : Obligations.EarlyPhases := by
  unfold Obligations.EarlyPhases
  refine ⟨?fuses, ?clocks, ?registers, ?ballast, ?plan, ?steward, ?selfTest, ?applets, ?ready, ?notDue⟩
  case fuses =>
    intro s dt h hlc
    rw [exec_startFuses, startFuses_of_due dt h hlc]
  case clocks =>
    rintro s dt f _ h rfl _ rfl
    rw [exec_startClocks, startClocks_eq, phase_of_due h]
    refine ⟨fun hkept hgap => ?_, fun hlost => ?_⟩
    · rw [clocksStarted_of_kept (by simpa using hkept) (by simpa using hgap)]
    · rw [clocksStarted_of_lost (by simpa using hlost)]
  case registers =>
    intro s dt h hlc
    rw [exec_startRegisters, startRegisters_eq, phase_of_due h,
      lifecycleChecked_of_provisioned (by simpa [registersSet] using hlc)]
    rfl
  case ballast =>
    rintro s dt step drop trip least h _ rfl
    exact exec_of_due (exec_startBallast dt step drop trip least s) h
  case plan =>
    intro s dt v0 deltas eol smb fc h
    rw [exec_startPlan, startPlan_eq, phase_of_due h, capPublished]
  case steward =>
    intro s dt h
    rw [exec_startSteward, startSteward_eq, phase_of_due h, stewardOpened]
  case selfTest =>
    intro s dt h
    refine ⟨exec_of_due (exec_startSelfTest dt [] s) h, fun k n hcell => ?_⟩
    rw [exec_startSelfTest, startSelfTest, phase_of_due h]
    simp [hcell]
  case applets =>
    rintro s dt lost h _ rfl
    rw [exec_startApplets, startApplets, phase_of_due h, loseBanks]
  case ready =>
    intro s dt h hwait
    refine ⟨readyMeasured (phaseEnds .ready [.applets, .steward] 0 1000 dt s), rfl, readyPublished _, rfl,
      fun hlc hok => ?_, fun hro => ?_⟩
    · rw [exec_startReady, startReady_eq dt hwait, phase_of_due h, serviceAfterStart_ready hlc hok]
    · rw [exec_startReady, startReady_eq dt hwait, phase_of_due h, serviceAfterStart_readOnly hro]
  case notDue =>
    intro s dt found torn step drop trip least v0 deltas eol smb fc good cells dmg lost fl fp
    refine ⟨exec_of_not_due (exec_startFuses dt s), exec_of_not_due (exec_startClocks dt found s),
      exec_of_not_due (exec_startRegisters dt s), exec_of_not_due (exec_startBallast dt step drop trip least s),
      exec_of_not_due (exec_startPlan dt v0 deltas eol smb fc s), exec_of_not_due (exec_entropy dt good s),
      exec_of_not_due (exec_pufRead dt cells s), exec_of_not_due (exec_extract dt s),
      exec_of_not_due (exec_derive dt lost s), exec_of_not_due (exec_startFirmware dt dmg s),
      exec_of_not_due (exec_recoveryAnchor dt torn s), exec_of_not_due (exec_recoveryChain dt lost s),
      exec_of_not_due (exec_recoveryTree dt lost s), exec_of_not_due (exec_recoveryReplay dt lost s),
      exec_of_not_due (exec_recoveryOutcomes dt s), exec_of_not_due (exec_recoveryWrites dt s),
      exec_of_not_due (exec_slots dt dmg s), exec_of_not_due (exec_release dt s),
      exec_of_not_due (exec_startSteward dt fl s), exec_of_not_due (exec_startSelfTest dt fp s),
      exec_of_not_due (exec_startApplets dt lost s), fun h => ?_⟩
    rw [exec_startReady, startReady_of_waiting dt h]

end Sys2Proof.Machine
end

section
/-! The phases of journal recovery. -/

namespace Sys2Proof.Machine

/-- R104: a phase of recovery that is due does its work where the ledger key is in. -/
theorem recPhase_of_due {s : State} {p : Phase} {after : List Phase} (h : phaseDue s after p = true)
    (hkey : s.keys.ledgerIn = true) (most dt : Nat) (f : State → State) :
    recPhase p after most dt f s = f (phaseEnds p after 0 most dt s) := by
  rw [recPhase, phase_of_due h, if_pos (by rw [phaseEnds_keys]; exact hkey)]

/-! ### Anchor, Chain and Tree -/

/-- R85: the valid anchor gives the journal's place. -/
def anchorTaken (a : Anchor) (t : State) : State :=
  { t with
    led := { t.led with root := a.root }
    jn := { t.jn with
      anchorSel := some a, cellNo := a.cellNo, durable := a.frameNo, durableMac := a.mac, lastMac := a.mac
      outFrame := a.out, nextBatch := a.nextBatch, outNextPage := a.outNextPage, lastSealed := a.sealed
      cellSealed := a.sealed, openNo := a.frameNo + 5, first := true } }

theorem recAnchor_of_some {torn : List Nat} {s : State} {a : Anchor} (h : bestAnchor (tearCells torn s) = some a) :
    recAnchor torn s = anchorTaken a (tearCells torn s) := by
  unfold recAnchor
  generalize tearCells torn s = t at h ⊢
  dsimp only
  rw [h]
  rfl

/-- R106: without a valid anchor the start stops. -/
theorem recAnchor_of_none {torn : List Nat} {s : State} (h : bestAnchor (tearCells torn s) = none) :
    recAnchor torn s = recoveryStop 1 0 (tearCells torn s) := by
  unfold recAnchor
  generalize tearCells torn s = t at h ⊢
  dsimp only
  rw [h]

/-- The frames that the Warp stack no longer holds are gone from the ring. -/
def framesLost (lost : List Nat) (s : State) : State :=
  { s with jn := { s.jn with ring := lost.foldl (fun m q => mdel m (q % 524288)) s.jn.ring } }

theorem recChain_of_ok {lost : List Nat} {s : State} {rs : List FrameRead} (h : recFrames (framesLost lost s) = .ok rs) :
    recChain lost s = { framesLost lost s with jn := { (framesLost lost s).jn with
      spanFrames := rs.foldl (fun m r => mput m r.no r.entries.length) (framesLost lost s).jn.spanFrames } } := by
  unfold framesLost at h ⊢
  simp only [recChain, ringSize, h]

/-- R106: a chain that does not authenticate stops the start. -/
theorem recChain_of_error {lost : List Nat} {s : State} {q : Nat} (h : recFrames (framesLost lost s) = .error q) :
    recChain lost s = recoveryStop 2 q (framesLost lost s) := by
  unfold framesLost at h ⊢
  simp only [recChain, ringSize, h]

/-- Staged images that the Warp stack no longer holds are gone. -/
def shadowsLost (lost : List Nat) (s : State) : State :=
  { s with led := { s.led with
    shadowPages := lost.foldl (fun m i => mdel m i) s.led.shadowPages
    staging := lost.foldl (fun m i => mdel m i) s.led.staging } }

/-- R104, R106: what stops the Tree phase, if anything: a pending batch whose images fail before a node that fails. -/
def treeVerdict (t : State) : State :=
  match pendingFault t, treeFault t with
  | some i, _ => recoveryStop 4 i t
  | none, some k => recoveryStop 3 k t
  | none, none => t

theorem recTree_eq (lost : List Nat) (s : State) : recTree lost s = treeVerdict (loadTree (shadowsLost lost s)) := by
  unfold recTree shadowsLost
  dsimp only
  generalize loadTree _ = t
  unfold treeVerdict
  cases pendingFault t <;> cases treeFault t <;> rfl

/-! ### Replay and Outcomes -/

/-- R104: the ledger and the realm table are replayed, and the time that it took is kept. -/
def replayTimed (dt : Nat) (u : State) : State :=
  { u with jn := { u.jn with replayUs := min 0xFFFF (min 60000 dt), tickAt := u.now } }

theorem recoveryReplay_eq (dt : Nat) (lost : List Nat) (s : State) : recoveryReplay dt lost s =
    recPhase .recReplay [.recTree] 60000 dt (fun t => replayTimed dt (recReplay lost t)) s := rfl

/-- R104: the outcome records of the frames at and after OUT_FRAME, which follow a first entry. -/
def outcomesSince (t : State) (before : Option (List Word)) : List OutRec :=
  (((chainFrames t).filter (fun r => decide (t.jn.outFrame ≤ r.no))).foldl
    (fun (a : List OutRec × Option (List Word)) r =>
      (a.1 ++ outcomesOf r.no 0 (if r.start then none else a.2) r.entries, r.entries.getLast?)) ([], before)).1

/-- R94: the open page holds none of the records that the last written page holds. -/
def unpaged (t : State) (all : List OutRec) : List OutRec :=
  if all.isEmpty then all else
  match pagedJsn t with
  | some j => all.filter (fun r => decide (j < r.jsn))
  | none => all

theorem recOutcomes_eq (t : State) : recOutcomes t = { t with jn := { t.jn with
    outOpen := unpaged t (outcomesSince t
      ((readFrame t (t.jn.outFrame - 1)).bind (fun r => r.entries.getLast?))) } } := rfl

/-- Settles O49: each phase does its work on the state in which its time has passed. -/
theorem recoveryPhases : Obligations.RecoveryPhases := by
  unfold Obligations.RecoveryPhases
  refine ⟨?anchor, ?chain, ?tree, ?replay, ?outcomes, ?writes⟩
  case anchor =>
    rintro s dt torn h hkey _ rfl
    rw [exec_recoveryAnchor, recoveryAnchor, recPhase_of_due h hkey]
    refine ⟨fun a ha => ?_, fun hnone => ?_⟩
    · rw [recAnchor_of_some ha, anchorTaken]
    · rw [recAnchor_of_none hnone]
  case chain =>
    rintro s dt lost h hkey _ _ rfl rfl
    rw [exec_recoveryChain, recoveryChain, recPhase_of_due h hkey]
    refine ⟨fun rs hok => ?_, fun q herr => ?_⟩
    · rw [recChain_of_ok hok, framesLost]
    · rw [recChain_of_error herr, framesLost]
  case tree =>
    rintro s dt lost h hkey _ _ rfl rfl
    rw [exec_recoveryTree, recoveryTree, recPhase_of_due h hkey, recTree_eq]
    rfl
  case replay =>
    rintro s dt lost h hkey _ rfl
    rw [exec_recoveryReplay, recoveryReplay_eq, recPhase_of_due h hkey, replayTimed]
  case outcomes =>
    rintro s dt h hkey _ rfl _ rfl _ rfl
    rw [exec_recoveryOutcomes, recoveryOutcomes, recPhase_of_due h hkey, recOutcomes_eq]
    rfl
  case writes =>
    intro s dt h hkey
    rw [exec_recoveryWrites, recoveryWrites, recPhase_of_due h hkey]

end Sys2Proof.Machine
end

section
/-! RETRY: the COUNT that each UNIT needs for a wait, and the smallest UNIT whose COUNT fits. -/

namespace Sys2Proof.Machine

theorem ceilDiv_le_iff {a b c : Nat} (hb : 0 < b) : ceilDiv a b ≤ c ↔ a ≤ c * b := by
  rw [ceilDiv, ← Nat.lt_succ_iff, Nat.div_lt_iff_lt_mul hb, Nat.succ_mul]
  omega

/-- R135: the COUNT of UNIT u, 64 ^ u µs each, that a wait in ns needs. -/
def retryCount (ns u : Nat) : Nat := ceilDiv (max 1 (ceilDiv ns 1000)) (64 ^ u)

/-- A COUNT that is not 0 covers the wait just where it is no less than the one that the UNIT needs. -/
theorem retryCount_le_iff {ns u m : Nat} (hm : 1 ≤ m) : retryCount ns u ≤ m ↔ ns ≤ m * 64 ^ u * 1000 := by
  have hunit : 1 ≤ m * 64 ^ u := Nat.mul_pos hm (Nat.pow_pos (by decide))
  rw [retryCount, ceilDiv_le_iff (Nat.pow_pos (by decide)), Nat.max_le, ceilDiv_le_iff (by decide)]
  exact and_iff_right hunit

theorem retryCount_pos (ns u : Nat) : 1 ≤ retryCount ns u := by
  rw [Nat.one_le_iff_ne_zero, ← Nat.pos_iff_ne_zero, ← Nat.not_le, retryCount,
    ceilDiv_le_iff (Nat.pow_pos (by decide))]
  omega

/-- R135: the first UNIT whose COUNT fits; UNIT 3 with COUNT 0 where none does. -/
theorem retryWord_some (ns : Nat) : retryWord (some ns) =
    if retryCount ns 0 ≤ 16383 then 0 * 16384 + retryCount ns 0
    else if retryCount ns 1 ≤ 16383 then 1 * 16384 + retryCount ns 1
    else if retryCount ns 2 ≤ 16383 then 2 * 16384 + retryCount ns 2
    else 0xC000 := by
  have hunit0 : retryCount ns 0 = max 1 (ceilDiv ns 1000) := by simp [retryCount, ceilDiv]
  rw [hunit0, Nat.zero_mul, Nat.zero_add]
  rfl

/-- What R135 asks of a UNIT u and a COUNT n for a wait. -/
def RetryFits (ns u n : Nat) : Prop :=
  1 ≤ n ∧ n ≤ 16383 ∧ ns ≤ n * 64 ^ u * 1000 ∧
  (∀ v m, v ≤ 2 → 1 ≤ m → m ≤ 16383 → ns ≤ m * 64 ^ v * 1000 → n * 64 ^ u ≤ m * 64 ^ v) ∧
  ∀ v, v < u → 16383 * 64 ^ v * 1000 < ns

/-- The smallest UNIT whose COUNT fits gives the smallest value: another value is of a larger UNIT, and so a multiple of
this one. -/
theorem retryFits_of_first {ns u : Nat} (hfit : retryCount ns u ≤ 16383)
    (hfirst : ∀ v, v < u → 16383 < retryCount ns v) : RetryFits ns u (retryCount ns u) := by
  refine ⟨retryCount_pos ns u, hfit, (retryCount_le_iff (retryCount_pos ns u)).mp (Nat.le_refl _), ?least, ?smaller⟩
  case least =>
    intro v m _ hm hmax hcovers
    have huv : u ≤ v := Nat.le_of_not_lt fun hvu =>
      absurd (hfirst v hvu) (Nat.not_lt.mpr (Nat.le_trans ((retryCount_le_iff hm).mpr hcovers) hmax))
    have hpow : m * 64 ^ v = m * 64 ^ (v - u) * 64 ^ u := by rw [Nat.mul_assoc, ← Nat.pow_add, Nat.sub_add_cancel huv]
    have hpos : 1 ≤ m * 64 ^ (v - u) := Nat.mul_pos hm (Nat.pow_pos (by decide))
    rw [hpow] at hcovers ⊢
    exact Nat.mul_le_mul_right _ ((retryCount_le_iff hpos).mpr hcovers)
  case smaller =>
    intro v hvu
    exact Nat.not_le.mp fun h => absurd (hfirst v hvu) (Nat.not_lt.mpr ((retryCount_le_iff (by decide)).mpr h))

/-- Settles O25: the COUNT that a UNIT needs is a lower adjoint (`retryCount_le_iff`), and `retryWord` takes the first
UNIT whose COUNT fits. -/
theorem retryEncoding : Obligations.RetryEncoding := by
  unfold Obligations.RetryEncoding
  have hfits (ns u : Nat) : retryCount ns u ≤ 16383 ↔ ns ≤ 16383 * 64 ^ u * 1000 := retryCount_le_iff (by decide)
  refine ⟨rfl, ?none, ?some⟩
  case none =>
    intro ns hlong
    rw [retryWord_some, if_neg (by rw [hfits]; omega), if_neg (by rw [hfits]; omega), if_neg (by rw [hfits]; omega)]
  case some =>
    intro ns hns
    suffices h : ∃ u, u ≤ 2 ∧ retryWord (some ns) = u * 16384 + retryCount ns u ∧ retryCount ns u ≤ 16383 ∧
        ∀ v, v < u → 16383 < retryCount ns v by
      obtain ⟨u, hu, hword, hfit, hfirst⟩ := h
      exact ⟨u, retryCount ns u, hword, hu, retryFits_of_first hfit hfirst⟩
    rw [retryWord_some]
    by_cases h0 : retryCount ns 0 ≤ 16383
    · exact ⟨0, by decide, if_pos h0, h0, nofun⟩
    by_cases h1 : retryCount ns 1 ≤ 16383
    · refine ⟨1, by decide, by rw [if_neg h0, if_pos h1], h1, fun v hv => ?_⟩
      obtain rfl : v = 0 := by omega
      exact Nat.not_le.mp h0
    · have h2 := (hfits ns 2).mpr hns
      refine ⟨2, Nat.le_refl 2, by rw [if_neg h0, if_neg h1, if_pos h2], h2, fun v hv => ?_⟩
      obtain rfl | rfl : v = 0 ∨ v = 1 := by omega
      · exact Nat.not_le.mp h0
      · exact Nat.not_le.mp h1

end Sys2Proof.Machine
end

section
/-! The commands of service and observation: what QUIESCE, RESUME, FLUSH and COMPACT_NOW take at their admission, and
what each command answers. -/

namespace Sys2Proof.Machine

/-! ### The rows of service and observation -/

theorem exec_echo (id : Nat) (s : State) : exec (.echo id) s = serve (onCmd 0x01 id echo) s := rfl
theorem exec_getCapability (id : Nat) (s : State) :
    exec (.getCapability id) s = serve (onCmd 0x02 id getCapability) s := rfl
theorem exec_flush (id : Nat) (s : State) : exec (.flush id) s = serve (onCmd 0x80 id flushEnd) s := rfl
theorem exec_quiesce (id : Nat) (s : State) : exec (.quiesce id) s = serve (onCmd 0x83 id serviceEnd) s := rfl
theorem exec_resume (id : Nat) (s : State) : exec (.resume id) s = serve (onCmd 0x84 id serviceEnd) s := rfl
theorem exec_compactNow (id : Nat) (s : State) : exec (.compactNow id) s = serve (onCmd 0xA0 id compactNow) s := rfl
theorem exec_countersRead (id : Nat) (s : State) :
    exec (.countersRead id) s = serve (onCmd 0x91 id countersRead) s := rfl
theorem exec_logRead (id : Nat) (s : State) : exec (.logRead id) s = serve (onCmd 0x90 id logRead) s := rfl

/-! ### What an opcode does at its admission -/

@[simp] theorem setService_service (v : Nat) (s : State) : (setService v s).glb.service = v := by
  unfold setService
  split
  · assumption
  · rfl

theorem atAdmission_flush {c : Cmd} (s : State) (hop : cOp c = 0x80) : atAdmission c s =
    ({ c with held := [(flushPairs c.fn (wd c.words 8) s).1] }, (flushPairs c.fn (wd c.words 8) s).2) := by
  rw [atAdmission, if_pos hop]

/-- R22: a QUIESCE waits for what was not answered when it was admitted, unless its effect is present. -/
theorem atAdmission_quiesce {c : Cmd} (s : State) (hop : cOp c = 0x83) : atAdmission c s =
    if s.glb.service = svReady ∨ s.glb.service = svReadOnly then
      ({ c with held := [0] }, setService svQuiescing { s with cmds := { s.cmds with
        quiesceWait := s.cmds.admitted.map Cmd.id ++ s.cmds.replies.filterMap Reply.id } })
    else ({ c with held := [1] }, s) := by
  rw [atAdmission, if_neg (by omega), if_pos hop]

/-- R23: a RESUME ends the wait, unless its effect is present. -/
theorem atAdmission_resume {c : Cmd} (s : State) (hop : cOp c = 0x84) : atAdmission c s =
    if s.glb.service = svQuiescing ∨ s.glb.service = svQuiesced then
      ({ c with held := [0] }, setService (if s.glb.holdupOk = true then svReady else svReadOnly)
        { s with cmds := { s.cmds with quiesceWait := [] } })
    else ({ c with held := [1] }, s) := by
  rw [atAdmission, if_neg (by omega), if_neg (by omega), if_pos hop]

theorem atAdmission_compactNow {c : Cmd} (s : State) (hop : cOp c = 0xA0) : atAdmission c s =
    (c, if s.glb.service = svReadOnly then s else
      { s with jn := { s.jn with compacting := true, compactNow := true } }) := by
  rw [atAdmission, if_neg (by omega), if_neg (by omega), if_neg (by omega), if_pos hop]

/-- In READY and in READ_ONLY nothing is quiescing. -/
theorem not_quiesced_of_ready {v : Nat} (h : v = svReady ∨ v = svReadOnly) : ¬(v = svQuiescing ∨ v = svQuiesced) := by
  rcases h with rfl | rfl <;> decide

/-! ### The pairs that a FLUSH takes -/

/-- The live pairs that the bitmap names. -/
def flushed (fn mask : Nat) (s : State) : List Nat :=
  (List.range 8).filter (fun p => bit mask p && (getPair s fn p).live)

/-- One named pair: its bit is answered, and what it holds will end with FLUSHED. -/
def flushOne (fn : Nat) (a : Nat × State) (p : Nat) : Nat × State :=
  (a.1 + 2 ^ p, setPairOf fn p { getPair a.2 fn p with
    flushLeft := (getPair a.2 fn p).fetched.length + sqQueued (getPair a.2 fn p) } a.2)

theorem flushPairs_eq (fn mask : Nat) (s : State) :
    flushPairs fn mask s = (flushed fn mask s).foldl (flushOne fn) (0, s) := rfl

theorem flushOne_foldl_fst (fn : Nat) (l : List Nat) (a : Nat × State) :
    (l.foldl (flushOne fn) a).1 = l.foldl (fun m p => m + 2 ^ p) a.1 := by
  induction l generalizing a with
  | nil => rfl
  | cons p l ih => exact ih (flushOne fn a p)

/-- The sum of the powers of the numbers that pass a test has just their bits set. -/
theorem testBit_sum_filter_range (b : Nat → Bool) (n : Nat) :
    ((List.range n).filter b).foldl (fun m p => m + 2 ^ p) 0 < 2 ^ n ∧
    ∀ p, (((List.range n).filter b).foldl (fun m p => m + 2 ^ p) 0).testBit p = (decide (p < n) && b p) := by
  induction n with
  | zero => simp
  | succ n ih =>
    obtain ⟨hlt, hbits⟩ := ih
    rw [List.range_succ, List.filter_append, List.foldl_append]
    generalize ((List.range n).filter b).foldl (fun m p => m + 2 ^ p) 0 = x at hlt hbits ⊢
    cases hb : b n with
    | false =>
      refine ⟨by simpa [hb] using Nat.lt_trans hlt (Nat.pow_lt_pow_right (by decide) n.lt_succ_self), fun p => ?_⟩
      rcases Nat.lt_trichotomy p n with hp | rfl | hp
      · simp [hb, hbits, hp, Nat.lt_succ_of_lt hp]
      · simp [hb, hbits]
      · simp [hb, hbits, Nat.not_lt.mpr (Nat.le_of_lt hp), Nat.not_lt.mpr hp]
    | true =>
      have hsum : ([n].filter b).foldl (fun m p => m + 2 ^ p) x = 2 ^ n + x := by simp [hb, Nat.add_comm]
      rw [hsum]
      refine ⟨by rw [Nat.pow_succ]; omega, fun p => ?_⟩
      rcases Nat.lt_trichotomy p n with hp | rfl | hp
      · simp [Nat.testBit_two_pow_add_gt hp, hbits, hp, Nat.lt_succ_of_lt hp]
      · simp [Nat.testBit_two_pow_add_eq, hbits, hb]
      · have hsmall : 2 ^ n + x < 2 ^ p :=
          calc 2 ^ n + x < 2 ^ (n + 1) := by rw [Nat.pow_succ]; omega
            _ ≤ 2 ^ p := Nat.pow_le_pow_right (by decide) hp
        simp [Nat.testBit_lt_two_pow hsmall, Nat.not_lt.mpr hp]

/-- R176: the bitmap that a FLUSH answers is that of the live pairs it names. -/
theorem flushPairs_testBit (s : State) (fn mask p : Nat) :
    (flushPairs fn mask s).1.testBit p = (decide (p < 8) && mask.testBit p && (getPair s fn p).live) := by
  rw [flushPairs_eq, flushOne_foldl_fst]
  exact ((testBit_sum_filter_range _ 8).2 p).trans (Bool.and_assoc _ _ _).symm

/-- A bitmap of one pair names that pair alone. -/
theorem flushed_two_pow (s : State) (fn : Nat) {p : Nat} (hp : p < 8) :
    flushed fn (2 ^ p) s = if (getPair s fn p).live = true then [p] else [] := by
  have hone : ∀ p < 8, (List.range 8).filter (fun q => decide (p = q)) = [p] := by decide
  have hkeep (q : Nat) : (bit (2 ^ p) q && (getPair s fn q).live) = (decide (p = q) && (getPair s fn p).live) := by
    by_cases hpq : p = q
    · subst hpq; simp [bit]
    · simp [bit, hpq]
  simp only [flushed, hkeep]
  cases (getPair s fn p).live with
  | false => simp
  | true => simpa using hone p hp

/-! ### LOG_READ -/

/-- A pair given as words comes back whole. -/
theorem pair_of_leNats {n : Nat} (h : n < 2 ^ 32) : (leNats 2 n).getD 0 0 + 65536 * (leNats 2 n).getD 1 0 = n := by
  show n % 65536 + 65536 * (n / 65536 % 65536) = n
  omega

/-- R484: LOG_READ with the NEXT that it took and the first index that it reads from. -/
theorem logRead_eq {c : Cmd} {next first : Nat} (s : State) (hheld : c.held = leNats 2 next) (hnext : next < 2 ^ 32)
    (hfirst : first = max (pairAt c.words 8) (next - 4096)) : logRead c s =
      if first < logOldest s then finish c sOk (0 :: leNats 2 (logOldest s)) (outTo c 0 []) s
      else finish c sOk
        (min (wd c.words 10) (next - first) :: leNats 2 (first + min (wd c.words 10) (next - first)))
        (outTo c 0 ((List.range (min (wd c.words 10) (next - first))).map
          (fun i => ((logFind s (first + i)).getD []).flatMap (leBytes 2))).flatten) s := by
  simp only [logRead, hheld, pair_of_leNats hnext, ← hfirst]

/-- R484: the steward job of a LOG_READ takes NEXT at its start. -/
theorem startSteward_takes_next (s : State) (sh : Nat) {c d : Cmd} (hd : d ∈ s.cmds.admitted) (hid : d.id = c.id)
    (hop : cOp d = 0x90) :
    ∃ x ∈ (startSteward sh c s).cmds.admitted, x.id = c.id ∧ x.held = leNats 2 s.ob.logNext := by
  refine ⟨_, List.mem_map_of_mem hd, ?_⟩
  rw [if_pos hid]
  exact ⟨hid, if_pos hop⟩

/-- Settles O10: each row is its command's function on the admitted command, and `atAdmission` is said once for each
opcode. -/
theorem serviceCommands : Obligations.ServiceCommands := by
  unfold Obligations.ServiceCommands
  refine ⟨?echo, ?capability, ?flush, ?quiesce, ?resume, ?quiesceAdmitted, ?resumeAdmitted, ?compact,
    fun s fn p w => rfl, fun s c hop => atAdmission_compactNow s hop, ?flushAdmitted, ?flushOne,
    fun s fn m p => flushPairs_testBit s fn m p, ?counters, ?logRead,
    fun s sh c d hd hid hop => startSteward_takes_next s sh hd hid hop⟩
  case echo =>
    intro s id c hc
    rw [exec_echo, serve_onCmd hc, echo]
  case capability =>
    intro s id c hc
    rw [exec_getCapability, serve_onCmd hc, getCapability]
  case flush =>
    intro s id c hc
    rw [exec_flush, serve_onCmd hc, flushEnd]
  case quiesce =>
    intro s id c hc
    rw [exec_quiesce, serve_onCmd hc, serviceEnd]
  case resume =>
    intro s id c hc
    rw [exec_resume, serve_onCmd hc, serviceEnd]
  case quiesceAdmitted =>
    intro s c hop
    refine ⟨fun h => ?_, fun h => ?_⟩
    · rw [atAdmission_quiesce s hop, if_pos h]
      exact ⟨rfl, setService_service _ _, by rw [setService_cmds]⟩
    · rw [atAdmission_quiesce s hop, if_neg fun hr => not_quiesced_of_ready hr h]
  case resumeAdmitted =>
    intro s c hop
    refine ⟨fun h => ?_, fun h => ?_⟩
    · rw [atAdmission_resume s hop, if_pos h]
      exact ⟨rfl, setService_service _ _, by rw [setService_cmds]⟩
    · rw [atAdmission_resume s hop, if_neg (not_quiesced_of_ready h)]
  case compact =>
    intro s id c hc
    rw [exec_compactNow, serve_onCmd hc, compactNow]
  case flushAdmitted =>
    intro s c hop
    rw [atAdmission_flush s hop]
    exact ⟨rfl, rfl⟩
  case flushOne =>
    intro s fn p hp
    rw [flushPairs_eq, flushed_two_pow s fn hp]
    split
    · simp [flushOne]
    · rfl
  case counters =>
    intro s id c hc
    rw [exec_countersRead, serve_onCmd hc, countersRead]
  case logRead =>
    intro s id c next first n hc hheld hnext hfirst hn
    rw [exec_logRead, serve_onCmd hc, logRead_eq s hheld hnext hfirst]
    exact ⟨fun h => by rw [if_neg (Nat.not_lt.mpr h), ← hn], fun h => by rw [if_pos h]⟩

end Sys2Proof.Machine
end

section
/-! The packet at the head of a queue: the decision, its hand-over, and the published capability record. -/

namespace Sys2Proof.Machine

/-! ### The rows of the head -/

theorem exec_admissionDecision (fn pair : Nat) (s : State) :
    exec (.admissionDecision fn pair) s = serve (admissionDecision fn pair) s := rfl
theorem exec_headDecisionRelease (dt fn pair : Nat) (s : State) :
    exec (.headDecisionRelease dt fn pair) s = lapseServe dt (headRelease fn pair) s := rfl
theorem exec_capPublish (dt : Nat) (s : State) :
    exec (.capPublish dt) s = .next (settle (capPublish (passTime dt s))) := rfl

/-! ### The decision -/

/-- R115, R176: an undecided packet at the head of a live pair ends with FLUSHED where a FLUSH has marked it, else as the
checks have it. -/
theorem admissionDecision_eq {s : State} {fn p t : Nat} {w : List Word} {ws : List (List Word)}
    (hrun : s.jn.stopped = false) (hopen : s.adm.opened = true) (hlive : (getPair s fn p).live = true)
    (hfetched : (getPair s fn p).fetched = w :: ws) (hhead : (getPair s fn p).headAt = some t)
    (hund : (getPair s fn p).decided = none) : admissionDecision fn p s =
      if 0 < (getPair s fn p).flushLeft then
        setPairOf fn p { getPair s fn p with decided := some (sFlushed, []) } s
      else (verdict s fn p w).elim (quiesceCheck (admitHead fn p w s))
        (fun r => setPairOf fn p { getPair s fn p with decided := some r } s) := by
  simp only [admissionDecision, hrun, hopen, hlive, hfetched, hhead, hund, Bool.not_true, Bool.or_self,
    Bool.false_eq_true, if_false]
  cases verdict s fn p w <;> rfl

/-- What the checks of R156 refuse is refused. -/
theorem verdict_of_headCheck {s : State} {fn p : Nat} {w : List Word} {r : Refused} (h : headCheck s fn p w = some r) :
    verdict s fn p w = some r := by
  simp only [verdict, h]

theorem headCheck_of_badCrc (s : State) (fn p : Nat) {w : List Word}
    (hcrc : w.getD 31 0 ≠ crc16 (wordBytes (w.take 31))) : headCheck s fn p w = some (sBadCheck, []) := by
  rw [headCheck, if_pos hcrc]

theorem headCheck_of_badVersion (s : State) (fn p : Nat) {w : List Word}
    (hcrc : w.getD 31 0 = crc16 (wordBytes (w.take 31))) (hver : pVersion w ≠ 1) :
    headCheck s fn p w = some (sBadParam, [0]) := by
  rw [headCheck, if_neg (not_not_intro hcrc), if_pos hver]

theorem headCheck_of_unknownOp (s : State) (fn p : Nat) {w : List Word}
    (hcrc : w.getD 31 0 = crc16 (wordBytes (w.take 31))) (hver : pVersion w = 1) (hres : formatReserved w = none)
    (hop : opRow (pOpcode w) = none) : headCheck s fn p w = some (sUnknownOp, []) := by
  rw [headCheck, if_neg (not_not_intro hcrc), if_neg (not_not_intro hver)]
  simp only [hres, hop]

/-! ### The hand-over -/

@[simp] theorem pushReply_adm (r : Reply) (s : State) : (pushReply r s).adm = s.adm := by
  unfold pushReply; split <;> rfl

/-- The outcome that a decided packet ends with: FLUSHED where a FLUSH has marked it since (R176). -/
def outcomeNow (q : QPair) (r : Refused) : Refused := if 0 < q.flushLeft then (sFlushed, []) else r

/-- R144: what a packet that ended unadmitted leaves in the admission's counts. -/
def noteRefused (w : List Word) (r : Refused) (s : State) : State :=
  if r.1 = sRefCapacity then
    count 3 (pClass w) { s with adm := { s.adm with
      refused := mset 0 s.adm.refused (pClass w) (satInc (mget 0 s.adm.refused (pClass w)) 0xFFFFFFFF)
      peakAdmit := max s.adm.peakAdmit 1608 } }
  else { s with adm := { s.adm with peakAdmit := max s.adm.peakAdmit 1608 } }

/-- R164: a decided packet is handed over 2 µs after it reached the head, and not before. -/
theorem headRelease_eq {s : State} {fn p t : Nat} {w : List Word} {ws : List (List Word)} {r : Refused}
    (hrun : s.jn.stopped = false) (hfetched : (getPair s fn p).fetched = w :: ws)
    (hhead : (getPair s fn p).headAt = some t) (hdec : (getPair s fn p).decided = some r) : headRelease fn p s =
      if s.now < t + 2 then s
      else popHead fn p (count 2 fn (traceAdmit fn p w true (noteRefused w (outcomeNow (getPair s fn p) r)
        (pushReply (headReply fn p w (outcomeNow (getPair s fn p) r) true s) s)))) := by
  simp only [headRelease, hrun, hfetched, hhead, hdec, Bool.false_eq_true, if_false]
  rfl

theorem noteRefused_of_capacity (w : List Word) {r : Refused} (s : State) (h : r.1 = sRefCapacity) :
    noteRefused w r s = count 3 (pClass w) { s with adm := { s.adm with
      refused := mset 0 s.adm.refused (pClass w) (satInc (mget 0 s.adm.refused (pClass w)) 0xFFFFFFFF)
      peakAdmit := max s.adm.peakAdmit 1608 } } := if_pos h

theorem noteRefused_of_other (w : List Word) {r : Refused} (s : State) (h : r.1 ≠ sRefCapacity) :
    noteRefused w r s = { s with adm := { s.adm with peakAdmit := max s.adm.peakAdmit 1608 } } := if_neg h

theorem outcomeNow_of_flushed {q : QPair} (r : Refused) (h : 0 < q.flushLeft) : outcomeNow q r = (sFlushed, []) := if_pos h

theorem outcomeNow_of_unflushed {q : QPair} (r : Refused) (h : q.flushLeft = 0) : outcomeNow q r = r :=
  if_neg (Nat.not_lt.mpr (Nat.le_of_eq h))

/-! ### CAP_PUBLISH -/

theorem capStale_eq_false {s : State} : capStale s = false ↔ capRecordNow s = s.adm.published := by
  simp [capStale]

/-- R141: the record is published from the plan on. -/
theorem capPublish_of_planned {s : State} (hal : alive s = true) (hplan : Phase.plan ∈ s.start.done) :
    capPublish s = publish s := by
  simp [capPublish, hal, hplan]

/-- R141: a record that has changed is published, and CHANGE advances by 1. -/
theorem publish_of_stale {s : State} (h : capStale s = true) :
    (publish s).adm.change = (s.adm.change + 1) % 2 ^ 32 ∧ (publish s).adm.published = capRecordNow s := by
  rw [publish, if_pos h, capAdvance, capChanged_adm]
  exact ⟨rfl, rfl⟩

theorem publish_of_standing {s : State} (h : capStale s = false) :
    (publish s).adm.change = s.adm.change ∧ (publish s).adm.published = s.adm.published := by
  rw [publish, if_neg (by simp [h])]
  exact ⟨rfl, rfl⟩

/-- Settles O15: the decision and the hand-over by the cases of `admissionDecision_eq` and `headRelease_eq`, the refusals
by the order of the checks of R156, and the record by `publish`. -/
theorem headOfQueue : Obligations.HeadOfQueue := by
  unfold Obligations.HeadOfQueue
  refine ⟨?decision, fun s fn p w h => verdict_of_headCheck (headCheck_of_badCrc s fn p h),
    fun s fn p w hc hv => verdict_of_headCheck (headCheck_of_badVersion s fn p hc hv),
    fun s fn p w hc hv hr ho => verdict_of_headCheck (headCheck_of_unknownOp s fn p hc hv hr ho),
    ?release, ?releaseCounted, fun s dt => exec_capPublish dt s, ?publish, fun s => eq_comm.trans capStale_eq_false.symm⟩
  case decision =>
    intro s fn p w ws t hal hrun hopen hlive hfetched hhead hund
    rw [exec_admissionDecision, serve_alive hal, admissionDecision_eq hrun hopen hlive hfetched hhead hund]
    refine ⟨fun hf => by rw [if_pos hf], fun hf hv => ?_, fun r hf hv => ?_⟩
    · rw [if_neg (Nat.not_lt.mpr (Nat.le_of_eq hf)), hv, Option.elim_none]
    · rw [if_neg (Nat.not_lt.mpr (Nat.le_of_eq hf)), hv, Option.elim_some]
  case release =>
    intro s dt fn p w ws t r hal hrun hfetched hhead hdec
    rw [exec_headDecisionRelease, lapseServe_alive hal, headRelease_eq hrun hfetched hhead hdec]
    refine ⟨fun hearly => by rw [if_pos hearly], fun hdue hf hr => ?_⟩
    rw [if_neg (Nat.not_lt.mpr hdue), outcomeNow_of_unflushed r hf, noteRefused_of_other w _ hr, pushReply_adm]
  case releaseCounted =>
    intro s dt fn p w ws t r hal hrun hfetched hhead hdec hdue
    rw [exec_headDecisionRelease, lapseServe_alive hal, headRelease_eq hrun hfetched hhead hdec,
      if_neg (Nat.not_lt.mpr hdue)]
    refine ⟨fun hf => ?_, fun hf hr => ?_⟩
    · rw [outcomeNow_of_flushed r hf, noteRefused_of_other w _ (show sFlushed ≠ sRefCapacity by decide), pushReply_adm]
    · rw [outcomeNow_of_unflushed r hf, noteRefused_of_capacity w _ hr, pushReply_adm]
  case publish =>
    intro s hal hplan
    rw [capPublish_of_planned hal hplan]
    exact ⟨publish_of_stale, publish_of_standing⟩

end Sys2Proof.Machine
end

section
/-! The end of a function's queue work leaves the host interface as it stands. -/

namespace Sys2Proof.Machine

/-- A fold of steps that leave the host interface leaves it. -/
theorem foldl_host {α : Type} {f : State → α → State} (h : ∀ t x, (f t x).host = t.host) (l : List α) (s : State) :
    (l.foldl f s).host = s.host :=
  foldl_inv (P := fun t => t.host = s.host) rfl fun t x ht => (h t x).trans ht

/-! ### Engine channels and journal entries -/

@[simp] theorem chanFreeUp_host (ci : Bool) (u ch : Nat) (s : State) : (chanFreeUp ci u ch s).host = s.host := rfl

/-- The dispatcher channels of one kind of engine that work for a command are emptied. -/
theorem channels_host (id : Nat) (ci : Bool) (t : State) :
    ((List.range 24).foldl (fun t u => (List.range 4).foldl (fun t k =>
      if (getChan t ci u (8 + k)).host = some id then chanFreeUp ci u (8 + k) t else t) t) t).host = t.host := by
  refine foldl_host (fun t u => foldl_host (fun t k => ?_) _ t) _ t
  split <;> rfl

@[simp] theorem dropWork_host (id : Nat) (s : State) : (dropWork id s).host = s.host := by
  unfold dropWork; dsimp only; rw [channels_host, channels_host]

@[simp] theorem closeFrame_host (b : Bool) (s : State) : (closeFrame b s).host = s.host := by
  unfold closeFrame; split <;> rfl
@[simp] theorem append_host (e : List Word) (s : State) : (append e s).host = s.host := by
  rw [append_eq]; split <;> simp [placeEntry, count]
@[simp] theorem commitDelta_host (slot : Nat) (new : List Word) (o : Origin) (st : Nat) (s : State) :
    (commitDelta slot new o st s).2.host = s.host := append_host _ s

/-! ### A record that is read and found corrupt -/

@[simp] theorem quarantineSlot_host (slot : Nat) (r : List Word) (bad : Bool) (cause : Nat) (s : State) :
    (quarantineSlot slot r bad cause s).host = s.host := by
  unfold quarantineSlot; split <;> simp
@[simp] theorem foundCorrupt_host (slot : Nat) (r : List Word) (bad : Bool) (cause : Nat) (s : State) :
    (foundCorrupt slot r bad cause s).host = s.host := by
  unfold foundCorrupt; split
  · rfl
  · split <;> simp
@[simp] theorem pageFail_host (page : Nat) (s : State) : (pageFail page s).host = s.host := by
  unfold pageFail; dsimp only; split
  · rfl
  · rw [alarm_host, logEvent_host]
    exact foldl_host (fun t n => foundCorrupt_host n _ true 3 t) _ s
@[simp] theorem countRead_host (slot : Nat) (s : State) : (countRead slot s).host = s.host := countN_host _ _ _ s
@[simp] theorem readSlot_host (failed : Bool) (slot : Nat) (s : State) : (readSlot failed slot s).host = s.host := by
  unfold readSlot; dsimp only; split
  · simp
  · split <;> split <;> simp

/-! ### A job that is cut, with the lock that it holds -/

@[simp] theorem traceJob_host (sh kind realm w : Nat) (s : State) : (traceJob sh kind realm w s).host = s.host := by
  unfold traceJob; split <;> simp
@[simp] theorem dropJob_host (sh : Nat) (s : State) : (dropJob sh s).host = s.host := by
  simp [dropJob, nextInc, leaveJob]
@[simp] theorem cmdJobEnd_host (id : Nat) (e : JobEnd) (s : State) : (cmdJobEnd id e s).host = s.host := rfl
@[simp] theorem waiterEnds_host (sh : Nat) (s : State) : (waiterEnds sh s).host = s.host := by
  unfold waiterEnds; split
  · simp
  · rfl
@[simp] theorem breakLock_host (sh : Nat) (s : State) : (breakLock sh s).host = s.host := by
  unfold breakLock; dsimp only; split
  · refine (foldl_host (fun t a => waiterEnds_host a t) _ _).trans ?_
    simp
  · rfl
@[simp] theorem breakerVoidSlot_host (slot gen : Nat) (s : State) : (breakerVoidSlot slot gen s).host = s.host := by
  unfold breakerVoidSlot; dsimp only; split
  · split
    · rfl
    · split
      · rw [commitDelta_host]; exact readSlot_host ..
      · simp
  · rfl
@[simp] theorem breakerVoid_host (j : Job) (s : State) : (breakerVoid j s).host = s.host := by
  unfold breakerVoid; split <;> simp
@[simp] theorem cutJob_host (sh : Nat) (s : State) : (cutJob sh s).host = s.host := by
  unfold cutJob; split
  · dsimp only; split <;> simp
  · rfl

/-! ### The commands of a function -/

@[simp] theorem freeLane_host (c : Cmd) (s : State) : (freeLane c s).host = s.host := by
  unfold freeLane; split <;> rfl
@[simp] theorem dropStages_host (c : Cmd) (s : State) : (dropStages c s).host = s.host := by
  unfold dropStages; dsimp only; rw [freeLane_host]; split <;> simp
@[simp] theorem loseCmd_host (c : Cmd) (s : State) : (loseCmd c s).host = s.host := dropStages_host c s
@[simp] theorem endFnWork_host (fn : Nat) (s : State) : (endFnWork fn s).host = s.host :=
  foldl_host (fun t c => loseCmd_host c t) _ s

end Sys2Proof.Machine
end

section
/-! Function controls of the PCIe endpoint: resets, Bus Master Enable, power states, virtual functions, link time, and
MSI-X messages held while masked. -/

namespace Sys2Proof.Machine

/-! ### The rows of function controls -/

theorem exec_flr (fn : Nat) (s : State) : exec (.flr fn) s = .next (settle (flrRow fn s)) := rfl
theorem exec_hotReset (s : State) : exec .hotReset s = .next (settle (hotReset s)) := rfl
theorem exec_busMasterDisable (fn : Nat) (w : FnControl) (s : State) :
    exec (.busMasterDisable fn w) s = .next (settle (controlWrite fn w s)) := rfl
theorem exec_d3hotEntry (fn : Nat) (s : State) : exec (.d3hotEntry fn) s = .next (settle (d3hot fn s)) := rfl
theorem exec_d0Return (fn : Nat) (s : State) : exec (.d0Return fn) s = .next (settle (d0Return fn s)) := rfl
theorem exec_vfEnableWrite (enable : Bool) (num : Nat) (s : State) :
    exec (.vfEnableWrite enable num) s = .next (settle (vfEnableWrite enable num s)) := rfl
theorem exec_msixUnmask (fn : Nat) (vec : Option Nat) (w : Nat) (s : State) :
    exec (.msixUnmask fn vec w) s = .next (settle (maskWrite fn vec w s)) := rfl
theorem exec_pcieLinkUp (dt width gen : Nat) (s : State) :
    exec (.pcieLinkUp dt width gen) s = .next (settle (linkTrained dt width gen (passTime dt s))) := rfl

/-! ### Resets -/

@[simp] theorem getFn_setFn_self (n : Nat) (f : Fn) (s : State) : getFn (setFn n f s) n = f := mget_mset_self ..
theorem getFn_setFn_ne {n m : Nat} (f : Fn) (s : State) (h : m ≠ n) : getFn (setFn n f s) m = getFn s m :=
  mget_mset_ne _ _ _ h

theorem flr_of_ne {fn : Nat} (s : State) (h : fn ≠ 0) : flr fn s = setFn fn {} (endFnWork fn s) := by
  rw [flr, if_pos h, resetFn]

theorem flrRow_of_there {fn : Nat} {s : State} (hon : s.clk.supply = true) (hthere : fnThere s fn = true) :
    flrRow fn s = flr fn s := by
  simp [flrRow, hon, hthere]

/-- R459: a hot reset is the FLR of function 0, and the link is down. -/
theorem hotReset_of_up {s : State} (hon : s.clk.supply = true) (hup : s.host.linkUp = true) :
    hotReset s = { flr 0 s with host := { (flr 0 s).host with linkUp := false } } := by
  simp [hotReset, hon, hup]

@[simp] theorem getFn_resetFn_self (n : Nat) (s : State) : getFn (resetFn n s) n = {} := getFn_setFn_self ..
theorem getFn_resetFn_ne {n m : Nat} (s : State) (h : m ≠ n) : getFn (resetFn n s) m = getFn s m := by
  rw [resetFn, getFn_setFn_ne _ _ h, getFn, endFnWork_host, getFn]

/-- A function that stands at reset still does after the reset of any. -/
theorem getFn_resetFn_of_reset {n : Nat} (m : Nat) {s : State} (h : getFn s n = {}) : getFn (resetFn m s) n = {} := by
  by_cases hm : n = m
  · rw [← hm, getFn_resetFn_self]
  · rw [getFn_resetFn_ne s hm, h]

/-- R405: each VF from a number on stands at reset. -/
theorem getFn_resetVfs {k n : Nat} (s : State) (hk : 0 < k) (hn : n < 32) (hkn : k ≤ n) : getFn (resetVfs k s) n = {} := by
  have hmem : n ∈ (List.range 32).filter (fun n => decide (k ≤ n) && decide (0 < n)) := by
    simp [hn, hkn, Nat.lt_of_lt_of_le hk hkn]
  obtain ⟨before, later, hsplit⟩ := List.append_of_mem hmem
  rw [resetVfs, hsplit, List.foldl_append, List.foldl_cons]
  exact foldl_inv (P := fun t => getFn t n = {}) (getFn_resetFn_self n _) fun t m ht => getFn_resetFn_of_reset m ht

theorem resetVfs_of_le {k : Nat} (s : State) (h : 32 ≤ k) : resetVfs k s = s := by
  have hnone : (List.range 32).filter (fun n => decide (k ≤ n) && decide (0 < n)) = [] :=
    List.filter_eq_nil_iff.mpr fun n hn => by simp [Nat.not_le.mpr (Nat.lt_of_lt_of_le (List.mem_range.mp hn) h)]
  rw [resetVfs, hnone, List.foldl_nil]

/-- R405: VF Enable is taken in PROVISIONED; the VFs beyond what is enabled are reset. -/
theorem vfEnableWrite_of_on {s : State} {num : Nat} (hon : s.clk.supply = true) (hlc : s.glb.lifecycle = 0x0F)
    (hnum : num ≤ 31) : vfEnableWrite true num s = { resetVfs (num + 1) s with
      host := { (resetVfs (num + 1) s).host with vfEnable := true, numVfs := num } } := by
  simp [vfEnableWrite, hon, hlc, hnum, lcProvisioned]

theorem vfEnableWrite_of_off {s : State} {enable : Bool} (num : Nat) (hon : s.clk.supply = true)
    (hoff : enable = false ∨ s.glb.lifecycle ≠ 0x0F) : vfEnableWrite enable num s = { resetVfs 1 s with
      host := { (resetVfs 1 s).host with
        vfEnable := false, numVfs := if num ≤ 31 then num else s.host.numVfs } } := by
  have he : (enable && s.glb.lifecycle == lcProvisioned) = false := by
    rcases hoff with rfl | hlc
    · rfl
    · simp [lcProvisioned, hlc]
  simp [vfEnableWrite, hon, he]

/-! ### Controls in configuration space -/

/-- What a control's write does, where it is taken. -/
def controlTaken (fn : Nat) (s : State) : FnControl → State
  | .command v => busMaster fn (bit v 2) (setFn fn { getFn s fn with memEn := bit v 1 } s)
  | .device v => setFn fn { getFn s fn with
      errReport := bit v 1, extTags := bit v 8
      maxPayload := if bits v 7 5 ≤ 2 then bits v 7 5 else (getFn s fn).maxPayload
      maxReadReq := if bits v 14 12 ≤ 5 then bits v 14 12 else (getFn s fn).maxReadReq } s
  | .aerControl v => setFn fn { getFn s fn with ecrcGen := bit v 6, ecrcCheck := bit v 8 } s
  | .aerStatus v => setFn fn { getFn s fn with aer := (getFn s fn).aer &&& ~~~ BitVec.ofNat 32 v } s

theorem controlWrite_of_there {fn : Nat} {s : State} (w : FnControl) (hon : s.clk.supply = true)
    (hthere : fnThere s fn = true) : controlWrite fn w s = controlTaken fn s w := by
  simp only [controlWrite, hon, hthere, Bool.not_true, Bool.or_self, Bool.false_eq_true, if_false]
  cases w <;> rfl

theorem busMaster_on (fn : Nat) (s : State) :
    busMaster fn true s = sendHeld fn (setFn fn { getFn s fn with busEn := true } s) := rfl

theorem busMaster_off_of_off {fn : Nat} {s : State} (h : (getFn s fn).busEn = false) :
    busMaster fn false s = setFn fn { getFn s fn with busEn := false } s := by
  simp [busMaster, h]

/-- R408: at 0 each live pair ends. -/
theorem busMaster_off_of_on {fn : Nat} {s : State} (h : (getFn s fn).busEn = true) : busMaster fn false s =
    (mkeys (getFn s fn).pairs).foldl (fun u p => if (getPair u fn p).live = true then endPair fn p u else u)
      (setFn fn { getFn s fn with busEn := false } s) := by
  simp [busMaster, h]

theorem d3hot_of_there {fn : Nat} {s : State} (hon : s.clk.supply = true) (hthere : fnThere s fn = true) :
    d3hot fn s = setFn fn { getFn s fn with d3 := true } s := by
  simp [d3hot, hon, hthere]

theorem d0Return_of_d3 {fn : Nat} {s : State} (hon : s.clk.supply = true) (hthere : fnThere s fn = true)
    (hd3 : (getFn s fn).d3 = true) : d0Return fn s = flr fn s := by
  simp [d0Return, hon, hthere, hd3]

theorem maskWrite_control {fn : Nat} {s : State} (w : Nat) (hon : s.clk.supply = true) (hthere : fnThere s fn = true) :
    maskWrite fn none w s = sendHeld fn (setFn fn { getFn s fn with msixEn := bit w 15, fnMask := bit w 14 } s) := by
  simp [maskWrite, hon, hthere]

theorem maskWrite_vector {fn v : Nat} {s : State} (w : Nat) (hon : s.clk.supply = true) (hthere : fnThere s fn = true)
    (hv : v < fnVectors fn) : maskWrite fn (some v) w s = setVecMask fn v (bit w 0) s := by
  simp [maskWrite, hon, hthere, hv]

/-- R138, R404: a link that trains to a width and a speed that exist. -/
theorem linkTrained_of_ok {s : State} {width gen : Nat} (dt : Nat) (hon : s.clk.supply = true)
    (hfree : heldReset s = false) (hw : width = 1 ∨ width = 2 ∨ width = 4 ∨ width = 8) (hlo : 1 ≤ gen) (hhi : gen ≤ 5) :
    linkTrained dt width gen s = { noteLevels (excludeTime dt s) with
      host := { (noteLevels (excludeTime dt s)).host with linkUp := true, linkWidth := width, linkGen := gen } } := by
  have hwidth : (width == 1 || width == 2 || width == 4 || width == 8) = true := by simpa [or_assoc] using hw
  simp [linkTrained, hon, hfree, hwidth, hlo, hhi]

/-! ### Messages held while masked -/

theorem msixOn_of {f : Fn} (hen : f.msixEn = true) (hbus : f.busEn = true) (hd3 : f.d3 = false) : msixOn f = true := by
  simp [msixOn, hen, hbus, hd3]

theorem msixSend_of_unmasked {s : State} {n v : Nat} (hon : msixOn (getFn s n) = true)
    (hfn : (getFn s n).fnMask = false) (hvec : (getFn s n).vecMask.getLsbD v = false) :
    msixSend n v s = emit (.msix n v) s := by
  simp [msixSend, hon, hfn, hvec]

theorem msixSend_of_masked {s : State} {n v : Nat} (hon : msixOn (getFn s n) = true)
    (hmask : (getFn s n).fnMask = true ∨ (getFn s n).vecMask.getLsbD v = true) :
    msixSend n v s = setFn n { getFn s n with pba := (getFn s n).pba ||| 1#64 <<< v } s := by
  simp [msixSend, hon, hmask]

/-- One vector's turn when what the PBA holds is sent. -/
def sendVec (fn : Nat) (t : State) (v : Nat) : State :=
  if msixOn (getFn t fn) && !(getFn t fn).fnMask && (getFn t fn).pba.getLsbD v && !(getFn t fn).vecMask.getLsbD v then
    emit (.msix fn v) (setFn fn { getFn t fn with pba := (getFn t fn).pba &&& ~~~ (1#64 <<< v) } t)
  else t

theorem sendHeld_eq (fn : Nat) (s : State) : sendHeld fn s = (List.range 64).foldl (sendVec fn) s := rfl

theorem sendVec_of_clear {fn v : Nat} {t : State} (h : (getFn t fn).pba.getLsbD v = false) : sendVec fn t v = t := by
  simp [sendVec, h]

/-- Vectors that the PBA does not hold send nothing. -/
theorem sendVec_foldl_of_clear {fn : Nat} {t : State} {l : List Nat}
    (h : ∀ v ∈ l, (getFn t fn).pba.getLsbD v = false) : l.foldl (sendVec fn) t = t := by
  induction l with
  | nil => rfl
  | cons v l ih =>
    rw [List.foldl_cons, sendVec_of_clear (h v List.mem_cons_self)]
    exact ih fun u hu => h u (List.mem_cons_of_mem v hu)

theorem sendHeld_of_pba_zero {fn : Nat} {s : State} (h : (getFn s fn).pba = 0) : sendHeld fn s = s :=
  sendVec_foldl_of_clear fun v _ => by simp [h]

theorem getLsbD_one_shiftLeft_of_ne {u v : Nat} (h : u ≠ v) : (1#64 <<< v).getLsbD u = false := by
  rw [← BitVec.twoPow_eq, BitVec.getLsbD_twoPow]
  simp [h.symm]

/-- R408: the one message that the PBA holds is sent once its masks are clear, and the PBA holds it no longer. -/
theorem sendHeld_of_pba_one {fn v : Nat} {s : State} (hv : v < 64) (hon : msixOn (getFn s fn) = true)
    (hfn : (getFn s fn).fnMask = false) (hvec : (getFn s fn).vecMask.getLsbD v = false)
    (hpba : (getFn s fn).pba = 1#64 <<< v) :
    sendHeld fn s = emit (.msix fn v) (setFn fn { getFn s fn with pba := 0 } s) := by
  obtain ⟨before, later, hsplit, hnot⟩ := List.eq_append_cons_of_mem (List.mem_range.mpr hv)
  have hbefore : before.foldl (sendVec fn) s = s := sendVec_foldl_of_clear fun u hu => by
    rw [hpba]; exact getLsbD_one_shiftLeft_of_ne fun huv => hnot (huv ▸ hu)
  have hheld : (getFn s fn).pba.getLsbD v = true := by rw [hpba]; simp [hv]
  have hsent : sendVec fn s v = emit (.msix fn v) (setFn fn { getFn s fn with pba := 0 } s) := by
    rw [sendVec, hon, hfn, hheld, hvec, hpba, BitVec.and_not_self]
    rfl
  have hcleared : (getFn (emit (.msix fn v) (setFn fn { getFn s fn with pba := 0 } s)) fn).pba = 0 :=
    congrArg Fn.pba (getFn_setFn_self ..)
  rw [sendHeld_eq, hsplit, List.foldl_append, hbefore, List.foldl_cons, hsent]
  exact sendVec_foldl_of_clear fun u _ => by rw [hcleared]; exact BitVec.getLsbD_zero

/-- R408: clearing the vector's mask sends the message that the PBA holds for it. -/
theorem setVecMask_sends {n v : Nat} {s : State} (hv : v < 64) (hon : msixOn (getFn s n) = true)
    (hfn : (getFn s n).fnMask = false) (hpba : (getFn s n).pba = 1#64 <<< v) :
    (setVecMask n v false s).out = .msix n v :: s.out ∧ (getFn (setVecMask n v false s) n).pba = 0 := by
  have hsent := sendHeld_of_pba_one (fn := n)
    (s := setFn n { getFn s n with vecMask := (getFn s n).vecMask &&& ~~~ (1#64 <<< v) } s) hv
    (by rw [getFn_setFn_self]; exact hon) (by rw [getFn_setFn_self]; exact hfn)
    (by rw [getFn_setFn_self]; simp [hv]) (by rw [getFn_setFn_self]; exact hpba)
  have hmask : setVecMask n v false s = _ := hsent
  rw [hmask]
  exact ⟨rfl, congrArg Fn.pba (getFn_setFn_self ..)⟩

/-- Settles O36: each row by the case of its function that its hypotheses name; the resets of VFs leave every other
function alone (`getFn_resetFn_ne`), and a held message leaves the PBA when it is sent (`setVecMask_sends`). -/
theorem functionControls : Obligations.FunctionControls := by
  unfold Obligations.FunctionControls
  refine ⟨?flr, ?hotReset, ?command, fun s fn p => rfl, ?controls, ?d3hot, ?d0, ?allVfs, ?someVfs, ?vfsOff,
    fun s k n hk hn hkn => getFn_resetVfs s hk hn hkn, ?unprovisioned, ?masks, ?link, ?messages⟩
  case flr =>
    intro s fn hon hthere hfn
    rw [exec_flr, flrRow_of_there hon hthere, flr_of_ne s hfn]
  case hotReset =>
    intro s hon hup
    rw [exec_hotReset, hotReset_of_up hon hup]
  case command =>
    rintro s fn w _ hon hthere rfl
    rw [exec_busMasterDisable, controlWrite_of_there _ hon hthere, controlTaken]
    refine ⟨fun hw => ?_, fun hw hoff => ?_, fun hw hbus => ?_⟩
    · rw [hw, busMaster_on]
    · rw [hw, busMaster_off_of_off hoff]
    · rw [hw, busMaster_off_of_on hbus]
  case controls =>
    rintro s fn w _ hon hthere rfl
    simp only [exec_busMasterDisable, controlWrite_of_there _ hon hthere]
    exact ⟨rfl, rfl, rfl⟩
  case d3hot =>
    intro s fn hon hthere
    rw [exec_d3hotEntry, d3hot_of_there hon hthere]
  case d0 =>
    intro s fn hon hthere hd3
    rw [exec_d0Return, d0Return_of_d3 hon hthere hd3]
  case allVfs =>
    rintro s _ hon hlc rfl
    rw [exec_vfEnableWrite, vfEnableWrite_of_on hon hlc (Nat.le_refl 31), resetVfs_of_le s (Nat.le_refl 32)]
  case someVfs =>
    intro s num hon hlc hnum
    rw [exec_vfEnableWrite, vfEnableWrite_of_on hon hlc hnum]
  case vfsOff =>
    rintro s num _ hon rfl
    rw [exec_vfEnableWrite, vfEnableWrite_of_off num hon (.inl rfl)]
  case unprovisioned =>
    intro s num hon hlc hnum
    rw [exec_vfEnableWrite, vfEnableWrite_of_off num hon (.inr hlc), if_pos hnum]
  case masks =>
    intro s fn w hon hthere
    refine ⟨by rw [exec_msixUnmask, maskWrite_control w hon hthere], fun v hv => ?_⟩
    rw [exec_msixUnmask, maskWrite_vector w hon hthere hv]
  case link =>
    rintro s dt w g _ rfl hon hfree hw hlo hhi _ rfl
    rw [exec_pcieLinkUp, linkTrained_of_ok dt hon hfree hw hlo hhi]
  case messages =>
    intro s n v hv hen hbus hd3
    have hon := msixOn_of hen hbus hd3
    refine ⟨msixSend_of_unmasked hon, msixSend_of_masked hon, fun hfn hpba => ?_⟩
    obtain ⟨hout, hcleared⟩ := setVecMask_sends hv hon hfn hpba
    exact ⟨by rw [sendHeld_of_pba_zero hcleared], hout, hcleared⟩

end Sys2Proof.Machine
end

section
/-! The crypto commands: what each answers once its engine has found. -/

namespace Sys2Proof.Machine

/-! ### The crypto rows -/

theorem exec_macGenerate (id : Nat) (s : State) : exec (.macGenerate id) s = serve (onCmd 0x30 id cryptoEnd) s := rfl
theorem exec_macVerify (id : Nat) (s : State) : exec (.macVerify id) s = serve (onCmd 0x31 id cryptoEnd) s := rfl
theorem exec_cipher (id : Nat) (s : State) : exec (.cipher id) s = serve (onCmd 0x32 id cryptoEnd) s := rfl
theorem exec_sign (id : Nat) (s : State) : exec (.sign id) s = serve (onCmd 0x33 id cryptoEnd) s := rfl
theorem exec_sigVerify (id : Nat) (s : State) : exec (.sigVerify id) s = serve (onCmd 0x34 id cryptoEnd) s := rfl
theorem exec_digest (id : Nat) (s : State) : exec (.digest id) s = serve (onCmd 0x35 id cryptoEnd) s := rfl

/-! ### What an engine's finding ends in -/

section
variable {c : Cmd} {ok : Bool} {bytes : List Byte}

/-- R171: a denied key ends every crypto opcode alike. -/
theorem cryptoEnd_of_denied (s : State) (hw : c.work = .done true ok bytes) :
    cryptoEnd c s = finish c sNotPermitted [] [] s := by
  simp only [cryptoEnd, hw, if_true]

/-- R171: MAC_VERIFY and SIG_VERIFY answer the verdict. -/
theorem cryptoEnd_of_checked (s : State) (hw : c.work = .done false ok bytes) (hop : cOp c = 0x31 ∨ cOp c = 0x34) :
    cryptoEnd c s = finish c (if ok then sOk else sMacMismatch) [] [] s := by
  rcases hop with hop | hop <;> simp only [cryptoEnd, hw, hop, Bool.false_eq_true, if_false]

/-- R171: the other crypto opcodes, those outside the two verifying arms, write OUT and answer its length. -/
theorem cryptoEnd_of_made (s : State) (hw : c.work = .done false ok bytes) (hmac : cOp c ≠ 0x31) (hsig : cOp c ≠ 0x34) :
    cryptoEnd c s = finish c sOk [bytes.length] [(descAddr c.words 1, bytes)] s := by
  simp only [cryptoEnd, hw, outTo, Bool.false_eq_true, if_false]

end

/-! ### A crypto row on its admitted command -/

section
variable {s : State} {op id : Nat} {c : Cmd} {ok : Bool} {bytes : List Byte}

theorem Admitted.cOp_eq (h : Admitted s op id c) : cOp c = op := by
  obtain ⟨_, _, _, hop, _⟩ := h
  exact hop

theorem cryptoRow_of_denied (hc : Admitted s op id c) (hw : c.work = .done true ok bytes) :
    serve (onCmd op id cryptoEnd) s = .next (settle (finish c sNotPermitted [] [] s)) := by
  rw [serve_onCmd hc, cryptoEnd_of_denied s hw]

theorem cryptoRow_of_checked (hc : Admitted s op id c) (hw : c.work = .done false ok bytes) (hop : op = 0x31 ∨ op = 0x34) :
    serve (onCmd op id cryptoEnd) s = .next (settle (finish c (if ok then sOk else sMacMismatch) [] [] s)) := by
  rw [serve_onCmd hc, cryptoEnd_of_checked s hw (by rwa [hc.cOp_eq])]

theorem cryptoRow_of_made (hc : Admitted s op id c) (hw : c.work = .done false ok bytes) (hmac : op ≠ 0x31)
    (hsig : op ≠ 0x34) : serve (onCmd op id cryptoEnd) s =
      .next (settle (finish c sOk [bytes.length] [(descAddr c.words 1, bytes)] s)) := by
  rw [serve_onCmd hc, cryptoEnd_of_made s hw (by rwa [hc.cOp_eq]) (by rwa [hc.cOp_eq])]

end

/-- Settles O16: an engine's finding ends a command in one of three ways, and each opcode takes its own. -/
theorem cryptoCommands : Obligations.CryptoCommands := by
  unfold Obligations.CryptoCommands
  refine ⟨fun s id c ok bytes hw => ⟨?macGenerate, ?macVerify, ?cipher, ?sign, ?sigVerify, ?digest⟩,
    fun s id c ok bytes hw => ⟨?macGenerateDenied, ?macVerifyDenied, ?cipherDenied, ?signDenied, ?sigVerifyDenied⟩⟩
  case macGenerate => exact fun hc => (exec_macGenerate id s).trans (cryptoRow_of_made hc hw (by decide) (by decide))
  case macVerify => exact fun hc => (exec_macVerify id s).trans (cryptoRow_of_checked hc hw (.inl rfl))
  case cipher => exact fun hc => (exec_cipher id s).trans (cryptoRow_of_made hc hw (by decide) (by decide))
  case sign => exact fun hc => (exec_sign id s).trans (cryptoRow_of_made hc hw (by decide) (by decide))
  case sigVerify => exact fun hc => (exec_sigVerify id s).trans (cryptoRow_of_checked hc hw (.inr rfl))
  case digest => exact fun hc => (exec_digest id s).trans (cryptoRow_of_made hc hw (by decide) (by decide))
  case macGenerateDenied => exact fun hc => (exec_macGenerate id s).trans (cryptoRow_of_denied hc hw)
  case macVerifyDenied => exact fun hc => (exec_macVerify id s).trans (cryptoRow_of_denied hc hw)
  case cipherDenied => exact fun hc => (exec_cipher id s).trans (cryptoRow_of_denied hc hw)
  case signDenied => exact fun hc => (exec_sign id s).trans (cryptoRow_of_denied hc hw)
  case sigVerifyDenied => exact fun hc => (exec_sigVerify id s).trans (cryptoRow_of_denied hc hw)

end Sys2Proof.Machine
end

section
/-! The commands of applet banks and mode words. -/

namespace Sys2Proof.Machine

/-! ### The rows of applet banks and mode words -/

theorem exec_appletLoad (id : Nat) (s : State) : exec (.appletLoad id) s = serve (onCmd 0x50 id appletLoad) s := rfl
theorem exec_appletBankWrite (id : Nat) (s : State) :
    exec (.appletBankWrite id) s = serve (onCmd 0x50 id appletBankWrite) s := rfl
theorem exec_appletInfo (id : Nat) (s : State) : exec (.appletInfo id) s = serve (onCmd 0x52 id appletInfo) s := rfl
theorem exec_modeArm (id : Nat) (s : State) : exec (.modeArm id) s = serve (onCmd 0x58 id modeArm) s := rfl
theorem exec_modeFlip (id : Nat) (s : State) : exec (.modeFlip id) s = serve (onCmd 0x59 id modeFlip) s := rfl
theorem exec_modeFlipDeadline (dt id : Nat) (s : State) :
    exec (.modeFlipDeadline dt id) s = lapseServe dt (onCmd 0x59 id modeFlipDeadline) s := rfl

/-! ### Loading an image (R268) -/

section
variable {c : Cmd} {bytes : List Byte} {s : State}

theorem loadHead_of_bad (h : imageOk (bytesWords bytes) (descLen c.words 0) = false) :
    loadHead c bytes = some sBadParam := by
  simp only [loadHead, h, Bool.not_false, if_true]

theorem loadHead_of_foreign (h : imageOk (bytesWords bytes) (descLen c.words 0) = true)
    (hfn : wd (bytesWords bytes) 2 ≠ c.fn) : loadHead c bytes = some sNotPermitted := by
  simp only [loadHead, h, Bool.not_true, Bool.false_eq_true, if_false, if_pos hfn]

theorem appletLoad_of_refused {st : Nat} (hin : inData c 0 = some bytes) (hstep : c.step = 0)
    (h : loadHead c bytes = some st) : appletLoad c s = finish c st [] [] s := by
  simp only [appletLoad, hin, hstep, h, ne_eq, not_true_eq_false, if_false]

theorem appletLoad_of_verdict {d ok : Bool} {x : List Byte} (hin : inData c 0 = some bytes) (hstep : c.step = 0)
    (h : loadHead c bytes = none) (hw : c.work = .done d ok x) : appletLoad c s =
      if (d || !ok) = true then finish c sNotPermitted [] [] s else loadChecked c bytes s := by
  simp only [appletLoad, hin, hstep, h, hw, ne_eq, not_true_eq_false, if_false]

/-- A loaded bank of the realm holds the generation. -/
theorem any_loadedGen {s : State} {r g : Nat} :
    ([0, 1].any fun x => loadedGen s r x == some g) = true ↔ loadedGen s r 0 = some g ∨ loadedGen s r 1 = some g := by
  simp

/-- R268: the rows after the signature's, in their order. -/
theorem loadChecked_eq (c : Cmd) (bytes : List Byte) (s : State) : loadChecked c bytes s =
    if (realmRow s c.fn).active = some (wd c.words 8 % 2) then finish c sBadParam [] [] s
    else if (bankStore s c.fn (wd c.words 8 % 2)).map BankStore.hash = some (sha256 bytes) then
      finish c sOkAlready [wd (bytesWords bytes) 3] [] s
    else if loadedGen s c.fn 0 = some (wd (bytesWords bytes) 3) ∨ loadedGen s c.fn 1 = some (wd (bytesWords bytes) 3) then
      finish c sBadParam [] [] s
    else if (allot (shareOf s c.fn 5 + shareOf s c.fn 6)).1 <
        progNeed (bytesWords bytes) + (blocksHeld s c.fn (some (wd c.words 8 % 2))).1 ∨
      (allot (shareOf s c.fn 5 + shareOf s c.fn 6)).2 <
        (segNeeds (bytesWords bytes)).sum + (blocksHeld s c.fn (some (wd c.words 8 % 2))).2 then finish c sBadParam [] [] s
    else setCmd { c with step := 1 }
      { s with cells := { s.cells with closed := s.cells.closed ++ [c.fn * 2 + wd c.words 8 % 2] } } := by
  simp only [← any_loadedGen]
  rfl

/-! ### Writing a bank (R269) and showing it (R172) -/

theorem appletBankWrite_of_idle {b k : Nat} (hin : inData c 0 = some bytes) (hb : b = wd c.words 8 % 2)
    (hk : k = c.fn * 2 + b) (hstep : c.step = 1) (hidle : bankIdle s c.fn b = true) : appletBankWrite c s =
      setCmd { c with step := 2 } { s with cells := { freeBank k s.cells with
        store := mset none s.cells.store k (some { words := bytesWords bytes, hash := sha256 bytes })
        warp := mset none s.cells.warp k (some (storeBank k
          ((mget none s.cells.warp k).elim 1 (fun a => a.count + 1)) bytes)) } } := by
  simp only [appletBankWrite, hin, ← hb, ← hk]
  rw [if_pos ⟨hstep, hidle⟩]

theorem appletBankWrite_of_stored {b k : Nat} {t : State} (hin : inData c 0 = some bytes) (hb : b = wd c.words 8 % 2)
    (hk : k = c.fn * 2 + b) (hstep : c.step = 2) (ht : t = loadBank k (bytesWords bytes) s) : appletBankWrite c s =
      finish (withJsn c (nextJsn t)) sOk [wd (bytesWords bytes) 3] [] (append (realmEntry 5 c.fn
        ([b, wd (bytesWords bytes) 3] ++ ((bytesWords ((sha256 bytes).take 8)).map BitVec.toNat)) (cOrigin c) sOk) t) := by
  simp only [appletBankWrite, hin, ← hb, ← hk, ← ht]
  rw [if_neg (by omega), if_pos hstep, finishJ]

/-- No bank is active: the hash of the active image reads as 0. -/
theorem appletInfo_of_inactive (h : (realmRow s c.fn).active = none) : appletInfo c s =
    finish c sOk [0, bankInfo s c.fn 0, bankInfo s c.fn 1, 0, 0, 0, 0] [] s := by
  have hhash : (bytesWords (padTo 8 0 [])).map BitVec.toNat = [0, 0, 0, 0] := by decide
  simp only [appletInfo, h, hhash]
  rfl

/-! ### Mode words (R275, R276) -/

theorem Admitted.cmdOf_eq {op id : Nat} (h : Admitted s op id c) : cmdOf s id = some c := by
  obtain ⟨_, _, hcmd, _, _⟩ := h
  exact hcmd

theorem modeArm_of_other (h : wd c.words 8 ≠ (realmRow s c.fn).modeGen + 1) : modeArm c s =
    finish c sBadParam [(realmRow s c.fn).modeGen] [] s := by
  simp only [modeArm]
  rw [if_pos (.inr h)]

theorem modeArm_of_next (h : wd c.words 8 = (realmRow s c.fn).modeGen + 1) (hlt : (realmRow s c.fn).modeGen < 0xFFFF)
    (hfresh : (realmRow s c.fn).armed ≠ some ((realmRow s c.fn).modeGen + 1, wd c.words 9)) : modeArm c s =
      finish (withJsn c (nextJsn s)) sOk [(realmRow s c.fn).modeGen] []
        (append (realmEntry 7 c.fn [0, (realmRow s c.fn).modeGen + 1, wd c.words 9] (cOrigin c) sOk) s) := by
  simp only [modeArm, h]
  rw [if_neg (by omega), if_neg hfresh, finishJ]

theorem modeFlip_of_present (hstep : c.step = 0) (hfree : flipUnderWay s c.fn = false)
    (h : wd c.words 8 = (realmRow s c.fn).modeGen) : modeFlip c s =
      finish c sOkAlready [(realmRow s c.fn).modeGen, 0] [] s := by
  simp only [modeFlip]
  rw [if_neg (by simp [hstep, hfree]), if_pos h]

theorem modeFlip_of_armed {m : Nat} (hstep : c.step = 0) (hfree : flipUnderWay s c.fn = false)
    (h : wd c.words 8 ≠ (realmRow s c.fn).modeGen) (harmed : (realmRow s c.fn).armed = some (wd c.words 8, m)) :
    modeFlip c s = setCmd { withJsn c (nextJsn s) with step := 1, held := [] }
      (append (realmEntry 7 c.fn [1, wd c.words 8, m] (cOrigin c) sOk) s) := by
  simp only [modeFlip, harmed]
  rw [if_neg (by simp [hstep, hfree]), if_neg h, if_neg (not_not_intro rfl)]

/-- R276: 1 ms after a flip, which itself has nothing more to do, the late shuttles are removed and it is answered. -/
theorem modeFlipDeadline_of_due {t0 n : Nat} (hc : cmdOf s c.id = some c) (hstill : flipStep c s = s) (hstep : c.step = 1)
    (hheld : c.held = [t0, n]) (hdue : t0 + 1000 ≤ s.now) : modeFlipDeadline c s =
      finish c sOk [wd c.words 8, n + (flipLate s c.fn).length] []
        ((flipLate s c.fn).foldl (fun u sh => removeCell 3 sh 1 u) s) := by
  simp only [modeFlipDeadline, hstill, hc]
  rw [if_neg (by simp [hstep, hheld, hdue]), hheld]
  rfl

end

/-- Settles O18: each row by the case of its function that its hypotheses name. -/
theorem appletCommands : Obligations.AppletCommands := by
  unfold Obligations.AppletCommands
  refine ⟨?load, ?checked, ?write, ?info, ?arm, ?flip, ?deadline⟩
  case load =>
    intro s id c bytes hc hin hstep
    rw [exec_appletLoad, serve_onCmd hc]
    refine ⟨fun hbad => ?_, fun hok hfn => ?_, fun d ok x hhead hw => ?_⟩
    · rw [appletLoad_of_refused hin hstep (loadHead_of_bad hbad)]
    · rw [appletLoad_of_refused hin hstep (loadHead_of_foreign hok hfn)]
    · rw [appletLoad_of_verdict hin hstep hhead hw]
      exact ⟨fun h => by rw [if_pos (by simpa using h)], fun hd hok => by rw [if_neg (by simp [hd, hok])]⟩
  case checked =>
    rintro s c bytes _ _ rfl rfl
    rw [loadChecked_eq]
    refine ⟨fun hact => ?_, fun hact hhash => ?_, fun hact hhash hgen => ?_, ?_⟩
    · rw [if_pos hact]
    · rw [if_neg hact, if_pos hhash]
    · rw [if_neg hact, if_neg hhash, if_pos hgen]
    · rintro hact hhash hgen0 hgen1 _ _ rfl rfl
      rw [if_neg hact, if_neg hhash, if_neg (not_or.mpr ⟨hgen0, hgen1⟩)]
      exact ⟨fun hbig => by rw [if_pos hbig], fun hprog hseg => by rw [if_neg (by omega)]⟩
  case write =>
    rintro s id c b bytes _ k _ hc hin hb rfl hk rfl
    rw [exec_appletBankWrite, serve_onCmd hc]
    refine ⟨fun hstep hidle => ?_, fun hstep t ht => ?_⟩
    · rw [appletBankWrite_of_idle hin hb hk hstep hidle]
    · rw [appletBankWrite_of_stored hin hb hk hstep ht]
  case info =>
    intro s id c hc hact
    rw [exec_appletInfo, serve_onCmd hc, appletInfo_of_inactive hact]
  case arm =>
    rintro s id c _ hc rfl
    rw [exec_modeArm, serve_onCmd hc]
    refine ⟨fun h => ?_, fun h hlt hfresh => ?_⟩
    · rw [modeArm_of_other h]
    · rw [modeArm_of_next h hlt hfresh]
  case flip =>
    rintro s id c _ m hc hstep hfree rfl
    rw [exec_modeFlip, serve_onCmd hc]
    refine ⟨fun h => ?_, fun h harmed => ?_⟩
    · rw [modeFlip_of_present hstep hfree h, h]
    · rw [modeFlip_of_armed hstep hfree h harmed]
  case deadline =>
    rintro s dt _ c t0 n hc hstill rfl hstep hheld hdue
    rw [exec_modeFlipDeadline, lapseServe, serve_onCmd hc, modeFlipDeadline_of_due hc.cmdOf_eq hstill hstep hheld hdue]

end Sys2Proof.Machine
end

section
/-! Firmware: staging a part, activation, and the restart of the stewards. -/

namespace Sys2Proof.Machine

/-! ### The rows of firmware -/

theorem exec_firmwareStage (id : Nat) (s : State) :
    exec (.firmwareStage id) s = serve (onCmd 0x81 id firmwareStage) s := rfl
theorem exec_firmwareActivate (id : Nat) (s : State) :
    exec (.firmwareActivate id) s = serve (onCmd 0x82 id firmwareActivate) s := rfl
theorem exec_firmwareRestart (s : State) : exec .firmwareRestart s = serve firmwareRestart s := rfl

/-! ### Staging and activation (R464, R465) -/

section
variable {c : Cmd} {d : List Byte} {s : State}

/-- R465: the first part of an image staged, after a slot header of ACT_SEQ 0. -/
def firstStaged (p : Nat) (d : List Byte) (s : State) : State := { s with fws := { s.fws with
  slots := mput s.fws.slots (stageSlot s) (stagePart (stageSlot s) p d
    (fwStamp (stageSlot s) 0 { writes := (fwSlot s (stageSlot s)).writes })), staged := [p] } }

theorem stagedMap_firstStaged (p : Nat) (d : List Byte) (s : State) : stagedMap (firstStaged p d s) = 2 ^ p := by
  simp [stagedMap, firstStaged]

/-- No other FIRMWARE_STAGE waits for its signature check. -/
theorem no_other_stage (h : ∀ x ∈ s.cmds.admitted, x.id ≠ c.id → cOp x = 0x81 → x.step ≠ 1) :
    s.cmds.admitted.any (fun x => x.id != c.id && cOp x == 0x81 && x.step == 1) = false := by
  simpa [and_imp] using h

/-- R465: before part 0 is held no header says what length a part must have, so a first part other than it is taken. -/
theorem firmwareStage_of_first {p : Nat} (hin : inData c 0 = some d) (hstep : c.step = 0)
    (hother : ∀ x ∈ s.cmds.admitted, x.id ≠ c.id → cOp x = 0x81 → x.step ≠ 1) (hnone : s.fws.staged = [])
    (hp : p = wd c.words 8 % 16) (hp0 : p ≠ 0) (hlast : bit (wd c.words 8) 15 = false) :
    firmwareStage c s = finish c sOk [2 ^ p, 0] [] (firstStaged p d s) := by
  have hzero : decide (0 ∈ [p]) = false := by simp [hp0.symm]
  have hmap := stagedMap_firstStaged p d s
  unfold firstStaged at hmap
  simp only [firmwareStage, hin, ← hp, hnone, hlast, List.contains_nil, List.nil_append, hzero, Bool.false_and,
    Bool.or_self, Bool.not_false, Bool.false_eq_true, if_true, if_false, no_other_stage hother, hmap]
  rw [if_neg (by omega)]
  rfl

theorem firmwareStage_of_verdict {dn ok : Bool} {x : List Byte} (hin : inData c 0 = some d) (hstep : c.step = 1)
    (hw : c.work = .done dn ok x) : firmwareStage c s = stageEnd c (stageSlot s) ok s := by
  simp only [firmwareStage, hin, hw]
  rw [if_pos hstep]

theorem activateBad_of_service (h : s.glb.service ≠ svQuiesced) : activateBad c s = true := by
  simp [activateBad, h]

theorem firmwareActivate_of_bad (hstep : c.step = 0) (h : activateBad c s = true) :
    firmwareActivate c s = finish c sNotPermitted [] [] s := by
  rw [firmwareActivate, if_neg (not_not_intro hstep), if_pos h]

theorem firmwareActivate_of_good (hstep : c.step = 0) (h : activateBad c s = false) :
    firmwareActivate c s = setCmd { c with step := 1 } (requeueAll c.id { s with
      fws := { s.fws with
        slots := mput s.fws.slots (stageSlot s)
          (fwStamp (stageSlot s) (((fwRunning s).map FwSlot.actSeq).getD 0 + 1) (fwSlot s (stageSlot s)))
        restartDue := some (stageSlot s) }
      adm := { s.adm with opened := false } }) := by
  rw [firmwareActivate, if_neg (not_not_intro hstep), if_neg (by simp [h])]

end

/-! ### The restart (R464) -/

@[simp] theorem finish_fws (c : Cmd) (st : Nat) (rs : List Nat) (outs : List (Nat × List Byte)) (s : State) :
    (finish c st rs outs s).fws = s.fws := by
  obtain ⟨_, _, h⟩ := finish_frame c st rs outs s; rw [h]
@[simp] theorem finish_adm (c : Cmd) (st : Nat) (rs : List Nat) (outs : List (Nat × List Byte)) (s : State) :
    (finish c st rs outs s).adm = s.adm := by
  obtain ⟨_, _, h⟩ := finish_frame c st rs outs s; rw [h]
@[simp] theorem finish_glb (c : Cmd) (st : Nat) (rs : List Nat) (outs : List (Nat × List Byte)) (s : State) :
    (finish c st rs outs s).glb = s.glb := by
  obtain ⟨_, _, h⟩ := finish_frame c st rs outs s; rw [h]

@[simp] theorem chanFreeUp_fws (ci : Bool) (u ch : Nat) (s : State) : (chanFreeUp ci u ch s).fws = s.fws := rfl
@[simp] theorem leaveJob_fws (sh : Nat) (s : State) : (leaveJob sh s).fws = s.fws := by simp [leaveJob]

@[simp] theorem loadSteward_fws (s : State) : (loadSteward s).fws = s.fws := by unfold loadSteward; split <;> rfl
@[simp] theorem loadSteward_adm (s : State) : (loadSteward s).adm = s.adm := by unfold loadSteward; split <;> rfl
@[simp] theorem loadSteward_glb (s : State) : (loadSteward s).glb = s.glb := by unfold loadSteward; split <;> rfl

/-- A steward shuttle without its job, its INCARNATION kept. -/
def stewardLeft (s : State) (sh : Nat) : State := setSh sh { inc := (getSh (leaveJob sh s) sh).inc } (leaveJob sh s)

/-- The four steward shuttles without their jobs. -/
def stewardsLeft (s : State) : State := [0, 48, 96, 144].foldl stewardLeft s

theorem stewardsLeft_fws (s : State) : (stewardsLeft s).fws = s.fws :=
  foldl_inv (P := fun t => t.fws = s.fws) rfl fun t sh ht => (leaveJob_fws sh t).trans ht

/-- The stewards started from slot n, fetching goes on. -/
def stewardsStarted (n : Nat) (s : State) : State := loadSteward { stewardsLeft s with
  fws := { (stewardsLeft s).fws with running := some n, staged := [], restartDue := none }
  glb := { (stewardsLeft s).glb with fwVer := (fwSlot (stewardsLeft s) n).version }
  adm := { (stewardsLeft s).adm with opened := true } }

theorem stewardsStarted_fws (n : Nat) (s : State) :
    (stewardsStarted n s).fws = { s.fws with running := some n, staged := [], restartDue := none } := by
  simp [stewardsStarted, stewardsLeft_fws]

theorem stewardsStarted_opened (n : Nat) (s : State) : (stewardsStarted n s).adm.opened = true := by
  simp [stewardsStarted]

theorem stewardsStarted_fwVer (n : Nat) (s : State) : (stewardsStarted n s).glb.fwVer = (fwSlot s n).version := by
  simp [stewardsStarted, fwSlot, stewardsLeft_fws]

/-- R464: the activation that waits for the restart is answered with the new version. -/
def restartAnswered (version : Nat) (s : State) : State :=
  match s.cmds.admitted.find? (fun c => cOp c == 0x82 && c.step == 1) with
  | some c => finish c sOk [version] [] s
  | none => s

/-- The reply to the activation changes nothing of what the restart set. -/
theorem restartAnswered_keeps (version : Nat) (s : State) : (restartAnswered version s).fws = s.fws ∧
    (restartAnswered version s).adm = s.adm ∧ (restartAnswered version s).glb = s.glb := by
  unfold restartAnswered
  split
  · exact ⟨finish_fws .., finish_adm .., finish_glb ..⟩
  · exact ⟨rfl, rfl, rfl⟩

theorem firmwareRestart_of_due {s : State} {n : Nat} (h : s.fws.restartDue = some n) : firmwareRestart s =
    restartAnswered (fwSlot (stewardsLeft s) n).version (stewardsStarted n s) := by
  simp only [firmwareRestart, h]
  rfl

/-- Settles O19: each row by the case of its function that its hypotheses name; the restart's fields are those of the
stewards' start, which the reply leaves. -/
theorem firmwareCommands : Obligations.FirmwareCommands := by
  unfold Obligations.FirmwareCommands
  refine ⟨?first, ?verdict, ?activate, ?restart⟩
  case first =>
    intro s id c d p hc hin hstep hother hnone hp hp0 hlast t ht
    obtain rfl : t = firstStaged p d s := ht
    rw [exec_firmwareStage, serve_onCmd hc, firmwareStage_of_first hin hstep hother hnone hp hp0 hlast]
  case verdict =>
    intro s id c d dn ok x hc hin hstep hw t ht
    rw [exec_firmwareStage, serve_onCmd hc, firmwareStage_of_verdict hin hstep hw, stageEnd, ht]
  case activate =>
    intro s id c hc hstep
    rw [exec_firmwareActivate, serve_onCmd hc]
    refine ⟨fun hsv => ?_, fun hbad => ?_, fun hgood => ?_⟩
    · rw [firmwareActivate_of_bad hstep (activateBad_of_service hsv)]
    · rw [firmwareActivate_of_bad hstep hbad]
    · rw [firmwareActivate_of_good hstep hgood]
  case restart =>
    intro s n hal hdue
    obtain ⟨hfws, hadm, hglb⟩ := restartAnswered_keeps (fwSlot (stewardsLeft s) n).version (stewardsStarted n s)
    rw [exec_firmwareRestart, serve_alive hal, firmwareRestart_of_due hdue, hfws, hadm, hglb, stewardsStarted_fws]
    exact ⟨rfl, rfl, stewardsStarted_opened n s, rfl, rfl, stewardsStarted_fwVer n s⟩

end Sys2Proof.Machine
end

section
/-! The lane commands. -/

namespace Sys2Proof.Machine

/-! ### The rows of the lane commands -/

theorem exec_laneOpen (id : Nat) (s : State) : exec (.laneOpen id) s = serve (onCmd 0x60 id laneOpenCmd) s := rfl
theorem exec_laneSend (id : Nat) (s : State) : exec (.laneSend id) s = serve (onCmd 0x61 id laneSend) s := rfl
theorem exec_laneStatus (id : Nat) (s : State) : exec (.laneStatus id) s = serve (onCmd 0x62 id laneStatusCmd) s := rfl
theorem exec_laneClose (id : Nat) (s : State) : exec (.laneClose id) s = serve (onCmd 0x63 id laneCloseCmd) s := rfl
theorem exec_laneCloseAbort (id : Nat) (s : State) :
    exec (.laneCloseAbort id) s = serve (onCmd 0x63 id laneAbortCmd) s := rfl

/-! ### What a lane command does by the state of its lane -/

section
variable {c : Cmd} {l : Nat} {s : State}

theorem cmdLane_of_laneOf (hl : laneOf c.words = some l) : cmdLane c = l := by
  rw [cmdLane, hl, Option.getD_some]

/-- R379: a lane as LANE_OPEN leaves it for its bring-up. -/
def openedLane (c : Cmd) (x : Lane) : Lane := { x with
  state := 1, permit := wd c.words 8 % 8, version := 0, linkVer := 0, nextSeq := 1, ackSeq := 0, sendSeq := 1, sentMax := 0
  places := [], dataAcked := [], timedAcked := [], retryAt := none, tries := 0, tSync := none, wakeAt := 0 }

theorem laneOpenCmd_of_closed (hl : laneOf c.words = some l) (hst : (getLane s l).state = 0) :
    laneOpenCmd c s = finish c sOk [0] [] (startLink l true true (setLane l (openedLane c (getLane s l)) s)) := by
  simp only [laneOpenCmd, cmdLane_of_laneOf hl]
  rw [if_neg (by omega), if_neg (not_not_intro hst)]
  rfl

theorem laneOpenCmd_of_closing (hl : laneOf c.words = some l) (hst : (getLane s l).state = 5) :
    laneOpenCmd c s = finish c sBadParam [6] [] s := by
  simp only [laneOpenCmd, cmdLane_of_laneOf hl, hst, if_true]

theorem laneOpenCmd_of_linked (hl : laneOf c.words = some l) (hst : (getLane s l).state = 3)
    (hup : (getLane s l).link = .up) :
    laneOpenCmd c s = finish c sOkAlready [1 + (getLane s l).version * 16] [] s := by
  simp only [laneOpenCmd, cmdLane_of_laneOf hl]
  rw [if_neg (by omega), if_pos (by omega), hup]
  rfl

theorem laneSend_of_untimed {d : List Byte} (hd : inData c 0 = some d) (hl : c.lane = some l)
    (huntimed : bit (wd c.words 8) 0 = false) : laneSend c s =
      finish { c with lane := none } sOk (leNats 2 (getLane s l).nextSeq) []
        (enterPlace l 0x11 ([0, 0] ++ leBytes 6 0 ++ d) 0 none s) := by
  simp only [laneSend, hd, hl, placeData, huntimed, Bool.false_eq_true, if_false]
  rfl

theorem laneCloseCmd_of_closed (hl : laneOf c.words = some l) (hkeep : bit (wd c.words 8) 0 = false) (hstep : c.step = 0)
    (hst : (getLane s l).state = 0) : laneCloseCmd c s = finish c sOkAlready [0] [] s := by
  simp only [laneCloseCmd, cmdLane_of_laneOf hl]
  rw [if_neg (by simp [hkeep, hstep]), if_pos hst]

theorem laneCloseCmd_of_open (hl : laneOf c.words = some l) (hkeep : bit (wd c.words 8) 0 = false) (hstep : c.step = 0)
    (hst : (getLane s l).state ∈ [1, 2, 3]) : laneCloseCmd c s = closeCheck l (setCmd { c with step := 1 }
      (setLane l { getLane s l with state := 5, closeAt := s.now } s)) := by
  have hopen : (getLane s l).state = 1 ∨ (getLane s l).state = 2 ∨ (getLane s l).state = 3 := by simpa using hst
  simp only [laneCloseCmd, cmdLane_of_laneOf hl]
  rw [if_neg (by simp [hkeep, hstep]), if_neg (by omega), if_neg (by omega), if_neg (by omega)]

theorem laneAbortCmd_of_abort (hl : laneOf c.words = some l) (habort : bit (wd c.words 8) 0 = true) :
    laneAbortCmd c s = if (getLane s l).state = 0 then finish c sOkAlready [0] [] s
      else finish c sOk [(getLane s l).places.length] [] (closeLane l true
        (setLane l { getLane s l with state := 5 } s)) := by
  simp only [laneAbortCmd, cmdLane_of_laneOf hl, habort, Bool.not_true, Bool.false_eq_true, if_false]

end

/-- Settles O21: each command by the state of the lane that it names. -/
theorem laneCommands : Obligations.LaneCommands := by
  unfold Obligations.LaneCommands
  refine ⟨?opens, ?sends, ?status, ?closes⟩
  case opens =>
    intro s id c l hc hl
    rw [exec_laneOpen, serve_onCmd hc]
    refine ⟨fun x hst hx => ?_, fun hst => ?_, fun hst hup => ?_⟩
    · obtain rfl : x = openedLane c (getLane s l) := hx
      rw [laneOpenCmd_of_closed hl hst]
    · rw [laneOpenCmd_of_closing hl hst]
    · rw [laneOpenCmd_of_linked hl hst hup]
  case sends =>
    intro s id c d l hc hd hl huntimed
    rw [exec_laneSend, serve_onCmd hc, laneSend_of_untimed hd hl huntimed]
  case status =>
    intro s id c l hc hl
    rw [exec_laneStatus, serve_onCmd hc, laneStatusCmd, cmdLane_of_laneOf hl]
  case closes =>
    intro s id c l hc hl
    rw [exec_laneClose, exec_laneCloseAbort, serve_onCmd hc, serve_onCmd hc]
    refine ⟨fun hkeep hstep hst => ?_, fun hkeep hstep hst => ?_, fun habort hst => ?_, fun habort hst => ?_⟩
    · rw [laneCloseCmd_of_closed hl hkeep hstep hst]
    · rw [laneCloseCmd_of_open hl hkeep hstep hst]
    · rw [laneAbortCmd_of_abort hl habort, if_neg hst]
    · rw [laneAbortCmd_of_abort hl habort, if_pos hst]

end Sys2Proof.Machine
end

section
/-! Doorbells, and the ENABLE of queue pairs and host windows. -/

namespace Sys2Proof.Machine

/-! ### The rows of pairs and windows -/

theorem exec_sqTailDoorbell (fn p v : Nat) (s : State) :
    exec (.sqTailDoorbell fn p v) s = .next (settle (sqTailWrite fn p v s)) := rfl
theorem exec_cqHeadDoorbell (fn p v : Nat) (s : State) :
    exec (.cqHeadDoorbell fn p v) s = .next (settle (cqHeadWrite fn p v s)) := rfl
theorem exec_qpEnable (fn p w : Nat) (s : State) :
    exec (.qpEnable fn p w) s = .next (settle (qpEnableWrite fn p (w / 2 * 2 + 1) s)) := rfl
theorem exec_qpDisable (fn p w : Nat) (s : State) :
    exec (.qpDisable fn p w) s = .next (settle (qpDisableWrite fn p (w / 2 * 2) s)) := rfl
theorem exec_winEnable (fn w v : Nat) (s : State) :
    exec (.winEnable fn w v) s = .next (settle (winEnableWrite fn w (v / 2 * 2 + 1) s)) := rfl
theorem exec_winDisable (fn w v : Nat) (s : State) :
    exec (.winDisable fn w v) s = .next (settle (winDisableWrite fn w (v / 2 * 2) s)) := rfl

/-! ### The word written beside its ENABLE bit -/

theorem vector_of_enable (w : Nat) : bits (w / 2 * 2 + 1) 13 8 = w / 256 % 64 := by
  show (w / 2 * 2 + 1) / 256 % 64 = w / 256 % 64
  omega

theorem vector_of_disable (w : Nat) : bits (w / 2 * 2) 13 8 = w / 256 % 64 := by
  show w / 2 * 2 / 256 % 64 = w / 256 % 64
  omega

theorem bit_succ_of_enable (v i : Nat) : bit (v / 2 * 2 + 1) (i + 1) = bit v (i + 1) := by
  have hhalf : (v / 2 * 2 + 1) / 2 = v / 2 := by omega
  rw [bit, bit, Nat.testBit_succ, Nat.testBit_succ, hhalf]

theorem bit_succ_of_disable (v i : Nat) : bit (v / 2 * 2) (i + 1) = bit v (i + 1) := by
  have hhalf : v / 2 * 2 / 2 = v / 2 := by omega
  rw [bit, bit, Nat.testBit_succ, Nat.testBit_succ, hhalf]

/-- A register that the function has, in a BAR that takes writes, is not shut. -/
theorem not_shut {n top fn : Nat} {s : State} (hn : n ≤ top) (hbar : barWrites s fn = true) :
    ¬(top < n ∨ barWrites s fn = false) := by
  simp [hn, hbar]

/-! ### Doorbells (R147, R153) -/

section
variable {s : State} {fn p : Nat}

theorem sqTailWrite_of_shut (p v : Nat) (hbar : barWrites s fn = false) : sqTailWrite fn p v s = s := if_pos (.inr hbar)

theorem cqHeadWrite_of_shut (p v : Nat) (hbar : barWrites s fn = false) : cqHeadWrite fn p v s = s := if_pos (.inr hbar)

theorem sqTailWrite_of_dead (v : Nat) (hp : p ≤ 8) (hbar : barWrites s fn = true) (hdead : (getPair s fn p).live = false) :
    sqTailWrite fn p v s = pairIgn fn p s := by
  rw [sqTailWrite, if_neg (not_shut hp hbar), if_pos (by simp [hdead])]

theorem cqHeadWrite_of_dead (v : Nat) (hp : p ≤ 8) (hbar : barWrites s fn = true) (hdead : (getPair s fn p).live = false) :
    cqHeadWrite fn p v s = pairIgn fn p s := by
  simp only [cqHeadWrite]
  rw [if_neg (not_shut hp hbar), if_pos (by simp [hdead])]

theorem sqTailWrite_of_live {v : Nat} (hp : p ≤ 8) (hbar : barWrites s fn = true) (hlive : (getPair s fn p).live = true)
    (hen : (getPair s fn p).enable = true) (hv : v < 4096) : sqTailWrite fn p v s =
      if (getPair s fn p).sqSize < v then
        setPairOf fn p { getPair s fn p with fault := if (getPair s fn p).fault = 0 then 6 else (getPair s fn p).fault } s
      else setPairOf fn p { getPair s fn p with sqTail := v } s := by
  rw [sqTailWrite, if_neg (not_shut hp hbar), if_neg (by simp [hlive, hen]), Nat.mod_eq_of_lt hv]

/-- The entries from one head of a ring to another, around its end. -/
theorem ring_freed {v head size : Nat} (hv : v ≤ size) (hhead : head ≤ size) :
    (v + size + 1 - head) % (size + 1) = if head ≤ v then v - head else size + 1 - head + v := by
  split
  case isTrue hle =>
    rw [show v + size + 1 - head = v - head + (size + 1) by omega, Nat.add_mod_right, Nat.mod_eq_of_lt (by omega)]
  case isFalse hgt =>
    rw [show v + size + 1 - head = size + 1 - head + v by omega, Nat.mod_eq_of_lt (by omega)]

theorem cqHeadWrite_of_live {v : Nat} (hp : p ≤ 8) (hbar : barWrites s fn = true) (hlive : (getPair s fn p).live = true)
    (hv : v < 4096) (hsize : v ≤ (getPair s fn p).cqSize) (hne : v ≠ (getPair s fn p).cqHead)
    (hhead : (getPair s fn p).cqHead ≤ (getPair s fn p).cqSize) :
    cqHeadWrite fn p v s = setPairOf fn p { getPair s fn p with
      cqHead := v
      unconsumed := (getPair s fn p).unconsumed -
        (if (getPair s fn p).cqHead ≤ v then v - (getPair s fn p).cqHead
         else (getPair s fn p).cqSize + 1 - (getPair s fn p).cqHead + v) } s := by
  have hmoved : ¬((if (getPair s fn p).cqHead ≤ v then v - (getPair s fn p).cqHead
      else (getPair s fn p).cqSize + 1 - (getPair s fn p).cqHead + v) = 0 ∧
      (getPair s fn p).unconsumed = (getPair s fn p).cqSize + 1) := by
    split <;> omega
  simp only [cqHeadWrite, Nat.mod_eq_of_lt hv, ring_freed hsize hhead]
  rw [if_neg (not_shut hp hbar), if_neg (by simp [hlive]), if_neg (Nat.not_lt.mpr hsize), if_neg hmoved]

/-! ### The ENABLE of a pair (R154, R176) -/

/-- R154: the pair as an ENABLE 1 leaves it for its checks. -/
def enabled (w : Nat) (q : QPair) : QPair := { q with vector := w / 256 % 64, enable := true }

theorem qpEnableWrite_of_idle (w : Nat) (hp : p ≤ 8) (hbar : barWrites s fn = true)
    (hen : (getPair s fn p).enable = false) (hdead : (getPair s fn p).live = false) :
    qpEnableWrite fn p (w / 2 * 2 + 1) s =
      if pairFault s fn (enabled w (getPair s fn p)) = 0 then setPairOf fn p { enabled w (getPair s fn p) with
        fault := 0, live := true, sqHead := 0, sqTail := 0, cqHead := 0, cqTail := 0, phase := true, unconsumed := 0
        fetching := [], fetched := [], headAt := none, decided := none, flushLeft := 0 } s
      else setPairOf fn p { enabled w (getPair s fn p) with fault := pairFault s fn (enabled w (getPair s fn p)) } s := by
  simp only [qpEnableWrite, vector_of_enable]
  rw [if_neg (not_shut hp hbar), if_neg (by simp [hdead]), if_neg (by simp [hen])]
  split
  case h_1 hok =>
    have hfault : pairFault s fn (enabled w (getPair s fn p)) = 0 := hok
    rw [if_pos hfault]
    rfl
  case h_2 hfail =>
    have hfault : pairFault s fn (enabled w (getPair s fn p)) ≠ 0 := hfail
    rw [if_neg hfault]
    rfl

theorem qpDisableWrite_of_enabled {w : Nat} (hp : p ≤ 8) (hbar : barWrites s fn = true)
    (hen : (getPair s fn p).enable = true) (hvec : w / 256 % 64 = (getPair s fn p).vector) :
    qpDisableWrite fn p (w / 2 * 2) s = endPair fn p s := by
  simp only [qpDisableWrite, vector_of_disable]
  rw [if_neg (not_shut hp hbar), if_neg (by simp [hen]), if_pos hvec]

/-! ### The ENABLE of a window (R160, R161) -/

variable {w : Nat}

theorem winEnableWrite_of_disabled (v : Nat) (hw : w ≤ 15) (hbar : barWrites s fn = true)
    (hen : (getWin s fn w).enable = false) : winEnableWrite fn w (v / 2 * 2 + 1) s =
      setWin fn w { getWin s fn w with
        read := bit v 1, write := bit v 2, enable := true
        fault := winFault { getWin s fn w with read := bit v 1, write := bit v 2, enable := true }
        live := winFault { getWin s fn w with read := bit v 1, write := bit v 2, enable := true } == 0 } s := by
  simp only [winEnableWrite, bit_succ_of_enable v 0, bit_succ_of_enable v 1]
  rw [if_neg (not_shut hw hbar), if_neg (by simp [hen])]

theorem winDisableWrite_of_same {v : Nat} (hw : w ≤ 15) (hbar : barWrites s fn = true) (hen : (getWin s fn w).enable = true)
    (hread : bit v 1 = (getWin s fn w).read) (hwrite : bit v 2 = (getWin s fn w).write) :
    winDisableWrite fn w (v / 2 * 2) s = if winInUse s fn (getWin s fn w) = true then winIgn fn w false s
      else setWin fn w { getWin s fn w with enable := false, live := false, fault := 0 } s := by
  simp only [winDisableWrite, bit_succ_of_disable v 0, bit_succ_of_disable v 1]
  simp only [if_neg (not_shut hw hbar), hen, hread, hwrite, Bool.not_true, Bool.false_eq_true, if_false, and_self, if_true]

end

/-- Settles O29: a doorbell or a write of ENABLE acts by the state of the pair that it finds. -/
theorem doorbells : Obligations.Doorbells := by
  unfold Obligations.Doorbells
  refine ⟨?tail, ?tailHigh, ?dead, ?head, ?shut, ?enable, ?enableFails, ?disable⟩
  case tail =>
    intro s fn p v hp hbar hlive hen hv hlt
    rw [exec_sqTailDoorbell, sqTailWrite_of_live hp hbar hlive hen hlt, if_neg (Nat.not_lt.mpr hv)]
  case tailHigh =>
    intro s fn p v hp hbar hlive hen hv hlt hfault
    rw [exec_sqTailDoorbell, sqTailWrite_of_live hp hbar hlive hen hlt, if_pos hv, if_pos hfault]
  case dead =>
    intro s fn p v hp hbar hdead
    rw [exec_sqTailDoorbell, sqTailWrite_of_dead v hp hbar hdead, exec_cqHeadDoorbell, cqHeadWrite_of_dead v hp hbar hdead]
    exact ⟨rfl, rfl⟩
  case head =>
    intro s fn p v hp hbar hlive hsize hlt hne hhead
    rw [exec_cqHeadDoorbell, cqHeadWrite_of_live hp hbar hlive hlt hsize hne hhead]
  case shut =>
    intro s fn p v hbar
    rw [exec_sqTailDoorbell, sqTailWrite_of_shut p v hbar, exec_cqHeadDoorbell, cqHeadWrite_of_shut p v hbar]
    exact ⟨rfl, rfl⟩
  case enable =>
    intro s fn p w hp hbar hen hdead _ hok
    have hfault : pairFault s fn (enabled w (getPair s fn p)) = 0 := hok
    rw [exec_qpEnable, qpEnableWrite_of_idle w hp hbar hen hdead, if_pos hfault]
    rfl
  case enableFails =>
    intro s fn p w f hp hbar hen hdead _ hfail
    have hfault : pairFault s fn (enabled w (getPair s fn p)) = f + 1 := hfail
    rw [exec_qpEnable, qpEnableWrite_of_idle w hp hbar hen hdead, hfault, if_neg f.succ_ne_zero]
    rfl
  case disable =>
    intro s fn p w hp hbar hen hvec
    rw [exec_qpDisable, qpDisableWrite_of_enabled hp hbar hen hvec]
    rfl

/-- Settles O30: ENABLE 1 leaves what the checks find, and ENABLE 0 turns on whether the window is in use. -/
theorem windowEnable : Obligations.WindowEnable := by
  unfold Obligations.WindowEnable
  refine ⟨?enable, ?enableFails, ?free, ?inUse⟩
  case enable =>
    intro s fn w v hw hbar hen hok
    rw [exec_winEnable, winEnableWrite_of_disabled v hw hbar hen, hok]
    rfl
  case enableFails =>
    intro s fn w v f hw hbar hen hfail
    rw [exec_winEnable, winEnableWrite_of_disabled v hw hbar hen, hfail]
    rfl
  case free =>
    intro s fn w v hw hbar hen hread hwrite huse
    rw [exec_winDisable, winDisableWrite_of_same hw hbar hen hread hwrite, if_neg (by simp [huse])]
  case inUse =>
    intro s fn w v hw hbar hen hread hwrite huse
    rw [exec_winDisable, winDisableWrite_of_same hw hbar hen hread hwrite, if_pos huse]
    rfl

end Sys2Proof.Machine
end

section
/-! Host reads: packets and IN data that arrive, fail, or come late. -/

namespace Sys2Proof.Machine

/-! ### The rows of host reads -/

theorem exec_packetFetchDone (fn p : Nat) (w : Option (List Word)) (s : State) :
    exec (.packetFetchDone fn p w) s = serve (packetFetched fn p w) s := rfl
theorem exec_descriptorReadDone (id k : Nat) (d : Option (List Byte)) (s : State) :
    exec (.descriptorReadDone id k d) s = serve (descriptorRead id k d) s := rfl
theorem exec_dmaReadDeadline_fetch (dt fn p c : Nat) (s : State) :
    exec (.dmaReadDeadline dt fn p c true) s = lapseServe dt (fetchDeadline fn p) s := rfl
theorem exec_dmaReadDeadline_desc (dt fn p id : Nat) (s : State) :
    exec (.dmaReadDeadline dt fn p id false) s = lapseServe dt (descDeadline id) s := rfl

/-! ### A packet read (R148, R153, R406) -/

theorem padTo_of_length {α : Type} {n : Nat} {l : List α} (d : α) (h : l.length = n) : padTo n d l = l := by
  rw [padTo_of_le d (Nat.le_of_eq h), h, Nat.sub_self, List.replicate_zero, List.append_nil]

section
variable {s : State} {fn p i t : Nat} {r : List (Nat × Nat)}

theorem fetchFault_of_fresh (h : (getPair s fn p).fault = 0) :
    fetchFault fn p s = setPairOf fn p { getPair s fn p with fault := 5, fetching := [] } s := by
  simp only [fetchFault, h, if_true]

theorem packetFetched_of_none (w : Option (List Word)) (hq : (getPair s fn p).fetching = []) :
    packetFetched fn p w s = lateCompletion fn s := by
  simp only [packetFetched, hq]

theorem packetFetched_of_late (w : Option (List Word)) (hq : (getPair s fn p).fetching = (i, t) :: r)
    (hlate : t + 10 < s.now) : packetFetched fn p w s = fetchFault fn p (lateCompletion fn s) := by
  simp only [packetFetched, hq, if_pos hlate]

theorem packetFetched_of_failed (hq : (getPair s fn p).fetching = (i, t) :: r) (htime : s.now ≤ t + 10) :
    packetFetched fn p none s = fetchFault fn p s := by
  simp only [packetFetched, hq, if_neg (Nat.not_lt.mpr htime)]

theorem packetFetched_of_packet {w : List Word} (hq : (getPair s fn p).fetching = (i, t) :: r) (htime : s.now ≤ t + 10)
    (hw : w.length = 32) : packetFetched fn p (some w) s = setPairOf fn p { getPair s fn p with
      sqHead := ((getPair s fn p).sqHead + 1) % ((getPair s fn p).sqSize + 1)
      fetching := r, fetched := (getPair s fn p).fetched ++ [w] } s := by
  simp only [packetFetched, hq, if_neg (Nat.not_lt.mpr htime), padTo_of_length 0 hw]

theorem fetchDeadline_of_due (hq : (getPair s fn p).fetching = (i, t) :: r) (hdue : t + 10 ≤ s.now) :
    fetchDeadline fn p s = fetchFault fn p s := by
  simp only [fetchDeadline, hq, if_pos hdue]

end

/-! ### A command's IN data (R159, R406) -/

/-- R159: a command with the data of IN descriptor k, cut or filled to the descriptor's length. -/
def withInData (c : Cmd) (k : Nat) (d : List Byte) : Cmd :=
  { c with inData := mset none c.inData k (some (padTo (descLen c.words k) 0 d)) }

section
variable {s : State} {id k : Nat} {c : Cmd}

/-- R406: a read that its command did not wait for is late. -/
theorem descriptorRead_of_gone {fn : Nat} (d : Option (List Byte)) (hc : cmdOf s id = none)
    (hlate : s.cmds.lateReads = [(id, k, fn)]) : descriptorRead id k d s =
      lateCompletion fn { s with cmds := { s.cmds with lateReads := [] } } := by
  simp [descriptorRead, hc, hlate]

/-- The read of an IN descriptor that its command still awaits, within the deadline. -/
theorem descriptorRead_of_awaited (d : Option (List Byte)) (hc : cmdOf s id = some c) (hrun : s.jn.stopped = false)
    (hin : (descDirs c.words).getD k true = false) (hund : inData c k = none)
    (htime : s.now ≤ c.admitAt + readDeadline c.cls) : descriptorRead id k d s =
      d.elim (readFault c k s) (fun b => setCmd { withInData c k b with
        lookupAt := if slotOpcode (cOp c) = true ∧ inReady (withInData c k b) = true then some s.now
          else (withInData c k b).lookupAt } s) := by
  simp only [descriptorRead, hc, hrun, hin, hund, Option.isSome_none, Bool.or_self, Bool.false_eq_true, if_false,
    if_neg (Nat.not_lt.mpr htime), ← Bool.and_eq_true]
  cases d <;> rfl

theorem descDeadline_of_due (hc : cmdOf s id = some c) (hk : readPending c = some k) (hrun : s.jn.stopped = false)
    (hdue : c.admitAt + readDeadline c.cls ≤ s.now) : descDeadline id s = readFault c k s := by
  simp only [descDeadline, hc, hk, hrun, hdue, Bool.not_false, Bool.true_and, decide_true, if_true]

end

/-- Settles O31: each row by the case of its read that its hypotheses name; what comes late is an Unexpected Completion. -/
theorem readsComplete : Obligations.ReadsComplete := by
  unfold Obligations.ReadsComplete
  refine ⟨?packet, ?failed, ?unawaited, ?late, ?gone, ?fetchDue, ?descDue, ?data, ?dataFailed⟩
  case packet =>
    intro s fn p w i t r hal hq htime hw
    rw [exec_packetFetchDone, serve_alive hal, packetFetched_of_packet hq htime hw]
  case failed =>
    intro s fn p i t r hal hq htime hfault
    rw [exec_packetFetchDone, serve_alive hal, packetFetched_of_failed hq htime, fetchFault_of_fresh hfault]
  case unawaited =>
    intro s fn p w hal hq
    rw [exec_packetFetchDone, serve_alive hal, packetFetched_of_none w hq, lateCompletion]
  case late =>
    intro s fn p w i t r hal hq hlate
    rw [exec_packetFetchDone, serve_alive hal, packetFetched_of_late w hq hlate, lateCompletion]
  case gone =>
    intro s id k d fn hal hc hlate
    rw [exec_descriptorReadDone, serve_alive hal, descriptorRead_of_gone d hc hlate, lateCompletion]
  case fetchDue =>
    intro s dt fn p c i t r hal hq hdue hfault
    rw [exec_dmaReadDeadline_fetch, lapseServe_alive hal, fetchDeadline_of_due hq hdue, fetchFault_of_fresh hfault]
  case descDue =>
    intro s dt fn p id c k hal hc hk hrun hdue
    rw [exec_dmaReadDeadline_desc, lapseServe_alive hal, descDeadline_of_due hc hk hrun hdue, readFault]
  case data =>
    intro s id c k d hal hc hrun hin hund htime x hx
    obtain rfl : x = withInData c k d := hx
    rw [exec_descriptorReadDone, serve_alive hal, descriptorRead_of_awaited _ hc hrun hin hund htime, Option.elim_some]
  case dataFailed =>
    intro s id c k hal hc hrun hin hund htime
    rw [exec_descriptorReadDone, serve_alive hal, descriptorRead_of_awaited _ hc hrun hin hund htime, Option.elim_none,
      readFault]

end Sys2Proof.Machine
end

section
/-! A lane's places, its bring-up, and what lapse of time does on it. -/

namespace Sys2Proof.Machine

/-! ### The rows of a lane's places, bring-up and timers -/

theorem exec_lanePlaceEntry (id : Nat) (s : State) : exec (.lanePlaceEntry id) s = serve (lanePlaceEntry id) s := rfl
theorem exec_wakeRequest (l : Nat) (s : State) : exec (.wakeRequest l) s = serve (onRealLane l (wakeRequest l)) s := rfl
theorem exec_laneRxLock (l : Nat) (s : State) : exec (.laneRxLock l) s = serve (onRealLane l (rxLock l)) s := rfl
theorem exec_linkLoss (l : Nat) (s : State) : exec (.linkLoss l) s = serve (onRealLane l (linkLoss l)) s := rfl
theorem exec_bringupTimeout (dt l : Nat) (s : State) :
    exec (.bringupTimeout dt l) s = lapseServe dt (onRealLane l (bringupTimeout l)) s := rfl
theorem exec_bringupRetry (dt l : Nat) (s : State) :
    exec (.bringupRetry dt l) s = lapseServe dt (onRealLane l (bringupRetry l)) s := rfl
theorem exec_timeTick (dt l : Nat) (s : State) :
    exec (.timeTick dt l) s = lapseServe dt (onRealLane l (timeTick l)) s := rfl
theorem exec_noFrameTimeout (dt l : Nat) (s : State) :
    exec (.noFrameTimeout dt l) s = lapseServe dt (onRealLane l (noFrame l)) s := rfl
theorem exec_laneRetxTimeout (dt l : Nat) (s : State) :
    exec (.laneRetxTimeout dt l) s = lapseServe dt (onRealLane l (retxTimeout l)) s := rfl
theorem exec_sleepIdleWake (dt l : Nat) (s : State) :
    exec (.sleepIdleWake dt l) s = lapseServe dt (onRealLane l (sleepIdleWake l)) s := rfl
theorem exec_driftWake (dt l : Nat) (s : State) :
    exec (.driftWake dt l) s = lapseServe dt (onRealLane l (driftWake l)) s := rfl
theorem exec_timedWithdraw (dt l : Nat) (s : State) :
    exec (.timedWithdraw dt l) s = lapseServe dt (onRealLane l (timedWithdraw l)) s := rfl
theorem exec_failEntryExpiry (dt l : Nat) (s : State) :
    exec (.failEntryExpiry dt l) s = lapseServe dt (onRealLane l (failExpire l)) s := rfl
theorem exec_laneCloseTimeout (dt l : Nat) (s : State) :
    exec (.laneCloseTimeout dt l) s = lapseServe dt (onRealLane l (closeTimeout l)) s := rfl

section
variable {l : Nat} {s : State}

/-- An activity of a lane that exists, in a part whose units run. -/
theorem serve_onRealLane (hal : alive s = true) (hl : l < 64) (f : State → State) :
    serve (onRealLane l f) s = .next (settle (f s)) := by
  rw [serve_alive hal, onRealLane, if_pos hl]

theorem lapseServe_onRealLane {dt : Nat} (hal : alive (passTime dt s) = true) (hl : l < 64) (f : State → State) :
    lapseServe dt (onRealLane l f) s = .next (settle (f (passTime dt s))) := serve_onRealLane hal hl f

/-! ### Reading a lane back -/

@[simp] theorem getLane_setLane_self (l : Nat) (x : Lane) (s : State) : getLane (setLane l x s) l = x :=
  mget_mset_self ({} : Lane) s.lanes l x

@[simp] theorem getLane_onLane_self (l : Nat) (f : Lane → Lane) (s : State) :
    getLane (onLane l f s) l = f (getLane s l) := getLane_setLane_self l _ s

@[simp] theorem getLane_logEvent (g e : Nat) (a : List Nat) (s : State) (l : Nat) :
    getLane (logEvent g e a s) l = getLane s l := by
  rw [getLane, logEvent_lanes, ← getLane]

/-! ### Places (R186, R366) -/

theorem getLane_enterPlace (l type : Nat) (p : List Byte) (need : Nat) (time : Option Nat) (s : State) :
    getLane (enterPlace l type p need time s) l = { getLane s l with
      places := (getLane s l).places ++ [⟨(getLane s l).nextSeq, type, p, need, time, none⟩]
      nextSeq := seqNext (getLane s l).nextSeq
      reserved := (getLane s l).reserved - 1 } := getLane_onLane_self l _ s

/-- A place is entered only on a lane that is not CLOSED, in a part whose journal runs. -/
theorem not_placing_barred (hrun : s.jn.stopped = false) (hopen : (getLane s l).state ≠ 0) :
    ¬(s.jn.stopped || (getLane s l).state = 0) = true := by
  simp [hrun, hopen]

theorem lanePlaceEntry_of_data {id : Nat} {c : Cmd} {d : List Byte} (hc : cmdOf s id = some c) (hlane : c.lane = some l)
    (hrun : s.jn.stopped = false) (hopen : (getLane s l).state ≠ 0) (hop : cOp c = 0x61) (hd : inData c 0 = some d) :
    lanePlaceEntry id s = placeData c l d s := by
  simp only [lanePlaceEntry, hc, hlane, if_neg (not_placing_barred hrun hopen), if_pos hop, hd]

theorem lanePlaceEntry_of_image {id : Nat} {c : Cmd} {b : List Nat} {cred : List Byte} (hc : cmdOf s id = some c)
    (hlane : c.lane = some l) (hrun : s.jn.stopped = false) (hopen : (getLane s l).state ≠ 0) (hop : cOp c = 0x20)
    (hstep : c.step = 1) (hplan : issuePlan s c = .emit b cred) : lanePlaceEntry id s = placeImage c l b cred s := by
  have hsend : ¬cOp c = 0x61 := by omega
  simp only [lanePlaceEntry, hc, hlane, if_neg (not_placing_barred hrun hopen), if_neg hsend,
    if_pos (And.intro hop hstep), hplan]

/-! ### Bring-up (R353, R355, R356) -/

theorem wakeRequest_of_off (h : (getLane s l).link = .off) : wakeRequest l s = startLink l false false s := if_pos h

/-- R356: HELLO_D's payload, with the nonce drawn. -/
def helloPayload (s : State) (l : Nat) : List Byte :=
  [BitVec.ofNat 8 (getLane s l).permit, BitVec.ofNat 8 l, BitVec.ofNat 8 (laneRealm s l), 0] ++ Config.deviceId ++
    beBytes 16 (Config.freeValue 0x50 s.free)

theorem rxLock_of_wake (h : (getLane s l).link = .wake) : rxLock l s =
    laneOut l 1 0 false (helloPayload s l) (setLane l { getLane s l with
      link := .hello, lock := true, helloD := helloPayload s l, lastRx := s.now } { s with free := s.free + 1 }) :=
  if_neg (not_not_intro h)

theorem bringupTimeout_of_due (hlink : (getLane s l).link = .hello) (hdue : (getLane s l).startAt + 3000 ≤ s.now) :
    bringupTimeout l s = failLink l 0 s :=
  if_pos ⟨by rw [hlink]; decide, by rw [hlink]; decide, hdue⟩

section
variable {t : Nat}

theorem bringupRetry_of_early (ht : (getLane s l).retryAt = some t) (hearly : s.now < t) : bringupRetry l s = s := by
  simp only [bringupRetry, ht, if_pos hearly]

theorem bringupRetry_of_due (ht : (getLane s l).retryAt = some t) (hdue : t ≤ s.now)
    (hopening : (getLane s l).opening = false) : bringupRetry l s = startLink l false true s := by
  simp only [bringupRetry, ht, if_neg (Nat.not_lt.mpr hdue), hopening, Bool.false_and, Bool.false_eq_true, if_false]

end

theorem getLane_failLink (l cause : Nat) (s : State) : getLane (failLink l cause s) l = { unlinked (getLane s l) with
    retryAt := some (s.now + retryWait (getLane s l).tries), tries := (getLane s l).tries + 1 } := by
  rw [failLink, getLane_onLane_self, getLane_logEvent]

/-! ### A link that is up (R358, R362, R371) -/

theorem timeTick_of_due (hup : (getLane s l).link = .up) (hdue : (getLane s l).timeAt + 1000 ≤ s.now) :
    timeTick l s = sendTime l s := if_pos ⟨hup, hdue⟩

theorem timeTick_of_early (hearly : s.now < (getLane s l).timeAt + 1000) : timeTick l s = s :=
  if_neg fun h => Nat.not_le.mpr hearly h.2

theorem noFrame_of_due (hup : (getLane s l).link = .up) (hdue : (getLane s l).lastRx + 5000 ≤ s.now) :
    noFrame l s = loseLink l s := if_pos ⟨hup, hdue⟩

theorem retxTimeout_of_due {p : Place} {ps : List Place} {a : Nat} (hup : (getLane s l).link = .up)
    (hplaces : (getLane s l).places = p :: ps) (hsent : p.sentAt = some a) (hdue : a + 500 ≤ s.now) :
    retxTimeout l s = onLane l (fun x => { x with sendSeq := p.seq }) s := by
  simp only [retxTimeout, hplaces, List.head?_cons, hsent]
  exact if_pos ⟨hup, hdue⟩

theorem linkLoss_of_up (h : (getLane s l).link = .up) : linkLoss l s = loseLink l s := by
  rw [linkLoss, h]

/-- R354: a bring-up that loses lock waits for it again. -/
theorem linkLoss_of_bringup (hup : (getLane s l).link ≠ .up) (hoff : (getLane s l).link ≠ .off) :
    linkLoss l s = onLane l (fun x => { unlinked x with link := .wake, state := x.state }) s := by
  rw [linkLoss]
  split
  case h_1 h => exact absurd h hoff
  case h_2 h => exact absurd h hup
  case h_3 => rfl

/-! ### Sleep (R374, R375) -/

theorem sleepIdleWake_of_due (hst : (getLane s l).state = 4) (hwork : (getLane s l).places ≠ [])
    (hidle : (getLane s l).sleepAt + 100 ≤ s.now) : sleepIdleWake l s = startLink l false true s :=
  if_pos ⟨hst, hwork, hidle⟩

theorem driftWake_of_woken {e : Nat} (hst : (getLane s l).state = 4) (he : errorBound s (getLane s l) = some e)
    (hwake : (getLane s l).wakeAt ≠ 0) (hpast : tosDiff s.clk.tos (((getLane s l).wakeAt + e) % 2 ^ 48) < 2 ^ 47) :
    driftWake l s = startLink l false true s := by
  simp only [driftWake, he, Option.getD_some]
  exact if_pos ⟨hst, .inr (decide_eq_true ⟨hwake, hpast⟩)⟩

/-! ### Timed frames, the failure list, closing (R366, R369, R376, R379) -/

/-- R366: a timed frame that is held and not yet sent is withdrawn within the guard of its AT. -/
theorem timedWithdraw_of_held {p : Place} {a : Nat} (hplaces : (getLane s l).places = [p]) (hheld : p.sentAt = none)
    (htime : p.time = some a) : timedWithdraw l s = if atGuard s a = true then withdraw l p 3 s else s := by
  simp only [timedWithdraw, hplaces, List.foldl_cons, List.foldl_nil, htime]
  by_cases hguard : atGuard s a = true
  · rw [if_pos ⟨.inl hheld, hguard⟩, if_pos hguard]
  · rw [if_neg (fun h => hguard h.2), if_neg hguard]

theorem closeTimeout_of_due (hst : (getLane s l).state = 5) (hdue : (getLane s l).closeAt + 40000 ≤ s.now) :
    closeTimeout l s = closeLane l false s := if_pos ⟨hst, hdue⟩

theorem closeTimeout_of_early (hearly : s.now < (getLane s l).closeAt + 40000) : closeTimeout l s = s :=
  if_neg fun h => Nat.not_le.mpr hearly h.2

end

/-- Settles O57: each row acts on its lane by the case of its function that the hypotheses name; what a timer does is
read on the state whose time has passed. -/
theorem laneBringUp : Obligations.LaneBringUp := by
  unfold Obligations.LaneBringUp
  refine ⟨?data, ?image, ?place, ?wake, ?rxLock, ?timeout, ?retry, ?fails, ?up, ?loss, ?asleep, ?timed, ?expiry,
    ?closing⟩
  case data =>
    intro s id c d l hal hc hlane hrun hopen hop hd
    rw [exec_lanePlaceEntry, serve_alive hal, lanePlaceEntry_of_data hc hlane hrun hopen hop hd]
  case image =>
    intro s id c l b cr hal hc hlane hrun hopen hop hstep hplan
    rw [exec_lanePlaceEntry, serve_alive hal, lanePlaceEntry_of_image hc hlane hrun hopen hop hstep hplan]
  case place =>
    rintro s l type p need time _ rfl
    rw [getLane_enterPlace]
    exact ⟨rfl, rfl⟩
  case wake =>
    intro s l hal hl hoff
    rw [exec_wakeRequest, serve_onRealLane hal hl, wakeRequest_of_off hoff]
  case rxLock =>
    intro s l hal hl hwake
    refine ⟨helloPayload s l, rfl, ?_⟩
    rw [exec_laneRxLock, serve_onRealLane hal hl, rxLock_of_wake hwake]
  case timeout =>
    intro s dt l hal hl hlink hdue
    rw [exec_bringupTimeout, lapseServe_onRealLane hal hl, bringupTimeout_of_due hlink hdue]
  case retry =>
    intro s dt l t hal hl ht
    rw [exec_bringupRetry, lapseServe_onRealLane hal hl]
    refine ⟨fun hearly => ?_, fun hdue hopening => ?_⟩
    · rw [bringupRetry_of_early ht hearly]
    · rw [bringupRetry_of_due ht hdue hopening]
  case fails =>
    intro s l cause htries
    rw [getLane_failLink, htries]
    exact ⟨rfl, rfl, rfl⟩
  case up =>
    rintro s dt l _ rfl hal hl hup
    rw [exec_timeTick, exec_noFrameTimeout, exec_laneRetxTimeout, lapseServe_onRealLane hal hl,
      lapseServe_onRealLane hal hl, lapseServe_onRealLane hal hl]
    refine ⟨fun hdue => ?_, fun hearly => ?_, fun hdue => ?_, fun p ps a hplaces hsent hdue => ?_⟩
    · rw [timeTick_of_due hup hdue]
    · rw [timeTick_of_early hearly]
    · rw [noFrame_of_due hup hdue]
    · rw [retxTimeout_of_due hup hplaces hsent hdue]
  case loss =>
    intro s l hal hl
    rw [exec_linkLoss, serve_onRealLane hal hl]
    refine ⟨fun hup => ?_, fun hup hoff => ?_⟩
    · rw [linkLoss_of_up hup]
    · rw [linkLoss_of_bringup hup hoff]
  case asleep =>
    rintro s dt l _ rfl hal hl hst
    rw [exec_sleepIdleWake, exec_driftWake, lapseServe_onRealLane hal hl, lapseServe_onRealLane hal hl]
    refine ⟨fun hwork hidle => ?_, fun e he hwake hpast => ?_⟩
    · rw [sleepIdleWake_of_due hst hwork hidle]
    · rw [driftWake_of_woken hst he hwake hpast]
  case timed =>
    rintro s dt l _ p a rfl hal hl hplaces _ hheld htime
    rw [exec_timedWithdraw, lapseServe_onRealLane hal hl, timedWithdraw_of_held hplaces hheld htime]
    refine ⟨fun hguard => ?_, fun hguard => ?_⟩
    · rw [if_pos hguard]
    · rw [if_neg (Bool.eq_false_iff.mp hguard)]
  case expiry =>
    rintro s dt l _ rfl hal hl
    rw [exec_failEntryExpiry, lapseServe_onRealLane hal hl, failExpire, onLane]
  case closing =>
    rintro s dt l _ rfl hal hl hst
    rw [exec_laneCloseTimeout, lapseServe_onRealLane hal hl]
    refine ⟨fun hdue => ?_, fun hearly => ?_⟩
    · rw [closeTimeout_of_due hst hdue]
    · rw [closeTimeout_of_early hearly]

end Sys2Proof.Machine
end

section
/-! Karef instructions that compute: what each body gives once its operands are read. -/

namespace Sys2Proof.Machine

/-! ### A row of the Karef -/

/-- A row of the Karef runs the instruction at the PC of a shuttle where it is of an opcode, by a body (R237). -/
def RunsAs (row : Nat → Nat → Instr) (opc : Nat) (body : Body) : Prop :=
  ∀ sh wait s, exec (row sh wait) s = serve (karefOp opc sh wait body) s

theorem RunsAs.completes {row : Nat → Nat → Instr} {opc sh wait : Nat} {body : Body} {s : State} {i : Ins} {k k2 : KS}
    {nx : Next} (hrow : RunsAs row opc body) (hst : Staged s sh wait opc i k) (hbody : body sh i k = .ok (nx, k2))
    (hfit : Affords s sh i k2) : exec (row sh wait) s = .next (completes s sh i nx k2) := by
  rw [hrow sh wait s, karefOp_completes body hst hbody hfit]

theorem nop_runsAs : RunsAs .nop 0x00 nopBody := fun _ _ _ => rfl
theorem mov_runsAs : RunsAs .mov 0x01 movBody := fun _ _ _ => rfl
theorem clr_runsAs : RunsAs .clr 0x02 clrBody := fun _ _ _ => rfl
theorem tagof_runsAs : RunsAs .tagof 0x03 tagofBody := fun _ _ _ => rfl
theorem bfins_runsAs : RunsAs .bfins 0x31 bfinsBody := fun _ _ _ => rfl

/-! ### Bodies that read, compute and write -/

section
variable {sh : Nat} {i : Ins} {k k1 k2 k3 k4 : KS} {a b d w : TW}

theorem movBody_ok (hsrc : srcK sh tagAny (opd i 1) k = .ok (w, k1)) (hdst : writeTo sh (opd i 0) w none k1 = .ok k2) :
    movBody sh i k = .ok (onward i, k2) := by
  simp only [movBody, hsrc, hdst, bind, Except.bind]

theorem clrBody_ok (hdst : writeTo sh (opd i 0) ⟨0, 0⟩ none k = .ok k2) : clrBody sh i k = .ok (onward i, k2) := by
  have hzero : writeTo sh (opd i 0) {} none k = .ok k2 := hdst
  simp only [clrBody, hzero, bind, Except.bind]

theorem tagofBody_ok (hsrc : srcK sh tagAny (opd i 1) k = .ok (w, k1))
    (hdst : writeTo sh (opd i 0) ⟨0, w.tag⟩ none k1 = .ok k2) : tagofBody sh i k = .ok (onward i, k2) := by
  simp only [tagofBody, hsrc, hdst, bind, Except.bind]

theorem computeTo_ok {r : Alu} {tag : Nat}
    (hdst : writeTo sh (opd i 0) ⟨tag, r.val⟩ (if tag ≤ 1 then some r else none) k = .ok k2) :
    computeTo sh i r tag k = .ok (onward i, k2) := by
  simp only [computeTo, hdst, bind, Except.bind]

theorem unary_eq (f : Nat → Alu) (hsrc : srcK sh tagCompute (opd i (i.opn - 1)) k = .ok (a, k1)) :
    unary f sh i k = computeTo sh i (f a.val) a.tag k1 := by
  simp only [unary, hsrc, bind, Except.bind]

theorem binary_eq (f : Nat → Nat → Bool → Alu) (hsrc : binarySrc sh tagCompute i k = .ok (a, b, k1)) :
    binary f sh i k = computeTo sh i (f a.val b.val (getSh k.st sh).c) (max a.tag b.tag) k1 := by
  simp only [binary, hsrc, bind, Except.bind]

theorem division_eq (f : Nat → Nat → Alu) (hsrc : binarySrc sh tagStrict i k = .ok (a, b, k1)) (hb : b.val ≠ 0) :
    division f sh i k = computeTo sh i (f a.val b.val) (max a.tag b.tag) k1 := by
  simp only [division, hsrc, bind, Except.bind, if_neg hb]

theorem compare2_ok (f : Nat → Nat → Alu) (hfst : srcK sh tagStrict (opd i 0) k = .ok (a, k1))
    (hsnd : srcK sh tagStrict (opd i 1) k1 = .ok (b, k2)) :
    compare2 f sh i k = .ok (onward i, setFlags sh (f a.val b.val) (commitBps sh k2)) := by
  simp only [compare2, hfst, hsnd, bind, Except.bind]

theorem bfinsBody_eq (hdst : srcK sh tagCompute (opd i 0) k = .ok (d, k1))
    (hsrc : srcK sh tagCompute (opd i 1) k1 = .ok (a, k2)) (hctl : srcK sh tagCompute (opd i 2) k2 = .ok (b, k3)) :
    bfinsBody sh i k = computeTo sh i (aluBfins d.val a.val b.val) (max d.tag (max a.tag b.tag)) k3 := by
  simp only [bfinsBody, hdst, hsrc, hctl, bind, Except.bind]

end

/-- Settles O51: each row of the list runs `binary` with its own computation, which writes what it has computed. -/
theorem karefBinary : Obligations.KarefBinary := by
  unfold Obligations.KarefBinary
  intro s sh wait i k a b k1 k2 row opc f hrow hst hsrc hdst hfit
  have hruns : RunsAs row opc (fun sh i => binary (f i) sh i) := by
    simp only [List.mem_cons, Prod.mk.injEq, List.not_mem_nil, or_false] at hrow
    rcases hrow with h | h | h | h | h | h | h | h | h | h | h | h | h | h | h | h | h | h <;>
      (obtain ⟨rfl, rfl, rfl⟩ := h; exact fun _ _ _ => rfl)
  exact hruns.completes hst ((binary_eq (f i) hsrc).trans (computeTo_ok hdst)) hfit

/-- Settles O52: each row by its body on the operands that were read. -/
theorem karefOther : Obligations.KarefOther := by
  unfold Obligations.KarefOther
  refine ⟨?nop, ?mov, ?clr, ?tagof, ?unary, ?division, ?compare, ?bfins⟩
  case nop =>
    intro s sh wait i k hst hfit
    exact nop_runsAs.completes hst rfl hfit
  case mov =>
    intro s sh wait i k w k1 k2 hst hsrc hdst hfit
    exact mov_runsAs.completes hst (movBody_ok hsrc hdst) hfit
  case clr =>
    intro s sh wait i k k2 hst hdst hfit
    exact clr_runsAs.completes hst (clrBody_ok hdst) hfit
  case tagof =>
    intro s sh wait i k w k1 k2 hst hsrc hdst hfit
    exact tagof_runsAs.completes hst (tagofBody_ok hsrc hdst) hfit
  case unary =>
    intro s sh wait i k a k1 k2 row opc f hrow hst hsrc hdst hfit
    have hruns : RunsAs row opc (unary f) := by
      simp only [List.mem_cons, Prod.mk.injEq, List.not_mem_nil, or_false] at hrow
      rcases hrow with ⟨rfl, rfl, rfl⟩ | ⟨rfl, rfl, rfl⟩ | ⟨rfl, rfl, rfl⟩ <;> exact fun _ _ _ => rfl
    exact hruns.completes hst ((unary_eq f hsrc).trans (computeTo_ok hdst)) hfit
  case division =>
    intro s sh wait i k a b k1 k2 row opc f hrow hst hsrc hb hdst hfit
    have hruns : RunsAs row opc (division f) := by
      simp only [List.mem_cons, Prod.mk.injEq, List.not_mem_nil, or_false] at hrow
      rcases hrow with ⟨rfl, rfl, rfl⟩ | ⟨rfl, rfl, rfl⟩ | ⟨rfl, rfl, rfl⟩ | ⟨rfl, rfl, rfl⟩ <;> exact fun _ _ _ => rfl
    exact hruns.completes hst ((division_eq f hsrc hb).trans (computeTo_ok hdst)) hfit
  case compare =>
    intro s sh wait i k a b k1 k2 row opc f hrow hst hfst hsnd hfit
    have hruns : RunsAs row opc (compare2 f) := by
      simp only [List.mem_cons, Prod.mk.injEq, List.not_mem_nil, or_false] at hrow
      rcases hrow with ⟨rfl, rfl, rfl⟩ | ⟨rfl, rfl, rfl⟩ <;> exact fun _ _ _ => rfl
    exact hruns.completes hst (compare2_ok f hfst hsnd) hfit
  case bfins =>
    intro s sh wait i k d a b k1 k2 k3 k4 hst hdst hsrc hctl hwr hfit
    exact bfins_runsAs.completes hst ((bfinsBody_eq hdst hsrc hctl).trans (computeTo_ok hwr)) hfit

end Sys2Proof.Machine
end

section
/-! Karef instructions that steer the control flow: branches, calls, loops, repeats and the return from a trap. -/

namespace Sys2Proof.Machine

/-! ### The rows of control flow -/

theorem br_runsAs : RunsAs .br 0x48 brBody := fun _ _ _ => rfl
theorem call_runsAs : RunsAs .call 0x49 callBody := fun _ _ _ => rfl
theorem ret_runsAs : RunsAs .ret 0x4A retBody := fun _ _ _ => rfl
theorem loop_runsAs : RunsAs .loop 0x50 loopBody := fun _ _ _ => rfl
theorem rpt_runsAs : RunsAs .rpt 0x51 rptBody := fun _ _ _ => rfl
theorem tret_runsAs : RunsAs .tret 0x59 tretBody := fun _ _ _ => rfl

section
variable {sh : Nat} {i : Ins} {k k1 k2 : KS} {w : TW} {t : Nat}

/-! ### Branches, calls and returns (R249, R250) -/

theorem brBody_eq (hsrc : targetSrc sh (opd i 0) k = .ok (t, k1)) : brBody sh i k =
    if brCond i.sz (getSh k1.st sh).z (getSh k1.st sh).n (getSh k1.st sh).c (getSh k1.st sh).v = true then
      .ok (⟨t, none⟩, { commitBps sh k1 with
        st := setSh sh (branchOut 4 t (getSh (commitBps sh k1).st sh)) (commitBps sh k1).st })
    else .ok (onward i, commitBps sh k1) := by
  simp only [brBody, hsrc, bind, Except.bind]

theorem callBody_ok (hsrc : targetSrc sh (opd i 1) k = .ok (t, k1))
    (hlink : writeTo sh (opd i 0) ⟨5, i.after % 32768⟩ none k1 = .ok k2) : callBody sh i k = .ok (⟨t, none⟩, k2) := by
  simp only [callBody, hsrc, hlink, bind, Except.bind]

theorem retBody_ok (hsrc : srcK sh tagRet (opd i 0) k = .ok (w, k1)) :
    retBody sh i k = .ok (⟨w.val, none⟩, commitBps sh k1) := by
  simp only [retBody, hsrc, bind, Except.bind]

/-! ### What a taken branch leaves of the loops (R225) -/

variable {x : Shuttle} {d : Nat}

theorem branchOut_of_idle (f : Nat) (h : x.ldepth = 0) : branchOut f t x = x := by
  cases f with
  | zero => rfl
  | succ f => rw [branchOut, if_pos h]

theorem branchOut_of_inside (f : Nat) (h : x.ldepth = d + 1) (hls : mget 0 x.ls d ≤ t) (hle : t ≤ mget 0 x.le d) :
    branchOut (f + 1) t x = x := by
  rw [branchOut, if_neg (by omega)]
  simp only [h, Nat.add_sub_cancel]
  rw [if_pos ⟨hls, hle⟩]

theorem branchOut_of_outside (f : Nat) (h : x.ldepth = d + 1) (hout : t < mget 0 x.ls d ∨ mget 0 x.le d < t) :
    branchOut (f + 1) t x = branchOut f t { x with lc := mset 0 x.lc d 0, ldepth := d } := by
  rw [branchOut, if_neg (by omega)]
  simp only [h, Nat.add_sub_cancel]
  rw [if_neg (by omega)]

/-- A step for each active loop is enough. -/
theorem branchOut_succ (f : Nat) (h : x.ldepth ≤ f) : branchOut (f + 1) t x = branchOut f t x := by
  induction f generalizing x with
  | zero => exact branchOut_of_idle 1 (Nat.le_zero.mp h)
  | succ f ih =>
    cases hd : x.ldepth with
    | zero => rw [branchOut_of_idle _ hd, branchOut_of_idle _ hd]
    | succ d =>
      by_cases hin : mget 0 x.ls d ≤ t ∧ t ≤ mget 0 x.le d
      · rw [branchOut_of_inside _ hd hin.1 hin.2, branchOut_of_inside _ hd hin.1 hin.2]
      · have hout : t < mget 0 x.ls d ∨ mget 0 x.le d < t := by omega
        rw [branchOut_of_outside _ hd hout, branchOut_of_outside _ hd hout]
        exact ih (show d ≤ f by omega)

/-! ### Loops and repeats (R223, R226) -/

/-- R223: the address of a loop's last instruction, next to LOOP by its SZ or named by its second operand. -/
def loopLast (i : Ins) : Nat := if i.opn = 1 then i.after + i.sz else (opd i 1).val

/-- R223: the loop set that LOOP takes, above those that are active. -/
def loopEntered (i : Ins) (n : Nat) (x : Shuttle) : Shuttle := { x with
  ls := mset 0 x.ls x.ldepth i.after, le := mset 0 x.le x.ldepth (loopLast i), lc := mset 0 x.lc x.ldepth n
  ldepth := x.ldepth + 1 }

theorem loopBody_eq (hsrc : srcK sh tagPlace (opd i 0) k = .ok (w, k1)) (hfree : (getSh k1.st sh).ldepth < 3) :
    loopBody sh i k =
      if w.val = 0 then .ok (⟨skipAt sh (loopLast i) (commitBps sh k1), some i.pc⟩, commitBps sh k1)
      else .ok (onward i, { commitBps sh k1 with
        st := setSh sh (loopEntered i w.val (getSh (commitBps sh k1).st sh)) (commitBps sh k1).st }) := by
  simp only [loopBody, hsrc, bind, Except.bind]
  rw [if_neg (Nat.ne_of_lt hfree)]
  rfl

theorem rptBody_eq (hidle : (getSh k.st sh).rpta = false) (hsrc : srcK sh tagPlace (opd i 0) k = .ok (w, k1))
    (htarget : rptTarget sh i k1 = false) (hlimit : w.val ≤ 64 ∨ (getSh k.st sh).rpti = true) :
    rptBody sh i k = .ok (rptGo sh i w.val (commitBps sh k1)) := by
  have hfits : ¬(!(getSh k.st sh).rpti && decide (64 < w.val)) = true := by
    rcases hlimit with hle | hrpti
    · simp [Nat.not_lt.mpr hle]
    · simp [hrpti]
  simp only [rptBody, hidle, hsrc, htarget, bind, Except.bind, Bool.false_eq_true, if_false]
  rw [if_neg hfits]

/-! ### The return from a trap (R231) -/

/-- R231: the registers that TRET takes back from the frame. -/
def unframed (i : Ins) (x : Shuttle) : Shuttle := { x with
  v := bit (mget {} x.priv 0x7FFE).val 3, c := bit (mget {} x.priv 0x7FFE).val 2, n := bit (mget {} x.priv 0x7FFE).val 1
  z := bit (mget {} x.priv 0x7FFE).val 0, rpta := bit (mget {} x.priv 0x7FFE).val 9 && i.sz == 0
  rptc := if i.sz = 0 then (mget {} x.priv 0x7FFC).val else 0, gidx := (mget {} x.priv 0x7FFD).val % 32
  trapping := false, tcause := 0, tinfo := 0 }

theorem tretBody_ok (htrap : (getSh k.st sh).trapping = true) (hcode : (mget {} (getSh k.st sh).priv 0x7FFF).tag = 5)
    (hframe : ∀ a, 0x7FFC ≤ a → a < 0x7FFF → frameCause (mget {} (getSh k.st sh).priv a) = none) :
    tretBody sh i k = .ok (⟨(mget {} (getSh k.st sh).priv 0x7FFF).val + i.sz, none⟩,
      { k with st := setSh sh (unframed i (getSh k.st sh)) k.st }) := by
  have hread : tagRead 5 = none := rfl
  have hgood : [0x7FFC, 0x7FFD, 0x7FFE].find? (fun a => (frameCause (mget {} (getSh k.st sh).priv a)).isSome) = none := by
    simp [hframe]
  simp only [tretBody, htrap, hcode, hread, hgood, Bool.not_true, Bool.false_eq_true, if_false, ne_eq, not_true]
  by_cases hsz : i.sz = 0
  · simp [unframed, hsz]
  · have hskip : (i.sz == 0) = false := beq_eq_false_iff_ne.mpr hsz
    simp [unframed, hsz, hskip]

end

/-- Settles O54: each row by its body; a taken branch leaves the loops of `branchOut`, one for one. -/
theorem karefControl : Obligations.KarefControl := by
  unfold Obligations.KarefControl
  refine ⟨?br, ?idle, ?inside, ?outside, ?call, ?ret, ?loop, ?rpt, ?tret⟩
  case br =>
    rintro s sh wait i k t k1 hst hsrc hfit _ rfl
    refine ⟨fun hcond => ?_, fun hcond => ?_⟩
    · exact br_runsAs.completes hst ((brBody_eq hsrc).trans (if_neg (Bool.eq_false_iff.mp hcond))) hfit
    · exact br_runsAs.completes hst ((brBody_eq hsrc).trans (if_pos hcond)) hfit
  case idle => exact fun x t h => branchOut_of_idle 4 h
  case inside => exact fun x t d h hls hle => branchOut_of_inside 3 h hls hle
  case outside =>
    intro x t d h hd hout
    rw [branchOut_of_outside 3 h hout]
    exact (branchOut_succ 3 (Nat.le_of_lt hd)).symm
  case call =>
    intro s sh wait i k t k1 k2 hst hsrc hlink hfit
    exact call_runsAs.completes hst (callBody_ok hsrc hlink) hfit
  case ret =>
    intro s sh wait i k w k1 hst hsrc hfit
    exact ret_runsAs.completes hst (retBody_ok hsrc) hfit
  case loop =>
    rintro s sh wait i k w k1 hst hsrc hfree hfit _ rfl _ rfl
    refine ⟨fun hzero => ?_, ?_⟩
    · exact loop_runsAs.completes hst ((loopBody_eq hsrc hfree).trans (if_pos hzero)) hfit
    · rintro hpos _ rfl _ rfl
      exact loop_runsAs.completes hst ((loopBody_eq hsrc hfree).trans (if_neg hpos)) hfit
  case rpt =>
    rintro s sh wait i k w k1 hst hidle hsrc htarget hlimit hfit _ rfl
    have hbody := rptBody_eq hidle hsrc htarget hlimit
    refine ⟨?_, ?_⟩
    · rintro hpos _ rfl
      rw [rptGo, if_neg (by omega)] at hbody
      exact rpt_runsAs.completes hst hbody hfit
    · rintro hzero _ rfl
      rw [rptGo, if_pos hzero] at hbody
      exact rpt_runsAs.completes hst hbody hfit
  case tret =>
    rintro s sh wait i k hst _ rfl htrap hcode hframe hfit _ rfl _ rfl
    exact tret_runsAs.completes hst (tretBody_ok htrap hcode hframe) hfit

end Sys2Proof.Machine
end

section
/-! Traps of the Karef: an instruction that stops after its operand stage, the frame and the vector of a trap, and fetches
that fail. -/

namespace Sys2Proof.Machine

/-! ### The rows that trap -/

theorem trap_runsAs : RunsAs .trap 0x58 trapBody := fun _ _ _ => rfl

theorem exec_reservedOpcode (sh wait : Nat) (s : State) :
    exec (.reservedOpcode sh wait) s = serve (karefRow (fun o => (opInfo o).isNone) sh wait nopBody) s := rfl

/-! ### An instruction that stops (R241) -/

theorem bind_eq_ok {α β : Type} {x : K α} {f : α → K β} {b : β} (h : (x >>= f) = .ok b) :
    ∃ a, x = .ok a ∧ f a = .ok b := by
  cases x with
  | error e => cases h
  | ok a => exact ⟨a, rfl, h⟩

theorem decodeOpds_length {sh n : Nat} {j : Job} {a e : Nat} {k k1 : KS} {ops : List Opd}
    (h : decodeOpds sh j n a k = .ok (ops, e, k1)) : ops.length = n := by
  induction n generalizing a k ops e k1 with
  | zero =>
    cases h
    rfl
  | succ n ih =>
    obtain ⟨spec, -, h⟩ := bind_eq_ok h
    by_cases hext : specExt spec = 0
    all_goals
      simp only [hext, if_true, if_false] at h
      obtain ⟨e1, -, h⟩ := bind_eq_ok h
      obtain ⟨e2, -, h⟩ := bind_eq_ok h
      obtain ⟨⟨os, e', k'⟩, hrest, h⟩ := bind_eq_ok h
      cases h
      rw [List.length_cons, ih hrest]

/-- An instruction other than a GATHER that has passed steps 1 to 5, and whose body stops, ends so. -/
theorem karefOp_stops {s : State} {sh wait opc : Nat} {i : Ins} {k : KS} {e : KStop} (body : Body)
    (h : Staged s sh wait opc i k) (hgather : opc ≠ 0x34) (hbody : body sh i k = .error e) :
    serve (karefOp opc sh wait body) s =
      .next (settle (stopped sh i i.opn k.bps ((getSh s sh).rpta && opc != 0x51) e s)) := by
  obtain ⟨j, ops, q, more, hmore, hal, hjob, hruns, hpc, hfetch, hopc, hiopc, hopn, hsz, hdec, hlen, hinfo, hopns, hszMax,
    hloop, hroles, hops, hgood, himm, hrpt, hstage, hcost⟩ := h
  obtain ⟨head, iopc, opn, sz, pc, iops, roles, len, after, cost⟩ := i
  simp only at *
  have hone : (opc == 0x34) = false := beq_eq_false_iff_ne.mpr hgather
  rw [hone, Bool.false_and] at hmore
  subst hmore hiopc hpc hopn hsz hlen hroles
  simp only [Bool.false_eq_true, if_false, false_or] at hops hstage hcost
  have hcount := decodeOpds_length hdec
  have herr : iops.find? (fun o => decide (o.err ≠ 0)) = none := by simpa using hgood
  have hloopSz : (iopc == 0x50 && head / 16 % 4 == 2 && head % 16 != 0) = false := by simpa [and_assoc] using hloop
  have hnew : (iopc == 0x51 && (getSh s sh).rpta) = false := by simpa using hrpt
  rw [serve_alive hal, karefOp, karefRow]
  simp only [hjob, hruns, hfetch, hopc, beq_self_eq_true, hdec, hinfo, hone, hloopSz, hnew, ← hops, herr, himm, hstage, ← hcost,
    hopns, List.contains_eq_mem, Nat.not_lt.mpr hszMax, hbody, hcount, Bool.not_true, Bool.false_eq_true, if_false,
    Bool.false_and, decide_false, decide_true, Bool.or_false, Option.map_some, Option.getD_some]

/-- R251: TRAP has no operands, so that nothing was read before it traps. -/
theorem Staged.of_trap {s : State} {sh wait : Nat} {i : Ins} {k : KS} (h : Staged s sh wait 0x58 i k) :
    i.opn = 0 ∧ i.ops = [] ∧ k = beginK sh wait 0x58 s := by
  obtain ⟨j, ops, q, more, -, -, -, -, -, -, -, -, -, -, hdec, -, hinfo, hopns, -, -, hroles, hops, -⟩ := h
  cases hinfo
  have hopn : i.opn = 0 := List.mem_singleton.mp hopns
  rw [hopn, decodeOpds, Except.ok.injEq, Prod.mk.injEq, Prod.mk.injEq] at hdec
  rw [hroles, List.zipWith_nil_left] at hops
  exact ⟨hopn, hops, hdec.2.2.symm⟩

/-- R230, R242: a software trap is taken behind its instruction, whose cycles and the entry's are charged first. -/
theorem stopped_of_software {s : State} {sh cause tinfo acc reached : Nat} {i : Ins} {early : List Nat} {rep : Bool}
    (hcause : 0x20 ≤ cause) (hfit : overBudget s sh (i.cost + acc + trapCycles s sh cause) false = false) :
    stopped sh i reached early rep (.trap cause tinfo acc none) s =
      takeTrap sh cause tinfo i reached true i.after (spend sh (i.cost + acc + trapCycles s sh cause) s) := by
  have hlate : ¬(cause = cReservedOpcode ∨ cause = cReservedField ∨ cause = cReservedMode) := by
    simp only [cReservedOpcode, cReservedField, cReservedMode]
    omega
  simp only [stopped, Option.getD_none, if_neg hlate, hfit, Bool.false_eq_true, if_false, decide_eq_true hcause, if_true]

section
variable {row : Nat → Bool} {s : State} {sh wait : Nat} {body : Body} {j : Job}

/-- R237: a reserved opcode stops once its operands are decoded. -/
theorem karefRow_of_reserved {head after : Nat} {ops : List Opd} {k : KS} (hjob : (getSh s sh).job = some j)
    (hruns : shuttleRuns s sh = true) (hfetch : kFetch s sh j (getSh s sh).pc = some head) (hrow : row (head / 64) = true)
    (hinfo : opInfo (head / 64) = none)
    (hdec : decodeOpds sh j (head / 16 % 4) ((getSh s sh).pc + 1) (beginK sh wait (head / 64) s) = .ok (ops, after, k))
    (hrpta : (getSh s sh).rpta = false) :
    karefRow row sh wait body s = stopped sh
      { head := head, opc := head / 64, opn := head / 16 % 4, sz := head % 16, pc := (getSh s sh).pc, ops := ops, roles := []
        len := after - (getSh s sh).pc, after := after
        cost := 1 + (ops.filter (fun o => o.mode == 6 || o.mode == 3)).length }
      ops.length k.bps false (.trap cReservedOpcode (head / 64) 0 none) s := by
  have hgather : (head / 64 == 0x34) = false := by
    refine beq_eq_false_iff_ne.mpr fun h => ?_
    rw [h] at hinfo
    cases hinfo
  simp only [karefRow, hjob, hruns, hfetch, hrow, hdec, hinfo, hgather, hrpta, Bool.not_true, Bool.false_eq_true, if_false,
    Bool.false_and, Option.map_none, Option.getD_none]

/-- R228: a fetch beyond the code traps in any row. -/
theorem karefRow_of_no_fetch (hjob : (getSh s sh).job = some j) (hruns : shuttleRuns s sh = true)
    (hfetch : kFetch s sh j (getSh s sh).pc = none) : karefRow row sh wait body s =
      takeTrap sh cFetch (getSh s sh).pc { pc := (getSh s sh).pc, after := (getSh s sh).pc } 0 true (getSh s sh).pc s := by
  simp only [karefRow, hjob, hruns, hfetch, Bool.not_true, Bool.false_eq_true, if_false]

end

/-! ### The way of a trap (R228) -/

section
variable {s : State} {sh cause tinfo reached ret v : Nat} {i : Ins} {bare : Bool} {j : Job}

theorem takeTrap_of_trapping (hjob : (getSh s sh).job = some j) (htrap : (getSh s sh).trapping = true) :
    takeTrap sh cause tinfo i reached bare ret s = endTrap sh 0x17 cause i.pc s := by
  simp only [takeTrap, hjob, htrap, if_true]

theorem takeTrap_of_no_vector (hjob : (getSh s sh).job = some j) (htrap : (getSh s sh).trapping = false)
    (hvec : vectorOf cause = none) : takeTrap sh cause tinfo i reached bare ret s = endTrap sh cause tinfo i.pc s := by
  simp only [takeTrap, hjob, htrap, hvec, Bool.false_eq_true, if_false]

theorem takeTrap_of_no_handler (hjob : (getSh s sh).job = some j) (htrap : (getSh s sh).trapping = false)
    (hvec : vectorOf cause = some v) (hhandler : (kFetch s sh j v).getD 0 = 0) :
    takeTrap sh cause tinfo i reached bare ret s = endTrap sh 0x18 cause i.pc s := by
  simp only [takeTrap, hjob, htrap, hvec, hhandler, Bool.false_eq_true, if_false, if_true]

/-- R230: a shuttle's own memory with the words of a trap's frame at its end. -/
def withFrame (ws : List TW) (m : KMap TW) : KMap TW := ws.zipIdx.foldl (fun m p => mset {} m (0x7FF7 + p.2) p.1) m

/-- R228: a shuttle at the first instruction of a handler. -/
def inHandler (cause tinfo handler : Nat) (ws : List TW) (x : Shuttle) : Shuttle := { x with
  priv := withFrame ws x.priv, tcause := cause, tinfo := tinfo, trapping := true, rpta := false, gidx := 0, gath := none
  pc := handler * 2 % 32768 }

theorem takeTrap_of_handler {handler : Nat} (hjob : (getSh s sh).job = some j) (htrap : (getSh s sh).trapping = false)
    (hvec : vectorOf cause = some v) (hfetch : kFetch s sh j v = some handler) (hhandler : handler ≠ 0) :
    takeTrap sh cause tinfo i reached bare ret s =
      setSh sh (inHandler cause tinfo handler (frameWords (getSh s sh) i reached bare ret) (getSh s sh)) s := by
  simp only [takeTrap, inHandler, withFrame, hjob, htrap, hvec, hfetch, Option.getD_some, if_neg hhandler,
    Bool.false_eq_true, if_false]

end

/-! ### The frame that a trap leaves (R230) -/

@[simp] theorem getSh_setSh_self (sh : Nat) (x : Shuttle) (s : State) : getSh (setSh sh x s) sh = x := mget_mset_self ..

/-- Words listed from an address on stand there, and every other address reads as before. -/
theorem mget_foldl_mset {α : Type} [DecidableEq α] (d : α) (ws : List α) (b n : Nat) (m : KMap α) (a : Nat) :
    mget d ((ws.zipIdx n).foldl (fun m p => mset d m (b + p.2) p.1) m) a =
      if b + n ≤ a ∧ a < b + n + ws.length then ws.getD (a - (b + n)) d else mget d m a := by
  induction ws generalizing n m with
  | nil => rw [if_neg (by simp)]; rfl
  | cons w ws ih =>
    rw [List.zipIdx_cons, List.foldl_cons, ih, List.length_cons]
    rcases Nat.lt_trichotomy a (b + n) with hlt | rfl | hgt
    · rw [if_neg (by omega), if_neg (by omega), mget_mset_ne _ _ _ (Nat.ne_of_lt hlt)]
    · rw [if_neg (by omega), if_pos (by omega), mget_mset_self, Nat.sub_self, List.getD_cons_zero]
    · rw [mget_mset_ne _ _ _ (Nat.ne_of_gt hgt), show a - (b + n) = a - (b + (n + 1)) + 1 by omega, List.getD_cons_succ]
      exact ite_congr (propext (by omega)) (fun _ => rfl) (fun _ => rfl)

theorem mget_withFrame (ws : List TW) (m : KMap TW) (a : Nat) : mget {} (withFrame ws m) a =
    if 0x7FF7 ≤ a ∧ a < 0x7FF7 + ws.length then ws.getD (a - 0x7FF7) {} else mget {} m a := mget_foldl_mset {} ws 0x7FF7 0 m a

/-- Settles O56: a body that stops, a fetch that fails and a trap each by the case that the hypotheses name; the frame is
read back word for word. -/
theorem karefTraps : Obligations.KarefTraps := by
  unfold Obligations.KarefTraps
  refine ⟨?software, ?reserved, ?handled, ?unhandled, ?fetch⟩
  case software =>
    intro s sh wait i k hst hfit
    obtain ⟨hopn, hops, rfl⟩ := hst.of_trap
    rw [trap_runsAs sh wait s, karefOp_stops trapBody hst (by decide) rfl, hopn, hops]
    rw [stopped_of_software (Nat.le_add_right _ _) hfit]
    rfl
  case reserved =>
    intro s sh wait j head ops after k hal hjob hruns hfetch hinfo hdec hrpta
    rw [exec_reservedOpcode, serve_alive hal, karefRow_of_reserved hjob hruns hfetch (by rw [hinfo]; rfl) hinfo hdec hrpta]
  case handled =>
    rintro s sh c t i r b ret j v h hjob htrap hvec hfetch hh _ rfl
    rw [takeTrap_of_handler hjob htrap hvec hfetch hh, getSh_setSh_self]
    refine ⟨rfl, rfl, rfl, rfl, rfl, ?_, ?_, ?_, ?_, fun a ha => ?_⟩
    all_goals rw [inHandler, mget_withFrame]
    · rfl
    · rfl
    · rfl
    · rfl
    · exact if_neg (by omega)
  case unhandled =>
    intro s sh c t i r b ret j v hjob htrap hvec hhandler
    exact takeTrap_of_no_handler hjob htrap hvec hhandler
  case fetch =>
    intro s sh wait j hal hjob hruns hfetch
    rw [nop_runsAs sh wait s, serve_alive hal, karefOp, karefRow_of_no_fetch hjob hruns hfetch]
    cases htrap : (getSh s sh).trapping with
    | true => rw [takeTrap_of_trapping hjob htrap, if_pos rfl]
    | false => rw [takeTrap_of_no_vector hjob htrap rfl, if_neg Bool.false_ne_true]

end Sys2Proof.Machine
end

section
/-! Jobs of the Karef: the state in which one starts, who takes which job, locks, the ledger-read ports, the budget, the
stewards' interrupts and the scrubber. -/

namespace Sys2Proof.Machine

/-! ### The rows of jobs -/

theorem exec_jobStart (h i : Nat) (s : State) : exec (.jobStart h i) s = serve (jobStart h i) s := rfl
theorem exec_lockGrant (h r k : Nat) (s : State) : exec (.lockGrant h r k) s = serve (lockGrant h r k) s := rfl
theorem exec_lrReadDone (sh : Nat) (s : State) : exec (.lrReadDone sh) s = serve (lrReadDone sh) s := rfl
theorem exec_cycleBudgetExhausted (sh : Nat) (s : State) :
    exec (.cycleBudgetExhausted sh) s = serve (budgetOut sh) s := rfl
theorem exec_stewardInterrupt (sh source : Nat) (s : State) :
    exec (.stewardInterrupt sh source) s = serve (stewardInterrupt sh source) s := rfl
theorem exec_scrubberError (kind n a : Nat) (s : State) :
    exec (.scrubberError kind n a) s = .next (settle (scrubberError kind n a s)) := rfl

/-! ### The start of an applet job (R213) -/

@[simp] theorem traceJob_cells (sh kind realm w : Nat) (s : State) : (traceJob sh kind realm w s).cells = s.cells := by
  unfold traceJob; split <;> simp

/-- The start of an applet job leaves its shuttle with the registers of a job's start. -/
theorem getSh_startApplet (sh : Nat) (c : Cmd) (bank entry : Nat) (s : State) : ∃ j cycles, j.entry = entry ∧
    getSh (startApplet sh c bank entry s) sh = startShuttle sh (getSh s sh) j cycles := by
  simp only [startApplet, getSh, count, countN_cells, traceJob_cells, setHd, setSh, mget_mset_self]
  refine ⟨_, _, ?entry, rfl⟩
  rfl

/-- Settles O26: nothing of an applet shuttle's last job is kept, and the start sets the rest. -/
theorem appletJobStart : Obligations.AppletJobStart := by
  unfold Obligations.AppletJobStart
  rintro s sh c bank entry happlet _ rfl
  obtain ⟨j, cycles, rfl, hstart⟩ := getSh_startApplet sh c bank entry s
  have hidle : idleShuttle sh (getSh s sh) = { inc := (getSh s sh).inc, freeAt := (getSh s sh).freeAt } :=
    if_neg (Bool.eq_false_iff.mp happlet)
  rw [hstart, startShuttle, hidle]
  exact ⟨rfl, rfl, rfl, rfl, rfl, by simp [estat, b2n], fun _ => ⟨rfl, rfl, rfl⟩, rfl, rfl, rfl, rfl, rfl, fun _ => rfl,
    fun _ => rfl, rfl⟩

/-! ### Which job a shuttle takes (R206, R255, R258) -/

section
variable {s : State} {h i : Nat} {c : Cmd}

theorem jobStart_of_busy (hbusy : (getSh s (h * 8 + i)).job.isSome = true) : jobStart h i s = s :=
  if_pos (.inr (.inr (.inr (.inl hbusy))))

/-- A shuttle that exists, is in service and free, of a part that has not stopped, may start a job. -/
theorem shuttle_may_start (hh : h < 24) (hi : i < 8) (hin : shuttleInService s (h * 8 + i) = true)
    (hfree : (getSh s (h * 8 + i)).job = none) (hrun : s.jn.stopped = false) :
    ¬(24 ≤ h ∨ 8 ≤ i ∨ shuttleInService s (h * 8 + i) = false ∨ (getSh s (h * 8 + i)).job.isSome ∨ s.jn.stopped) := by
  simp [hin, hfree, hrun, Nat.not_le.mpr hh, Nat.not_le.mpr hi]

theorem jobStart_of_applet {bank entry : Nat} (hh : h < 24) (hi : i < 8)
    (hin : shuttleInService s (h * 8 + i) = true) (hfree : (getSh s (h * 8 + i)).job = none) (hrun : s.jn.stopped = false)
    (happlet : isSteward (h * 8 + i) = false) (hc : earliest (s.cmds.admitted.filter (takesJob s (h * 8 + i))) = some c)
    (hjob : c.job = .queued bank entry) : jobStart h i s =
      if turnOf s (h * 8 + i) c = true then startApplet (h * 8 + i) c bank entry s else s := by
  simp only [jobStart, if_neg (shuttle_may_start hh hi hin hfree hrun), happlet, Bool.false_eq_true, if_false, hc, hjob]

theorem jobStart_of_steward (hh : h < 24) (hi : i < 8) (hin : shuttleInService s (h * 8 + i) = true)
    (hfree : (getSh s (h * 8 + i)).job = none) (hrun : s.jn.stopped = false) (hsteward : isSteward (h * 8 + i) = true)
    (hc : earliest (s.cmds.admitted.filter (fun c => c.cls == 3 && c.job == .idle && inReady c)) = some c) :
    jobStart h i s = if loomThrottled s ((h * 8 + i) / 48) = true then s else startSteward (h * 8 + i) c s := by
  simp only [jobStart, if_neg (shuttle_may_start hh hi hin hfree hrun), hsteward, if_true, hc]

theorem onCmd_of_unserved {op id : Nat} (f : Cmd → State → State) (hc : cmdOf s id = some c) (hserved : served c = false) :
    onCmd op id f s = s := by
  simp [onCmd, hc, hserved]

end

/-! ### The grant of a lock (R282) -/

section
variable {s : State} {h r k a b : Nat}

theorem lockGrant_of_none (hnone : lockCands s h r k = []) : lockGrant h r k s = s := by
  simp only [lockGrant, hnone, List.foldl_nil]

theorem lockGrant_of_one (hone : lockCands s h r k = [a]) : lockGrant h r k s =
    if (lockOwner s a k).isSome = true then s else setSh a (takeLock k (getSh s a)) s := by
  simp only [lockGrant, hone, List.foldl_cons, List.foldl_nil]

theorem lockGrant_of_two {da db : Nat} (htwo : lockCands s h r k = [a, b]) (ha : lockOwner s a k = none)
    (hb : lockOwner s b k = none) (hda : da = ((getSh s a).job.map Job.deadline).getD 0)
    (hdb : db = ((getSh s b).job.map Job.deadline).getD 0) : lockGrant h r k s =
      if db < da ∨ (db = da ∧ (getSh s b).waitNo < (getSh s a).waitNo) then setSh b (takeLock k (getSh s b)) s
      else setSh a (takeLock k (getSh s a)) s := by
  simp only [lockGrant, htwo, List.foldl_cons, List.foldl_nil, ← hda, ← hdb]
  by_cases hbefore : db < da ∨ (db = da ∧ (getSh s b).waitNo < (getSh s a).waitNo)
  · simp only [if_pos hbefore, hb, Option.isSome_none, Bool.false_eq_true, if_false]
  · simp only [if_neg hbefore, ha, Option.isSome_none, Bool.false_eq_true, if_false]

end

/-! ### Ledger reads, the budget, interrupts and the scrubber (R253, R232, R214) -/

@[simp] theorem countRead_cmds (slot : Nat) (s : State) : (countRead slot s).cmds = s.cmds := countN_cmds _ _ _ s

section
variable {s : State} {sh : Nat} {j : Job}

theorem lrReadDone_of_busy (hjob : (getSh s sh).job = some j) (hbusy : (getSh s sh).lrBusy = true) : lrReadDone sh s =
    { setSh sh { getSh s sh with lrBusy := false, lr := imageAt s j.slot } (countRead j.slot s) with
      cmds := { s.cmds with admitted := s.cmds.admitted.map (fun d =>
        if d.id = j.cmd then needs d (imageFrame s j.slot) else d) } } := by
  simp only [lrReadDone, hjob, hbusy, if_true, setSh_cmds, countRead_cmds]

theorem budgetOut_of_spent (hjob : (getSh s sh).job = some j) (happlet : isSteward sh = false)
    (hspent : (getSh s sh).left = 0) : budgetOut sh s = endTimeout sh s := by
  simp only [budgetOut, hjob, happlet, hspent, Bool.false_eq_true, if_false, true_or, if_true]

/-- R232: where an interrupt returns to: the repeat in progress, or the instruction at PC. -/
def interruptReturn (x : Shuttle) : Nat := if x.rpta = true then x.rptPc else x.pc

/-- R426: a source that the stewards take is no longer pending, and in service. -/
def stewardTakes (source : Nat) (s : State) : State := { s with ic := { s.ic with
  pendSteward := s.ic.pendSteward &&& ~~~ srcBit source
  insvcSteward := s.ic.insvcSteward ||| srcBit source } }

theorem stewardInterrupt_of_due {source : Nat} (hsteward : isSteward sh = true) (hjob : (getSh s sh).job = some j)
    (hruns : shuttleRuns s sh = true) (htrap : (getSh s sh).trapping = false)
    (hrpt : (getSh s sh).rpta = true → (getSh s sh).rpti = true) (hdue : stewardDue s source = true) :
    stewardInterrupt sh source s = takeTrap sh cInterrupt source
      { head := (kFetch s sh j (getSh s sh).pc).getD 0, pc := (getSh s sh).pc
        len := (lengthAt s sh j (getSh s sh).pc).getD 0, after := (getSh s sh).pc } 0 true
      (interruptReturn (getSh s sh)) (stewardTakes source s) := by
  have hopen : ((getSh s sh).rpta && !(getSh s sh).rpti) = false := by
    cases hrpta : (getSh s sh).rpta with
    | false => rfl
    | true => rw [hrpt hrpta]; rfl
  simp only [stewardInterrupt, hjob, hsteward, hruns, htrap, hopen, hdue, Bool.not_true, Bool.or_self, Bool.false_eq_true,
    if_false, interruptReturn, stewardTakes]

end

section
variable {s : State} {n a : Nat}

theorem scrubberError_of_priv (hal : alive s = true) (hn : n < 192) (ha : a < 0x8000) :
    scrubberError 0 n a s = setSh n { getSh s n with priv := mset {} (getSh s n).priv a ⟨7, 0⟩ } s := by
  simp [scrubberError, hal, hn, ha]

theorem scrubberError_of_mailbox (hal : alive s = true) (hn : n < 192) (hlo : 0xE800 ≤ a) (hhi : a < 0xEB20) :
    scrubberError 1 n a s = setSh n { getSh s n with outMb := mset {} (getSh s n).outMb a ⟨7, 0⟩ } s := by
  simp [scrubberError, hal, hn, hlo, hhi]

theorem scrubberError_of_shared (hal : alive s = true) (hn : n < 24) (ha : a < 24576) :
    scrubberError 2 n a s = { s with cells := { s.cells with shared := mset {} s.cells.shared (n * 24576 + a) ⟨7, 0⟩ } } := by
  simp [scrubberError, hal, hn, ha]

end

/-- Settles O43: each row by the case of its function that its hypotheses name. -/
theorem jobStarts : Obligations.JobStarts := by
  unfold Obligations.JobStarts
  refine ⟨?applet, ?steward, fun _ _ _ => rfl, ?served, ?unserved, ?busy, ?one, ?two, ?none, ?ledger, ?budget, ?interrupt,
    ?priv, ?mailbox, ?shared⟩
  case applet =>
    intro s h i c bank entry hal hh hi hin hfree hrun happlet hc hjob
    rw [exec_jobStart, serve_alive hal, jobStart_of_applet hh hi hin hfree hrun happlet hc hjob]
  case steward =>
    intro s h i c hal hh hi hin hfree hrun hsteward hc
    rw [exec_jobStart, serve_alive hal, jobStart_of_steward hh hi hin hfree hrun hsteward hc]
  case served =>
    intro c hcls
    simp [served, hcls]
  case unserved => exact fun s op id c f hc hserved => onCmd_of_unserved f hc hserved
  case busy =>
    intro s h i hal hbusy
    rw [exec_jobStart, serve_alive hal, jobStart_of_busy hbusy]
  case one =>
    intro s h r k a hal hone
    rw [exec_lockGrant, serve_alive hal, lockGrant_of_one hone]
  case two =>
    intro s h r k a b hal htwo ha hb da db hda hdb
    rw [exec_lockGrant, serve_alive hal, lockGrant_of_two htwo ha hb hda hdb]
  case none =>
    intro s h r k hal hnone
    rw [exec_lockGrant, serve_alive hal, lockGrant_of_none hnone]
  case ledger =>
    intro s sh j hal hjob hbusy
    rw [exec_lrReadDone, serve_alive hal, lrReadDone_of_busy hjob hbusy]
  case budget =>
    intro s sh j hal hjob happlet hspent
    rw [exec_cycleBudgetExhausted, serve_alive hal, budgetOut_of_spent hjob happlet hspent]
  case interrupt =>
    intro s sh source j hal hsteward hjob hruns htrap hrpt hdue
    rw [exec_stewardInterrupt, serve_alive hal, stewardInterrupt_of_due hsteward hjob hruns htrap hrpt hdue]
    rfl
  case priv =>
    intro s n a hal hn ha
    rw [exec_scrubberError, scrubberError_of_priv hal hn ha]
  case mailbox =>
    intro s n a hal hn hlo hhi
    rw [exec_scrubberError, scrubberError_of_mailbox hal hn hlo hhi]
  case shared =>
    intro s h a hal hh ha
    rw [exec_scrubberError, scrubberError_of_shared hal hh ha]

end Sys2Proof.Machine
end

section
/-! Karef computations: each gives what the same operation gives on words of 16 bits. -/

namespace Sys2Proof.Machine

section
variable (a b : BitVec 16)

/-! ### Words as signed numbers -/

@[simp] theorem sgn_toNat : sgn a.toNat = a.toInt := by
  rw [sgn, BitVec.toInt_eq_toNat_cond]
  split <;> omega

@[simp] theorem toWord_toInt : toWord a.toInt = a.toNat :=
  (BitVec.toNat_ofInt a.toInt).symm.trans (congrArg BitVec.toNat BitVec.ofInt_toInt)

/-- A signed number is narrowed to the word whose value it has modulo 65,536. -/
theorem toWord_of_toInt {a : BitVec 16} {i : Int} (h : a.toInt = i.bmod (2 ^ 16)) : toWord i = a.toNat := by
  rw [← toWord_toInt, h]
  exact congrArg Int.toNat Int.bmod_emod.symm

/-! ### Sums, differences and products (R244) -/

theorem aluAdd_val : (aluAdd a.toNat b.toNat).val = (a + b).toNat := (BitVec.toNat_add a b).symm

theorem aluSub_val : (aluSub a.toNat b.toNat).val = (a - b).toNat := by
  simp only [aluSub, BitVec.toNat_sub]
  omega

theorem aluAdd_v : (aluAdd a.toNat b.toNat).v = decide (a.toInt + b.toInt < -32768 ∨ 32767 < a.toInt + b.toInt) := by
  simp only [aluAdd, sgn_toNat, overflows]

theorem aluSub_v : (aluSub a.toNat b.toNat).v = decide (a.toInt - b.toInt < -32768 ∨ 32767 < a.toInt - b.toInt) := by
  simp only [aluSub, sgn_toNat, overflows]

theorem aluNeg_val : (aluNeg a.toNat).val = (-a).toNat := (BitVec.toNat_neg a).symm

theorem aluMul_val : (aluMul a.toNat b.toNat).val = (a * b).toNat := (BitVec.toNat_mul a b).symm

theorem aluMulhu_val : (aluMulhu a.toNat b.toNat).val = a.toNat * b.toNat / 65536 := by
  have hprod : a.toNat * b.toNat < 65536 * 65536 := Nat.mul_lt_mul'' a.isLt b.isLt
  exact Nat.mod_eq_of_lt (Nat.div_lt_of_lt_mul hprod)

/-! ### Quotients and remainders (R244) -/

theorem quotS_toNat : quotS a.toNat b.toNat = a.toInt.tdiv b.toInt := by
  rw [quotS, sgn_toNat, sgn_toNat]

theorem aluDivu_val : (aluDivu a.toNat b.toNat).val = (a / b).toNat := BitVec.toNat_udiv.symm

theorem aluRemu_val : (aluRemu a.toNat b.toNat).val = (a % b).toNat := BitVec.toNat_umod.symm

theorem aluDivs_val : (aluDivs a.toNat b.toNat).val = (a.sdiv b).toNat := by
  rw [aluDivs, quotS_toNat]
  exact toWord_of_toInt (BitVec.toInt_sdiv a b)

theorem aluRems_val : (aluRems a.toNat b.toNat).val = (a.srem b).toNat := by
  rw [aluRems, quotS_toNat, sgn_toNat, sgn_toNat, ← Int.tmod_def, ← BitVec.toInt_srem]
  exact toWord_toInt _

/-! ### Logic (R245) -/

theorem aluAnd_val : (aluAnd a.toNat b.toNat).val = (a &&& b).toNat := (BitVec.toNat_and a b).symm
theorem aluOr_val : (aluOr a.toNat b.toNat).val = (a ||| b).toNat := (BitVec.toNat_or a b).symm
theorem aluXor_val : (aluXor a.toNat b.toNat).val = (a ^^^ b).toNat := (BitVec.toNat_xor a b).symm

theorem aluNot_val : (aluNot a.toNat).val = (~~~a).toNat := by
  rw [BitVec.toNat_not]
  rfl

theorem aluAndn_val : (aluAndn a.toNat b.toNat).val = (a &&& ~~~b).toNat := by
  rw [BitVec.toNat_and, BitVec.toNat_not]
  rfl

/-! ### Shifts (R245) -/

theorem aluLsl_val (n : Nat) : (aluLsl a.toNat n).val = (a <<< (n % 32)).toNat := by
  rw [BitVec.toNat_shiftLeft, Nat.shiftLeft_eq]
  rfl

theorem aluLsr_val (n : Nat) : (aluLsr a.toNat n).val = (a >>> (n % 32)).toNat := by
  rw [BitVec.toNat_ushiftRight, Nat.shiftRight_eq_div_pow]
  rfl

theorem aluAsr_val (n : Nat) : (aluAsr a.toNat n).val = (a.sshiftRight (n % 32)).toNat := by
  rw [← toWord_toInt (a.sshiftRight _), BitVec.toInt_sshiftRight, Int.shiftRight_eq_div_pow, ← sgn_toNat,
    Int.natCast_pow]
  rfl

/-! ### Rotations (R245) -/

/-- The bits that leave a word at its top come in below those that stay. -/
theorem rotl_toNat {k : Nat} (hk : k < 16) : rotl a.toNat k = (a.rotateLeft k).toNat := by
  have hlow : a.toNat / 2 ^ (16 - k) < 2 ^ k := by
    rw [Nat.div_lt_iff_lt_mul (Nat.two_pow_pos _), ← Nat.pow_add, Nat.add_sub_cancel' (Nat.le_of_lt hk)]
    exact a.isLt
  have hfits : a.toNat / 2 ^ (16 - k) < 2 ^ 16 := Nat.lt_of_le_of_lt (Nat.div_le_self _ _) a.isLt
  rw [BitVec.toNat_rotateLeft, Nat.mod_eq_of_lt hk, Nat.shiftRight_eq_div_pow, rotl, ← Nat.shiftLeft_eq,
    Nat.shiftLeft_add_eq_or_of_lt hlow, show 65536 = 2 ^ 16 from rfl, Nat.or_mod_two_pow, Nat.mod_eq_of_lt hfits]

/-- To the right by k is to the left by what k lacks of 16. -/
theorem rotateRight_eq_rotateLeft {k : Nat} (hk : k < 16) : a.rotateRight k = a.rotateLeft ((16 - k) % 16) := by
  rw [BitVec.rotateRight_def, BitVec.rotateLeft_def]
  rcases Nat.eq_zero_or_pos k with rfl | hpos
  · simp [BitVec.ushiftRight_eq_zero (Nat.le_refl 16)]
  · rw [Nat.mod_eq_of_lt hk, Nat.mod_mod, Nat.mod_eq_of_lt (show 16 - k < 16 by omega),
      Nat.sub_sub_self (Nat.le_of_lt hk)]
    exact BitVec.or_comm _ _

theorem shCount_mod (n : Nat) : shCount n % 16 = n % 16 := Nat.mod_mod_of_dvd n (by decide)

theorem aluRol_val (n : Nat) : (aluRol a.toNat n).val = (a.rotateLeft (n % 16)).toNat := by
  rw [← rotl_toNat a (Nat.mod_lt n (by decide)), ← shCount_mod]
  rfl

theorem aluRor_val (n : Nat) : (aluRor a.toNat n).val = (a.rotateRight (n % 16)).toNat := by
  rw [rotateRight_eq_rotateLeft a (Nat.mod_lt n (by decide)), ← rotl_toNat a (Nat.mod_lt _ (by decide)), aluRor,
    shCount_mod]

end

/-- Settles O53: result by result and flag by flag; the carries are the model's own comparisons. -/
theorem karefArithmetic : Obligations.KarefArithmetic := by
  unfold Obligations.KarefArithmetic
  intro a b
  exact ⟨aluAdd_val a b, aluSub_val a b, aluAdd_v a b, aluSub_v a b, rfl, rfl, aluNeg_val a, aluMul_val a b, aluMulhu_val a b,
    fun _ => ⟨aluDivu_val a b, aluRemu_val a b, aluDivs_val a b, aluRems_val a b⟩,
    aluAnd_val a b, aluOr_val a b, aluXor_val a b, aluNot_val a, aluAndn_val a b,
    aluLsl_val a b.toNat, aluLsr_val a b.toNat, aluAsr_val a b.toNat, aluRol_val a b.toNat, aluRor_val a b.toNat⟩

end Sys2Proof.Machine
end

section
/-! ESUB on a steward shuttle: the channel takes a command word whose DUMMY field is CONSTANT, whatever was written (R329). -/

namespace Sys2Proof.Machine

/-! ### A steward that submits a cipher operation -/

/-- The steward's job, for a command of class M. -/
def stewardJob : Job :=
  { cmd := 1, kind := 3, realm := 1, bank := 0, entry := 0, deadline := 40, slot := 0, gen := 0, mode := 0, modeGen := 0
    codeLen := 64, blocks := [0], locks := 0, keys := [], regions := [], mbox := [] }

/-- The command, which the steward has taken. -/
def stewardCmd : Cmd :=
  { id := 1, fn := 0, pair := 0, words := [], cls := 3, admitAt := 0, deadline := 40, stewardAt := some 0 }

/-- Steward shuttle 0 at an ESUB on its loom's cipher channel: the head word, and the command word 0 as an immediate. -/
def stewardSubmitting : State := { State.reset with
  clk := { State.reset.clk with supply := true, running := true }
  cmds := { State.reset.cmds with admitted := [stewardCmd] }
  cells := { State.reset.cells with
    prog := [(0, 0x60 * 64 + 1 * 16 + 1), (1, 5 * 2048)], shuttles := [(0, { job := some stewardJob })] } }

/-- The ESUB, decoded. -/
def zeroEsub : Ins :=
  { head := 0x60 * 64 + 1 * 16 + 1, opc := 0x60, opn := 1, sz := 1, pc := 0
    ops := [{ spec := 5 * 2048, mode := 5, kind := 2 }], roles := [.src], len := 2, after := 2, cost := 2 }

theorem zeroEsub_staged : Staged stewardSubmitting 0 0 0x60 zeroEsub (beginK 0 0 0x60 stewardSubmitting) := by
  refine ⟨stewardJob, zeroEsub.ops, ⟨[1], 1, 2, fun _ => [.src]⟩, false, rfl, rfl, rfl, rfl, rfl, rfl, rfl, rfl, rfl, rfl, rfl,
    rfl, rfl, ?opns, ?szMax, ?loop, rfl, rfl, ?good, rfl, ?rpt, .inr rfl, rfl⟩
  case opns => exact List.mem_singleton_self 1
  case szMax => exact Nat.le_refl 1
  case loop => decide
  case good => decide
  case rpt => decide

/-- The command word that loom 0's steward cipher channel holds after a step. -/
def cipherCommand : Host.Outcome State Fault Refusal → Option Nat
  | .next t => some (getChan t true (shUnit 0) (shChan 0)).cmd
  | _ => none

/-- The model's ESUB sets the DUMMY field of the word that the steward wrote. -/
theorem cipherCommand_esub : cipherCommand (exec (.esub 0 0) stewardSubmitting) = some (setDummy true 0) := by
  decide +kernel

/-- Refutes O55: its clause on ESUB has the channel take the word as written on every shuttle, where a steward's word 0
becomes one whose DUMMY field is CONSTANT (R329). -/
theorem not_karefUnits : ¬ Obligations.KarefUnits := by
  unfold Obligations.KarefUnits
  rintro ⟨-, hesub, -⟩
  have hclaim := hesub stewardSubmitting 0 0 zeroEsub _ ⟨0, 0⟩ _ stewardJob zeroEsub_staged rfl rfl rfl _ rfl rfl _ rfl
  have hword := cipherCommand_esub
  rw [hclaim] at hword
  have hwritten : some 0 = some (setDummy true 0) := Eq.trans (by decide +kernel) hword
  exact absurd hwritten (by decide)

end Sys2Proof.Machine
end

section
/-! APPLET_ACTIVATE: its rows in their order, and the generation window that the third one asks about. -/

namespace Sys2Proof.Machine

theorem exec_appletActivate (id : Nat) (s : State) :
    exec (.appletActivate id) s = serve (onCmd 0x51 id appletActivate) s := rfl

/-! ### The rows of R271 -/

section
variable {s : State} {c : Cmd} {b g : Nat}

theorem appletActivate_of_other (hb : b = wd c.words 8 % 2) (hg : g = wd c.words 9 % 256)
    (hgen : loadedGen s c.fn b ≠ some g) : appletActivate c s = finish c sBadParam [] [] s := by
  subst hb hg
  rw [appletActivate, if_pos hgen]

theorem appletActivate_of_active (hb : b = wd c.words 8 % 2) (hg : g = wd c.words 9 % 256)
    (hgen : loadedGen s c.fn b = some g) (hact : (realmRow s c.fn).active = some b) :
    appletActivate c s = finish c sOkAlready [g] [] s := by
  subst hb hg
  rw [appletActivate, if_neg (not_not_intro hgen), if_pos hact]

theorem appletActivate_of_behind (hb : b = wd c.words 8 % 2) (hg : g = wd c.words 9 % 256)
    (hgen : loadedGen s c.fn b = some g) (hact : (realmRow s c.fn).active ≠ some b)
    (hbad : genWindowBad s.led.agCount c.fn g = true) : appletActivate c s = finish c sSlotState [] [] s := by
  subst hb hg
  rw [appletActivate, if_neg (not_not_intro hgen), if_neg hact, if_pos hbad]

theorem appletActivate_of_taken (hb : b = wd c.words 8 % 2) (hg : g = wd c.words 9 % 256)
    (hgen : loadedGen s c.fn b = some g) (hact : (realmRow s c.fn).active ≠ some b)
    (hgood : genWindowBad s.led.agCount c.fn g = false) : appletActivate c s =
      finish (withJsn c (nextJsn s)) sOk [g] [] (append (realmEntry 6 c.fn [b, g] (cOrigin c) sOk) s) := by
  subst hb hg
  rw [appletActivate, if_neg (not_not_intro hgen), if_neg hact, if_neg (Bool.eq_false_iff.mp hgood), finishJ]

end

/-- R43: a generation is refused for a counted record whose own generation lies more than 127 behind it. -/
theorem genWindowBad_iff (m : KMap Nat) (realm g : Nat) : genWindowBad m realm g = true ↔
    ∃ h, h < 256 ∧ 0 < mget 0 m (realm * 256 + h) ∧ 127 < (g + 256 - h) % 256 := by
  simp only [genWindowBad, List.any_eq_true, List.mem_range, decide_eq_true_eq]

/-- Settles O27: each row of R271 where those before it do not apply, and the window as R43 gives it. -/
theorem activateOutcomes : Obligations.ActivateOutcomes := by
  unfold Obligations.ActivateOutcomes
  refine ⟨fun s id c b g hc hb hg => ?rows, fun m realm g _ => genWindowBad_iff m realm g⟩
  case rows =>
    rw [exec_appletActivate, serve_onCmd hc]
    refine ⟨fun hgen => ?other, fun hgen hact => ?active, fun hgen hact hbad => ?behind, fun hgen hact hgood => ?taken⟩
    case other => rw [appletActivate_of_other hb hg hgen]
    case active => rw [appletActivate_of_active hb hg hgen hact]
    case behind => rw [appletActivate_of_behind hb hg hgen hact hbad]
    case taken => rw [appletActivate_of_taken hb hg hgen hact hgood]

end Sys2Proof.Machine
end

section
/-! The key commands: the four operations of KEY_UPDATE, KEY_INFO, KEY_RETIRE and ATTEST. -/

namespace Sys2Proof.Machine

/-! ### The rows of the key commands -/

theorem exec_assign (id : Nat) (s : State) : exec (.assign id) s = serve (onCmd 0x40 id (keyUpdate 1)) s := rfl
theorem exec_install (id : Nat) (s : State) : exec (.install id) s = serve (onCmd 0x40 id (keyUpdate 2)) s := rfl
theorem exec_promote (id : Nat) (s : State) : exec (.promote id) s = serve (onCmd 0x40 id (keyUpdate 3)) s := rfl
theorem exec_attrs (id : Nat) (s : State) : exec (.attrs id) s = serve (onCmd 0x40 id (keyUpdate 4)) s := rfl
theorem exec_keyInfo (id : Nat) (s : State) : exec (.keyInfo id) s = serve (onCmd 0x41 id keyInfo) s := rfl
theorem exec_attest (id : Nat) (s : State) : exec (.attest id) s = serve (onCmd 0x42 id attest) s := rfl
theorem exec_keyRetire (id : Nat) (s : State) : exec (.keyRetire id) s = serve (onCmd 0x43 id keyRetire) s := rfl

/-! ### A slot's change and the slot after a message (R306, R314) -/

/-- R314: the image is written before the entry, whose JSN it does not move. -/
@[simp] theorem changeSlot_fst (action n : Nat) (new : KeySlot) (o : Origin) (s : State) :
    (changeSlot action n new o s).1 = nextJsn s := rfl

@[simp] theorem nextJsn_drawBytes (use n : Nat) (s : State) : nextJsn (drawBytes use n s).2 = nextJsn s := rfl

section
variable {s : State} {u : UpdMsg}

theorem updatedSlot_of_assign (mask : List Byte) (hop : u.op = 1) : updatedSlot s u mask =
    { state := ksAssigned, family := u.family, realm := u.realm, counter := u.counter } := by
  simp only [updatedSlot, hop]

theorem updatedSlot_of_promote (mask : List Byte) (hop : u.op = 3) : updatedSlot s u mask =
    { slotNow s u.slot with counter := u.counter } := by
  simp only [updatedSlot, hop]

theorem updatedSlot_of_attrs (mask : List Byte) (hop : u.op = 4) : updatedSlot s u mask =
    { slotNow s u.slot with attr := u.attr + 1, counter := u.counter } := by
  simp only [updatedSlot, hop]

end

/-! ### KEY_UPDATE (R306) -/

section
variable {s : State} {c : Cmd} {m : List Byte} {u : UpdMsg}

/-- What a message changes: its slot and the journal, with the reply held (R314, R447). -/
def updateTaken (c : Cmd) (u : UpdMsg) (k : KeySlot) (s : State) : State :=
  updateEnd (withJsn c (changeSlot u.op u.slot k (cOrigin c) s).1) sOk (k.keyGen :: leNats 2 k.counter)
    (changeSlot u.op u.slot k (cOrigin c) s).2

theorem keyUpdate_of_malformed {op : Nat} (hin : inData c 0 = some m) (hm : parseUpdate m = none) (hop : msgNat m 3 1 = op) :
    keyUpdate op c s = finish c sBadParam [] [] s := by
  simp only [keyUpdate, hin, hm]
  rw [if_neg fun ⟨_, _, hne⟩ => hne hop]

/-- R306: a message of a row's own OP for a slot whose earlier change is committed. -/
theorem keyUpdate_of_parsed {op : Nat} (hin : inData c 0 = some m) (hm : parseUpdate m = some u)
    (hfree : slotPending s u.slot = false) (hop : u.op = op) : keyUpdate op c s =
      if updateOk s c u = true then
        if u.op = 3 ∧ genWindowBad s.led.kgCount u.realm (u.keyGen % 256) = true then updateEnd c sSlotState [] s
        else if u.op = 2 then
          updateTaken c u (updatedSlot (drawBytes 0x30 64 s).2 u (drawBytes 0x30 64 s).1) (drawBytes 0x30 64 s).2
        else updateTaken c u (updatedSlot s u []) s
      else updateEnd c sNotPermitted [] s := by
  subst hop
  simp only [keyUpdate, hin, hm]
  rw [if_neg (by simp [hfree])]
  cases updateOk s c u with
  | false => rfl
  | true =>
    rw [if_neg (by decide), if_pos rfl]
    congr 1
    by_cases hinst : u.op = 2
    · rw [if_pos hinst, if_pos hinst]
      rfl
    · rw [if_neg hinst, if_neg hinst]
      rfl

end

/-! ### KEY_INFO, KEY_RETIRE and ATTEST (R307, R318) -/

section
variable {s : State} {c : Cmd}

/-- R307: function 0 is shown every slot, and with no change pending the reply waits for no frame of the slot. -/
theorem keyInfo_of_management (hfn : c.fn = 0) (hpend : s.keys.pend = []) : keyInfo c s =
    finish (needs c 0) sOk ([(slotNow s (wd c.words 8 % 1024)).attr, slotDesc (slotNow s (wd c.words 8 % 1024)),
      (slotNow s (wd c.words 8 % 1024)).keyGen] ++ leNats 2 (slotNow s (wd c.words 8 % 1024)).counter ++
      [(slotNow s (wd c.words 8 % 1024)).keyBits]) [] s := by
  simp only [keyInfo, hpend, List.find?_nil]
  rw [if_neg fun ⟨hne, _⟩ => hne hfn, if_neg fun ⟨hne, _⟩ => hne hfn]

theorem keyRetire_of_foreign {n : Nat} (hn : n = wd c.words 8 % 1024) (hfree : slotPending s n = false)
    (hfn : c.fn ≠ (slotNow s n).realm) : keyRetire c s = finish c sNotPermitted [] [] s := by
  simp only [keyRetire, ← hn]
  rw [if_neg (by simp [hfree]), if_pos (.inl hfn)]

/-- R307: only a LIVE slot is held by the records that were issued under it. -/
theorem retireHeld_of_assigned {k : KeySlot} (h : k.state = ksAssigned) : retireHeld s k = false := by
  simp [retireHeld, h, ksAssigned, ksLive]

theorem keyRetire_of_assigned {n : Nat} (hn : n = wd c.words 8 % 1024) (hfree : slotPending s n = false)
    (hfn : c.fn = (slotNow s n).realm) (hstate : (slotNow s n).state = ksAssigned)
    (hctr : (slotNow s n).counter = pairAt c.words 9) (hmax : pairAt c.words 9 ≠ 0xFFFFFFFF)
    (hkek : kekOf s (slotNow s n).realm ≠ some n) : keyRetire c s =
      finish (withJsn c (nextJsn s)) sOk [0x2000] [] (changeSlot 5 n { slotNow s n with
        state := (if pairAt c.words 9 + 1 = 0xFFFFFFFF then ksSaturated else ksRetired), attr := 0x2000
        keyBits := 0, counter := pairAt c.words 9 + 1, share := [], mask := [] } (cOrigin c) s).2 := by
  simp only [keyRetire, ← hn]
  rw [if_neg (by simp [hfree]), if_neg (by simp [hfn, hstate, hctr, hmax, hkek]),
    if_neg (by simp [retireHeld_of_assigned hstate])]
  rfl

theorem attest_of_derived (h : s.keys.attestIn = true) {mid : List Byte}
    (hmid : mid = wordBytes ((c.words.drop 8).take 8) ++ Config.deviceId ++ capHash s) : attest c s =
      finish c sOk [100] (outTo c 0
        ([1] ++ beBytes 1 s.glb.lifecycle ++ [0, 0] ++ mid ++ hmac256 attestKey (mid ++ beBytes 1 s.glb.lifecycle))) s := by
  rw [attest, if_neg (by simp [h]), hmid]

end

/-- Settles O17: each operation of KEY_UPDATE gives its slot as `updatedSlot` says for its OP, and the other rows take
the case of their function that the hypotheses name. -/
theorem keyCommands : Obligations.KeyCommands := by
  unfold Obligations.KeyCommands
  refine ⟨fun s id c m u hc hin hm hfree => ⟨?assign, ?install, ?promote, ?attrs⟩, ?malformed, ?info, ?retire, ?attest⟩
  case assign =>
    intro hop
    rw [exec_assign, serve_onCmd hc, keyUpdate_of_parsed hin hm hfree hop, updatedSlot_of_assign [] hop]
    simp only [updateTaken, changeSlot_fst, hop, Nat.reduceEqDiff, false_and, if_false]
  case install =>
    rintro _ _ hop rfl rfl
    rw [exec_install, serve_onCmd hc, keyUpdate_of_parsed hin hm hfree hop]
    simp only [updateTaken, changeSlot_fst, hop, Nat.reduceEqDiff, false_and, if_false, if_true, nextJsn_drawBytes]
  case promote =>
    intro hop
    rw [exec_promote, serve_onCmd hc, keyUpdate_of_parsed hin hm hfree hop, updatedSlot_of_promote [] hop]
    simp only [updateTaken, changeSlot_fst, hop, Nat.reduceEqDiff, true_and, if_false]
  case attrs =>
    intro hop
    rw [exec_attrs, serve_onCmd hc, keyUpdate_of_parsed hin hm hfree hop, updatedSlot_of_attrs [] hop]
    simp only [updateTaken, changeSlot_fst, hop, Nat.reduceEqDiff, false_and, if_false]
  case malformed =>
    intro s id c m hc hin hm hop
    rw [exec_assign, serve_onCmd hc, keyUpdate_of_malformed hin hm hop]
  case info =>
    rintro s id c _ hc hfn rfl _ hpend
    rw [exec_keyInfo, serve_onCmd hc, keyInfo_of_management hfn hpend]
  case retire =>
    rintro s id c _ n hc hn rfl hfree
    rw [exec_keyRetire, serve_onCmd hc]
    refine ⟨fun hfn => ?_, fun hfn hstate hctr hmax hkek => ?_⟩
    · rw [keyRetire_of_foreign hn hfree hfn]
    · rw [keyRetire_of_assigned hn hfree hfn hstate hctr hmax hkek]
  case attest =>
    intro s id c hc hin mid hmid
    rw [exec_attest, serve_onCmd hc, attest_of_derived hin hmid]

end Sys2Proof.Machine
end

section
/-! The key bus, and the key store's background work: re-masking, the generator's health tests and re-enrolment. -/

namespace Sys2Proof.Machine

/-! ### The rows of the key store -/

theorem exec_keyDelivery (s : State) : exec .keyDelivery s = serve keyDelivery s := rfl
theorem exec_drbgHealthFailure (s : State) : exec .drbgHealthFailure s = serve drbgFail s := rfl
theorem exec_remaskStep (dt : Nat) (s : State) : exec (.remaskStep dt) s = lapseServe dt remaskStep s := rfl
theorem exec_reenrol (dt : Nat) (cells : List Byte) (s : State) :
    exec (.reenrol dt cells) s = lapseServe dt (reenrol cells) s := rfl

/-! ### Deliveries (R310) -/

@[simp] theorem getSg_count (evt qual g : Nat) (s : State) : getSg (count evt qual s) g = getSg s g := by
  simp [getSg, count]

section
variable {s : State} {r : KeyReq} {rs : List KeyReq}

/-- The oldest request has left the bus, and the random pair of a denial is drawn in any case. -/
def requestTaken (rs : List KeyReq) (s : State) : State :=
  { s with keys := { s.keys with reqs := rs }, free := s.free + 1 }

theorem keyDelivery_of_idle (h : s.keys.reqs = []) : keyDelivery s = s := by
  simp only [keyDelivery, h, ite_self]

theorem keyDelivery_of_granted (hopen : s.keys.busOpen = true) (hreqs : s.keys.reqs = r :: rs) (heng : r.eng = 2)
    (hok : keyUsable s r = true) : keyDelivery s = setSg r.unit { getSg s r.unit with
      keyWait := false, denied := false, key := slotKey (reqSlot s r), keyKind := (reqSlot s r).kind }
      (count 0x0D 0 (requestTaken rs s)) := by
  have hsg : getSg (count 0x0D 0 (requestTaken rs s)) r.unit = getSg s r.unit := getSg_count ..
  rw [keyDelivery, if_neg (by simp [hopen])]
  simp only [hreqs, hok, heng, if_true, Bool.not_true]
  rw [← hsg]
  rfl

theorem keyDelivery_of_denied (hopen : s.keys.busOpen = true) (hreqs : s.keys.reqs = r :: rs) (heng : r.eng = 2)
    (hbad : keyUsable s r = false) : keyDelivery s = setSg r.unit { getSg s r.unit with
      keyWait := false, denied := true, key := (drawBytes 0x21 64 s).1.take 32, keyKind := (reqSlot s r).kind
      denials := satInc (getSg s r.unit).denials 0xFFFF }
      { count 0x0D 1 (requestTaken rs s) with keys := { (count 0x0D 1 (requestTaken rs s)).keys with
        denied := satInc (count 0x0D 1 (requestTaken rs s)).keys.denied 0xFFFFFFFF } } := by
  have hsg : getSg (count 0x0D 1 (requestTaken rs s)) r.unit = getSg s r.unit := getSg_count ..
  rw [keyDelivery, if_neg (by simp [hopen])]
  simp only [hreqs, hbad, heng, if_true, Bool.not_false, Bool.false_eq_true, if_false]
  rw [← hsg]
  rfl

/-- R308: what a grant asks of the slot, each condition on its own. -/
theorem keyUsable_iff {n : Nat} (hslot : r.slot = some n) : keyUsable s r = true ↔
    (slotBus s n).state = ksLive ∧ (slotBus s n).realm = r.realm ∧ (slotBus s n).attr &&& r.attrs = r.attrs ∧
    (slotBus s n).kind ∈ r.kinds ∧
    ¬((slotBus s n).kind = 2 ∧ (slotBus s n).family < 15 ∧ r.attrs &&& (aMacg + aMacv) ≠ 0 ∧ r.attrs &&& aDerive = 0) := by
  simp only [keyUsable, hslot, hasAttrs, Bool.and_eq_true, Bool.not_eq_true', ← Bool.not_eq_true, decide_eq_true_eq,
    beq_iff_eq, List.contains_iff_mem, and_assoc]

theorem reqSlot_of_slot {n : Nat} (hslot : r.slot = some n) : reqSlot s r = slotBus s n := by
  simp only [reqSlot, hslot]

end

/-! ### Re-masking (R309) -/

section
variable {s : State}

theorem remaskStep_of_bare (hopen : s.keys.busOpen = true) (hok : s.keys.drbgOk = true) (hlt : s.keys.remaskNext < 1023)
    (hstate : (slotBus s s.keys.remaskNext).state ≠ ksLive) :
    remaskStep s = { s with keys := { s.keys with remaskNext := s.keys.remaskNext + 1 } } := by
  have hmod : s.keys.remaskNext % 1024 = s.keys.remaskNext := Nat.mod_eq_of_lt (by omega)
  simp only [remaskStep, hmod]
  rw [if_neg (by simp [hopen, hok]), if_neg hstate, if_neg (by omega)]

theorem remaskStep_of_live (hopen : s.keys.busOpen = true) (hok : s.keys.drbgOk = true) (hlt : s.keys.remaskNext < 1023)
    (hstate : (slotBus s s.keys.remaskNext).state = ksLive) : remaskStep s = { s with
      free := s.free + 1
      keys := { s.keys with
        slots := mset {} s.keys.slots s.keys.remaskNext (masked (slotBus s s.keys.remaskNext)
          (xorBytes (slotBus s s.keys.remaskNext).share (slotBus s s.keys.remaskNext).mask) (drawBytes 0x31 64 s).1)
        remaskNext := s.keys.remaskNext + 1 } } := by
  have hmod : s.keys.remaskNext % 1024 = s.keys.remaskNext := Nat.mod_eq_of_lt (by omega)
  simp only [remaskStep, hmod]
  rw [if_neg (by simp [hopen, hok]), if_pos hstate, if_neg (by omega)]
  rfl

/-! ### Re-enrolment (R293) -/

theorem reenrol_of_barred (cells : List Byte) (h : reenrolMay s = false) :
    reenrol cells s = { s with keys := { s.keys with reenrolReads := [] } } := by
  rw [reenrol, if_pos (by simp [h])]

theorem reenrol_of_early (cells : List Byte) (h : reenrolMay s = true) (hreads : s.keys.reenrolReads ≠ [])
    (hsoon : s.now < s.keys.reenrolAt + 1000) : reenrol cells s = s := by
  rw [reenrol, if_neg (by simp [h]), if_pos (by simp [hreads, hsoon])]

/-- R293: the first reading waits for nothing, each later one for 1 ms after the one before. -/
theorem reenrol_not_early (h : s.keys.reenrolReads = [] ∨ s.keys.reenrolAt + 1000 ≤ s.now) :
    (!s.keys.reenrolReads.isEmpty && decide (s.now < s.keys.reenrolAt + 1000)) = false := by
  rcases h with h | h
  · simp [h]
  · simp [Nat.not_lt.mpr h]

theorem reenrol_of_reading (cells : List Byte) (h : reenrolMay s = true) (hlt : s.keys.reenrolReads.length < 31)
    (hdue : s.keys.reenrolReads = [] ∨ s.keys.reenrolAt + 1000 ≤ s.now) : reenrol cells s =
      { s with keys := { s.keys with reenrolReads := cells :: s.keys.reenrolReads, reenrolAt := s.now } } := by
  rw [reenrol, if_neg (by simp [h]), if_neg (by simp [reenrol_not_early hdue]), if_pos hlt]

theorem reenrol_of_last (cells : List Byte) (h : reenrolMay s = true) (hle : 31 ≤ s.keys.reenrolReads.length)
    (hdue : s.keys.reenrolAt + 1000 ≤ s.now) : reenrol cells s =
      reenrolEnd s.keys.reenrolReads cells { s with keys := { s.keys with reenrolReads := [] } } := by
  rw [reenrol, if_neg (by simp [h]), if_neg (by simp [reenrol_not_early (.inr hdue)]), if_neg (by omega)]

/-- R293: the older copy takes the new helper data one generation on, unless the 32nd reading does not regenerate the
secret. -/
theorem reenrolEnd_keys {reads : List (List Byte)} {cells offset stable : List Byte} {n : Nat} (hn : n = helperFirst s)
    (hstable : stable = packCells ((cellOnes reads).map (fun k => decide (min k (31 - k) ≤ 2))))
    (hoffset : offset = codeOffset Config.rootSecret (packCells ((cellOnes reads).map (fun k => decide (16 ≤ k)))) stable) :
    (reenrolEnd reads cells s).keys =
      if checkOf (regenerate cells offset stable) ≠ checkOf Config.rootSecret then { s.keys with reenrolHeld := true }
      else
        { (if n = 0 then { s.keys with
              helperB := some (helperBytes s 1 ((helperRead s 0).gen + 1) offset stable (checkOf Config.rootSecret))
              helperOkB := true }
           else { s.keys with
              helperA := some (helperBytes s (1 - n) ((helperRead s n).gen + 1) offset stable (checkOf Config.rootSecret))
              helperOkA := true }) with
          reenrolCount := satInc s.keys.reenrolCount 0xFFFF, copyDue := true } := by
  simp only [reenrolEnd, ← hstable, ← hoffset, ← hn]
  by_cases hcheck : checkOf (regenerate cells offset stable) ≠ checkOf Config.rootSecret
  · rw [if_pos hcheck, if_pos hcheck]
  · rw [if_neg hcheck, if_neg hcheck]
    by_cases hzero : n = 0
    · subst hzero
      simp only [if_true]
    · simp only [if_neg hzero]

end

/-- Settles O45: each activity by the case of its function that its hypotheses name, and what a grant asks of the slot by
`keyUsable_iff`. -/
theorem keyBus : Obligations.KeyBus := by
  unfold Obligations.KeyBus
  refine ⟨?granted, ?denied, ?usable, ?derivation, ?idle, ?health, ?bare, ?live, ?reading, ?barred, ?ended⟩
  case granted =>
    intro s r rs hal hopen hreqs heng hok
    rw [exec_keyDelivery, serve_alive hal, keyDelivery_of_granted hopen hreqs heng hok, requestTaken]
  case denied =>
    intro s r rs hal hopen hreqs heng hbad
    refine ⟨_, rfl, count 0x0D 1 (requestTaken rs s), rfl, ?_⟩
    rw [exec_keyDelivery, serve_alive hal, keyDelivery_of_denied hopen hreqs heng hbad]
  case usable =>
    rintro s r ⟨n, hslot⟩ hok
    obtain ⟨hstate, hrealm, hattr, hkind, _⟩ := (keyUsable_iff hslot).mp hok
    rw [reqSlot_of_slot hslot]
    exact ⟨hstate, hrealm, hattr, hkind⟩
  case derivation =>
    intro s r n hslot hkind hfamily hmac hderive
    refine Bool.eq_false_iff.mpr fun hok => ?_
    obtain ⟨_, _, _, _, hplain⟩ := (keyUsable_iff hslot).mp hok
    exact hplain ⟨hkind, hfamily, hmac, hderive⟩
  case idle =>
    intro s hal hnone
    rw [exec_keyDelivery, serve_alive hal, keyDelivery_of_idle hnone]
  case health =>
    intro s hal
    rw [exec_drbgHealthFailure, serve_alive hal, drbgFail]
  case bare =>
    rintro s dt _ rfl hal hopen hok hlt hstate
    rw [exec_remaskStep, lapseServe_alive hal, remaskStep_of_bare hopen hok hlt hstate]
  case live =>
    rintro s dt _ rfl hal hopen hok hlt hstate
    refine ⟨_, rfl, _, rfl, ?_⟩
    rw [exec_remaskStep, lapseServe_alive hal, remaskStep_of_live hopen hok hlt hstate]
  case reading =>
    rintro s dt cells _ rfl hal hmay
    rw [exec_reenrol, lapseServe_alive hal]
    refine ⟨fun hlt hdue => ?_, fun hreads hsoon => ?_, fun hle hdue => ?_⟩
    · rw [reenrol_of_reading cells hmay hlt hdue]
    · rw [reenrol_of_early cells hmay hreads hsoon]
    · rw [reenrol_of_last cells hmay hle hdue]
  case barred =>
    rintro s dt cells _ rfl hal hmay
    rw [exec_reenrol, lapseServe_alive hal, reenrol_of_barred cells hmay]
  case ended =>
    intro s reads cells n hn offset stable hstable hoffset
    exact reenrolEnd_keys hn hstable hoffset

end Sys2Proof.Machine
end

section
/-! The phases of the key store's start, and the start of firmware. -/

namespace Sys2Proof.Machine

@[simp] theorem phaseEnds_fws (p : Phase) (after : List Phase) (least most dt : Nat) (s : State) :
    (phaseEnds p after least most dt s).fws = s.fws := passTime_fws _ s

/-! ### Extract (R292) -/

/-- The copy that R292 uses where either regenerates: the first choice, or else the other. -/
theorem helperUse_eq {s : State} {n : Nat} (hn : n =
      if regenerates s.keys.pufCells (helperRead s (helperFirst s)) then helperFirst s else 1 - helperFirst s) :
    helperUse s = if regenerates s.keys.pufCells (helperRead s n) then some n else none := by
  cases hfirst : regenerates s.keys.pufCells (helperRead s (helperFirst s)) with
  | true =>
    obtain rfl : n = helperFirst s := by rw [hn, hfirst, if_pos rfl]
    simp only [helperUse, List.find?_cons, hfirst, if_true]
  | false =>
    obtain rfl : n = 1 - helperFirst s := by rw [hn, hfirst, if_neg (by decide)]
    simp only [helperUse, List.find?_cons, hfirst, List.find?_nil]
    cases regenerates s.keys.pufCells (helperRead s (1 - helperFirst s)) <;> rfl

/-! ### Derive (R295, R296) -/

/-- The device keys derived, with or without the ledger key. -/
def keysDerived (ledger : Bool) (t : State) : State :=
  { t with keys := { t.keys with deviceIn := true, attestIn := true, rootOk := true, ledgerIn := ledger } }

section
variable {s : State} {dt : Nat} {lost : List Nat} {t : State}

theorem derive_of_decommissioned (h : phaseDue s [.extract] .derive = true) (hlc : s.glb.lifecycle = lcDecommissioned)
    (ht : t = loseLedgerCopies lost (phaseEnds .derive [.extract] 0 300 dt s)) : derive dt lost s = keysDerived false t := by
  have hkeep : t.glb.lifecycle = lcDecommissioned := by rw [ht, loseLedgerCopies, phaseEnds_glb, hlc]
  rw [derive, phase_of_due h, ← ht]
  simp [hkeep, keysDerived]

theorem derive_of_usable (h : phaseDue s [.extract] .derive = true) (hlc : s.glb.lifecycle ≠ lcDecommissioned)
    (ht : t = loseLedgerCopies lost (phaseEnds .derive [.extract] 0 300 dt s)) : derive dt lost s =
      if (ledgerUnwraps t).isSome then keysDerived true t else alarm 0x21 0 3 0 (keysDerived false t) := by
  have hkeep : t.glb.lifecycle ≠ lcDecommissioned := by rwa [ht, loseLedgerCopies, phaseEnds_glb]
  rw [derive, phase_of_due h, ← ht]
  cases hled : (ledgerUnwraps t).isSome <;> simp [hkeep, hled, keysDerived]

end

/-! ### Firmware (R464) -/

/-- What the firmware phase asks of a slot. -/
def fwSlotOk (damaged : List Nat) (s : State) (n : Nat) : Bool :=
  (fwSlot s n).valid && fwHeadOk (fwSlot s n) && fwPartsOk n (fwSlot s n) && !damaged.contains n

section
variable {s : State} {dt : Nat} {damaged : List Nat}

theorem fwSlot_phaseEnds (p : Phase) (after : List Phase) (least most n : Nat) :
    fwSlot (phaseEnds p after least most dt s) n = fwSlot s n := by
  rw [fwSlot, phaseEnds_fws, fwSlot]

theorem startFirmware_of_both (hdue : phaseDue s [.derive] .firmware = true) (hfirst : fwSlotOk damaged s 0 = true)
    (hsecond : fwSlotOk damaged s 1 = true) : startFirmware dt damaged s =
      { phaseEnds .firmware [.derive] 0 15000 dt s with fws := { (phaseEnds .firmware [.derive] 0 15000 dt s).fws with
        running := if (fwSlot s 0).actSeq < (fwSlot s 1).actSeq then some 1 else some 0 } } := by
  rw [fwSlotOk] at hfirst hsecond
  rw [startFirmware, phase_of_due hdue]
  simp only [fwSlot_phaseEnds, hfirst, hsecond, Bool.and_self, if_true]
  by_cases hseq : (fwSlot s 0).actSeq < (fwSlot s 1).actSeq
  · simp only [if_pos hseq]
  · simp only [if_neg hseq]

theorem startFirmware_of_neither (hdue : phaseDue s [.derive] .firmware = true) (hfirst : fwSlotOk damaged s 0 = false)
    (hsecond : fwSlotOk damaged s 1 = false) : startFirmware dt damaged s =
      alarm 0x21 0 3 0 (logEvent 6 2 [1] (logEvent 6 2 [0] (phaseEnds .firmware [.derive] 0 15000 dt s))) := by
  rw [fwSlotOk] at hfirst hsecond
  rw [startFirmware, phase_of_due hdue]
  simp only [fwSlot_phaseEnds, hfirst, hsecond, Bool.and_self, Bool.false_eq_true, if_false]

end

/-! ### Release (R316, R337) -/

/-- A realm's context key is drawn. -/
def contextKeyDrawn (u : State) (r : Nat) : State := { (drawBytes 0x32 32 u).2 with
  keys := { (drawBytes 0x32 32 u).2.keys with
    ctxKeys := mset [] (drawBytes 0x32 32 u).2.keys.ctxKeys r (drawBytes 0x32 32 u).1 } }

/-- The key bus opens and the first re-mask pass begins. -/
def keyBusOpened (u : State) : State :=
  { u with keys := { u.keys with busOpen := true, remaskNext := 0, remaskAt := u.now } }

theorem release_eq (dt : Nat) (s : State) : release dt s =
    phase .release [.slots] 0 100 dt (fun t => keyBusOpened ((List.range 32).foldl contextKeyDrawn t)) s := rfl

/-- Settles O48: a due phase does its work after its time has passed (`exec_of_due`); the branch that the work takes is
the one that the lifecycle, the helper copies, the ledger key or the firmware slots give. -/
theorem keyPhases : Obligations.KeyPhases := by
  unfold Obligations.KeyPhases
  refine ⟨?entropy, ?pufRead, ?extract, ?derive, ?slotsDecommissioned, ?firmware, ?release, ?slots⟩
  case entropy =>
    intro s dt h hlc
    have hnot : ¬ (phaseEnds .entropy [.registers] 1000 4000 dt s).glb.lifecycle = lcDecommissioned := by
      rwa [phaseEnds_glb]
    rw [exec_of_due (exec_entropy dt true s) h, exec_of_due (exec_entropy dt false s) h, if_neg hnot]
    exact ⟨rfl, rfl⟩
  case pufRead =>
    intro s dt cells h
    exact exec_of_due (exec_pufRead dt cells s) h
  case extract =>
    rintro s dt h t ht _ _ rfl rfl n hn
    rw [exec_of_due (exec_extract dt s) h, ← ht]
    simp only [helperUse_eq hn]
    cases regenerates t.keys.pufCells (helperRead t n) <;> rfl
  case derive =>
    intro s dt lost h t ht
    rw [exec_derive]
    refine ⟨fun hlc => ?_, fun hlc => ?_⟩
    · rw [derive_of_usable h hlc ht, keysDerived, keysDerived]
    · rw [derive_of_decommissioned h hlc ht, keysDerived]
  case slotsDecommissioned =>
    intro s dt dmg h hlc
    rw [exec_of_due (exec_slots dt dmg s) h, if_pos (by rwa [phaseEnds_glb])]
  case firmware =>
    intro s dt h hvalid0 hvalid1 hhead0 hhead1 hparts0 hparts1
    rw [exec_startFirmware, exec_startFirmware,
      startFirmware_of_both h (by simp [fwSlotOk, hvalid0, hhead0, hparts0]) (by simp [fwSlotOk, hvalid1, hhead1, hparts1]),
      startFirmware_of_neither h (by simp [fwSlotOk]) (by simp [fwSlotOk])]
    exact ⟨rfl, rfl⟩
  case release =>
    intro s dt h
    refine ⟨(List.range 32).foldl contextKeyDrawn (phaseEnds .release [.slots] 0 100 dt s), rfl, ?_⟩
    rw [exec_release, release_eq, phase_of_due h, keyBusOpened]
  case slots =>
    intro s dt dmg h hlc
    refine ⟨_, rfl, _, rfl, ?_⟩
    rw [exec_of_due (exec_slots dt dmg s) h, if_neg (by rwa [phaseEnds_glb])]

end Sys2Proof.Machine
end

section
/-! The digest, cipher and signature engines: one block, the end of an operation, and a fault. -/

namespace Sys2Proof.Machine

/-! ### The rows of the engines -/

theorem exec_engineBlockDone (u : Nat) (ci : Bool) (s : State) :
    exec (.engineBlockDone u ci) s = serve (engineBlock u ci) s := rfl
theorem exec_engineOpDone (u : Nat) (ci : Bool) (ch : Nat) (s : State) :
    exec (.engineOpDone u ci ch) s = serve (engineOp u ci ch) s := rfl
theorem exec_engineClear (kind u ch : Nat) (s : State) :
    exec (.engineClear kind u ch) s = serve (engineClear kind u ch) s := rfl
theorem exec_signatureOpDone (g : Nat) (s : State) : exec (.signatureOpDone g) s = serve (signatureDone g) s := rfl

section
variable {s : State} {u ch : Nat} {ci : Bool}

/-! ### Blocks and operations of a channel (R323, R333, R340) -/

/-- The core has put one more block of a channel through. -/
def blockThrough (ci : Bool) (u k : Nat) (s : State) : State :=
  setChan ci u k { getChan s ci u k with blocks := (getChan s ci u k).blocks + 1 } s

theorem engineBlock_of_ready {k : Nat} (hruns : unitRuns s u = true) (hnext : nextBlock s ci u = some k) :
    engineBlock u ci s = setEng ci u { getEng (blockThrough ci u k s) ci u with
      blocks := satInc (getEng (blockThrough ci u k s) ci u).blocks 0xFFFFFFFF } (blockThrough ci u k s) := by
  rw [engineBlock, if_neg (by simp [hruns])]
  simp only [hnext, blockThrough]

theorem engineBlock_of_idle (hnext : nextBlock s ci u = none) : engineBlock u ci s = s := by
  simp only [engineBlock, hnext, ite_self]

/-- An operation with blocks still to come does not complete. -/
theorem engineOp_of_unfinished (hlt : (getChan s ci u ch).blocks < chanBlocks s ci (getChan s ci u ch)) :
    engineOp u ci ch s = s :=
  if_pos (by simp [hlt])

/-- A dispatcher's cipher operation whose blocks are all through is counted and goes to its command. -/
theorem engineOp_of_dispatched {id : Nat} (hruns : unitRuns s u = true) (hfree : chanFree true (getChan s true u ch) = true)
    (hfin : (getChan s true u ch).fin = true)
    (hle : chanBlocks s true (getChan s true u ch) ≤ (getChan s true u ch).blocks) (hu : u < 24)
    (hhost : (getChan s true u ch).host = some id) :
    engineOp u true ch s = dispCipherDone u ch id (getChan s true u ch) (setEng true u { getEng s true u with
      ops := satInc (getEng s true u).ops 0xFFFFFFFF
      blocks := min 0xFFFFFFFF ((getEng s true u).blocks + extraBlocks true (getChan s true u ch)) } (count 0x0C u s)) := by
  rw [engineOp, if_neg (by simp [hruns, hfree, hfin, hle])]
  simp only [hhost, if_pos hu, if_true]

/-! ### Faults (R345, R346) -/

theorem engineClear_of_digest (hu : u < 24) (hch : ch < 12) (hhost : (getChan s false u ch).host = none) :
    engineClear 0 u ch s = chanClear false u ch (alarm 0x10 (0x20 + u) 0 0
      (setEng false u { getEng s false u with clears := satInc (getEng s false u).clears 0xFFFF } s)) := by
  have hkind : decide (0 = 1) = false := rfl
  rw [engineClear, if_neg (by omega), if_neg (by omega)]
  simp only [hkind, hhost]

end

section
variable {s : State} {g : Nat} {j : SigJob}

/-- An idle signature engine has no operation that could run again. -/
theorem engineClear_of_idle_signature (ch : Nat) (hg : g < 8) (hidle : (getSg s g).cur = none) :
    engineClear 2 g ch s = setSg g { getSg s g with
      clears := satInc (getSg s g).clears 0xFFFF, keyWait := false, key := [], keyKind := 0 }
      (alarm 0x10 (0x10 + g / 2) 0 (Int.ofNat g) (keyDropReqs 2 g 0 s)) := by
  rw [engineClear, if_pos rfl, if_neg (Nat.not_le.mpr hg)]
  simp only [sigClear, hidle]

/-! ### The end of a signature operation (R324, R350) -/

theorem sigEnd_of_verify (hverify : j.verify = true) (denied ok : Bool) (sig : List Byte) (s : State) :
    sigEnd g j denied ok sig s = sigStart g (workDone j.cmd denied ok sig (setSg g { getSg s g with
      cur := none, key := [], keyKind := 0, denied := false
      verifies := satInc (getSg s g).verifies 0xFFFFFFFF
      rejects := if denied = false ∧ ok = false then satInc (getSg s g).rejects 0xFFFF else (getSg s g).rejects }
      (count 0x0C (0x20 + g) s))) := by
  simp only [sigEnd, hverify, Bool.true_or, Bool.true_and, Bool.and_eq_true, Bool.not_eq_true', if_true]

theorem sigEnd_of_signed (hsign : j.verify = false) (ok : Bool) (sig : List Byte) (s : State) :
    sigEnd g j false ok sig s = sigStart g (workDone j.cmd false ok sig (setSg g { getSg s g with
      cur := none, key := [], keyKind := 0, denied := false, signs := satInc (getSg s g).signs 0xFFFFFFFF }
      (count 0x0C (0x20 + g) s))) := by
  simp only [sigEnd, hsign, Bool.or_self, Bool.false_and, Bool.false_eq_true, if_false]

theorem sigEnd_of_denied (hsign : j.verify = false) (ok : Bool) (sig : List Byte) (s : State) :
    sigEnd g j true ok sig s = sigStart g (workDone j.cmd true ok sig (setSg g { getSg s g with
      cur := none, key := [], keyKind := 0, denied := false } (count 0x0C (0x20 + g) s))) := by
  simp only [sigEnd, hsign, Bool.or_true, Bool.false_and, Bool.false_eq_true, if_true, if_false]

/-! ### What a signature engine finds (R343) -/

theorem signatureDone_of_idle (hidle : (getSg s g).cur = none) : signatureDone g s = s := by
  simp only [signatureDone, hidle]

/-- R343: a signature found ends the operation; where the draws gave none, the engine is cleared. -/
def ecdsaEnd (g : Nat) (j : SigJob) (x : Option (List Byte) × State) : State :=
  match x.1 with
  | some b => sigEnd g j false true b x.2
  | none => sigClear g x.2

/-- With its key there and its loom in service, the engine verifies or signs, unless the key was denied. -/
theorem signatureDone_of_keyed (hcur : (getSg s g).cur = some j) (hkey : (getSg s g).keyWait = false)
    (hin : loomInService s (g / 2) = true) : signatureDone g s =
      if j.verify = true then sigEnd g j (getSg s g).denied
        (!(getSg s g).denied && sigCheck (getSg s g).keyKind (getSg s g).key j.prehashed j.msg j.sig) [] s
      else if (getSg s g).denied = true then sigEnd g j true true [] s
      else if j.alg = 2 then ecdsaEnd g j (ecSignature (beNat (getSg s g).key) (ecDigest j.prehashed j.msg) s)
      else sigEnd g j false true (edSign (getSg s g).key j.msg) s := by
  simp only [signatureDone, hcur, hkey, hin, Bool.not_true, Bool.or_self, Bool.false_eq_true, if_false]
  rcases ecSignature (beNat (getSg s g).key) (ecDigest j.prehashed j.msg) s with ⟨_ | b, t⟩ <;> rfl

end

/-- Settles O44: each activity by the case of its function that its hypotheses name. A keyed signature engine has one
equation for all its results (`signatureDone_of_keyed`); `sigEnd` counts them by what was asked and whether it was denied. -/
theorem engineSteps : Obligations.EngineSteps := by
  unfold Obligations.EngineSteps
  refine ⟨?block, ?noBlock, ?operation, ?unfinished, ?digestFault, ?signatureFault, ?verify, ?sign, ?denied, ?idle⟩
  case block =>
    intro s u ci k hal hruns hnext
    rw [exec_engineBlockDone, serve_alive hal, engineBlock_of_ready hruns hnext, blockThrough]
  case noBlock =>
    intro s u ci hal hnext
    rw [exec_engineBlockDone, serve_alive hal, engineBlock_of_idle hnext]
  case operation =>
    intro s u ch hal hruns hfree hfin hle hu id hhost
    rw [exec_engineOpDone, serve_alive hal, engineOp_of_dispatched hruns hfree hfin hle hu hhost]
  case unfinished =>
    intro s u ci ch hal hlt
    rw [exec_engineOpDone, serve_alive hal, engineOp_of_unfinished hlt]
  case digestFault =>
    intro s u ch hal hu hch hhost
    rw [exec_engineClear, serve_alive hal, engineClear_of_digest hu hch hhost]
  case signatureFault =>
    intro s g ch hal hg hidle
    rw [exec_engineClear, serve_alive hal, engineClear_of_idle_signature ch hg hidle]
  case verify =>
    rintro s g j hal hcur hkey hin hverify _ rfl
    rw [exec_signatureOpDone, serve_alive hal, signatureDone_of_keyed hcur hkey hin, if_pos hverify, sigEnd_of_verify hverify]
  case sign =>
    intro s g j hal hcur hkey hin hsign hgranted
    rw [exec_signatureOpDone, serve_alive hal, signatureDone_of_keyed hcur hkey hin, if_neg (by simp [hsign]),
      if_neg (by simp [hgranted])]
    refine ⟨fun halg => ?ed, ?ec⟩
    case ed => rw [if_neg halg, sigEnd_of_signed hsign]
    case ec =>
      rintro halg _ rfl
      rw [if_pos halg]
      rfl
  case denied =>
    intro s g j hal hcur hkey hin hsign hdenied
    rw [exec_signatureOpDone, serve_alive hal, signatureDone_of_keyed hcur hkey hin, if_neg (by simp [hsign]),
      if_pos hdenied, sigEnd_of_denied hsign]
  case idle =>
    intro s g hal hidle
    rw [exec_signatureOpDone, serve_alive hal, signatureDone_of_idle hidle]

end Sys2Proof.Machine
end

section
/-! The form of a step, and what stands after every one: RAW shows the LEVEL conditions, and no deliverable interrupt waits. -/

namespace Sys2Proof.Machine

/-! ### The form of a step -/

theorem step_of_cons (c : Instr) (rest : List Instr) (s : State) :
    step { s with pending := c :: rest } = exec c { s with pending := rest } := rfl

theorem step_of_nil {s : State} (h : s.pending = []) : step s = .next (settle (passTime 1 s)) := by
  simp only [step, h, idle]

/-- Settles O1: the two cases of `step`. -/
theorem stepForm : Obligations.StepForm := by
  unfold Obligations.StepForm
  exact ⟨step_of_cons, fun _ h => step_of_nil h⟩

/-- Every row is an `answer` or a `serve`, so that what comes about by itself follows it. -/
theorem exec_settles (c : Instr) (s : State) : ∃ t, exec c s = .next (settle t) := by
  cases c <;> exact ⟨_, rfl⟩

theorem step_settles (s : State) : ∃ t, step s = .next (settle t) := by
  cases h : s.pending with
  | nil => exact ⟨_, step_of_nil h⟩
  | cons c rest =>
    obtain ⟨t, ht⟩ := exec_settles c { s with pending := rest }
    exact ⟨t, by simpa only [step, h] using ht⟩

/-! ### RAW and the LEVEL conditions -/

@[simp] theorem rawNow_msixSend (n v : Nat) (s : State) : rawNow (msixSend n v s) = rawNow s := by
  obtain ⟨f, o, h⟩ := msixSend_fns n v s
  rw [h]
  exact rawNow_delivery s s.ic f s.card.presSeen o

@[simp] theorem rawNow_icTake (s : State) (n : Nat) : rawNow (icTake s n) = rawNow s :=
  rawNow_delivery s (icTake s n).ic s.host.fns s.card.presSeen s.out

/-- Messages change no condition of a LEVEL source and no RAW. -/
theorem rawShown_msixSend {s : State} (h : RawShown s) (n v : Nat) : RawShown (msixSend n v s) := by
  simpa [RawShown] using h

/-- A delivery changes no condition of a LEVEL source and no RAW. -/
theorem rawShown_icTake {s : State} (h : RawShown s) (n : Nat) : RawShown (icTake s n) := by
  simpa [RawShown] using h

theorem rawShown_icDeliver {s : State} (h : RawShown s) : RawShown (icDeliver s) := by
  unfold icDeliver
  split
  · exact h
  · have htaken : RawShown (((List.range 512).filter (icDue s)).foldl icTake s) :=
      foldl_inv h fun _ n ht => rawShown_icTake ht n
    exact foldl_inv htaken fun _ v ht => rawShown_msixSend ht 0 v

theorem rawShown_samplePresent {s : State} (h : RawShown s) : RawShown (samplePresent s) := by
  unfold samplePresent
  dsimp only
  split <;> exact h

theorem rawShown_sampleRaw (s : State) : RawShown (sampleRaw s) := by
  unfold sampleRaw
  dsimp only
  split
  case isTrue h => exact h.symm
  case isFalse =>
    refine foldl_inv (P := RawShown) rfl fun t l ht => ?_
    split
    · exact rawShown_msixSend ht _ _
    · exact ht

/-! ### The end of every command -/

/-- What `settle` samples and delivers last is settled, whatever the units did before. -/
theorem settled_settle (s : State) : Settled (settle s) := by
  cases hsupply : s.clk.supply with
  | false => exact settled_of_supply_off ((settle_off hsupply).symm ▸ hsupply)
  | true =>
    intro _
    simp only [settle, hsupply, Bool.not_true, Bool.false_eq_true, if_false]
    exact ⟨icDeliver_none_due _, rawShown_icDeliver (rawShown_samplePresent (rawShown_sampleRaw _))⟩

/-- Settles O4: every step ends in `settle`, which samples RAW and then delivers. -/
theorem settledKept : Obligations.SettledKept := by
  unfold Obligations.SettledKept
  intro s t hstep
  obtain ⟨u, hu⟩ := step_settles s
  have hts : t = settle u := Host.Outcome.next.inj (hstep.symm.trans hu)
  exact hts ▸ settled_settle u

end Sys2Proof.Machine
end

section
/-! What the end of a command leaves alone: the parts that no unit touches by itself, and those that only an alarm or a
broken lock touches. -/

namespace Sys2Proof.Machine

/-- The parts of the state that nothing which comes about by itself changes. -/
structure Board where
  pending : List Instr
  now : Nat
  free : Nat
  clk : Clk
  ag : Ag
  fws : Fws
  pm : Pm
  tap : Tap

/-- The board's part, and what only an alarm's response or the end of a job that holds a lock changes. -/
structure Calm where
  board : Board
  led : Led
  jn : Jn
  adm : Adm
  start : Start
  raised : List Raise
  shuttles : KMap Shuttle

def calm (s : State) : Calm :=
  { board := ⟨s.pending, s.now, s.free, s.clk, s.ag, s.fws, s.pm, s.tap⟩
    led := s.led, jn := s.jn, adm := s.adm, start := s.start, raised := s.tm.raised, shuttles := s.cells.shuttles }

/-- What every step of a fold leaves alone the fold leaves alone. -/
theorem foldl_keeps {α β : Type} {f : State → α → State} {g : State → β} (h : ∀ t x, g (f t x) = g t) (l : List α)
    (s : State) : g (l.foldl f s) = g s :=
  foldl_inv (P := fun t => g t = g s) rfl fun t x ht => (h t x).trans ht

/-! ### Operations that every unit shares -/

@[simp] theorem calm_emit (o : Output) (s : State) : calm (emit o s) = calm s := rfl
@[simp] theorem calm_setFn (n : Nat) (f : Fn) (s : State) : calm (setFn n f s) = calm s := rfl
@[simp] theorem calm_icRaise (n : Nat) (s : State) : calm (icRaise n s) = calm s := rfl
@[simp] theorem calm_icTake (s : State) (n : Nat) : calm (icTake s n) = calm s := rfl
@[simp] theorem board_alarm (n r l : Nat) (v : Int) (s : State) : (calm (alarm n r l v s)).board = (calm s).board := rfl
@[simp] theorem calm_msixSend (n v : Nat) (s : State) : calm (msixSend n v s) = calm s := by
  obtain ⟨_, _, h⟩ := msixSend_frame n v s
  rw [h]; rfl
@[simp] theorem calm_countN (e q n : Nat) (s : State) : calm (countN e q n s) = calm s := by
  obtain ⟨_, _, h⟩ := countN_frame e q n s
  rw [h]; rfl
@[simp] theorem calm_count (e q : Nat) (s : State) : calm (count e q s) = calm s := calm_countN e q 1 s
@[simp] theorem calm_trace (t h : Nat) (w : List Nat) (s : State) : calm (trace t h w s) = calm s := by
  obtain ⟨_, e⟩ := trace_frame t h w s
  rw [e]; rfl
@[simp] theorem calm_logEvent (g e : Nat) (a : List Nat) (s : State) : calm (logEvent g e a s) = calm s := by
  obtain ⟨_, _, h⟩ := logEvent_frame g e a s
  rw [h]; rfl
@[simp] theorem calm_writeLog (s : State) : calm (writeLog s) = calm s := by
  obtain ⟨_, h⟩ := writeLog_frame s
  rw [h]; rfl
@[simp] theorem calm_setService (v : Nat) (s : State) : calm (setService v s) = calm s := by
  obtain ⟨_, _, h⟩ := setService_frame v s
  rw [h]; rfl
@[simp] theorem calm_icDeliver (s : State) : calm (icDeliver s) = calm s := by
  unfold icDeliver
  split
  · rfl
  · exact (foldl_keeps (fun t v => calm_msixSend 0 v t) _ _).trans (foldl_keeps calm_icTake _ _)

/-! ### Commands and their replies -/

@[simp] theorem calm_setCmd (c : Cmd) (s : State) : calm (setCmd c s) = calm s := rfl
@[simp] theorem calm_dropCmd (id : Nat) (s : State) : calm (dropCmd id s) = calm s := rfl
@[simp] theorem calm_setRunning (id : Nat) (s : State) : calm (setRunning id s) = calm s := rfl
@[simp] theorem calm_cmdJobEnd (id : Nat) (e : JobEnd) (s : State) : calm (cmdJobEnd id e s) = calm s := rfl
@[simp] theorem calm_pushReply (r : Reply) (s : State) : calm (pushReply r s) = calm s := by
  unfold pushReply; split <;> rfl
@[simp] theorem calm_freeLane (c : Cmd) (s : State) : calm (freeLane c s) = calm s := by
  unfold freeLane; split <;> rfl
@[simp] theorem calm_finish (c : Cmd) (st : Nat) (rs : List Nat) (outs : List (Nat × List Byte)) (s : State) :
    calm (finish c st rs outs s) = calm s := by simp [finish]

/-! ### Queues -/

@[simp] theorem calm_setPairOf (fn p : Nat) (q : QPair) (s : State) : calm (setPairOf fn p q s) = calm s := rfl
@[simp] theorem calm_markHead (fn p : Nat) (s : State) : calm (markHead fn p s) = calm s := by
  unfold markHead; dsimp only; split
  · split <;> simp
  · rfl
@[simp] theorem calm_fetchMore (fn p : Nat) (s : State) : calm (fetchMore fn p s) = calm s := by
  unfold fetchMore; dsimp only; split
  · rfl
  · exact (foldl_keeps (fun t i => calm_emit _ t) _ _).trans (calm_setPairOf ..)
@[simp] theorem calm_liveCheck (fn p : Nat) (s : State) : calm (liveCheck fn p s) = calm s := by
  unfold liveCheck; dsimp only; split <;> simp
@[simp] theorem calm_pumpQueues (s : State) : calm (pumpQueues s) = calm s :=
  foldl_keeps (fun t f => foldl_keeps (fun u p => by simp) _ t) _ s
@[simp] theorem calm_discardReplies (s : State) : calm (discardReplies s) = calm s := rfl
@[simp] theorem calm_quiesceCheck (s : State) : calm (quiesceCheck s) = calm s := by
  unfold quiesceCheck; split
  · exact calm_setService _ _
  · rfl

/-! ### Engines and the dispatcher -/

@[simp] theorem calm_setChan (ci : Bool) (u ch : Nat) (c : Chan) (s : State) : calm (setChan ci u ch c s) = calm s := rfl
@[simp] theorem calm_chanFreeUp (ci : Bool) (u ch : Nat) (s : State) : calm (chanFreeUp ci u ch s) = calm s := rfl
@[simp] theorem calm_keyAsk (r : KeyReq) (s : State) : calm (keyAsk r s) = calm s := rfl
@[simp] theorem calm_keyDropReqs (e u ch : Nat) (s : State) : calm (keyDropReqs e u ch s) = calm s := rfl
@[simp] theorem calm_setSg (g : Nat) (e : SigEng) (s : State) : calm (setSg g e s) = calm s := rfl
@[simp] theorem calm_sigStart (g : Nat) (s : State) : calm (sigStart g s) = calm s := by
  unfold sigStart; dsimp only; split
  · split <;> simp
  · rfl
@[simp] theorem calm_sigSubmit (g : Nat) (j : SigJob) (s : State) : calm (sigSubmit g j s) = calm s := by simp [sigSubmit]
@[simp] theorem calm_stewardVerify (c : Cmd) (j : SigJob) (s : State) : calm (stewardVerify c j s) = calm s := by
  unfold stewardVerify; split <;> simp
@[simp] theorem calm_dispDigest (c : Cmd) (h ch cmd : Nat) (op : DispOp) (msg : List Byte) (key : Option KeyReq) (s : State) :
    calm (dispDigest c h ch cmd op msg key s) = calm s := by
  unfold dispDigest; dsimp only; split <;> simp
@[simp] theorem calm_dispCipher (c : Cmd) (h ch cmd : Nat) (op : DispOp) (iv msg : List Byte) (r : KeyReq) (s : State) :
    calm (dispCipher c h ch cmd op iv msg r s) = calm s := rfl
@[simp] theorem calm_startHmac (c : Cmd) (op : DispOp) (msg : List Byte) (slot : Option Nat) (attr : Nat)
    (div : Option (List Byte)) (s : State) : calm (startHmac c op msg slot attr div s) = calm s := by
  unfold startHmac
  split
  · split <;> simp
  · split <;> simp
@[simp] theorem calm_startSig (c : Cmd) (verify : Bool) (alg : Nat) (pre : Bool) (slot : Option Nat) (attrs : Nat)
    (msg sig : List Byte) (s : State) : calm (startSig c verify alg pre slot attrs msg sig s) = calm s := by
  unfold startSig; split <;> simp
@[simp] theorem calm_issueNext (c : Cmd) (s : State) : calm (issueNext c s) = calm s := by
  unfold issueNext; dsimp only; split
  · rfl
  · split
    case h_1 => split <;> simp
    case h_2 => split <;> simp
    case h_3 =>
      split
      · rfl
      · split <;> simp
    case h_4 => rfl
@[simp] theorem calm_startCheck (c : Cmd) (b : List Byte) (s : State) : calm (startCheck c b s) = calm s := by
  unfold startCheck; dsimp only; split <;> simp
@[simp] theorem calm_validateNext (c : Cmd) (s : State) : calm (validateNext c s) = calm s := by
  unfold validateNext; split
  · rfl
  · split
    · simp
    · split
      · split
        · split <;> simp
        · rfl
      · split <;> simp
      · rfl
@[simp] theorem calm_startCrypto (c : Cmd) (s : State) : calm (startCrypto c s) = calm s := by
  unfold startCrypto; dsimp only; split
  case h_1 | h_2 | h_3 | h_6 => split <;> simp
  case h_4 | h_5 => simp
  case h_7 => rfl
@[simp] theorem calm_advance (c : Cmd) (s : State) : calm (advance c s) = calm s := by
  unfold advance; dsimp only
  split
  · simp
  · split
    · simp
    · split
      · split <;> simp
      · rfl

/-- A pass over the admitted commands, each as the pass then finds it. -/
theorem calm_overCmds {f : Cmd → State → State} (h : ∀ c s, calm (f c s) = calm s) (l : List Nat) (s : State) :
    calm (l.foldl (fun t i => match cmdOf t i with
      | some c => f c t
      | none => t) s) = calm s := by
  refine foldl_keeps (fun t i => ?_) l s
  split
  · exact h _ t
  · rfl

@[simp] theorem calm_advanceAll (s : State) : calm (advanceAll s) = calm s := by
  unfold advanceAll; split
  · rfl
  · exact calm_overCmds calm_advance _ s
@[simp] theorem calm_askSignature (c : Cmd) (s : State) : calm (askSignature c s) = calm s := by
  unfold askSignature
  split
  · rfl
  · split
    · split
      · split <;> simp
      · rfl
    · split <;> simp
@[simp] theorem calm_askSignatures (s : State) : calm (askSignatures s) = calm s := calm_overCmds calm_askSignature _ s
@[simp] theorem calm_flipStep (c : Cmd) (s : State) : calm (flipStep c s) = calm s := by
  unfold flipStep; split
  · rfl
  · dsimp only; split <;> simp
@[simp] theorem calm_flipAll (s : State) : calm (flipAll s) = calm s := foldl_keeps (fun t c => calm_flipStep c t) _ s

/-! ### Custody -/

@[simp] theorem calm_setCardBus (f : Card → Card) (s : State) : calm (setCardBus f s) = calm s := rfl
@[simp] theorem calm_changeTables (f : RealmTable → RealmTable) (s : State) : calm (changeTables f s) = calm s := rfl
@[simp] theorem calm_freeBus (s : State) : calm (freeBus s) = calm s := rfl
@[simp] theorem calm_busLeft (s : State) : calm (busLeft s) = calm s := by
  unfold busLeft; split
  · split <;> simp
  · rfl
@[simp] theorem calm_enrolDurable (s : State) : calm (enrolDurable s) = calm s := by
  unfold enrolDurable; split
  · split <;> simp
  · rfl
@[simp] theorem calm_endCustody (c : Cmd) (st : Nat) (rs : List Nat) (s : State) : calm (endCustody c st rs s) = calm s := by
  simp [endCustody]
@[simp] theorem calm_keysDestroy (s : State) : calm (keysDestroy s) = calm s := rfl

/-! ### Lanes -/

@[simp] theorem calm_setLane (l : Nat) (x : Lane) (s : State) : calm (setLane l x s) = calm s := rfl
@[simp] theorem calm_onLane (l : Nat) (f : Lane → Lane) (s : State) : calm (onLane l f s) = calm s := rfl
@[simp] theorem calm_loseLink (l : Nat) (s : State) : calm (loseLink l s) = calm s := rfl
@[simp] theorem calm_setPlace (l : Nat) (p : Place) (s : State) : calm (setPlace l p s) = calm s := rfl
@[simp] theorem calm_abortLine (l : Nat) (s : State) : calm (abortLine l s) = calm s := by
  unfold abortLine; dsimp only; split
  · split <;> simp
  · rfl
@[simp] theorem calm_laneOut (l type seq : Nat) (mark : Bool) (payload : List Byte) (s : State) :
    calm (laneOut l type seq mark payload s) = calm s := by simp [laneOut, traceLane]
@[simp] theorem calm_laneCloseOut (l reason : Nat) (s : State) : calm (laneCloseOut l reason s) = calm s := by
  unfold laneCloseOut; split <;> simp
@[simp] theorem calm_startLink (l : Nat) (opening pulse : Bool) (s : State) : calm (startLink l opening pulse s) = calm s := by
  unfold startLink; dsimp only
  split
  · rfl
  · split
    · simp
    · split <;> simp
@[simp] theorem calm_failLink (l cause : Nat) (s : State) : calm (failLink l cause s) = calm s := by simp [failLink]
@[simp] theorem calm_endLink (l reason : Nat) (s : State) : calm (endLink l reason s) = calm s := by
  unfold endLink; split <;> simp
@[simp] theorem calm_failAdd (l seq reason : Nat) (s : State) : calm (failAdd l seq reason s) = calm s := by simp [failAdd]
@[simp] theorem calm_withdraw (l : Nat) (p : Place) (reason : Nat) (s : State) : calm (withdraw l p reason s) = calm s := by
  unfold withdraw; dsimp only; split <;> simp
@[simp] theorem calm_sendPlaces (l n : Nat) (s : State) : calm (sendPlaces l n s) = calm s := by
  induction n generalizing s with
  | zero => rfl
  | succ n ih =>
    unfold sendPlaces; dsimp only
    split
    · rfl
    · split
      · rfl
      · rw [ih, calm_onLane, calm_laneOut]
        split
        · split <;> simp
        · split <;> simp
@[simp] theorem calm_sendDueAcks (l : Nat) (s : State) : calm (sendDueAcks l s) = calm s := by
  unfold sendDueAcks; dsimp only; split <;> simp [sendAckUp]
@[simp] theorem calm_sendCap (l : Nat) (s : State) : calm (sendCap l s) = calm s := by simp [sendCap]
@[simp] theorem calm_pumpLane (l : Nat) (s : State) : calm (pumpLane l s) = calm s := by
  unfold pumpLane; dsimp only
  split
  · rfl
  · split
    · split <;> simp
    · split
      · simp
      · split <;> simp

/-! ### Conditions -/

@[simp] theorem calm_sampleRaw (s : State) : calm (sampleRaw s) = calm s := by
  unfold sampleRaw; dsimp only
  split
  · rfl
  · refine foldl_keeps (g := calm) (fun t l => ?_) _ _
    split <;> simp
@[simp] theorem calm_samplePresent (s : State) : calm (samplePresent s) = calm s := by
  unfold samplePresent; dsimp only; split <;> rfl
@[simp] theorem calm_sampleCfg (s : State) : calm (sampleCfg s) = calm s := by
  unfold sampleCfg; split <;> rfl
@[simp] theorem calm_lockdownEnd (s : State) : calm (lockdownEnd s) = calm s := by
  unfold lockdownEnd; split <;> simp

end Sys2Proof.Machine
end

section
/-! What comes about by itself at the end of a command: the board's part stands always, and the ledger's where no alarm
waits and no shuttle holds a lock. -/

namespace Sys2Proof.Machine

/-! ### A job that ends -/

@[simp] theorem board_setSh (sh : Nat) (x : Shuttle) (s : State) : (calm (setSh sh x s)).board = (calm s).board := rfl
@[simp] theorem board_leaveJob (sh : Nat) (s : State) : (calm (leaveJob sh s)).board = (calm s).board := by simp [leaveJob]
@[simp] theorem board_dropJob (sh : Nat) (s : State) : (calm (dropJob sh s)).board = (calm s).board := by
  simp [dropJob, nextInc]
@[simp] theorem calm_traceJob (sh kind realm w : Nat) (s : State) : calm (traceJob sh kind realm w s) = calm s := by
  unfold traceJob; split <;> simp
@[simp] theorem board_waiterEnds (sh : Nat) (s : State) : (calm (waiterEnds sh s)).board = (calm s).board := by
  unfold waiterEnds; split <;> simp
@[simp] theorem board_breakLock (sh : Nat) (s : State) : (calm (breakLock sh s)).board = (calm s).board := by
  unfold breakLock; dsimp only; split
  · exact (foldl_keeps (g := fun t => (calm t).board) (fun t a => board_waiterEnds a t) _ _).trans (by simp)
  · rfl

/-! ### The ledger and the journal -/

@[simp] theorem board_closeFrame (sealing : Bool) (s : State) : (calm (closeFrame sealing s)).board = (calm s).board := by
  unfold closeFrame; split <;> rfl
@[simp] theorem board_placeEntry (e : List Word) (s : State) : (calm (placeEntry e s)).board = (calm s).board := by
  rw [placeEntry, calm_count]; rfl
@[simp] theorem board_append (e : List Word) (s : State) : (calm (append e s)).board = (calm s).board := by
  rw [append_eq]; split <;> simp
@[simp] theorem board_commitDelta (slot : Nat) (new : List Word) (o : Origin) (st : Nat) (s : State) :
    (calm (commitDelta slot new o st s).2).board = (calm s).board := board_append _ s
@[simp] theorem board_quarantineSlot (slot : Nat) (r : List Word) (bad : Bool) (cause : Nat) (s : State) :
    (calm (quarantineSlot slot r bad cause s)).board = (calm s).board := by
  unfold quarantineSlot; split
  · rfl
  · dsimp only; rw [calm_icRaise, calm_logEvent]; rfl
@[simp] theorem board_foundCorrupt (slot : Nat) (r : List Word) (bad : Bool) (cause : Nat) (s : State) :
    (calm (foundCorrupt slot r bad cause s)).board = (calm s).board := by
  unfold foundCorrupt; split
  · rfl
  · split <;> simp
@[simp] theorem board_pageFail (page : Nat) (s : State) : (calm (pageFail page s)).board = (calm s).board := by
  unfold pageFail; dsimp only; split
  · rfl
  · rw [board_alarm, calm_logEvent]
    exact foldl_keeps (g := fun t => (calm t).board) (fun t n => board_foundCorrupt n _ true 3 t) _ s
@[simp] theorem calm_countRead (slot : Nat) (s : State) : calm (countRead slot s) = calm s := calm_count _ _ s
theorem board_of_led (l : Led) (s : State) : (calm { s with led := l }).board = (calm s).board := rfl
theorem calm_of_engs (e : Engs) (s : State) : calm { s with engs := e } = calm s := rfl
@[simp] theorem board_readSlot (failed : Bool) (slot : Nat) (s : State) :
    (calm (readSlot failed slot s)).board = (calm s).board := by
  unfold readSlot; dsimp only; split
  · simp
  · split
    · split
      · rw [board_foundCorrupt, board_of_led, calm_countRead]
      · rw [board_of_led, calm_countRead]
    · split <;> simp
@[simp] theorem board_useLookup (s : State) : (calm (useLookup s)).board = (calm s).board := rfl
@[simp] theorem board_useOther (n : Nat) (s : State) : (calm (useOther n s)).board = (calm s).board := rfl
@[simp] theorem board_breakerVoidSlot (slot gen : Nat) (s : State) :
    (calm (breakerVoidSlot slot gen s)).board = (calm s).board := by
  unfold breakerVoidSlot; dsimp only; split
  · split
    · rfl
    · split <;> simp
  · rfl
@[simp] theorem board_breakerVoid (j : Job) (s : State) : (calm (breakerVoid j s)).board = (calm s).board := by
  unfold breakerVoid; split <;> simp

/-! ### The end of a command from outside -/

@[simp] theorem board_cutJob (sh : Nat) (s : State) : (calm (cutJob sh s)).board = (calm s).board := by
  unfold cutJob; split
  · dsimp only; rw [board_dropJob]; split <;> simp
  · rfl
theorem calm_channels (id : Nat) (ci : Bool) (t : State) :
    calm ((List.range 24).foldl (fun t u => (List.range 4).foldl (fun t k =>
      if (getChan t ci u (8 + k)).host = some id then chanFreeUp ci u (8 + k) t else t) t) t) = calm t := by
  refine foldl_keeps (fun t u => foldl_keeps (fun t k => ?_) _ t) _ t
  split <;> rfl
@[simp] theorem calm_dropWork (id : Nat) (s : State) : calm (dropWork id s) = calm s :=
  (calm_of_engs _ _).trans ((calm_channels id true _).trans (calm_channels id false s))
@[simp] theorem board_dropStages (c : Cmd) (s : State) : (calm (dropStages c s)).board = (calm s).board := by
  unfold dropStages; dsimp only; rw [calm_freeLane]; split <;> simp
@[simp] theorem board_loseCmd (c : Cmd) (s : State) : (calm (loseCmd c s)).board = (calm s).board := by simp [loseCmd]
@[simp] theorem board_endCmd (c : Cmd) (st : Nat) (s : State) : (calm (endCmd c st s)).board = (calm s).board := by
  simp [endCmd]

/-! ### Removal of a cell -/

theorem board_of_adm (a : Adm) (s : State) : (calm { s with adm := a }).board = (calm s).board := rfl
theorem board_of_cells (c : Cells) (s : State) : (calm { s with cells := c }).board = (calm s).board := rfl
theorem calm_of_glb (g : Glb) (s : State) : calm { s with glb := g } = calm s := rfl

@[simp] theorem board_noteLevels (s : State) : (calm (noteLevels s)).board = (calm s).board := rfl
@[simp] theorem board_redispatchFrom (was : State) (removal : Bool) (id : Nat) (job : Bool) (avoid : Option Nat) (s : State) :
    (calm (redispatchFrom was removal id job avoid s)).board = (calm s).board := by
  unfold redispatchFrom; dsimp only
  split
  · rfl
  · split
    · rw [calm_finish]; split <;> rfl
    · rw [calm_setCmd]; split <;> rfl
@[simp] theorem board_abortJob (was : State) (sh : Nat) (s : State) : (calm (abortJob was sh s)).board = (calm s).board := by
  unfold abortJob; dsimp only; split
  · rfl
  · split <;> simp
theorem board_clearUnits (was : State) (us : List Nat) (s : State) :
    (calm (clearUnits was us s)).board = (calm s).board := by
  refine foldl_keeps (g := fun t => (calm t).board) (fun t u => foldl_keeps (g := fun t => (calm t).board) (fun t k =>
    foldl_keeps (g := fun t => (calm t).board) (fun t ci => ?_) _ t) _ t) _ s
  split
  · simp
  · split <;> simp
theorem board_clearSigs (was : State) (gs : List Nat) (s : State) :
    (calm (clearSigs was gs s)).board = (calm s).board := by
  refine foldl_keeps (g := fun t => (calm t).board) (fun t g => ?_) _ s
  exact (foldl_keeps (g := fun t => (calm t).board) (fun t j => board_redispatchFrom ..) _ _).trans (by simp)
theorem board_abortJobs (was : State) (l : List Nat) (s : State) :
    (calm (l.foldl (fun t sh => abortJob was sh t) s)).board = (calm s).board :=
  foldl_keeps (g := fun t => (calm t).board) (fun t sh => board_abortJob was sh t) l s
@[simp] theorem board_removeCell (kind n cause : Nat) (s : State) :
    (calm (removeCell kind n cause s)).board = (calm s).board := by
  unfold removeCell; dsimp only
  rw [calm_of_glb, calm_logEvent, board_clearSigs, board_clearUnits, board_abortJobs, board_abortJobs, board_of_cells,
    board_noteLevels]

/-! ### The response to an alarm -/

theorem calm_of_cmds (c : Cmds) (s : State) : calm { s with cmds := c } = calm s := rfl
theorem board_of_tm (m : Tm) (s : State) : (calm { s with tm := m }).board = (calm s).board := rfl
theorem board_of_jn (j : Jn) (s : State) : (calm { s with jn := j }).board = (calm s).board := rfl

@[simp] theorem board_addHistory (r : Raise) (s : State) : (calm (addHistory r s)).board = (calm s).board := by
  unfold addHistory; dsimp only; split <;> rfl
/-- A source that is raised on a condition. -/
theorem calm_raiseIf (p : Prop) [Decidable p] (n : Nat) {t u : State} (h : calm u = calm t) :
    calm (if p then icRaise n t else u) = calm t := by
  split
  · rfl
  · exact h
@[simp] theorem board_noteAlarm (r : Raise) (orig : Nat) (s : State) :
    (calm (noteAlarm r orig s)).board = (calm s).board := by
  unfold noteAlarm
  extract_lets args s1 m1 m2 m3 m4 m5 s2 s3
  have hnoted : calm (if orig = 2 then icRaise 386 s3 else if orig = 0x0F then icRaise 389 s3
      else if orig = 0x10 then icRaise 390 s3 else s3) = calm s3 :=
    calm_raiseIf _ _ (calm_raiseIf _ _ (calm_raiseIf _ _ rfl))
  rw [hnoted, calm_raiseIf (r.level = 2) 385 rfl, board_of_tm, calm_trace, calm_count, calm_logEvent]
@[simp] theorem board_takeAlarm (r : Raise) (s : State) : (calm (takeAlarm r s).2).board = (calm s).board := by
  simp [takeAlarm]
@[simp] theorem board_escalate (r : Raise) (s : State) : (calm (escalate r s).2).board = (calm s).board := by
  unfold escalate; split <;> rfl
@[simp] theorem board_takeAll (l : List Raise) (s : State) : (calm (takeAll l s).2.2).board = (calm s).board := by
  induction l generalizing s with
  | nil => rfl
  | cons r l ih => simp [takeAll, ih]
@[simp] theorem board_spendAllowance (loom : Nat) (s : State) : (calm (spendAllowance loom s)).board = (calm s).board := by
  refine foldl_keeps (g := fun t => (calm t).board) (fun t sh => ?_) _ s
  split
  · split
    · rfl
    · split <;> simp
  · rfl
@[simp] theorem board_actL1 (r : Raise) (s : State) : (calm (actL1 r s)).board = (calm s).board := by
  unfold actL1
  extract_lets gone a others s0 m s1
  have hnoted : (calm s1).board = (calm s).board := by
    rw [board_of_tm]
    show (calm (if _ then noteLevels s else s)).board = _
    split <;> simp
  split
  · rw [calm_endLink, board_of_tm, hnoted]
  · split <;> simp [hnoted]
@[simp] theorem board_actL2 (r : Raise) (s : State) : (calm (actL2 r s)).board = (calm s).board := by
  unfold actL2; dsimp only
  split
  · split <;> simp
  · split
    · split
      · rw [board_removeCell, board_of_tm, board_noteLevels]
      · rw [board_of_tm, board_noteLevels]
    · rfl
@[simp] theorem board_detectAlarm (level : Nat) (s : State) : (calm (detectAlarm level s)).board = (calm s).board := rfl
@[simp] theorem board_beginSeal (s : State) : (calm (beginSeal s)).board = (calm s).board := by
  unfold beginSeal; dsimp only; split
  · rfl
  · rw [board_of_jn]; split
    · rfl
    · simp
@[simp] theorem calm_endFetched (status : Nat) (s : State) : calm (endFetched status s) = calm s :=
  foldl_keeps (fun t f => foldl_keeps (fun u p => by
    rw [calm_setPairOf]; exact foldl_keeps (fun v w => calm_pushReply _ v) _ u) _ t) _ s
@[simp] theorem board_zeroiseVolatile (s : State) : (calm (zeroiseVolatile s)).board = (calm s).board :=
  foldl_keeps (g := fun t => (calm t).board) (fun t l => congrArg Calm.board (calm_abortLine l t)) _ (keysZeroise s)
@[simp] theorem board_zeroiseAfterSeal (s : State) : (calm (zeroiseAfterSeal s)).board = (calm s).board := by
  unfold zeroiseAfterSeal; split <;> rfl
@[simp] theorem board_lockdown (s : State) : (calm (lockdown s)).board = (calm s).board := by
  unfold lockdown; dsimp only; split
  · rfl
  · rw [board_of_tm, board_zeroiseVolatile]
    exact (foldl_keeps (g := fun t => (calm t).board) (fun t c => board_endCmd c _ t) _ _).trans (by simp)
theorem board_of_scuttled (s : State) (c : Cmds) (g : Glb) (h : HostIf) (m : Tm) :
    (calm { s with cmds := c, glb := g, host := h, tm := m }).board = (calm s).board := rfl
@[simp] theorem board_scuttle (s : State) : (calm (scuttle s)).board = (calm s).board := by
  unfold scuttle; split
  · rfl
  · extract_lets s0 j s1 s2 s3 s4
    have hemptied : calm s2 = calm s1 :=
      foldl_keeps (g := calm) (fun t f => foldl_keeps (g := calm) (fun u p => calm_setPairOf ..) _ t) _ s1
    have hlost : (calm s3).board = (calm s2).board :=
      foldl_keeps (g := fun t => (calm t).board) (fun t c => board_loseCmd c t) _ s2
    have hstopped : (calm s1).board = (calm s).board := rfl
    exact (board_of_scuttled s4 _ _ _ _).trans (by rw [board_zeroiseAfterSeal, board_zeroiseVolatile, hlost, hemptied, hstopped])
@[simp] theorem board_act (l : List Raise) (s : State) : (calm (act l s)).board = (calm s).board := by
  unfold act
  split
  · simp
  · split
    · simp
    · split
      · rfl
      · extract_lets l2 s1
        have hl2 : (calm s1).board = (calm s).board :=
          foldl_keeps (g := fun t => (calm t).board) (fun t r => board_actL2 r t) l2 s
        split
        · dsimp only; split <;> simp [hl2]
        · exact (foldl_keeps (g := fun t => (calm t).board) (fun t r => board_actL1 r t) _ s1).trans hl2
@[simp] theorem board_respond (s : State) : (calm (respond s)).board = (calm s).board := by
  unfold respond; split
  · rfl
  · simp [board_of_tm]


/-! ### Units that go on, whatever locks are held -/

@[simp] theorem board_endFnWork (fn : Nat) (s : State) : (calm (endFnWork fn s)).board = (calm s).board :=
  foldl_keeps (g := fun t => (calm t).board) (fun t c => board_loseCmd c t) _ s
@[simp] theorem board_resetVfs (from_ : Nat) (s : State) : (calm (resetVfs from_ s)).board = (calm s).board :=
  foldl_keeps (g := fun t => (calm t).board) (fun t n => by rw [resetFn, calm_setFn, board_endFnWork]) _ s
theorem calm_of_host (h : HostIf) (s : State) : calm { s with host := h } = calm s := rfl
@[simp] theorem board_vfsOff (s : State) : (calm (vfsOff s)).board = (calm s).board := by
  rw [vfsOff, calm_of_host, board_resetVfs]
@[simp] theorem board_approveEnd (c : Cmd) (s : State) : (calm (approveEnd c s)).board = (calm s).board := by
  unfold approveEnd; split
  · rfl
  · dsimp only
    split
    · rfl
    · split
      · rw [calm_endCustody, calm_of_glb]
      · split
        · rw [calm_endCustody, calm_keysDestroy, board_vfsOff, calm_of_glb]
        · split <;> simp
@[simp] theorem board_custodyAdvance (s : State) : (calm (custodyAdvance s)).board = (calm s).board :=
  (foldl_keeps (g := fun t => (calm t).board) (fun t c => board_approveEnd c t) _ _).trans (by simp)
@[simp] theorem board_closeLane (l : Nat) (abort : Bool) (s : State) :
    (calm (closeLane l abort s)).board = (calm s).board := by
  unfold closeLane
  extract_lets x n s1 y s2 waiting s3 closers
  have hsent : calm s1 = calm s := by
    show calm (if _ then s else laneCloseOut l 1 s) = calm s
    split <;> simp
  have hclosed : (calm s3).board = (calm s2).board :=
    foldl_keeps (g := fun t => (calm t).board) (fun t c => board_endCmd c _ t) _ s2
  rw [foldl_keeps (g := calm) (fun t c => calm_finish ..) _ s3, hclosed, calm_setLane, hsent]
@[simp] theorem board_closeCheck (l : Nat) (s : State) : (calm (closeCheck l s)).board = (calm s).board := by
  unfold closeCheck; dsimp only; split <;> simp
@[simp] theorem board_pumpLanes (s : State) : (calm (pumpLanes s)).board = (calm s).board :=
  foldl_keeps (g := fun t => (calm t).board) (fun t l => by simp) _ s
@[simp] theorem calm_stewardTraps (s : State) : calm (stewardTraps s) = calm s :=
  foldl_keeps (fun _ _ => calm_finish ..) _ s
@[simp] theorem board_stewardsFree (s : State) : (calm (stewardsFree s)).board = (calm s).board := by
  refine (foldl_keeps (g := fun t => (calm t).board) (fun t sh => ?_) _ _).trans (congrArg _ (calm_stewardTraps s))
  split
  · split <;> simp
  · rfl
@[simp] theorem board_pump (s : State) : (calm (pump s)).board = (calm s).board := by simp [pump]

/-- What is sampled, logged and delivered last. -/
theorem calm_sampled (s : State) :
    calm (icDeliver (samplePresent (sampleRaw (writeLog (sampleCfg (lockdownEnd s)))))) = calm s := by simp

/-- The end of a command leaves the board's part as it stands. -/
theorem board_settle (s : State) : (calm (settle s)).board = (calm s).board := by
  unfold settle; split
  · rfl
  · dsimp only
    rw [calm_sampled]
    split <;> simp

/-! ### Units that go on while no shuttle holds a lock -/

/-- No shuttle holds a lock. -/
def NoLocks (s : State) : Prop := ∀ sh, (getSh s sh).lock = none

/-- From s to t no lock was taken and nothing of `calm` but the shuttles changed, where none was held. -/
def Undisturbed (s t : State) : Prop :=
  NoLocks s → NoLocks t ∧ { calm t with shuttles := [] } = { calm s with shuttles := [] }

theorem Undisturbed.refl (s : State) : Undisturbed s s := fun h => ⟨h, rfl⟩
theorem Undisturbed.trans {s t u : State} (h : Undisturbed s t) (k : Undisturbed t u) : Undisturbed s u := fun hs =>
  ⟨(k (h hs).1).1, (k (h hs).1).2.trans (h hs).2⟩
theorem Undisturbed.of_calm {s t : State} (h : calm t = calm s) : Undisturbed s t := fun hs =>
  ⟨fun sh => (congrArg (fun c => (mget {} c.shuttles sh).lock) h).trans (hs sh), congrArg (fun c => { c with shuttles := [] }) h⟩
theorem Undisturbed.foldl {α : Type} {f : State → α → State} (h : ∀ t x, Undisturbed t (f t x)) (l : List α) (s : State) :
    Undisturbed s (l.foldl f s) :=
  foldl_inv (P := Undisturbed s) (.refl s) fun t x ht => ht.trans (h t x)

theorem Undisturbed.raised {s t : State} (h : Undisturbed s t) (hs : NoLocks s) : t.tm.raised = s.tm.raised :=
  congrArg Calm.raised (h hs).2

theorem undisturbed_setSh {sh : Nat} {x : Shuttle} (hx : x.lock = none) (s : State) : Undisturbed s (setSh sh x s) := by
  intro hs
  refine ⟨fun n => ?_, rfl⟩
  by_cases hn : n = sh
  · subst hn; rw [getSh_setSh_self]; exact hx
  · exact (congrArg Shuttle.lock (mget_mset_ne _ _ x hn)).trans (hs n)
theorem idleShuttle_lock (sh : Nat) (x : Shuttle) : (idleShuttle sh x).lock = none := by
  unfold idleShuttle; split <;> rfl
theorem calm_freed (sh : Nat) (s : State) :
    calm (chanFreeUp true (shUnit sh) (shChan sh) (chanFreeUp false (shUnit sh) (shChan sh) s)) = calm s := by simp
theorem undisturbed_leaveJob (sh : Nat) (s : State) : Undisturbed s (leaveJob sh s) :=
  (Undisturbed.of_calm (calm_freed sh s)).trans (undisturbed_setSh (x := { idleShuttle sh (getSh s sh) with freeAt := s.now })
    (idleShuttle_lock sh _) _)
theorem undisturbed_nextInc (sh : Nat) (s : State) : Undisturbed s (nextInc sh s) := fun hs =>
  undisturbed_setSh (x := { getSh s sh with inc := ((getSh s sh).inc + 1) % 65536 }) (hs sh) s hs
theorem undisturbed_clearPriv (sh : Nat) (s : State) : Undisturbed s (setSh sh { getSh s sh with priv := [] } s) := fun hs =>
  undisturbed_setSh (x := { getSh s sh with priv := [] }) (hs sh) s hs
theorem undisturbed_dropJob (sh : Nat) (s : State) : Undisturbed s (dropJob sh s) :=
  ((undisturbed_leaveJob sh s).trans (undisturbed_nextInc sh _)).trans (undisturbed_clearPriv sh _)
theorem undisturbed_cutJob (sh : Nat) (s : State) : Undisturbed s (cutJob sh s) := by
  intro hs
  unfold cutJob; split
  · dsimp only
    rw [hs sh]
    exact (Undisturbed.of_calm (calm_traceJob ..)).trans (undisturbed_dropJob sh _) hs
  · exact ⟨hs, rfl⟩
theorem undisturbed_dropStages (c : Cmd) (s : State) : Undisturbed s (dropStages c s) := by
  unfold dropStages; dsimp only
  have hwork : Undisturbed s (dropWork c.id s) := .of_calm (calm_dropWork ..)
  refine Undisturbed.trans ?_ (.of_calm (calm_freeLane c _))
  split
  · exact hwork.trans (undisturbed_cutJob _ _)
  · exact hwork
theorem undisturbed_loseCmd (c : Cmd) (s : State) : Undisturbed s (loseCmd c s) :=
  (undisturbed_dropStages c s).trans (.of_calm (calm_dropCmd ..))
theorem undisturbed_endCmd (c : Cmd) (st : Nat) (s : State) : Undisturbed s (endCmd c st s) :=
  (undisturbed_dropStages c s).trans (.of_calm ((calm_pushReply ..).trans (calm_dropCmd c.id _)))
theorem undisturbed_endFnWork (fn : Nat) (s : State) : Undisturbed s (endFnWork fn s) :=
  (Undisturbed.foldl (fun t c => undisturbed_loseCmd c t) _ s).trans (.of_calm (calm_of_cmds _ _))
theorem undisturbed_resetFn (fn : Nat) (s : State) : Undisturbed s (resetFn fn s) :=
  (undisturbed_endFnWork fn s).trans (.of_calm (calm_setFn ..))
theorem undisturbed_vfsOff (s : State) : Undisturbed s (vfsOff s) :=
  (Undisturbed.foldl (fun t n => undisturbed_resetFn n t) _ s).trans (.of_calm (calm_of_host _ _))
theorem undisturbed_approveEnd (c : Cmd) (s : State) : Undisturbed s (approveEnd c s) := by
  unfold approveEnd; split
  · exact .refl s
  · dsimp only
    split
    · exact .refl s
    · split
      · exact .of_calm (calm_endCustody ..)
      · split
        · have hglb : Undisturbed s { s with glb := { s.glb with lifecycle := lcDecommissioned } } := .of_calm rfl
          exact (hglb.trans (undisturbed_vfsOff _)).trans (.of_calm (by simp))
        · split
          · exact .of_calm (calm_endCustody ..)
          · exact .refl s
theorem undisturbed_custodyAdvance (s : State) : Undisturbed s (custodyAdvance s) :=
  (Undisturbed.of_calm (by simp : calm (busLeft (enrolDurable s)) = calm s)).trans
    (.foldl (fun t c => undisturbed_approveEnd c t) _ _)
theorem undisturbed_closeLane (l : Nat) (abort : Bool) (s : State) : Undisturbed s (closeLane l abort s) := by
  unfold closeLane
  extract_lets x n s1 y s2 waiting s3 closers
  have hsent : Undisturbed s s1 := .of_calm (by
    show calm (if _ then s else laneCloseOut l 1 s) = calm s
    split <;> simp)
  have hclosed : Undisturbed s2 s3 := .foldl (fun t c => undisturbed_endCmd c _ t) _ s2
  exact (hsent.trans (.of_calm (calm_setLane ..))).trans (hclosed.trans (.foldl (fun t c => .of_calm (calm_finish ..)) _ s3))
theorem undisturbed_closeCheck (l : Nat) (s : State) : Undisturbed s (closeCheck l s) := by
  unfold closeCheck; dsimp only; split
  · exact undisturbed_closeLane l false s
  · exact .refl s
theorem undisturbed_pumpLanes (s : State) : Undisturbed s (pumpLanes s) :=
  .foldl (fun t l => (Undisturbed.of_calm (calm_pumpLane l t)).trans (undisturbed_closeCheck l _)) _ s
theorem breakLock_of_noLocks {s : State} (h : NoLocks s) (sh : Nat) : breakLock sh s = s := by
  simp only [breakLock, h sh]
theorem undisturbed_stewardsFree (s : State) : Undisturbed s (stewardsFree s) := by
  refine (Undisturbed.of_calm (calm_stewardTraps s)).trans (.foldl (fun t sh => ?_) _ _)
  split
  · split
    · intro ht
      rw [breakLock_of_noLocks ht]
      exact undisturbed_leaveJob sh t ht
    · exact .refl t
  · exact .refl t
theorem undisturbed_pump (s : State) : Undisturbed s (pump s) := by
  have hsteward := (Undisturbed.of_calm (calm_quiesceCheck s)).trans (undisturbed_stewardsFree _)
  have hflips := hsteward.trans (.of_calm (by simp :
    calm (flipAll (askSignatures (advanceAll (pumpQueues (discardReplies (stewardsFree (quiesceCheck s))))))) = _))
  exact (hflips.trans (undisturbed_custodyAdvance _)).trans (undisturbed_pumpLanes _)

theorem respond_of_none {s : State} (h : s.tm.raised = []) : respond s = s := by
  simp only [respond, h]

/-- Where no alarm waits and no lock is held, the end of a command changes nothing of the ledger's part. -/
theorem undisturbed_settle {s : State} (hraised : s.tm.raised = []) : Undisturbed s (settle s) := by
  intro hs
  unfold settle; split
  · exact ⟨hs, rfl⟩
  · dsimp only
    have hpumped : (pump s).tm.raised = [] := ((undisturbed_pump s).raised hs).trans hraised
    rw [respond_of_none hraised, respond_of_none hpumped]
    have hgone : Undisturbed s (if alive s = true then pump s else s) := by
      split
      · exact undisturbed_pump s
      · exact .refl s
    exact (hgone.trans (.of_calm (calm_sampled _))) hs

theorem imageAt_of_led_jn {s t : State} (hled : t.led = s.led) (hjn : t.jn = s.jn) (n : Nat) :
    imageAt t n = imageAt s n := by
  simp only [imageAt, overlayOf, homeRec, storedPage, shadowOf, node2, hled, hjn]

/-- Settles O5: every operation that `settle` runs leaves the board's part, and those of `pump` leave the ledger's part
but for the end of a job that holds a lock and the response to an alarm. -/
theorem settleFrame : Obligations.SettleFrame := by
  unfold Obligations.SettleFrame
  refine ⟨fun s => ?board, fun s hraised hlocks => ?ledger, fun s => settle_off⟩
  case board =>
    have h := board_settle s
    simp only [calm, Board.mk.injEq] at h
    exact h
  case ledger =>
    have h := (undisturbed_settle hraised hlocks).2
    simp only [calm, Calm.mk.injEq] at h
    obtain ⟨_, hled, hjn, hadm, hstart, _⟩ := h
    exact ⟨hled, hjn, hadm, hstart, imageAt_of_led_jn hled hjn⟩

end Sys2Proof.Machine
end

section
/-! What lockdown and scuttle leave at once (R437, R439, R443, R444). -/

namespace Sys2Proof.Machine

/-! ### Commands that end once the journal has stopped -/

/-- What the end of a command leaves of a part whose journal has stopped: the tamper system, the journal, the global
registers, and which commands are admitted with which JSN. -/
def halted (s : State) : Tm × Jn × Glb × List (Nat × Option Nat) :=
  (s.tm, s.jn, s.glb, s.cmds.admitted.map (fun c => (c.id, c.jsn)))

theorem halted_of_engs (e : Engs) (s : State) : halted { s with engs := e } = halted s := rfl
@[simp] theorem halted_setSh (sh : Nat) (x : Shuttle) (s : State) : halted (setSh sh x s) = halted s := rfl
@[simp] theorem halted_chanFreeUp (ci : Bool) (u ch : Nat) (s : State) : halted (chanFreeUp ci u ch s) = halted s := rfl
@[simp] theorem halted_trace (t h : Nat) (w : List Nat) (s : State) : halted (trace t h w s) = halted s := by
  obtain ⟨_, e⟩ := trace_frame t h w s
  rw [e]; rfl
@[simp] theorem halted_logEvent (g e : Nat) (a : List Nat) (s : State) : halted (logEvent g e a s) = halted s := by
  obtain ⟨_, _, h⟩ := logEvent_frame g e a s
  rw [h]; rfl
theorem halted_setPairOf (fn p : Nat) (q : QPair) (s : State) : halted (setPairOf fn p q s) = halted s := rfl
theorem halted_channels (id : Nat) (ci : Bool) (t : State) :
    halted ((List.range 24).foldl (fun t u => (List.range 4).foldl (fun t k =>
      if (getChan t ci u (8 + k)).host = some id then chanFreeUp ci u (8 + k) t else t) t) t) = halted t := by
  refine foldl_keeps (fun t u => foldl_keeps (fun t k => ?_) _ t) _ t
  split <;> rfl
@[simp] theorem halted_dropWork (id : Nat) (s : State) : halted (dropWork id s) = halted s :=
  (halted_of_engs _ _).trans ((halted_channels id true _).trans (halted_channels id false s))
@[simp] theorem halted_traceJob (sh kind realm w : Nat) (s : State) : halted (traceJob sh kind realm w s) = halted s := by
  unfold traceJob; split <;> simp
@[simp] theorem halted_dropJob (sh : Nat) (s : State) : halted (dropJob sh s) = halted s := by
  simp [dropJob, nextInc, leaveJob]
@[simp] theorem halted_cmdJobEnd (id : Nat) (e : JobEnd) (s : State) : halted (cmdJobEnd id e s) = halted s := by
  have htags : ∀ l : List Cmd, (l.map (fun d => if d.id = id then { d with job := .ended e } else d)).map
      (fun c => (c.id, c.jsn)) = l.map (fun c => (c.id, c.jsn)) := by
    intro l
    rw [List.map_map]
    refine List.map_congr_left fun d _ => ?_
    simp only [Function.comp]
    split <;> rfl
  simp only [halted, cmdJobEnd, htags]
@[simp] theorem halted_waiterEnds (sh : Nat) (s : State) : halted (waiterEnds sh s) = halted s := by
  unfold waiterEnds; split <;> simp
@[simp] theorem halted_breakLock (sh : Nat) (s : State) : halted (breakLock sh s) = halted s := by
  unfold breakLock; dsimp only; split
  · exact (foldl_keeps (fun t a => halted_waiterEnds a t) _ _).trans (by simp)
  · rfl
theorem stopped_of_halted {s t : State} (h : halted t = halted s) (hs : s.jn.stopped = true) : t.jn.stopped = true :=
  (congrArg (fun p => p.2.1.stopped) h).trans hs

/-- R97: a stopped journal takes no entry of the lock breaker. -/
theorem breakerVoid_of_stopped {s : State} (h : s.jn.stopped = true) (j : Job) : breakerVoid j s = s := by
  simp [breakerVoid, breakerVoidSlot, h]
theorem halted_cutJob {s : State} (h : s.jn.stopped = true) (sh : Nat) : halted (cutJob sh s) = halted s := by
  unfold cutJob; split
  · rename_i j _
    have hlogged : halted (traceJob sh 3 j.realm 0 s) = halted s := halted_traceJob ..
    have hbroken : halted (breakLock sh (traceJob sh 3 j.realm 0 s)) = halted s := (halted_breakLock ..).trans hlogged
    dsimp only
    rw [halted_dropJob, breakerVoid_of_stopped (stopped_of_halted hbroken h)]
    split
    · exact hbroken
    · exact hlogged
  · rfl
@[simp] theorem halted_freeLane (c : Cmd) (s : State) : halted (freeLane c s) = halted s := by
  unfold freeLane; split <;> rfl
@[simp] theorem halted_pushReply (r : Reply) (s : State) : halted (pushReply r s) = halted s := by
  unfold pushReply; split <;> rfl
theorem halted_dropStages {s : State} (h : s.jn.stopped = true) (c : Cmd) : halted (dropStages c s) = halted s := by
  unfold dropStages; dsimp only
  rw [halted_freeLane]
  split
  · rw [halted_cutJob (stopped_of_halted (halted_dropWork ..) h), halted_dropWork]
  · exact halted_dropWork ..

/-- The tags of the admitted commands once those with an id are gone. -/
def without (id : Nat) (v : Tm × Jn × Glb × List (Nat × Option Nat)) : Tm × Jn × Glb × List (Nat × Option Nat) :=
  (v.1, v.2.1, v.2.2.1, v.2.2.2.filter (fun p => p.1 ≠ id))

theorem halted_dropCmd (id : Nat) (s : State) : halted (dropCmd id s) = without id (halted s) := by
  simp only [halted, without, dropCmd, List.filter_map]
  rfl
theorem halted_loseCmd {s : State} (h : s.jn.stopped = true) (c : Cmd) :
    halted (loseCmd c s) = without c.id (halted s) := by
  rw [loseCmd, halted_dropCmd, halted_dropStages h]
theorem halted_endCmd {s : State} (h : s.jn.stopped = true) (c : Cmd) (st : Nat) :
    halted (endCmd c st s) = without c.id (halted s) := by
  simp only [endCmd, halted_pushReply, halted_dropCmd, halted_dropStages h]

/-- Commands that end one after the other, none of which touches a stopped journal: the tags of all of them are gone. -/
theorem halted_foldl {f : State → Cmd → State}
    (hf : ∀ t c, t.jn.stopped = true → halted (f t c) = without c.id (halted t)) (l : List Cmd) {s : State}
    (h : s.jn.stopped = true) : (l.foldl f s).tm = s.tm ∧ (l.foldl f s).jn = s.jn ∧ (l.foldl f s).glb = s.glb ∧
      ∀ p ∈ (halted (l.foldl f s)).2.2.2, p ∈ (halted s).2.2.2 ∧ ∀ c ∈ l, p.1 ≠ c.id := by
  induction l generalizing s with
  | nil => exact ⟨rfl, rfl, rfl, fun p hp => ⟨hp, by simp⟩⟩
  | cons c l ih =>
    have hc := hf s c h
    have hjn : (f s c).jn = s.jn := congrArg (fun v => v.2.1) hc
    obtain ⟨htm, hj, hglb, htags⟩ := ih (s := f s c) (hjn ▸ h)
    refine ⟨htm.trans (congrArg (fun v => v.1) hc), hj.trans hjn, hglb.trans (congrArg (fun v => v.2.2.1) hc), fun p hp => ?_⟩
    obtain ⟨hin, hne⟩ := htags p hp
    have hfiltered : p ∈ (without c.id (halted s)).2.2.2 := hc ▸ hin
    obtain ⟨hold, hpc⟩ := List.mem_filter.mp hfiltered
    exact ⟨hold, fun d hd => (List.mem_cons.mp hd).elim (fun e => e ▸ by simpa using hpc) (hne d)⟩

/-! ### The steps of a lockdown -/

theorem abortLine_frame (l : Nat) (s : State) : ∃ ls o, abortLine l s = { s with lanes := ls, out := o } := by
  unfold abortLine; dsimp only; split
  · split <;> exact ⟨_, _, rfl⟩
  · exact ⟨_, _, rfl⟩

/-- R437: of the volatile parts only the key store's memory, the engines, the lanes and the cards' new keys go. -/
theorem zeroiseVolatile_frame (s : State) : ∃ e ls c o,
    zeroiseVolatile s = { keysZeroise s with engs := e, lanes := ls, card := c, out := o } := by
  have haborted : ∃ ls o, (mkeys s.lanes).foldl (fun u l => abortLine l u) (keysZeroise s) =
      { keysZeroise s with lanes := ls, out := o } := by
    refine foldl_inv (P := fun t => ∃ ls o, t = { keysZeroise s with lanes := ls, out := o }) ⟨_, _, rfl⟩ ?_
    rintro t l ⟨ls, o, rfl⟩
    obtain ⟨ls', o', h⟩ := abortLine_frame l { keysZeroise s with lanes := ls, out := o }
    exact ⟨ls', o', h⟩
  obtain ⟨ls, o, h⟩ := haborted
  unfold zeroiseVolatile
  rw [h]
  exact ⟨_, _, _, o, rfl⟩

theorem zeroiseVolatile_keeps (s : State) : (zeroiseVolatile s).tm = s.tm ∧
    (zeroiseVolatile s).keys = (keysZeroise s).keys ∧ (zeroiseVolatile s).cmds = s.cmds ∧
    (zeroiseVolatile s).jn = s.jn ∧ (zeroiseVolatile s).glb = s.glb := by
  obtain ⟨_, _, _, _, h⟩ := zeroiseVolatile_frame s
  rw [h]
  exact ⟨rfl, rfl, rfl, rfl, rfl⟩

theorem halted_endFetched (status : Nat) (s : State) : halted (endFetched status s) = halted s :=
  foldl_keeps (fun t f => foldl_keeps (fun u p => by
    exact foldl_keeps (g := halted) (fun v w => halted_pushReply _ v) _ u) _ t) _ s

theorem closeFrame_tm_glb (sealing : Bool) (s : State) : (closeFrame sealing s).tm = s.tm ∧ (closeFrame sealing s).glb = s.glb := by
  unfold closeFrame; split <;> exact ⟨rfl, rfl⟩

/-- R97: a seal that begins stops the journal and leaves the tamper system and the global registers. -/
theorem beginSeal_halted (s : State) : (beginSeal s).tm = s.tm ∧ (beginSeal s).jn.stopped = true ∧ (beginSeal s).glb = s.glb := by
  unfold beginSeal; split
  case isTrue h => exact ⟨rfl, h, rfl⟩
  case isFalse =>
    dsimp only
    split
    · exact ⟨rfl, rfl, rfl⟩
    · exact ⟨(closeFrame_tm_glb true s).1, rfl, (closeFrame_tm_glb true s).2⟩

/-- R437, R444: what an untripped part is after a lockdown. -/
theorem lockdown_of_untripped {s : State} (h : s.tm.tripped = false) :
    (lockdown s).tm.alarmN = true ∧ (lockdown s).tm.tripped = true ∧ (lockdown s).jn.stopped = true ∧
    (lockdown s).keys.slots = [] ∧ (lockdown s).keys.rootIn = false ∧ (lockdown s).keys.busOpen = false ∧
    (lockdown s).keys.ctxKeys = [] ∧ (lockdown s).tm.zeroiseDue = true ∧
    (lockdown s).glb.lifecycle = s.glb.lifecycle ∧ (∀ c ∈ (lockdown s).cmds.admitted, c.jsn.isSome = true) := by
  unfold lockdown
  rw [if_neg (by simp [h])]
  extract_lets s1 s2 s3 m
  obtain ⟨htm0, hstopped0, hglb0⟩ := beginSeal_halted (detectAlarm 3 s)
  have hfetched : halted s1 = halted (beginSeal (detectAlarm 3 s)) := halted_endFetched ..
  have htm1 : s1.tm = (detectAlarm 3 s).tm := (congrArg (fun v => v.1) hfetched).trans htm0
  have hstopped1 : s1.jn.stopped = true := stopped_of_halted hfetched hstopped0
  have hglb1 : s1.glb = s.glb := (congrArg (fun v => v.2.2.1) hfetched).trans hglb0
  obtain ⟨htm2, hjn2, hglb2, htags⟩ := halted_foldl (f := fun t c => endCmd c sAbortedAlarm t)
    (fun t c ht => halted_endCmd ht c sAbortedAlarm) (s1.cmds.admitted.filter (fun c => c.jsn.isNone)) hstopped1
  have hjournalled : ∀ c ∈ s2.cmds.admitted, c.jsn.isSome = true := by
    intro c hc
    by_contra hnone
    obtain ⟨hin, hne⟩ := htags (c.id, c.jsn) (List.mem_map_of_mem hc)
    obtain ⟨d, hd, hdc⟩ := List.mem_map.mp hin
    obtain ⟨hid, hjsn⟩ := Prod.mk.inj hdc
    exact hne d (List.mem_filter.mpr ⟨hd, by simpa [hjsn] using hnone⟩) hid.symm
  have htripped : s2.tm.alarmN = true ∧ s2.tm.tripped = true := by
    rw [htm2, htm1]; exact ⟨rfl, rfl⟩
  have hstopped2 : s2.jn.stopped = true := hjn2 ▸ hstopped1
  have hlc : s2.glb.lifecycle = s.glb.lifecycle := by rw [hglb2, hglb1]
  obtain ⟨htm3, hkeys3, hcmds3, hjn3, hglb3⟩ := zeroiseVolatile_keeps s2
  exact ⟨(congrArg Tm.alarmN htm3).trans htripped.1, (congrArg Tm.tripped htm3).trans htripped.2,
    (congrArg Jn.stopped hjn3).trans hstopped2, congrArg Keys.slots hkeys3, congrArg Keys.rootIn hkeys3,
    congrArg Keys.busOpen hkeys3, congrArg Keys.ctxKeys hkeys3, rfl, (congrArg Glb.lifecycle hglb3).trans hlc,
    fun c hc => hjournalled c (hcmds3 ▸ hc)⟩

/-- R437: a part that has tripped is not locked down again. -/
theorem lockdown_of_tripped {s : State} (h : s.tm.tripped = true) : lockdown s = s := by
  simp [lockdown, h]
theorem scuttle_of_scuttled {s : State} (h : s.glb.lifecycle = lcScuttled) : scuttle s = s := by
  simp [scuttle, h]


/-! ### The steps of a scuttle -/

/-- R443: the ledger key and the attestation key are gone, unless a frame still waits to be sealed; then it is due. -/
theorem zeroiseAfterSeal_spec (s : State) :
    ((s.jn.sealing && s.jn.flight.any (fun f => f.stage == .closed)) = false →
      (zeroiseAfterSeal s).keys.ledgerIn = false ∧ (zeroiseAfterSeal s).keys.attestIn = false) ∧
    ((s.jn.sealing && s.jn.flight.any (fun f => f.stage == .closed)) = true →
      (zeroiseAfterSeal s).tm.zeroiseDue = true) := by
  refine ⟨fun h => ?_, fun h => ?_⟩
  · rw [zeroiseAfterSeal, if_neg (by simp [h])]
    exact ⟨rfl, rfl⟩
  · rw [zeroiseAfterSeal, if_pos h]

theorem zeroiseAfterSeal_keeps (s : State) : (zeroiseAfterSeal s).keys.slots = s.keys.slots ∧
    (zeroiseAfterSeal s).keys.rootIn = s.keys.rootIn ∧ (zeroiseAfterSeal s).tm.alarmN = s.tm.alarmN ∧
    (zeroiseAfterSeal s).tm.tripped = s.tm.tripped ∧ (zeroiseAfterSeal s).jn = s.jn := by
  unfold zeroiseAfterSeal; split <;> exact ⟨rfl, rfl, rfl, rfl, rfl⟩

/-- R439, R443: what a part that is not scuttled is after a scuttle. -/
theorem scuttle_of_unscuttled {s : State} (h : s.glb.lifecycle ≠ lcScuttled) :
    (scuttle s).tm.alarmN = true ∧ (scuttle s).tm.tripped = true ∧ (scuttle s).jn.stopped = true ∧
    (scuttle s).keys.slots = [] ∧ (scuttle s).keys.rootIn = false ∧ (scuttle s).glb.lifecycle = 0xFF ∧
    (scuttle s).host.vfEnable = false ∧ (scuttle s).cmds.replies = [] ∧
    ((s.jn.sealing && s.jn.flight.any (fun f => f.stage == .closed)) = false → (scuttle s).keys.ledgerIn = false ∧
      (scuttle s).keys.attestIn = false) ∧
    ((s.jn.sealing && s.jn.flight.any (fun f => f.stage == .closed)) = true → (scuttle s).tm.zeroiseDue = true) := by
  unfold scuttle
  rw [if_neg h]
  extract_lets s0 j s1 s2 s3 s4
  have hemptied : halted s2 = halted s1 :=
    foldl_keeps (g := halted) (fun t f => foldl_keeps (g := halted) (fun u p => halted_setPairOf ..) _ t) _ s1
  obtain ⟨htm3, hjn3, -, -⟩ := halted_foldl (f := fun t c => loseCmd c t) (fun t c ht => halted_loseCmd ht c)
    s2.cmds.admitted (stopped_of_halted hemptied rfl)
  have htm : s3.tm = (detectAlarm 4 s).tm := htm3.trans (congrArg (fun v => v.1) hemptied)
  have hjn : s3.jn = s1.jn := hjn3.trans (congrArg (fun v => v.2.1) hemptied)
  obtain ⟨hztm', hzkeys, -, hzjn', -⟩ := zeroiseVolatile_keeps s3
  have hzjn : (zeroiseVolatile s3).jn = s1.jn := hzjn'.trans hjn
  have hztm : (zeroiseVolatile s3).tm = (detectAlarm 4 s).tm := hztm'.trans htm
  have hseal := zeroiseAfterSeal_spec (zeroiseVolatile s3)
  obtain ⟨hslots, hroot, halarm, htripped, hjn4⟩ := zeroiseAfterSeal_keeps (zeroiseVolatile s3)
  rw [hzjn] at hseal
  refine ⟨halarm.trans (by rw [hztm]; rfl), htripped.trans (by rw [hztm]; rfl), ?stopped, hslots.trans (congrArg Keys.slots hzkeys),
    hroot.trans (congrArg Keys.rootIn hzkeys), rfl, rfl, rfl, hseal.1, hseal.2⟩
  case stopped => exact (congrArg Jn.stopped (hjn4.trans hzjn)).trans rfl

/-- Settles O8: the commands that end leave the stopped journal and the tamper system, and the zeroising leaves both. -/
theorem lockdownAndScuttle : Obligations.LockdownAndScuttle := by
  unfold Obligations.LockdownAndScuttle
  refine ⟨?lockdown, ?scuttle, fun s => lockdown_of_tripped, fun s => scuttle_of_scuttled⟩
  case lockdown =>
    rintro s h _ rfl
    exact lockdown_of_untripped h
  case scuttle =>
    rintro s h _ rfl
    exact scuttle_of_unscuttled h

end Sys2Proof.Machine
end

section
/-! The host's writes of registers: which block takes one, and the registers of the interrupt controller. -/

namespace Sys2Proof.Machine

/-! ### Which block takes a write -/

/-- R413, R420: a write to a register of the PF's open BAR0, IND_DATA apart, is the block's. -/
theorem hostWrite_of_pf {s : State} {off : Nat} (hopen : barOpen s 0 = true) (hdrop : writesDropped s 0 off = false)
    (hind : off ≠ 0x2008) (hreg : (barReg s 0 off).isNone = false) (v : Nat) :
    hostWrite 0 .bar0 off v s = pfWrite off (v % 65536) s := by
  simp [hostWrite, hopen, hdrop, hind, hreg]

/-- R421: a write to IND_DATA is one of the register at IND_ADDR. -/
theorem hostWrite_of_ind {s : State} (hopen : barOpen s 0 = true) (hdrop : writesDropped s 0 0x2008 = false) (v : Nat) :
    hostWrite 0 .bar0 0x2008 v s = indAdvance (indirectWrite s.host.indAddr (v % 65536) s) := by
  simp [hostWrite, hopen, hdrop]

/-! ### The interrupt controller -/

theorem exec_icMaskSet (v : Nat) (s : State) : exec (.icMaskSet v) s = .next (settle (hostWrite 0 .bar0 0x1010 v s)) := rfl
theorem exec_icMaskClr (v : Nat) (s : State) : exec (.icMaskClr v) s = .next (settle (hostWrite 0 .bar0 0x1014 v s)) := rfl
theorem exec_icPendSet (v : Nat) (s : State) : exec (.icPendSet v) s = .next (settle (hostWrite 0 .bar0 0x101C v s)) := rfl
theorem exec_icPendClr (v : Nat) (s : State) : exec (.icPendClr v) s = .next (settle (hostWrite 0 .bar0 0x1020 v s)) := rfl
theorem exec_icEoi (v : Nat) (s : State) : exec (.icEoi v) s = .next (settle (hostWrite 0 .bar0 0x1034 v s)) := rfl

/-- R426: the end of a source in service. -/
theorem icEoi_of_inService {s : State} {n : Nat} (hn : n < 512) (h : s.ic.insvc.getLsbD n = true) :
    icEoi (n % 65536) s = { s with ic := { s.ic with
      insvc := s.ic.insvc &&& ~~~ srcBit n
      pend := if srcKind n = .level ∧ s.ic.raw.getLsbD n = true then s.ic.pend ||| srcBit n else s.ic.pend } } := by
  have hmod : n % 65536 % 512 = n := by omega
  simp only [icEoi, hmod, h, if_true, Bool.and_eq_true, beq_iff_eq]

theorem icEoi_of_idle {s : State} {n : Nat} (hn : n < 512) (h : s.ic.insvc.getLsbD n = false) : icEoi (n % 65536) s = s := by
  have hmod : n % 65536 % 512 = n := by omega
  simp [icEoi, hmod, h]

/-- Settles O33: each row is a host write of its register, and the block's write of that register is the operation. -/
theorem interruptRegisters : Obligations.InterruptRegisters := by
  unfold Obligations.InterruptRegisters
  refine ⟨?maskSet, ?maskClr, ?pendSet, ?pendClr, ?eoi, ?eoiIdle⟩
  case maskSet =>
    intro s v hopen hdrop
    rw [exec_icMaskSet, hostWrite_of_pf hopen hdrop (by decide) rfl]
    rfl
  case maskClr =>
    intro s v hopen hdrop
    rw [exec_icMaskClr, hostWrite_of_pf hopen hdrop (by decide) rfl]
    rfl
  case pendSet =>
    rintro s v hopen hdrop _ rfl
    rw [exec_icPendSet, hostWrite_of_pf hopen hdrop (by decide) rfl]
    rfl
  case pendClr =>
    intro s v hopen hdrop
    rw [exec_icPendClr, hostWrite_of_pf hopen hdrop (by decide) rfl]
    rfl
  case eoi =>
    intro s n hn hopen hdrop hin
    rw [exec_icEoi, hostWrite_of_pf hopen hdrop (by decide) rfl, ← icEoi_of_inService hn hin]
    rfl
  case eoiIdle =>
    intro s n hn hopen hdrop hin
    rw [exec_icEoi, hostWrite_of_pf hopen hdrop (by decide) rfl]
    exact congrArg (fun t => Host.Outcome.next (settle t)) (icEoi_of_idle hn hin)

end Sys2Proof.Machine
end

section
/-! Register reads, the indirect window, and accesses to reserved locations. -/

namespace Sys2Proof.Machine

theorem exec_multiwordMswRead (fn : Nat) (bar : Bar) (off : Nat) (s : State) :
    exec (.multiwordMswRead fn bar off) s = .next (settle (hostRead fn bar off s)) := rfl
theorem exec_indData_read (s : State) : exec (.indData none) s = .next (settle (hostRead 0 .bar0 0x2008 s)) := rfl
theorem exec_indData_write (v : Nat) (s : State) :
    exec (.indData (some v)) s = .next (settle (hostWrite 0 .bar0 0x2008 v s)) := rfl
theorem exec_reservedLocationAccess (fn : Nat) (bar : Bar) (addr kind : Nat) (malformed : Bool) (s : State) :
    exec (.reservedLocationAccess fn bar addr kind malformed) s =
      .next (settle (reservedAccess fn bar addr kind malformed s)) := rfl

/-! ### Reads (R413, R419) -/

section
variable {s : State} {fn off v : Nat}

/-- R419: a read of a register whose block is readable. -/
theorem hostRead_of_reg (hopen : barOpen s fn = true) (hind : ¬(fn = 0 ∧ off = 0x2008)) (hreg : barReg s fn off = some v)
    (hzero : readsZero s fn off = false) : hostRead fn .bar0 off s =
      readDone fn off v ((latchedWith fn off).map (fun b => (b, (barReg s fn b).getD 0))) s := by
  simp only [hostRead, hopen, hreg, hzero, if_neg hind]
  rfl

/-- R19, R21: a read that completes with 0. -/
theorem hostRead_of_zero (hopen : barOpen s fn = true) (hind : ¬(fn = 0 ∧ off = 0x2008)) (hreg : barReg s fn off = some v)
    (hzero : readsZero s fn off = true) (hlc : s.glb.lifecycle ≠ 0xFF) :
    hostRead fn .bar0 off s = emit (.readValue fn 0) s := by
  have hlive : (s.glb.lifecycle == lcScuttled) = false := beq_eq_false_iff_ne.mpr hlc
  simp only [hostRead, hopen, hreg, hzero, if_neg hind, hlive]
  rfl

theorem readDone_of_single (h : latchedWith fn off = []) :
    readDone fn off v ((latchedWith fn off).map (fun b => (b, (barReg s fn b).getD 0))) s =
      emit (.readValue fn ((mfind (getFn s fn).latches off).getD v)) (setFn fn (getFn s fn) s) := by
  rw [h]
  rfl

theorem hostRead_bar2 (hopen : barOpen s fn = true) (hreg : bar2Reg s fn off = some v)
    (hzero : readsZero s fn 0x2000 = false) : hostRead fn .bar2 off s = emit (.readValue fn v) s := by
  simp [hostRead, hopen, bar2Read, hreg, hzero]

theorem hostRead_bar2Quad (hopen : barOpen s fn = true) (hreg : bar2Quad s fn off = some v)
    (hzero : readsZero s fn 0x2000 = false) : hostRead fn .bar2Quad off s = emit (.readValue fn v) s := by
  simp [hostRead, hopen, bar2Read, hreg, hzero]

theorem hostRead_of_ind (hopen : barOpen s 0 = true) :
    hostRead 0 .bar0 0x2008 s = indAdvance (indirectRead s.host.indAddr s) := by
  simp [hostRead, hopen]

end

/-- R153, R419: the words of a pair's SQ base are latched by a read of its most significant one alone. -/
theorem latchedWith_sqBase (fn : Nat) {k : Nat} (hk : k < 9) :
    latchedWith fn (0x40C + 0x40 * k) = [0x400 + 0x40 * k, 0x404 + 0x40 * k, 0x408 + 0x40 * k] ∧
      latchedWith fn (0x408 + 0x40 * k) = [] := by
  interval_cases k <;> exact ⟨rfl, rfl⟩

/-! ### The indirect window (R421, R422) -/

@[simp] theorem aerLog_autoInc (n b : Nat) (s : State) : (aerLog n b s).host.autoInc = s.host.autoInc := rfl
@[simp] theorem recordErr_autoInc (k fn bar addr : Nat) (ind : Bool) (s : State) :
    (recordErr k fn bar addr ind s).host.autoInc = s.host.autoInc := by
  unfold recordErr; dsimp only; split <;> rfl
@[simp] theorem reportErr_autoInc (n : Nat) (s : State) : (reportErr n s).host.autoInc = s.host.autoInc := by
  unfold reportErr; split <;> rfl
@[simp] theorem reservedWrite_autoInc (fn bar addr : Nat) (ind poisoned : Bool) (s : State) :
    (reservedWrite fn bar addr ind poisoned s).host.autoInc = s.host.autoInc := by
  unfold reservedWrite
  split
  · rfl
  · dsimp only; split <;> simp
@[simp] theorem phyDisable_host (l : Nat) (s : State) : (phyDisable l s).host = s.host := rfl
@[simp] theorem onLane_host (l : Nat) (f : Lane → Lane) (s : State) : (onLane l f s).host = s.host := rfl
/-- R381: a write of LN_PHY_CTRL changes nothing of the host interface. -/
@[simp] theorem phyWrite_host (l addr v : Nat) (s : State) : (phyWrite l addr v s).host = s.host := by
  unfold phyWrite
  extract_lets x s1
  have hjudged : s1.host = s.host := by
    show (rwd _ _ _ _ _ _ s).host = _
    unfold rwd ignLog
    split
    · split <;> simp
    · rfl
  split
  · exact hjudged
  · split <;> exact hjudged
@[simp] theorem indirectWrite_autoInc (a v : Nat) (s : State) : (indirectWrite a v s).host.autoInc = s.host.autoInc := by
  unfold indirectWrite
  split
  · simp
  · split
    · rw [phyWrite_host]
    · rfl

theorem indAdvance_of_autoInc {s : State} (h : s.host.autoInc = true) :
    indAdvance s = { s with host := { s.host with indAddr := (s.host.indAddr + 4) % 16777216 } } := if_pos h

/-! ### Reserved locations (R414, R415) -/

section
variable {s : State} (hlc : s.glb.lifecycle ≠ 0xFF) (hsvc : s.glb.service ≠ 6)
include hlc hsvc

/-- R414: a read of a reserved location is aborted and recorded, outside SCUTTLED and LOCKDOWN. -/
theorem reservedRead_of_live (fn bar addr : Nat) (ind : Bool) :
    reservedRead fn bar addr ind s = emit (.completerAbort fn) (aerLog fn 15 (recordErr 1 fn bar addr ind s)) := by
  have hlive : (s.glb.lifecycle == lcScuttled) = false := beq_eq_false_iff_ne.mpr hlc
  have hserves : (s.glb.service == svLockdown) = false := beq_eq_false_iff_ne.mpr hsvc
  simp [reservedRead, hlive, hserves]

/-- R414: a write to a reserved location is dropped, recorded and reported. -/
theorem reservedWrite_of_live (fn bar addr : Nat) (ind : Bool) : reservedWrite fn bar addr ind false s =
    reportErr fn (emit (.aer fn false) (aerLog fn 20 (recordErr 2 fn bar addr ind s))) := by
  have hserves : ¬(bar = 0 ∧ (s.glb.lifecycle = lcScuttled ∨ s.glb.service = svLockdown)) := by
    rintro ⟨_, h | h⟩
    · exact hlc h
    · exact hsvc h
  rw [reservedWrite, if_neg hserves]
  rfl

/-- R414: a poisoned write to any location is dropped and recorded. -/
theorem poisonedWrite_of_live (fn bar addr : Nat) (ind : Bool) : reservedWrite fn bar addr ind true s =
    emit (.aer fn true) (aerLog fn 12 (recordErr 3 fn bar addr ind s)) := by
  have hserves : ¬(bar = 0 ∧ (s.glb.lifecycle = lcScuttled ∨ s.glb.service = svLockdown)) := by
    rintro ⟨_, h | h⟩
    · exact hlc h
    · exact hsvc h
  rw [reservedWrite, if_neg hserves]
  rfl

end

section
variable {s : State} {fn addr : Nat} {bar : Bar}

/-- R414: a poisoned write elsewhere than to IND_DATA, wherever it goes. -/
theorem reservedAccess_of_poisoned (hopen : barOpen s fn = true) (hind : ¬(fn = 0 ∧ bar = .bar0 ∧ addr = 0x2008)) (m : Bool) :
    reservedAccess fn bar addr 2 m s = reservedWrite fn (if bar = .bar0 then 0 else 2) addr false true s := by
  have hvia : (fn == 0 && bar == .bar0 && addr == 0x2008) = false := by
    simpa [Bool.and_eq_true, and_assoc] using hind
  simp [reservedAccess, hopen, hvia]

/-- R414: a read or a write that is malformed, elsewhere than to IND_DATA. -/
theorem reservedAccess_of_malformed (hopen : barOpen s fn = true) (hind : ¬(fn = 0 ∧ addr = 0x2008)) {kind : Nat}
    (hkind : kind ≤ 1) : reservedAccess fn .bar0 addr kind true s =
      if kind = 0 then reservedRead fn 0 addr false s else reservedWrite fn 0 addr false false s := by
  have hvia : (fn == 0 && addr == 0x2008) = false := by simpa using hind
  have hwrite : kind ≠ 2 := by omega
  simp [reservedAccess, hopen, hvia, hkind, hwrite]

/-- R414: a read or a write of a location that no register fills. -/
theorem reservedAccess_of_unfilled (hopen : barOpen s fn = true)
    (h0 : bar = .bar0 → barReg s fn addr = none ∧ ¬(fn = 0 ∧ addr = 0x2008)) (h2 : bar = .bar2 → bar2Reg s fn addr = none)
    (hq : bar = .bar2Quad → bar2Quad s fn addr = none) {kind : Nat} (hkind : kind ≤ 1) :
    reservedAccess fn bar addr kind false s = if kind = 0 then reservedRead fn (if bar = .bar0 then 0 else 2) addr false s
      else reservedWrite fn (if bar = .bar0 then 0 else 2) addr false false s := by
  have hwrite : kind ≠ 2 := by omega
  cases bar with
  | bar0 =>
    obtain ⟨hnone, hind⟩ := h0 rfl
    have hvia : (fn == 0 && addr == 0x2008) = false := by simpa using hind
    simp [reservedAccess, hopen, hvia, hkind, hwrite, hnone]
  | bar2 => simp [reservedAccess, hopen, hkind, hwrite, h2 rfl, show (Bar.bar2 == Bar.bar0) = false from rfl]
  | bar2Quad => simp [reservedAccess, hopen, hkind, hwrite, hq rfl, show (Bar.bar2Quad == Bar.bar0) = false from rfl]

/-- R421, R422: a dropped access to IND_DATA is one of the indirect address, which then advances. -/
theorem reservedAccess_via_ind {kind : Nat} {m : Bool} (hopen : barOpen s 0 = true) (h : kind = 2 ∨ m = true ∧ kind ≤ 1) :
    reservedAccess 0 .bar0 0x2008 kind m s = indAdvance (if kind = 0 then reservedRead 0 0 s.host.indAddr true s
      else reservedWrite 0 0 s.host.indAddr true (decide (kind = 2)) s) := by
  rcases h with rfl | ⟨rfl, hkind⟩
  · simp [reservedAccess, hopen]
  · simp [reservedAccess, hopen, hkind]

end

/-! ### The rows -/

/-- Settles O34: each access is the read, write or drop that its lemma above gives, and each bullet's effect is that
operation's own. -/
theorem registerReads : Obligations.RegisterReads := by
  unfold Obligations.RegisterReads
  refine ⟨?plain, ?latched, ?latches, fun fn k hk => latchedWith_sqBase fn hk, ?bar2, ?zero, ?indRead, fun s => rfl,
    ?indReserved, ?indWrite, ?reserved, ?poisoned, ?viaInd, fun s n b => rfl, fun s n => rfl, fun s k bar addr ind => rfl⟩
  case plain =>
    intro s fn off v hopen hind hreg hzero hsingle hlatch
    rw [exec_multiwordMswRead, hostRead_of_reg hopen hind hreg hzero, readDone_of_single hsingle, hlatch]
    rfl
  case latched =>
    intro s fn off v x hopen hind hreg hzero hsingle hlatch
    rw [exec_multiwordMswRead, hostRead_of_reg hopen hind hreg hzero, readDone_of_single hsingle, hlatch]
    rfl
  case latches =>
    rintro s fn off v _ hopen hind hreg hzero rfl
    rw [exec_multiwordMswRead, hostRead_of_reg hopen hind hreg hzero]
    rfl
  case bar2 =>
    intro s fn off v hopen hzero
    refine ⟨fun hreg => ?_, fun hreg => ?_⟩
    · rw [exec_multiwordMswRead, hostRead_bar2 hopen hreg hzero]
    · rw [exec_multiwordMswRead, hostRead_bar2Quad hopen hreg hzero]
  case zero =>
    intro s fn off v hopen hind hreg hzero hlc
    rw [exec_multiwordMswRead, hostRead_of_zero hopen hind hreg hzero hlc]
  case indRead =>
    rintro s _ v _ hopen rfl hreg hzero rfl
    rw [exec_indData_read, hostRead_of_ind hopen]
    simp only [indirectRead, hreg, hzero]
    rfl
  case indReserved =>
    rintro s _ hopen - rfl hreg hlc hsvc
    rw [exec_indData_read, hostRead_of_ind hopen]
    simp only [indirectRead, hreg, reservedRead_of_live hlc hsvc]
  case indWrite =>
    intro s v hopen hdrop hauto
    rw [exec_indData_write, hostWrite_of_ind hopen hdrop, indAdvance_of_autoInc (by rw [indirectWrite_autoInc, hauto])]
  case reserved =>
    rintro s fn bar addr _ hopen hlc hsvc rfl h0 h2 hq
    rw [exec_reservedLocationAccess, exec_reservedLocationAccess, reservedAccess_of_unfilled hopen h0 h2 hq (by decide),
      reservedAccess_of_unfilled hopen h0 h2 hq (by decide), if_pos rfl, if_neg Nat.one_ne_zero,
      reservedRead_of_live hlc hsvc, reservedWrite_of_live hlc hsvc]
    exact ⟨rfl, rfl⟩
  case poisoned =>
    rintro s fn bar addr _ m hopen hlc hsvc rfl hind
    refine ⟨?elsewhere, ?illFormed⟩
    case elsewhere =>
      rw [exec_reservedLocationAccess, reservedAccess_of_poisoned hopen hind, poisonedWrite_of_live hlc hsvc]
    case illFormed =>
      rintro rfl
      have hind0 : ¬(fn = 0 ∧ addr = 0x2008) := fun h => hind ⟨h.1, rfl, h.2⟩
      rw [exec_reservedLocationAccess, exec_reservedLocationAccess, reservedAccess_of_malformed hopen hind0 (by decide),
        reservedAccess_of_malformed hopen hind0 (by decide), if_pos rfl, if_neg Nat.one_ne_zero,
        reservedRead_of_live hlc hsvc, reservedWrite_of_live hlc hsvc]
      exact ⟨rfl, rfl⟩
  case viaInd =>
    intro s m hopen hlc hsvc
    rw [exec_reservedLocationAccess, exec_reservedLocationAccess, reservedAccess_via_ind hopen (.inl rfl),
      reservedAccess_via_ind hopen (.inr ⟨rfl, by decide⟩), if_neg (by decide), if_pos rfl, reservedRead_of_live hlc hsvc,
      decide_eq_true rfl, poisonedWrite_of_live hlc hsvc]
    exact ⟨rfl, rfl⟩

end Sys2Proof.Machine
end

section
/-! The configuration rule, CFG_COMMIT and the walker. -/

namespace Sys2Proof.Machine

theorem exec_registerWrite (fn : Nat) (bar : Bar) (off v : Nat) (s : State) :
    exec (.registerWrite fn bar off v) s = .next (settle (hostWrite fn bar off v s)) := rfl
theorem exec_cfgCommit (v : Nat) (s : State) : exec (.cfgCommit v) s = .next (settle (hostWrite 0 .bar0 0x1800 v s)) := rfl
theorem exec_cfgWalk (s : State) : exec .cfgWalk s = serve cfgWalk s := rfl

/-! ### The ENABLE rule (R420) -/

section
variable {changed : Bool} {fn addr : Nat} {ign take : State → State} {s : State}

@[simp] theorem rwd_of_disabled : rwd false changed fn addr ign take s = take s := rfl
@[simp] theorem rwd_of_changed : rwd true true fn addr ign take s = ignLog fn addr (ign s) := rfl
@[simp] theorem rwd_of_same : rwd true false fn addr ign take s = s := rfl

end

/-- TM_WARN. -/
theorem tmWarn_write {v : Nat} (hv : v < 256) (s : State) :
    pfWrite 0x6008 (v % 65536) s = rwd s.tm.enable (decide (v ≠ s.tm.warn)) 0 0x6008 tmIgn
      (fun t => { t with tm := { t.tm with warn := v } }) s := by
  rw [Nat.mod_eq_of_lt (by omega)]
  show rwd s.tm.enable (decide (v % 256 ≠ s.tm.warn)) 0 0x6008 tmIgn
    (fun t => { t with tm := { t.tm with warn := v % 256 } }) s = _
  rw [Nat.mod_eq_of_lt hv]

theorem hostWrite_tmWarn {s : State} {v : Nat} (hv : v < 256) (hopen : barOpen s 0 = true)
    (hdrop : writesDropped s 0 0x6008 = false) : hostWrite 0 .bar0 0x6008 v s =
      rwd s.tm.enable (decide (v ≠ s.tm.warn)) 0 0x6008 tmIgn (fun t => { t with tm := { t.tm with warn := v } }) s := by
  rw [hostWrite_of_pf hopen hdrop (by decide) rfl, tmWarn_write hv]

/-- R21: a write to BAR0 that is dropped. -/
theorem hostWrite_of_dropped {s : State} {fn off : Nat} (hopen : barOpen s fn = true) (hdrop : writesDropped s fn off = true)
    (v : Nat) : hostWrite fn .bar0 off v s = s := by
  simp [hostWrite, hopen, hdrop]

/-! ### CFG_COMMIT (R424) -/

/-- Of a fold over the indices below a bound that acts on those chosen, where one alone is. -/
theorem foldl_range_single {α : Type} {p : Nat → Bool} {f : α → Nat → α} {g n : Nat} (hg : g < n)
    (hp : ∀ i, p i = true ↔ i = g) (s : α) :
    (List.range n).foldl (fun t i => if p i = true then f t i else t) s = f s g := by
  have hbelow : ∀ m ≤ g, (List.range m).foldl (fun t i => if p i = true then f t i else t) s = s := by
    intro m hm
    induction m with
    | zero => rfl
    | succ m ih =>
      rw [List.range_succ, List.foldl_append, ih (by omega)]
      exact if_neg (fun h => by have := (hp m).mp h; omega)
  induction n with
  | zero => omega
  | succ n ih =>
    rw [List.range_succ, List.foldl_append]
    rcases Nat.lt_succ_iff_lt_or_eq.mp hg with hlt | rfl
    · rw [ih hlt]
      exact if_neg (fun h => by have := (hp n).mp h; omega)
    · rw [hbelow g (Nat.le_refl g)]
      exact if_pos ((hp g).mpr rfl)

/-- A word with bit g alone commits group g. -/
theorem cfgCommit_single {g : Nat} (hg : g < 10) (s : State) : cfgCommit (2 ^ g) s = commitGroup g s := by
  have hbit : ∀ i, bit (2 ^ g) i = true ↔ i = g := fun i => by
    rw [bit, Nat.testBit_two_pow, decide_eq_true_iff, eq_comm]
  exact foldl_range_single hg hbit s

theorem hostWrite_cfgCommit {s : State} {g : Nat} (hg : g < 10) (hopen : barOpen s 0 = true)
    (hdrop : writesDropped s 0 0x1800 = false) : hostWrite 0 .bar0 0x1800 (2 ^ g) s = commitGroup g s := by
  have hword : 2 ^ g < 65536 := Nat.pow_lt_pow_right (by decide) (show g < 16 by omega)
  rw [hostWrite_of_pf hopen hdrop (by decide) rfl, Nat.mod_eq_of_lt hword]
  exact cfgCommit_single hg s

theorem commitGroup_of_unwalked {s : State} {g : Nat} (h : mget none s.host.cfgCur g = none) :
    commitGroup g s = { s with host := { s.host with cfgRef := mset none s.host.cfgRef g (some (cfgCrc s g)) } } := by
  simp only [commitGroup, h]

theorem commitGroup_of_walked {s : State} {g c : Nat} (h : mget none s.host.cfgCur g = some c) :
    commitGroup g s = setMismatch g (c != cfgCrc s g)
      { s with host := { s.host with cfgRef := mset none s.host.cfgRef g (some (cfgCrc s g)) } } := by
  simp only [commitGroup, h]

/-! ### The walker (R424) -/

/-- What the walker leaves of a group that it ends. -/
theorem cfgWalk_of_running {s : State} (h : Phase.registers ∈ s.start.done) :
    cfgWalk s = { setMismatch s.host.cfgWalk
        (decide (s.host.cfgWalk < 10) && cfgCrc s s.host.cfgWalk != cfgRefOf s s.host.cfgWalk) s with
      host := { (setMismatch s.host.cfgWalk
        (decide (s.host.cfgWalk < 10) && cfgCrc s s.host.cfgWalk != cfgRefOf s s.host.cfgWalk) s).host with
        cfgCur := mset none s.host.cfgCur s.host.cfgWalk (some (cfgCrc s s.host.cfgWalk))
        cfgWalk := (s.host.cfgWalk + 1) % 16
        cfgPass := if s.host.cfgWalk = 15 then (s.host.cfgPass + 1) % 65536 else s.host.cfgPass } } := by
  have hdone : s.start.done.contains .registers = true := List.contains_iff_mem.mpr h
  unfold cfgWalk
  rw [hdone]
  rfl

/-- Settles O35: the block writes of TM_WARN, OB_LOG_MARK and CFG_COMMIT, and the walker on a group and on the last one. -/
theorem configurationRule : Obligations.ConfigurationRule := by
  unfold Obligations.ConfigurationRule
  refine ⟨?taken, ?ignored, ?same, ?mark, ?unwalked, ?walked, ?walk, ?pass⟩
  case taken =>
    intro s v hv hopen hdrop hen
    rw [exec_registerWrite, hostWrite_tmWarn hv hopen hdrop, hen, rwd_of_disabled]
  case ignored =>
    intro s v hv hopen hdrop hen hne
    rw [exec_registerWrite, hostWrite_tmWarn hv hopen hdrop, hen, decide_eq_true hne, rwd_of_changed]
    rfl
  case same =>
    intro s v hv hopen hen heq
    cases hdrop : writesDropped s 0 0x6008 with
    | true => rw [exec_registerWrite, hostWrite_of_dropped hopen hdrop]
    | false => rw [exec_registerWrite, hostWrite_tmWarn hv hopen hdrop, hen, decide_eq_false (not_not.mpr heq), rwd_of_same]
  case mark =>
    intro s v hv hopen hdrop
    rw [exec_registerWrite, hostWrite_of_pf hopen hdrop (by decide) rfl, Nat.mod_eq_of_lt hv]
    rfl
  case unwalked =>
    intro s g hg hopen hdrop hcur
    rw [exec_cfgCommit, hostWrite_cfgCommit hg hopen hdrop, commitGroup_of_unwalked hcur]
  case walked =>
    intro s g c hg hopen hdrop hcur
    rw [exec_cfgCommit, hostWrite_cfgCommit hg hopen hdrop, commitGroup_of_walked hcur]
  case walk =>
    intro s hal hdone hlt
    rw [exec_cfgWalk, serve_alive hal, cfgWalk_of_running hdone,
      Nat.mod_eq_of_lt (show s.host.cfgWalk + 1 < 16 by omega), if_neg (show s.host.cfgWalk ≠ 15 by omega)]
    rfl
  case pass =>
    rintro s hal hdone heq _ rfl
    have hnone : (decide (15 < 10) && cfgCrc s 15 != cfgRefOf s 15) = false := rfl
    rw [exec_cfgWalk, serve_alive hal, cfgWalk_of_running hdone, heq, hnone, if_pos rfl]

end Sys2Proof.Machine
end

section
/-! Cards on the custody bus: naming and removal. -/

namespace Sys2Proof.Machine

/-- A key that a map does not list reads as the default. -/
theorem mget_of_not_mem {α : Type} (d : α) {m : KMap α} {k : Nat} (h : k ∉ mkeys m) : mget d m k = d := by
  induction m with
  | nil => rfl
  | cons p m ih =>
    obtain ⟨k', v⟩ := p
    simp only [mkeys, List.map_cons, List.mem_cons, not_or] at h
    simp only [mget, if_neg (Ne.symm h.1)]
    split
    · rfl
    · exact ih h.2

@[simp] theorem namedCard_setNamed_self (a : Nat) (c : Option NamedCard) (s : State) :
    namedCard (setNamed a c s) a = c := mget_mset_self ..
theorem namedCard_setNamed_ne {a b : Nat} (h : b ≠ a) (c : Option NamedCard) (s : State) :
    namedCard (setNamed a c s) b = namedCard s b := mget_mset_ne none s.card.named c h

/-! ### One card -/

theorem removeCard_of_none {s : State} {a : Nat} (h : namedCard s a = none) : removeCard a s = s := by
  simp [removeCard, h]
theorem removeCard_of_named {s : State} {a : Nat} (h : namedCard s a ≠ none) :
    removeCard a s = setNamed a none (setCardBus (fun b => { b with
      removals := satInc b.removals 0xFFFF
      todo := b.todo.filter (fun t => t.1 ≠ a)
      retried := false
      hold := if b.hold = some a then none else b.hold }) s) := by
  rw [removeCard, if_neg (by simpa using h)]

@[simp] theorem namedCard_removeCard_self (a : Nat) (s : State) : namedCard (removeCard a s) a = none := by
  by_cases h : namedCard s a = none
  · rw [removeCard_of_none h, h]
  · rw [removeCard_of_named h, namedCard_setNamed_self]
theorem namedCard_removeCard_ne {a b : Nat} (h : b ≠ a) (s : State) : namedCard (removeCard a s) b = namedCard s b := by
  by_cases ha : namedCard s a = none
  · rw [removeCard_of_none ha]
  · rw [removeCard_of_named ha, namedCard_setNamed_ne h]
    rfl
theorem removals_removeCard {s : State} {a : Nat} (h : namedCard s a ≠ none) :
    (removeCard a s).card.removals = satInc s.card.removals 0xFFFF := by
  rw [removeCard_of_named h]
  rfl

/-! ### Every card -/

/-- Removals name nothing afresh, and free every address of their list. -/
theorem namedCard_foldl_removeCard (l : List Nat) (s : State) (a : Nat) :
    (namedCard s a = none → namedCard (l.foldl (fun t b => removeCard b t) s) a = none) ∧
    (a ∈ l → namedCard (l.foldl (fun t b => removeCard b t) s) a = none) := by
  induction l generalizing s with
  | nil => exact ⟨id, fun h => absurd h List.not_mem_nil⟩
  | cons b l ih =>
    obtain ⟨hkeep, hmem⟩ := ih (removeCard b s)
    by_cases hab : a = b
    · subst hab
      exact ⟨fun _ => hkeep (namedCard_removeCard_self a s), fun _ => hkeep (namedCard_removeCard_self a s)⟩
    · refine ⟨fun h => hkeep ((namedCard_removeCard_ne hab s).trans h), fun h => hmem ?_⟩
      exact (List.mem_cons.mp h).resolve_left hab

/-- Every address is free once each card has been removed. -/
theorem namedCard_removed (s : State) (a : Nat) :
    namedCard ((addrs s).foldl (fun t b => removeCard b t) s) a = none := by
  by_cases h : a ∈ addrs s
  · exact (namedCard_foldl_removeCard _ s a).2 h
  · exact (namedCard_foldl_removeCard _ s a).1 (mget_of_not_mem none h)

/-- R393: CC_REMOVALS counts each card that leaves. -/
theorem removals_foldl_removeCard {l : List Nat} {s : State} (hnodup : l.Nodup) (hnamed : ∀ a ∈ l, namedCard s a ≠ none)
    (htop : s.card.removals + l.length ≤ 0xFFFF) :
    (l.foldl (fun t b => removeCard b t) s).card.removals = s.card.removals + l.length := by
  induction l generalizing s with
  | nil => rfl
  | cons b l ih =>
    rw [List.length_cons] at htop ⊢
    obtain ⟨hb, hl⟩ := List.nodup_cons.mp hnodup
    have hone : (removeCard b s).card.removals = s.card.removals + 1 := by
      rw [removals_removeCard (hnamed b List.mem_cons_self), satInc, if_pos (by omega)]
    rw [List.foldl_cons, ih hl ?named (by omega)]
    · omega
    case named =>
      intro a ha
      rw [namedCard_removeCard_ne (show a ≠ b from fun h => hb (h ▸ ha))]
      exact hnamed a (List.mem_cons_of_mem b ha)

end Sys2Proof.Machine
end

section
/-! Spread modulation, calendar, service balls, the PHY of a lane, the custody bus's disable, the log's window, counter
selections and the trace port's own messages. -/

namespace Sys2Proof.Machine

theorem exec_sscEnable (w : Nat) (s : State) :
    exec (.sscEnable w) s = .next (settle (hostWrite 0 .bar0 0x7000 (w / 2 * 2 + 1) s)) := rfl
theorem exec_sscDisable (w : Nat) (s : State) :
    exec (.sscDisable w) s = .next (settle (hostWrite 0 .bar0 0x7000 (w / 2 * 2) s)) := rfl
theorem exec_cpCalApply (v : Nat) (s : State) : exec (.cpCalApply v) s = .next (settle (hostWrite 0 .bar0 0x7058 v s)) := rfl
theorem exec_pmEnable (s : State) : exec .pmEnable s = .next (settle (hostWrite 0 .bar0 0x9000 1 s)) := rfl
theorem exec_lanePhyDisable (l w : Nat) (s : State) :
    exec (.lanePhyDisable l w) s = .next (settle (lanePhyOff l w s)) := rfl
theorem exec_ccDisable (w : Nat) (s : State) :
    exec (.ccDisable w) s = .next (settle (hostWrite 0 .bar0 0xA000 (w / 2 * 2) s)) := rfl
theorem exec_obLogSelLo (v : Nat) (s : State) : exec (.obLogSelLo v) s = .next (settle (hostWrite 0 .bar0 0x8044 v s)) := rfl
theorem exec_obCntEvent (v : Nat) (s : State) : exec (.obCntEvent v) s = .next (settle (hostWrite 0 .bar0 0x801C v s)) := rfl
theorem exec_traceLost (s : State) : exec .traceLost s = serve traceLost s := rfl

/-! ### Spread modulation (R452) -/

theorem bit_zero_of_enable (w : Nat) : bit (w / 2 * 2 + 1) 0 = true := by
  simp only [bit, Nat.testBit_zero, decide_eq_true_iff]; omega
theorem bit_zero_of_disable (w : Nat) : bit (w / 2 * 2) 0 = false := by
  simp only [bit, Nat.testBit_zero, decide_eq_false_iff_not]; omega
theorem depth_of_enable (w : Nat) : bits (w / 2 * 2 + 1) 2 1 = w / 2 % 4 := by
  show (w / 2 * 2 + 1) / 2 % 4 = w / 2 % 4
  omega
theorem depth_of_disable (w : Nat) : bits (w / 2 * 2) 2 1 = w / 2 % 4 := by
  show w / 2 * 2 / 2 % 4 = w / 2 % 4
  omega

theorem cpCtrl_of_rise {s : State} {w : Nat} (h : s.clk.sscEnable = false) (hdepth : w / 2 % 4 < 3) :
    cpCtrl (w / 2 * 2 + 1) s = { s with clk := { s.clk with
      sscDepth := w / 2 % 4, sscEnable := true, fault := 0, sscActive := w / 2 % 4 } } := by
  have hgood : ¬ w / 2 % 4 = 3 := by omega
  simp [cpCtrl, h, bit_zero_of_enable, depth_of_enable, hgood, b2n]

theorem cpCtrl_of_fall {s : State} {w : Nat} (h : s.clk.sscEnable = true) (hdepth : w / 2 % 4 = s.clk.sscDepth) :
    cpCtrl (w / 2 * 2) s = { s with clk := { s.clk with sscEnable := false, fault := 0, sscActive := 0 } } := by
  simp [cpCtrl, h, bit_zero_of_disable, depth_of_disable, hdepth]

/-! ### The calendar (R455) -/

theorem calApply_of_ahead {s : State} (h : s.clk.cal < s.clk.calSet) :
    calApply s = icRaise 421 (logEvent 8 2 (leNats 2 s.clk.calSet ++ [1]) { s with clk := { s.clk with
      calSteps := satInc s.clk.calSteps 0xFFFF, everSet := true, calSource := 0, cal := s.clk.calSet, calNs := 0
      slew := none, calLast := 1 } }) := by
  have hle : s.clk.cal ≤ s.clk.calSet := Nat.le_of_lt h
  have hne : ¬ s.clk.calSet = s.clk.cal := by omega
  simp only [calApply, if_pos hle, if_neg hne]

theorem calApply_of_near {s : State} (h : s.clk.calSet < s.clk.cal) (hnear : s.clk.cal ≤ s.clk.calSet + 600) :
    calApply s = icRaise 421 (logEvent 8 2 (leNats 2 s.clk.calSet ++ [2]) { s with clk := { s.clk with
      calSteps := satInc s.clk.calSteps 0xFFFF, everSet := true, calSource := 0, slew := some (s.clk.calSet, 0)
      calLast := 2 } }) := by
  have hgt : ¬ s.clk.cal ≤ s.clk.calSet := by omega
  simp only [calApply, if_neg hgt, if_pos hnear]

theorem calApply_of_far {s : State} (h : s.clk.calSet + 600 < s.clk.cal) :
    calApply s = icRaise 421 (logEvent 8 2 (leNats 2 s.clk.calSet ++ [3]) { s with clk := { s.clk with
      calSteps := satInc s.clk.calSteps 0xFFFF, calLast := 3 } }) := by
  have hgt : ¬ s.clk.cal ≤ s.clk.calSet := by omega
  have hfar : ¬ s.clk.cal ≤ s.clk.calSet + 600 := by omega
  simp only [calApply, if_neg hgt, if_neg hfar]

theorem hostWrite_calApply {s : State} (hopen : barOpen s 0 = true) (hdrop : writesDropped s 0 0x7058 = false) :
    hostWrite 0 .bar0 0x7058 1 s = calApply s := by
  rw [hostWrite_of_pf hopen hdrop (by decide) rfl]
  rfl

/-! ### The service balls (R505) -/

theorem getLsbD_one_shiftLeft {w m : Nat} (hm : m < w) (n : Nat) : (1#w <<< m).getLsbD n = decide (n = m) := by
  rw [BitVec.getLsbD_shiftLeft, BitVec.getLsbD_one, Bool.eq_iff_iff]
  simp only [Bool.and_eq_true, Bool.not_eq_true', decide_eq_true_iff, decide_eq_false_iff_not]
  omega

/-- A bitmap that takes the bits chosen below a bound. -/
theorem getLsbD_foldl_set {w : Nat} (p : Nat → Bool) (b : BitVec w) {m : Nat} (hm : m ≤ w) (n : Nat) :
    ((List.range m).foldl (fun (b : BitVec w) n => if p n = true then b ||| (1#w <<< n) else b) b).getLsbD n =
      (b.getLsbD n || (decide (n < m) && p n)) := by
  induction m with
  | zero => simp
  | succ m ih =>
    have hlast : ∀ c : BitVec w, (if p m = true then c ||| 1#w <<< m else c).getLsbD n =
        (c.getLsbD n || (decide (n = m) && p m)) := by
      intro c
      cases hp : p m with
      | true => simp [getLsbD_one_shiftLeft (Nat.lt_of_succ_le hm)]
      | false => simp
    rw [List.range_succ, List.foldl_append, List.foldl_cons, List.foldl_nil, hlast, ih (by omega), Bool.or_assoc]
    congr 1
    by_cases hn : n = m
    · subst hn; simp
    · have hlt : n < m + 1 ↔ n < m := by omega
      simp [hn, hlt]

theorem pmEnable_of_fault {s : State} {n : Nat} (h : s.pm.enable = false) (hn : n < 64)
    (hbad : ballFault (mget 0x0041 s.pm.svc n) n ≠ 0)
    (hbelow : ∀ m, m < n → ballFault (mget 0x0041 s.pm.svc m) m = 0) :
    pmEnable s = { s with pm := { s.pm with
      enable := true, fault := ballFault (mget 0x0041 s.pm.svc n) n, faultBall := n } } := by
  have hfind : (List.range 64).find? (fun n => ballFault (svcOf s.pm.svc n) n != 0) = some n := by
    refine List.find?_range_eq_some.mpr ⟨by simpa [svcOf] using hbad, List.mem_range.mpr hn, fun m hm => ?_⟩
    simpa [svcOf] using hbelow m hm
  simp only [pmEnable, h, hfind]
  rfl

theorem pmEnable_of_good {s : State} (h : s.pm.enable = false)
    (hgood : ∀ n, n < 64 → ballFault (mget 0x0041 s.pm.svc n) n = 0) :
    pmEnable s = { s with pm := { s.pm with enable := true, inForce := s.pm.svc
                                            parked := (List.range 64).foldl (fun (b : BitVec 64) n =>
      if bits (mget 0x0041 s.pm.svc n) 5 2 != bits (mget 0x0041 s.pm.inForce n) 5 2 then b ||| (1#64 <<< n) else b) s.pm.parked } } := by
  have hfind : (List.range 64).find? (fun n => ballFault (svcOf s.pm.svc n) n != 0) = none := by
    refine List.find?_range_eq_none.mpr fun n hn => ?_
    simpa [svcOf] using hgood n hn
  simp only [pmEnable, h, hfind]
  rfl

/-- R505: settings that are already in force park no ball. -/
theorem pmEnable_of_unmoved {s : State} (h : s.pm.enable = false) (hsame : s.pm.svc = s.pm.inForce)
    (hgood : ∀ n, n < 64 → ballFault (mget 0x0041 s.pm.svc n) n = 0) :
    pmEnable s = { s with pm := { s.pm with enable := true } } := by
  have hparked : (List.range 64).foldl (fun (b : BitVec 64) n =>
      if bits (mget 0x0041 s.pm.svc n) 5 2 != bits (mget 0x0041 s.pm.inForce n) 5 2 then b ||| (1#64 <<< n) else b)
      s.pm.parked = s.pm.parked := by
    simp [hsame]
  rw [pmEnable_of_good h hgood, hparked, hsame]

theorem hostWrite_pmEnable {s : State} (hopen : barOpen s 0 = true) (hdrop : writesDropped s 0 0x9000 = false) :
    hostWrite 0 .bar0 0x9000 1 s = pmEnable s := by
  rw [hostWrite_of_pf hopen hdrop (by decide) rfl]
  rfl

/-! ### A lane's PHY (R381) -/

theorem getLane_setLane_ne {l m : Nat} (h : m ≠ l) (x : Lane) (s : State) : getLane (setLane l x s) m = getLane s m :=
  mget_mset_ne ({} : Lane) s.lanes x h

/-- R422: LN_PHY_CTRL is a register of every lane. -/
theorem indirectReg_phy {l : Nat} (hl : l < 64) (s : State) :
    indirectReg s (0x100054 + 0x100 * l) = some (phyWord (getLane s l) + b2n (getLane s l).phyEnable) := by
  have halign : ¬ (0x100054 + 0x100 * l) % 4 ≠ 0 := by omega
  have hblock : 0x100000 ≤ 0x100054 + 0x100 * l ∧ 0x100054 + 0x100 * l < 0x104000 := by omega
  have hlane : (0x100054 + 0x100 * l - 0x100000) / 0x100 = l := by omega
  have hoff : (0x100054 + 0x100 * l) % 0x100 = 0x54 := by omega
  rw [indirectReg, if_neg halign, if_pos hblock, hlane, hoff]
  rfl

theorem indirectWrite_phy {l : Nat} (hl : l < 64) (v : Nat) (s : State) :
    indirectWrite (0x100054 + 0x100 * l) v s = phyWrite l (0x100054 + 0x100 * l) v s := by
  have hblock : 0x100000 ≤ 0x100054 + 0x100 * l ∧ 0x100054 + 0x100 * l < 0x104000 ∧
      (0x100054 + 0x100 * l) % 0x100 = 0x54 := by omega
  have hlane : (0x100054 + 0x100 * l - 0x100000) / 0x100 = l := by omega
  have hreg : ¬ (indirectReg s (0x100054 + 0x100 * l)).isNone = true := by simp [indirectReg_phy hl]
  rw [indirectWrite, if_neg hreg, if_pos hblock, hlane]

theorem phyFields_of_disable (w : Nat) : bits (w / 2 * 2) 6 1 = bits w 6 1 := by
  show w / 2 * 2 / 2 % 64 = w / 2 % 64
  omega

/-- R381, R420: ENABLE 0 on a lane whose PHY runs turns it off; a change of a field beside it is ignored, counted and logged. -/
theorem phyWrite_of_fall {s : State} {l w addr : Nat} (h : (getLane s l).phyEnable = true) :
    phyWrite l addr (w / 2 * 2) s = if bits w 6 1 * 2 = phyWord (getLane s l) then phyDisable l s
      else phyDisable l (ignLog 0 addr (onLane l (fun y => { y with ign := satInc y.ign 0xFF }) s)) := by
  unfold phyWrite
  extract_lets x s1
  rw [bit_zero_of_disable, if_neg Bool.false_ne_true, if_pos (show x.phyEnable = true from h)]
  have hjudged : s1 = rwd true (decide (bits w 6 1 * 2 ≠ phyWord x)) 0 addr
      (onLane l (fun y => { y with ign := satInc y.ign 0xFF })) (onLane l (fun y => { y with
        txSwing := bits (w / 2 * 2) 6 5, txDeemph := bits (w / 2 * 2) 4 3, rxEq := bits (w / 2 * 2) 2 1 })) s := by
    rw [← phyFields_of_disable w, ← show x.phyEnable = true from h]
  rw [hjudged]
  split
  case isTrue heq => rw [decide_eq_false (not_not.mpr heq), rwd_of_same]
  case isFalse hne => rw [decide_eq_true hne, rwd_of_changed]

/-- IND_ADDR names a register. -/
def indAt (a : Nat) (s : State) : State := { s with host := { s.host with indAddr := a } }

/-- R381, R422: the write of LN_PHY_CTRL through the indirect window. -/
theorem lanePhyOff_of_open {s : State} {l w : Nat} (hl : l < 64) (hw : w < 65536) (hopen : barOpen s 0 = true)
    (hdrop : writesDropped s 0 0x2008 = false) (hauto : s.host.autoInc = false) :
    lanePhyOff l w s = phyWrite l (0x100054 + 0x100 * l) (w / 2 * 2) (indAt (0x100054 + 0x100 * l) s) := by
  have hword : w / 2 * 2 % 65536 = w / 2 * 2 := Nat.mod_eq_of_lt (by omega)
  have hwritten : indirectWrite (0x100054 + 0x100 * l) (w / 2 * 2 % 65536) (indAt (0x100054 + 0x100 * l) s) =
      phyWrite l (0x100054 + 0x100 * l) (w / 2 * 2) (indAt (0x100054 + 0x100 * l) s) := by
    rw [hword, indirectWrite_phy hl]
  have hstays : (phyWrite l (0x100054 + 0x100 * l) (w / 2 * 2) (indAt (0x100054 + 0x100 * l) s)).host.autoInc = false := by
    rw [phyWrite_host]
    exact hauto
  rw [lanePhyOff, if_pos ⟨hl, hopen⟩]
  refine (hostWrite_of_ind (s := indAt (0x100054 + 0x100 * l) s) hopen hdrop (w / 2 * 2)).trans ?_
  refine (congrArg indAdvance hwritten).trans ?_
  rw [indAdvance, if_neg (by rw [hstays]; decide)]

theorem getLane_phyDisable_self (l : Nat) (s : State) : getLane (phyDisable l s) l =
    { unlinked (getLane s l) with phyEnable := false, retryAt := none } := getLane_onLane_self ..

/-! ### The custody bus is turned off (R403) -/

theorem clkDiv_of_disable (w : Nat) : bits (w / 2 * 2) 8 1 = w / 2 % 256 := by
  show w / 2 * 2 / 2 % 256 = w / 2 % 256
  omega

theorem ccCtrl_of_fall {s : State} {w : Nat} (h : w / 2 % 256 = s.card.clkDiv) : ccCtrl (w / 2 * 2) s = ccDisable s := by
  have hsame : rwd s.card.enable (decide (bits (w / 2 * 2) 8 1 ≠ s.card.clkDiv)) 0 0xA000
      (setCardBus (fun c => { c with ign := satInc c.ign 0xFF }))
      (setCardBus (fun c => { c with clkDiv := bits (w / 2 * 2) 8 1 })) s = s := by
    rw [clkDiv_of_disable, h]
    cases s.card.enable
    · rfl
    · rw [decide_eq_false (not_not.mpr rfl), rwd_of_same]
  unfold ccCtrl
  dsimp only
  rw [hsame, bit_zero_of_disable, if_neg Bool.false_ne_true]

/-! ### Observation (R474, R476, R478, R484) -/

theorem logSelLo_of_held {s : State} {v : Nat} {e : List Nat} (h : logFind s (putWord s.ob.sel 0 v) = some e) :
    logSelLo v s = { s with ob := { s.ob with sel := putWord s.ob.sel 0 v, win := e, winHeld := true } } := by
  have hfind : logFind { s with ob := { s.ob with sel := putWord s.ob.sel 0 v } } (putWord s.ob.sel 0 v) = some e := h
  simp only [logSelLo, hfind]

theorem cntEventWrite_of_disabled {s : State} {v : Nat} (hv : v < 65536) (h : s.ob.cntEnable = false) :
    cntEventWrite v s = if cntSelOk v = true then
        { s with ob := { s.ob with counters := mset {} s.ob.counters s.ob.cntSel { count := 0, event := v } } }
      else { s with ob := { s.ob with cntFault := 1 } } := by
  simp only [cntEventWrite, h, Nat.mod_eq_of_lt hv, rwd_of_disabled]

theorem hostWrite_obCntEvent {s : State} {v : Nat} (hopen : barOpen s 0 = true) (hdrop : writesDropped s 0 0x801C = false)
    (hv : v < 65536) (h : s.ob.cntEnable = false) : hostWrite 0 .bar0 0x801C v s = if cntSelOk v = true then
        { s with ob := { s.ob with counters := mset {} s.ob.counters s.ob.cntSel { count := 0, event := v } } }
      else { s with ob := { s.ob with cntFault := 1 } } := by
  rw [hostWrite_of_pf hopen hdrop (by decide) rfl, Nat.mod_eq_of_lt hv]
  exact cntEventWrite_of_disabled hv h

/-- R474: a message finds room in an empty intake. -/
theorem traceMsg_of_empty {s : State} {w : List Nat} (h : s.ob.intake = []) (hw : w.length ≤ 2048) :
    traceMsg w s = { s with ob := { s.ob with intake := [w] } } := by
  have hroom : 0 + w.length ≤ 2048 := by omega
  simp only [traceMsg, h, List.map_nil, List.foldl_nil, if_pos hroom, List.nil_append]

/-- R474: a microsecond with an empty intake leaves its SYNC alone. -/
theorem tracePass_of_empty {s : State} (hen : s.ob.traceEnable = true) (hrun : s.tm.tripped = false)
    (hclk : s.clk.running = true) (hempty : s.ob.intake = []) {n : Nat} (hn : n = s.clk.era * 2 ^ 48 + s.clk.tos)
    (hpos : 0 < n) : (tracePass 1 s).ob.intake = [(0x1000 + n / 2 ^ 48 % 256) :: leNats 3 (n % 2 ^ 48)] := by
  have hinst : s.clk.era * 2 ^ 48 + s.clk.tos - 1 + 0 + 1 = n := by omega
  have hsent : sendTrace 1 s = s := by simp [sendTrace, hempty]
  have hpass : tracePass 1 s = syncMsg n (n / 2 ^ 48) s := by
    simp only [tracePass, hen, hrun, hclk]
    show syncMsg (s.clk.era * 2 ^ 48 + s.clk.tos - 1 + 0 + 1) ((s.clk.era * 2 ^ 48 + s.clk.tos - 1 + 0 + 1) / 2 ^ 48)
      (sendTrace 1 s) = _
    rw [hinst, hsent]
  rw [hpass, syncMsg, traceMsg_of_empty hempty (by simp [leNats])]

theorem tripped_of_alive {s : State} (h : alive s = true) : s.tm.tripped = false := by
  simp only [alive, Bool.and_eq_true, Bool.not_eq_true'] at h
  exact h.1.2

theorem traceLost_of_empty {s : State} (hal : alive s = true) (hlost : 0 < s.ob.pendingLost) (hempty : s.ob.intake = [])
    (hen : s.ob.traceEnable = true) (htype : bit s.ob.traceTypes 7 = true) :
    traceLost s = icRaise 450 { s with ob := { s.ob with
      intake := [0x9000 :: leNats 2 s.ob.pendingLost], pendingLost := 0 } } := by
  simp [traceLost, hlost, hempty, hen, htype, tripped_of_alive hal]

/-- Settles O37: each row is a host write of its register, whose effect the lemma of its block gives; the removal of every
card is counted card by card. -/
theorem clockAndBallWrites : Obligations.ClockAndBallWrites := by
  unfold Obligations.ClockAndBallWrites
  refine ⟨?sscOn, ?sscOff, ?calAhead, ?calNear, ?calFar, ?pmSame, ?pmFault, ?pmGood, fun w n => rfl, fun s => rfl, ?phyOff,
    ?phyOffWith, ?phyLeaves, ?ccLeaves, ?ccOff, ?logSel, ?cntTaken, ?cntFault, fun s => rfl, ?sync, ?lost⟩
  case sscOn =>
    intro s w hw hopen hdrop hen hdepth
    rw [exec_sscEnable, hostWrite_of_pf hopen hdrop (by decide) rfl, Nat.mod_eq_of_lt (by omega), ← cpCtrl_of_rise hen hdepth]
    rfl
  case sscOff =>
    intro s w hw hopen hdrop hen hdepth
    rw [exec_sscDisable, hostWrite_of_pf hopen hdrop (by decide) rfl, Nat.mod_eq_of_lt (by omega), ← cpCtrl_of_fall hen hdepth]
    rfl
  case calAhead =>
    intro s hopen hdrop h
    rw [exec_cpCalApply, hostWrite_calApply hopen hdrop, calApply_of_ahead h]
  case calNear =>
    intro s hopen hdrop h hnear
    rw [exec_cpCalApply, hostWrite_calApply hopen hdrop, calApply_of_near h hnear]
  case calFar =>
    intro s hopen hdrop h
    rw [exec_cpCalApply, hostWrite_calApply hopen hdrop, calApply_of_far h]
  case pmSame =>
    intro s hopen hdrop hen hsame hgood
    rw [exec_pmEnable, hostWrite_pmEnable hopen hdrop, pmEnable_of_unmoved hen hsame hgood]
  case pmFault =>
    intro s n hopen hdrop hen hn hbad hbelow
    rw [exec_pmEnable, hostWrite_pmEnable hopen hdrop, pmEnable_of_fault hen hn hbad hbelow]
  case pmGood =>
    intro s hopen hdrop hen hgood
    refine ⟨_, by rw [exec_pmEnable, hostWrite_pmEnable hopen hdrop, pmEnable_of_good hen hgood], fun n hn => ?_⟩
    rw [getLsbD_foldl_set _ _ (Nat.le_refl 64), decide_eq_true hn, Bool.true_and]
  case phyOff =>
    intro s l hl hopen hdrop hen hauto hword
    have hsame : bits 0 6 1 * 2 = phyWord (getLane (indAt (0x100054 + 0x100 * l) s) l) := hword.symm
    rw [exec_lanePhyDisable, lanePhyOff_of_open hl (by decide) hopen hdrop hauto,
      phyWrite_of_fall (s := indAt (0x100054 + 0x100 * l) s) hen, if_pos hsame]
    rfl
  case phyOffWith =>
    rintro s l w _ hl hw hopen hdrop hen hauto rfl
    rw [exec_lanePhyDisable, lanePhyOff_of_open hl hw hopen hdrop hauto,
      phyWrite_of_fall (s := indAt (0x100054 + 0x100 * l) s) hen]
    refine ⟨fun hsame => ?_, fun hchanged => ?_⟩
    · rw [if_pos (show bits w 6 1 * 2 = phyWord (getLane (indAt (0x100054 + 0x100 * l) s) l) from hsame)]
      rfl
    · rw [if_neg (show ¬ bits w 6 1 * 2 = phyWord (getLane (indAt (0x100054 + 0x100 * l) s) l) from hchanged)]
      rfl
  case phyLeaves =>
    intro s l
    rw [getLane_phyDisable_self]
    exact ⟨rfl, rfl, rfl, rfl, rfl, rfl, rfl, fun m hm => getLane_setLane_ne hm _ s⟩
  case ccLeaves =>
    intro s
    refine ⟨rfl, rfl, rfl, rfl, fun a => namedCard_removed s a, fun hnodup htop hnamed => ?_⟩
    exact removals_foldl_removeCard hnodup hnamed htop
  case ccOff =>
    intro s w hw hopen hdrop hdiv
    rw [exec_ccDisable, hostWrite_of_pf hopen hdrop (by decide) rfl, Nat.mod_eq_of_lt (by omega), ← ccCtrl_of_fall hdiv]
    rfl
  case logSel =>
    intro s v e hv hopen hdrop hfind
    rw [exec_obLogSelLo, hostWrite_of_pf hopen hdrop (by decide) rfl, Nat.mod_eq_of_lt hv, ← logSelLo_of_held hfind]
    rfl
  case cntTaken =>
    intro s v hv hopen hdrop hen hok
    rw [exec_obCntEvent, hostWrite_obCntEvent hopen hdrop hv hen, if_pos hok]
  case cntFault =>
    intro s v hv hopen hdrop hen hok
    rw [exec_obCntEvent, hostWrite_obCntEvent hopen hdrop hv hen, if_neg (by simp [hok])]
  case sync =>
    intro s hen hrun hclk hempty n hn hpos
    exact tracePass_of_empty hen hrun hclk hempty hn hpos
  case lost =>
    intro s hal hlost hempty hen htype
    rw [exec_traceLost, serve_alive hal, traceLost_of_empty hal hlost hempty hen htype]

end Sys2Proof.Machine
end

section
/-! The TAP (R510). -/

namespace Sys2Proof.Machine

theorem exec_idcode (s : State) : exec .idcode s = .next (settle (tapRow 0x01 s)) := rfl
theorem exec_bypass (s : State) : exec .bypass s = .next (settle (tapRow 0x3F s)) := rfl
theorem exec_sample (c : Nat) (s : State) : exec (.sample c) s = .next (settle (tapRow 0x02 (tapCells c s))) := rfl
theorem exec_preload (c : Nat) (s : State) : exec (.preload c) s = .next (settle (tapRow 0x03 (tapCells c s))) := rfl
theorem exec_extest (s : State) : exec .extest s = .next (settle (tapHold 4 s)) := rfl
theorem exec_clamp (s : State) : exec .clamp s = .next (settle (tapHold 5 s)) := rfl
theorem exec_highz (s : State) : exec .highz s = .next (settle (tapHold 6 s)) := rfl
theorem exec_testLogicReset (dt : Nat) (e : Bool) (s : State) :
    exec (.testLogicReset dt e) s = .next (settle (testLogicReset dt e s)) := rfl

/-! ### What an instruction selects -/

/-- An instruction that is taken: IDCODE always, the others in UNPROVISIONED. -/
theorem tapLoad_taken (k : Nat) (s : State) (h : k = 0x01 ∨ s.glb.lifecycle = 0x03) :
    tapLoad k s = emit (.tap k (tapData { s with tap := { s.tap with instr := k } } k))
      { s with tap := { s.tap with instr := k } } := by
  have hc : (if k = 0x01 ∨ s.glb.lifecycle = lcUnprovisioned then k else 0x3F) = k := if_pos h
  unfold tapLoad
  rw [hc]

/-- BYPASS, and outside UNPROVISIONED whatever is not IDCODE. -/
theorem tapLoad_bypass (k : Nat) (s : State) (hk : k ≠ 0x01) (h : k = 0x3F ∨ s.glb.lifecycle ≠ 0x03) :
    tapLoad k s = emit (.tap 0x3F 0) { s with tap := { s.tap with instr := 0x3F } } := by
  have hc : (if k = 0x01 ∨ s.glb.lifecycle = lcUnprovisioned then k else 0x3F) = 0x3F := by
    rcases h with rfl | hl
    · exact ite_self _
    · exact if_neg (not_or.2 ⟨hk, hl⟩)
  unfold tapLoad
  rw [hc]
  rfl

theorem tapRow_on (k : Nat) (s : State) (h : s.clk.supply = true) : tapRow k s = tapLoad k s := if_pos h

theorem tapCells_taken (c : Nat) (s : State) (hp : s.clk.supply = true) (hl : s.glb.lifecycle = 0x03) :
    tapCells c s = { s with tap := { s.tap with boundary := BitVec.ofNat 453 c } } := if_pos ⟨hp, hl⟩

theorem tapCells_ignored (c : Nat) (s : State) (hl : s.glb.lifecycle ≠ 0x03) : tapCells c s = s :=
  if_neg fun h => hl h.2

theorem tapRow_cells (k c : Nat) (hk : k = 2 ∨ k = 3) (s : State) (hp : s.clk.supply = true)
    (hl : s.glb.lifecycle = 0x03) :
    tapRow k (tapCells c s) = emit (.tap k (BitVec.ofNat 453 c).toNat)
      { s with tap := { s.tap with boundary := BitVec.ofNat 453 c, instr := k } } := by
  rw [tapCells_taken c s hp hl, tapRow_on k { s with tap := { s.tap with boundary := BitVec.ofNat 453 c } } hp,
    tapLoad_taken k { s with tap := { s.tap with boundary := BitVec.ofNat 453 c } } (.inr hl)]
  rcases hk with rfl | rfl <;> rfl

/-! ### The device reset that the TAP holds -/

theorem tapHold_bypass (k : Nat) (s : State) (hk : k ≠ 0x01) (hp : s.clk.supply = true) (hl : s.glb.lifecycle ≠ 0x03) :
    tapHold k s = emit (.tap 0x3F 0) { s with tap := { s.tap with instr := 0x3F } } := by
  have hl' : s.glb.lifecycle ≠ lcUnprovisioned := hl
  simp [tapHold, hp, hl', tapLoad_bypass k s hk (.inr hl)]

theorem tapHold_holds (k : Nat) (s : State) (hp : s.clk.supply = true) (hl : s.glb.lifecycle = 0x03)
    (hh : heldReset s = false) (u : State) (hu : u = sealForReset (tapLoad k s)) :
    tapHold k s = { u with
      free := u.free + 1, tap := { u.tap with heldReset := true }, host := { u.host with linkUp := false }
      clk := { u.clk with nextCause := Config.freeValue 0x61 u.free % 4 + 1 } } := by
  have hl' : s.glb.lifecycle = lcUnprovisioned := hl
  subst hu
  simp [tapHold, hp, hl', hh, draw]

/-- Of the three instructions that hold the device, EXTEST alone selects the boundary cells. -/
theorem tapData_of_hold (k : Nat) (s : State) (hk : k = 4 ∨ k = 5 ∨ k = 6) :
    tapData s k = if k = 4 then s.tap.boundary.toNat else 0 := by
  rcases hk with rfl | rfl | rfl <;> rfl

theorem testLogicReset_released (dt : Nat) (e : Bool) (s : State) (hp : s.clk.supply = true)
    (ht : s.tap.heldReset = true) (hf : s.clk.powerFailHold = false) (hr : s.clk.resetN = false)
    (hq : s.clk.perstN = false) (he : s.clk.testEn = false) :
    testLogicReset dt e s = tamperPhase dt e (finishSeal (s.jn.flight.length + 1)
      { s with tap := { s.tap with instr := 0x01, heldReset := false } }) := by
  simp [testLogicReset, heldReset, hp, ht, hf, hr, hq, he]

/-- Settles O38: each instruction by whether it is taken, the three holding ones by `tapHold_holds`. -/
theorem tapInstructions : Obligations.TapInstructions := by
  refine ⟨fun s hp => ⟨?_, ?_⟩, fun s c hp hl => ⟨?_, ?_⟩, fun s c hp hl => ⟨?_, ?_, ?_, ?_, ?_⟩, ?_, ?_⟩
  · rw [exec_idcode, tapRow_on _ _ hp, tapLoad_taken _ _ (.inl rfl)]
  · rw [exec_bypass, tapRow_on _ _ hp, tapLoad_bypass _ _ (by decide) (.inl rfl)]
  · rw [exec_sample, tapRow_cells _ c (.inl rfl) s hp hl]
  · rw [exec_preload, tapRow_cells _ c (.inr rfl) s hp hl]
  · rw [exec_sample, tapCells_ignored c s hl, tapRow_on _ _ hp, tapLoad_bypass _ _ (by decide) (.inr hl)]
  · rw [exec_preload, tapCells_ignored c s hl, tapRow_on _ _ hp, tapLoad_bypass _ _ (by decide) (.inr hl)]
  · rw [exec_extest, tapHold_bypass _ s (by decide) hp hl]
  · rw [exec_clamp, tapHold_bypass _ s (by decide) hp hl]
  · rw [exec_highz, tapHold_bypass _ s (by decide) hp hl]
  · intro s k c hkc hp hl hh
    have hrow : exec c s = .next (settle (tapHold k s)) := by
      rcases hkc with ⟨rfl, rfl⟩ | ⟨rfl, rfl⟩ | ⟨rfl, rfl⟩
      · exact exec_extest s
      · exact exec_clamp s
      · exact exec_highz s
    refine ⟨_, rfl, ?_⟩
    rw [hrow, tapHold_holds k s hp hl hh _ rfl, tapLoad_taken k s (.inr hl),
      tapData_of_hold k _ (hkc.imp And.left (Or.imp And.left And.left))]
  · intro s dt e hp ht hf hr hq he
    rw [exec_testLogicReset, testLogicReset_released dt e s hp ht hf hr hq he]

end Sys2Proof.Machine
end

section
/-! Clocks, calendar, SMBus, the margin plan and ageing in service (R453 to R456, R466, R468). -/

namespace Sys2Proof.Machine

theorem exec_calSlewEnd (dt : Nat) (s : State) :
    exec (.calSlewEnd dt) s = .next (settle (calSlewEnd (passTime dt s))) := rfl
theorem exec_calendarRetainWrite (dt : Nat) (s : State) :
    exec (.calendarRetainWrite dt) s = .next (settle (calRetain (passTime dt s))) := rfl
theorem exec_eraWrap (dt : Nat) (s : State) : exec (.eraWrap dt) s = .next (settle (passTime dt s)) := rfl
theorem exec_smbusReadWord (a c : Nat) (s : State) :
    exec (.smbusReadWord a c) s = .next (settle (smbusRead a c s)) := rfl
theorem exec_marginReplan (dt : Nat) (v0 deltas eol : List Nat) (smb : List (Option Regulator)) (fc : Nat) (s : State) :
    exec (.marginReplan dt v0 deltas eol smb fc) s = .next (settle (marginReplan dt ⟨v0, deltas, eol, smb, fc⟩ s)) := rfl
theorem exec_ageingTick (dt : Nat) (s : State) :
    exec (.ageingTick dt) s = .next (settle (ageingTick (passTime dt s))) := rfl

/-! ### Calendar -/

theorem calSlewEnd_reached (t : State) (c ns : Nat) (h : t.clk.slew = some (c, ns)) (hc : t.clk.cal = c)
    (hn : t.clk.calNs = ns) :
    calSlewEnd t = { t with clk := { t.clk with
      slew := none, calLast := if t.clk.calLast = 2 then 1 else t.clk.calLast } } := by
  simp [calSlewEnd, h, hc, hn]

theorem calRetain_due (t : State) (ha : alive t = true) (h : t.clk.retainAt ≤ t.now) :
    calRetain t = { t with clk := { t.clk with calRetained := t.clk.cal, retainAt := t.now + 60000000 } } := by
  simp [calRetain, ha, h]

/-! ### Time of service (R453) -/

theorem calPass_tos (n : Nat) (c : Clk) : (calPass n c).tos = c.tos := by
  unfold calPass; dsimp only; split <;> rfl
theorem calPass_era (n : Nat) (c : Clk) : (calPass n c).era = c.era := by
  unfold calPass; dsimp only; split <;> rfl

/-- The calendar passes and time of service with it; the wrap's log entry and source leave the clocks alone. -/
theorem tosPass_clk (dt : Nat) (s : State) :
    (tosPass dt s).clk = calPass dt { s.clk with
      tos := (s.clk.tos + dt) % 2 ^ 48, era := (s.clk.era + (s.clk.tos + dt) / 2 ^ 48) % 256 } := by
  unfold tosPass
  dsimp only
  split <;> simp

theorem passTime_clk_running (dt : Nat) (s : State) (h : s.clk.running = true) (hdt : 0 < dt) :
    (passTime dt s).clk.tos = (s.clk.tos + dt) % 2 ^ 48 ∧
    (passTime dt s).clk.era = (s.clk.era + (s.clk.tos + dt) / 2 ^ 48) % 256 := by
  unfold passTime
  simp only [Nat.pos_iff_ne_zero.1 hdt, if_false, writeLog_clk, h, if_true, tracePass_clk, countN_clk, tosPass_clk,
    calPass_tos, calPass_era, and_self]

/-- Time of service wraps at most once in a lapse shorter than its range. -/
theorem wraps_at_most_once (tos dt era : Nat) (h : tos < 2 ^ 48) (hdt : dt < 2 ^ 48) :
    (era + (tos + dt) / 2 ^ 48) % 256 = if 2 ^ 48 ≤ tos + dt then (era + 1) % 256 else era % 256 := by
  split
  · rw [show (tos + dt) / 2 ^ 48 = 1 by omega]
  · rw [show (tos + dt) / 2 ^ 48 = 0 by omega, Nat.add_zero]

/-! ### SMBus (R456) -/

theorem smbusRead_own (c : Nat) (s : State) (h : s.clk.running = true) :
    smbusRead s.clk.smbTarget c s = emit (.smbus (if c = 0 then some ((tmTemp s % 65536).toNat)
      else if c = 1 then some ((s.tm.tempMax.getD 0 % 65536).toNat)
      else if c = 2 then some (serviceWord s) else none)) s := by
  simp [smbusRead, h]

/-! ### The margin plan and ageing (R466, R468) -/

theorem marginReplan_due (dt : Nat) (x : PlanIn) (s : State) (ha : alive (passTime dt s) = true)
    (hs : (passTime dt s).glb.service = 2)
    (h : (passTime dt s).ag.planAt + 86400000000 ≤ (passTime dt s).clk.readyUs) :
    marginReplan dt x s = makePlan dt x (passTime dt s) := by
  have hdue : replanDue (passTime dt s) = true := by
    unfold replanDue
    rw [hs, decide_eq_true h]
    rfl
  simp only [marginReplan, ha, hdue, Bool.and_self, if_true]

/-- The sums of ageing after one more second: each island ages at its hottest sensor and its voltage. -/
def sumsAfterTick (t : State) : KMap Nat :=
  (List.range 5).foldl (fun m i => mset 0 m i
    (mget 0 m i + ageing (hottest t (tempSensors (islandRegion i))) (mget 850 t.clk.vset i))) t.ag.sums

/-- A tick that is not the 60th keeps the sums and leaves the retained cells. -/
theorem ageingTick_of_due (t : State) (ha : alive t = true) (hs : inService t = true)
    (hd : t.ag.tickAt + 1000000 ≤ t.now) (hk : t.ag.ticks < 59) :
    ageingTick t = { t with ag := { t.ag with
      sums := sumsAfterTick t, lifeUsed := lifeOf (sumsAfterTick t), tickAt := t.ag.tickAt + 1000000
      ticks := t.ag.ticks + 1 } } := by
  have hkeep : decide (59 ≤ t.ag.ticks) = false := decide_eq_false (by omega)
  have hnow : decide (t.now < t.ag.tickAt + 1000000) = false := decide_eq_false (by omega)
  unfold ageingTick
  rw [ha, hs, hnow, hkeep]
  rfl

/-- Settles O50: each row at its stated condition; the era by `wraps_at_most_once`. -/
theorem clockWork : Obligations.ClockWork := by
  refine ⟨?_, ?_, fun s dt => exec_eraWrap dt s, ?_, ?_, ?_, ?_⟩
  · intro s dt c ns h hc hn
    rw [exec_calSlewEnd, calSlewEnd_reached _ c ns h hc hn]
  · intro s dt ha h
    rw [exec_calendarRetainWrite, calRetain_due _ ha h]
  · intro s dt hr ht hdt hpos
    rw [← wraps_at_most_once s.clk.tos dt s.clk.era ht hdt]
    exact passTime_clk_running dt s hr hpos
  · intro s h
    have row (c : Nat) := (exec_smbusReadWord s.clk.smbTarget c s).trans
      (congrArg (fun t => Host.Outcome.next (settle t)) (smbusRead_own c s h))
    refine ⟨row 0, row 1, row 2, fun c hc => (row c).trans ?_⟩
    rw [if_neg (by omega), if_neg (by omega), if_neg (by omega)]
  · intro s dt v0 deltas eol smb fc ha hs h
    rw [exec_marginReplan, marginReplan_due dt _ s ha hs h]
  · rintro s dt t rfl ha hs hd hk sums rfl
    rw [exec_ageingTick, ageingTick_of_due _ ha hs hd hk]
    rfl

end Sys2Proof.Machine
end

section
/-! The sensors that trip (R431 to R433, R442, R448): each at the condition that it raises its alarm for. -/

namespace Sys2Proof.Machine

theorem exec_light (uw : Nat) (s : State) : exec (.light uw) s = .next (settle (light uw s)) := rfl
theorem exec_tempTrip (n : Nat) (t : Int) (s : State) : exec (.tempTrip n t) s = .next (settle (tempTrip n t s)) := rfl
theorem exec_tempRate (n : Nat) (r : Int) (s : State) : exec (.tempRate n r) s = .next (settle (tempRate n r s)) := rfl
theorem exec_clockGlitch (r : Nat) (p : ClockPhase) (s : State) :
    exec (.clockGlitch r p) s = .next (settle (clockGlitch r p s)) := rfl
theorem exec_glitchIsland (i : Nat) (mv : Int) (f : Bool) (s : State) :
    exec (.glitchIsland i mv f) s = .next (settle (glitchIsland i mv f s)) := rfl
theorem exec_clockWindow (r : Nat) (dev osc : Int) (s : State) :
    exec (.clockWindow r dev osc) s = .next (settle (clockWindow r dev osc s)) := rfl
theorem exec_envelopeCompare (nets : List Nat) (s : State) :
    exec (.envelopeCompare nets) s = .next (settle (envelopeCompare nets s)) := rfl
theorem exec_ballastLow (mv : Nat) (o : Bool) (s : State) :
    exec (.ballastLow mv o) s = .next (settle (ballastLow mv o s)) := rfl
theorem exec_supplyRange (rail : Nat) (mv : Int) (s : State) :
    exec (.supplyRange rail mv) s = .next (settle (supplyRange rail mv s)) := rfl
theorem exec_tempRange (n : Nat) (t : Int) (s : State) :
    exec (.tempRange n t) s = .next (settle (tempRange n t s)) := rfl
theorem exec_tempWarn (n : Nat) (t : Int) (s : State) : exec (.tempWarn n t) s = .next (settle (tempWarnRow n t s)) := rfl
theorem exec_cfgMismatch (dt : Nat) (s : State) :
    exec (.cfgMismatch dt) s = .next (settle (cfgMismatchRow (passTime dt s))) := rfl

/-! ### Light and temperature trips -/

theorem light_over {s : State} {uw : Nat} (hp : s.clk.supply = true) (h : 20 < uw) : light uw s = alarm 0x08 0 3 0 s :=
  if_pos ⟨hp, h⟩

theorem light_within {uw : Nat} (h : uw ≤ 20) (s : State) : light uw s = s := if_neg fun hc => by omega

theorem tempTrip_beyond {s : State} {n : Nat} {t : Int} (hp : s.clk.supply = true) (hn : n < 20)
    (ht : t < -200 ∨ 960 < t) : tempTrip n t s = alarm 0x09 0 3 t (setTemp n t s) := by
  have hout : tempTripped t = true := by simpa [tempTripped] using ht
  simp [tempTrip, hp, hn, hout]

theorem tempRate_beyond {s : State} {n : Nat} {r : Int} (hp : s.clk.supply = true) (hn : n < 20)
    (hr : 160 < r ∨ r < -160) : tempRate n r s = alarm 0x0A 0 3 r s :=
  if_pos ⟨hp, hn, hr⟩

/-! ### Clocks -/

theorem clockRegion_loom {l : Nat} (h : l < 4) : clockRegion (0x10 + l) = true := by
  simp [clockRegion]; omega
theorem clockRegion_heddle {h : Nat} (hh : h < 24) : clockRegion (0x20 + h) = true := by
  simp [clockRegion]; omega
theorem cellLevel_loom (l : Nat) : cellLevel (0x10 + l) = 2 := if_neg (by omega)
theorem cellLevel_heddle (h : Nat) : cellLevel (0x20 + h) = 2 := if_neg (by omega)

theorem clockGlitch_short {s : State} {r : Nat} (p : ClockPhase) (hr : s.clk.running = true)
    (hreg : clockRegion r = true) (hlen : phaseLen p < 4000) :
    clockGlitch r p s = alarm 0x06 r (glitchLevel r p) (phaseLen p) s := by
  have hlong : decide (4000 ≤ phaseLen p) = false := decide_eq_false (by omega)
  simp [clockGlitch, hr, hreg, hlong]

theorem clockWindow_off_frequency {s : State} {r : Nat} {dev osc : Int} (hr : s.clk.running = true)
    (hreg : clockRegion r = true) (hlo : -200 ≤ osc) (hhi : osc ≤ 200) (hd : 100 < dev ∨ dev < -300) :
    clockWindow r dev osc s = alarm 0x05 r (cellLevel r) dev s := by
  have hosc : ¬ (200 < osc ∨ osc < -200) := by omega
  simp [clockWindow, hr, hreg, hosc, hd]

theorem clockWindow_diverging {s : State} {r : Nat} {dev osc : Int} (hr : s.clk.running = true)
    (hreg : clockRegion r = true) (ho : osc < -200 ∨ 200 < osc) (hlo : -300 ≤ dev) (hhi : dev ≤ 100) :
    clockWindow r dev osc s = alarm 0x07 0 3 osc { s with tm := { s.tm with oscOk := false } } := by
  have hd : ¬ (100 < dev ∨ dev < -300) := by omega
  simp [clockWindow, hr, hreg, ho.symm, hd]

/-! ### Supplies -/

theorem glitchIsland_out {s : State} {i : Nat} {mv : Int} (f : Bool) (hp : s.clk.supply = true) (hi : i < 5)
    (hm : mv < -80 ∨ 100 < mv) :
    glitchIsland i mv f s = alarm 0x03 (islandRegion i) (if f then 0 else cellLevel (islandRegion i)) mv s := by
  have hout : (decide (mv < -80) || decide (100 < mv)) = true := by simpa using hm
  have hin : decide (4 < i) = false := decide_eq_false (by omega)
  simp only [glitchIsland, hp, hin, hout, Bool.not_true, Bool.or_self, Bool.false_eq_true, if_false]

theorem islandRegion_loom {l : Nat} (h : l < 4) : islandRegion l = 0x10 + l := if_pos h

/-! ### The Envelope (R432, R442) -/

/-- After a comparison each net that differed stands with one mismatch more than before, and no other stands. -/
theorem mem_runsAfter {nets : List Nat} {s : State} {p : Nat × Nat} (h : p ∈ runsAfter nets s) :
    p.1 ∈ nets ∧ p.2 = mget 0 s.tm.netRuns p.1 + 1 := by
  have fold : ∀ (l : List Nat) (m : KMap Nat), p ∈ l.foldl (fun m n => mput m n (mget 0 s.tm.netRuns n + 1)) m →
      p ∈ m ∨ (p.1 ∈ l ∧ p.2 = mget 0 s.tm.netRuns p.1 + 1) := by
    intro l
    induction l with
    | nil => exact fun _ => .inl
    | cons n l ih =>
      intro m hp
      rcases ih _ hp with hm | ⟨hl, hv⟩
      · rcases mem_mput hm with rfl | hm
        · exact .inr ⟨List.mem_cons_self .., rfl⟩
        · exact .inl hm
      · exact .inr ⟨List.mem_cons_of_mem _ hl, hv⟩
  exact (fold nets [] h).resolve_left List.not_mem_nil

/-- The nets of a comparison that the Envelope has, each once. -/
def netsOut (nets : List Nat) : List Nat := (nets.filter (fun n => n < 64)).eraseDups

/-- A comparison is a breach with four nets out, or with one out for the third time running. -/
def breaches (nets : List Nat) (s : State) : Bool :=
  decide (4 ≤ (netsOut nets).length) || (runsAfter (netsOut nets) s).any (fun p => decide (3 ≤ p.2))

theorem breaches_of_four {nets : List Nat} (s : State) (h : 4 ≤ (netsOut nets).length) : breaches nets s = true := by
  simp [breaches, h]

theorem not_breaches_of_first {nets : List Nat} {s : State} (hlen : (netsOut nets).length ≤ 3)
    (h : ∀ n ∈ netsOut nets, mget 0 s.tm.netRuns n < 2) : breaches nets s = false := by
  have hfour : decide (4 ≤ (netsOut nets).length) = false := decide_eq_false (by omega)
  rw [breaches, hfour, Bool.false_or, List.any_eq_false]
  intro p hp
  obtain ⟨hn, hv⟩ := mem_runsAfter hp
  have := h p.1 hn
  simp only [decide_eq_true_iff]
  omega

theorem envelopeCompare_breach {nets : List Nat} {s : State} (hp : s.clk.supply = true) (hb : breaches nets s = true) :
    envelopeCompare nets s = alarm 0x01 0 4 (netsOut nets).length
      { s with tm := { s.tm with netRuns := runsAfter (netsOut nets) s, envOk := false } } := by
  unfold breaches netsOut at hb
  simp only [envelopeCompare, hp, if_true, hb]
  rfl

theorem envelopeCompare_mismatch {nets : List Nat} {s : State} (hp : s.clk.supply = true) (hb : breaches nets s = false)
    (hout : (netsOut nets).isEmpty = false) :
    envelopeCompare nets s = alarm 0x02 0 1 (netsOut nets).length
      { s with tm := { s.tm with netRuns := runsAfter (netsOut nets) s } } := by
  unfold breaches netsOut at hb
  unfold netsOut at hout
  simp only [envelopeCompare, hp, if_true, hb, hout, Bool.false_eq_true, if_false]
  rfl

theorem envelopeCompare_none {s : State} (hp : s.clk.supply = true) :
    envelopeCompare [] s = { s with tm := { s.tm with netRuns := [] } } := by
  unfold envelopeCompare
  rw [hp]
  rfl

/-- With the main supplies off a breach sets the retained latch. -/
theorem envelopeCompare_battery {nets : List Nat} {s : State} (hp : s.clk.supply = false)
    (hc : s.tm.checkPattern = true) (hb : breaches nets s = true) :
    envelopeCompare nets s = { s with tm := { s.tm with netRuns := runsAfter (netsOut nets) s, breach := true } } := by
  unfold breaches netsOut at hb
  simp only [envelopeCompare, hp, Bool.false_eq_true, if_false, hc, if_true, hb]
  rfl

theorem netsOut_single {n : Nat} (h : n < 64) : netsOut [n] = [n] := by
  simp [netsOut, h, List.eraseDups_cons]

/-- One net out for the third time running is a breach. -/
theorem breaches_of_third {n : Nat} {s : State} (hn : n < 64) (hr : mget 0 s.tm.netRuns n = 2) :
    breaches [n] s = true := by
  simp [breaches, netsOut_single hn, runsAfter, mput, hr]

/-! ### Conditions that stand (R431, R448, R498) -/

theorem sense_comes {s : State} {sensor region : Nat} (v : Int) (h : standing s sensor region = false) :
    sense true sensor region v s = alarm sensor region 1 v s := by
  simp [sense, h]

theorem sense_goes (sensor region : Nat) (v : Int) (s : State) :
    sense false sensor region v s = causeGone sensor region s := rfl

theorem ballastLow_comes {s : State} {mv : Nat} {o : Bool} (hr : s.clk.running = true)
    (hl : holdupNow s mv < 450 ∨ o = true) (hs : standing s 0x0D 0 = false) :
    ballastLow mv o s = alarm 0x0D 0 1 0 s := by
  have hon : (decide (holdupNow s mv < 450) || o) = true := by simpa using hl
  rw [ballastLow, if_pos hr, hon, sense_comes 0 hs]

theorem ballastLow_goes {s : State} {mv : Nat} (hr : s.clk.running = true) (hl : 450 ≤ holdupNow s mv) :
    ballastLow mv false s = causeGone 0x0D 0 s := by
  have hoff : (decide (holdupNow s mv < 450) || false) = false := by simpa using hl
  rw [ballastLow, if_pos hr, hoff, sense_goes]

theorem supplyRange_nv_out {s : State} {mv : Int} (hp : s.clk.supply = true) (hm : mv < 1164 ∨ 1236 < mv)
    (hs : standing s 0x04 0 = false) :
    supplyRange 5 mv s = alarm 0x04 0 1 mv { s with tm := { s.tm with railsOut := s.tm.railsOut ||| 32 } } := by
  have hout : ¬ (1164 ≤ mv ∧ mv ≤ 1236) := by omega
  have hany : (List.range 10).any (fun k => islandRegion k == 0 && (s.tm.railsOut ||| 32).getLsbD k) = true :=
    List.any_eq_true.2 ⟨5, by decide, by simp [islandRegion]⟩
  have hstand : standing { s with tm := { s.tm with railsOut := s.tm.railsOut ||| 32 } } 0x04 0 = false := hs
  unfold supplyRange
  rw [show railRange s 5 = some (1164, 1236) from rfl]
  simp only [hp, hout, Bool.not_true, Bool.false_eq_true, if_false]
  exact (congrArg (fun on => sense on 0x04 0 mv _) hany).trans (sense_comes mv hstand)

theorem standing_setTemp (n : Nat) (t : Int) (s : State) (sensor region : Nat) :
    standing (setTemp n t s) sensor region = standing s sensor region := by
  unfold setTemp
  split <;> rfl

theorem setTemp_reads {n : Nat} (h : n < 20) (t : Int) (s : State) : mget 0 (setTemp n t s).tm.temps n = t := by
  unfold setTemp
  rw [if_neg (by omega)]
  exact mget_mput_self ..

theorem mem_tempSensors {n : Nat} (h : n < 20) : n ∈ tempSensors (tempRegion n) := by
  revert h
  revert n
  decide

theorem tempRange_out {s : State} {n : Nat} {t : Int} (hp : s.clk.supply = true) (hn : n < 20)
    (ht : t < -80 ∨ 840 < t) (hlo : -200 ≤ t) (hhi : t ≤ 960) (hs : standing s 0x0B (tempRegion n) = false) :
    tempRange n t s = alarm 0x0B (tempRegion n) 1 t (setTemp n t s) := by
  have hnot : tempTripped t = false := by simp [tempTripped]; omega
  have hany : (tempSensors (tempRegion n)).any (fun k => tempOut (mget 0 (setTemp n t s).tm.temps k)) = true :=
    List.any_eq_true.2 ⟨n, mem_tempSensors hn, by rw [setTemp_reads hn]; simpa [tempOut] using ht⟩
  have hoff : decide (20 ≤ n) = false := decide_eq_false (by omega)
  simp only [tempRange, hp, hoff, hnot, hany, Bool.not_true, Bool.or_self, Bool.false_eq_true, if_false]
  exact sense_comes t (by rw [standing_setTemp, hs])

theorem mem_of_mfind {α : Type} {m : KMap α} {k : Nat} {v : α} (h : mfind m k = some v) : (k, v) ∈ m := by
  induction m with
  | nil => cases h
  | cons p m ih =>
    simp only [mfind] at h
    split at h
    next hk =>
      cases h
      cases hk
      exact List.mem_cons_self ..
    next =>
      split at h
      · cases h
      · exact List.mem_cons_of_mem _ (ih h)

theorem cfgMismatchRow_stood {s : State} {n t : Nat} (hr : s.clk.running = true)
    (hf : mfind s.host.cfgSince n = some (some t)) (ht : t + 10000 ≤ s.now) (hs : standing s 0x0E 0 = false) :
    cfgMismatchRow s = alarm 0x0E 0 1 0 s := by
  unfold cfgMismatchRow
  rw [if_pos]
  · exact sense_comes 0 hs
  · rw [hr, Bool.true_and, List.any_eq_true]
    exact ⟨(n, some t), mem_of_mfind hf, decide_eq_true ht⟩

end Sys2Proof.Machine
end

section
/-! Neighbouring regions (R457), the end of an L1, and what follows a lockdown's or scuttle's trip (R435, R437, R439,
R449). -/

namespace Sys2Proof.Machine

theorem exec_neighbour (mv : List Nat) (temp : List Int) (s : State) :
    exec (.neighbour mv temp) s = .next (settle (neighbour mv temp s)) := rfl
theorem exec_l1End (dt : Nat) (s : State) : exec (.l1End dt) s = .next (settle (l1End (passTime dt s))) := rfl
theorem exec_alarmPulseEnd (dt : Nat) (s : State) :
    exec (.alarmPulseEnd dt) s = .next (settle (pulseEnd (passTime dt s))) := rfl
theorem exec_lockdownZeroiseCore (s : State) : exec .lockdownZeroiseCore s = .next (settle (lockdownZeroise s)) := rfl
theorem exec_scuttleHelperFuses (s : State) :
    exec .scuttleHelperFuses s = .next (settle (scuttleStepRow 2 s3Fuses s)) := rfl
theorem exec_scuttleAnchorWipe (s : State) :
    exec .scuttleAnchorWipe s = .next (settle (scuttleStepRow 3 s4Anchors s)) := rfl
theorem exec_scuttleCopyWipe (s : State) :
    exec .scuttleCopyWipe s = .next (settle (scuttleStepRow 4 s5Copies s)) := rfl

/-! ### Bits set and cleared one by one -/

theorem getLsbD_shifted_one {w n : Nat} (hn : n < w) (m : Nat) : (1#w <<< m).getLsbD n = (n == m) := by
  rw [BitVec.getLsbD_shiftLeft, BitVec.getLsbD_one, Bool.eq_iff_iff]
  simp only [Bool.and_eq_true, Bool.not_eq_true', decide_eq_true_iff, decide_eq_false_iff_not, beq_iff_eq]
  omega

theorem getLsbD_foldl_or {w n : Nat} (hn : n < w) (f : Nat → Nat) (ls : List Nat) (b : BitVec w) :
    (ls.foldl (fun b l => b ||| (1#w <<< f l)) b).getLsbD n = (b.getLsbD n || ls.any (fun l => n == f l)) := by
  induction ls generalizing b with
  | nil => simp
  | cons l ls ih => rw [List.foldl_cons, ih, List.any_cons, BitVec.getLsbD_or, getLsbD_shifted_one hn, Bool.or_assoc]

theorem getLsbD_foldl_andNot {w n : Nat} (hn : n < w) (f : Nat → Nat) (ls : List Nat) (b : BitVec w) :
    (ls.foldl (fun b l => b &&& ~~~ (1#w <<< f l)) b).getLsbD n = (b.getLsbD n && !ls.any (fun l => n == f l)) := by
  induction ls generalizing b with
  | nil => simp
  | cons l ls ih =>
    rw [List.foldl_cons, ih, List.any_cons, BitVec.getLsbD_and, BitVec.getLsbD_not, getLsbD_shifted_one hn,
      decide_eq_true hn, Bool.true_and, Bool.not_or, Bool.and_assoc]

theorem getLsbD_pairMap (f : Nat → Bool) {p : Nat} (h : p < 8) : (pairMap f).getLsbD p = f p := by
  unfold pairMap
  rw [getLsbD_foldl_set f 0 (Nat.le_refl 8), decide_eq_true h, Bool.true_and]
  simp

/-- A bit that only one step of a run over the pairs touches is what that step makes of it. -/
theorem getLsbD_foldl_range_one {w n p m : Nat} (f : BitVec w → Nat → BitVec w) (g : Bool → Bool)
    (hp : ∀ b, (f b p).getLsbD n = g (b.getLsbD n)) (hq : ∀ b q, q < m → q ≠ p → (f b q).getLsbD n = b.getLsbD n)
    (hm : p < m) (b : BitVec w) : ((List.range m).foldl f b).getLsbD n = g (b.getLsbD n) := by
  have hbelow : ∀ k ≤ p, ((List.range k).foldl f b).getLsbD n = b.getLsbD n := by
    intro k hk
    induction k with
    | zero => rfl
    | succ k ih =>
      rw [List.range_succ, List.foldl_append, List.foldl_cons, List.foldl_nil, hq _ k (by omega) (by omega), ih (by omega)]
  have habove : ∀ k, p + k < m → ((List.range (p + k + 1)).foldl f b).getLsbD n = g (b.getLsbD n) := by
    intro k hk
    induction k with
    | zero => rw [Nat.add_zero, List.range_succ, List.foldl_append, List.foldl_cons, List.foldl_nil, hp, hbelow p le_rfl]
    | succ k ih =>
      rw [List.range_succ, List.foldl_append, List.foldl_cons, List.foldl_nil, hq _ _ hk (by omega)]
      exact ih (by omega)
  have := habove (m - 1 - p) (by omega)
  rwa [show p + (m - 1 - p) + 1 = m by omega] at this

/-! ### The map of affected looms -/

/-- The pairs over the voltage limit, and those over the temperature limit. -/
def voltPairs (vs : List Int) : BitVec 8 := pairMap (fun p => decide (50 < pairDiff vs p))
def hotPairs (temp : List Int) : BitVec 8 := pairMap (fun p => decide (160 < pairDiff temp p))

/-- The looms that a pair affects now, by its voltage and by its temperature. -/
def pairHits (vs temp : List Int) (p : Nat) : List Nat :=
  (if (voltPairs vs).getLsbD p then affectedLooms vs p else []) ++
    (if (hotPairs temp).getLsbD p then affectedLooms temp p else [])

/-- A pair is back within both limits with their hysteresis. -/
def pairCool (vs temp : List Int) (p : Nat) : Bool := decide (pairDiff vs p ≤ 45) && decide (pairDiff temp p ≤ 144)

/-- What a pair leaves in the map: a cool one clears its bits, a hit sets those of the looms that it affects. -/
def markPair (vs temp : List Int) (b : BitVec 32) (p : Nat) : BitVec 32 :=
  (pairHits vs temp p).foldl (fun b l => b ||| (1#32 <<< (8 * l + p)))
    (if pairCool vs temp p then (List.range 4).foldl (fun (b : BitVec 32) l => b &&& ~~~ (1#32 <<< (8 * l + p))) b else b)

/-- What an alarm of a pair reports. -/
def pairValue (vs temp : List Int) (p : Nat) : Int :=
  if (voltPairs vs).getLsbD p then pairDiff vs p else pairDiff temp p

/-- The measured supplies of the five islands. -/
def islandVolts (mv : List Nat) (m : KMap Nat) : KMap Nat :=
  (List.range 5).foldl (fun m i => mset 0 m i (mv.getD i 0 % 1024)) m

theorem neighbour_running (mv : List Nat) (temp : List Int) {s : State} (h : s.clk.running = true)
    (vs : List Int) (hv : vs = mv.map Int.ofNat) (nbr : BitVec 32)
    (hn : nbr = (List.range 8).foldl (markPair vs temp) s.tm.nbr) :
    neighbour mv temp s =
      (List.range 4).foldl (fun t l => neighbourLoom s.tm.nbr nbr (pairValue vs temp) l t)
        { s with
          clk := { s.clk with voltOver := voltPairs vs, tempOver := hotPairs temp, vmeas := islandVolts mv s.clk.vmeas }
          tm := { s.tm with nbr := nbr } } := by
  subst hn hv
  have hoff : ¬ ((!s.clk.running) = true) := by simp [h]
  unfold neighbour
  rw [if_neg hoff]
  rfl

theorem mget_islandVolts (mv : List Nat) (m : KMap Nat) {i : Nat} (hi : i < 5) :
    mget 0 (islandVolts mv m) i = mv.getD i 0 % 1024 := by
  have fold : ∀ n, i < n → mget 0 ((List.range n).foldl (fun m i => mset 0 m i (mv.getD i 0 % 1024)) m) i =
      mv.getD i 0 % 1024 := by
    intro n hn
    induction n with
    | zero => omega
    | succ n ih =>
      rw [List.range_succ, List.foldl_append, List.foldl_cons, List.foldl_nil]
      by_cases h : i = n
      · rw [h, mget_mset_self]
      · rw [mget_mset_ne _ _ _ h, ih (by omega)]
  exact fold 5 hi

theorem any_loom_same (ls : List Nat) (l p : Nat) : ls.any (fun k => 8 * l + p == 8 * k + p) = ls.contains l := by
  rw [Bool.eq_iff_iff, List.any_eq_true, List.contains_iff_mem]
  constructor
  · rintro ⟨k, hk, he⟩
    rwa [show l = k by have := eq_of_beq he; omega]
  · exact fun h => ⟨l, h, beq_self_eq_true _⟩

theorem any_loom_other (ls : List Nat) {l p q : Nat} (hp : p < 8) (hq : q < 8) (h : q ≠ p) :
    ls.any (fun k => 8 * l + p == 8 * k + q) = false := by
  rw [List.any_eq_false]
  intro k _ he
  have := eq_of_beq he
  omega

theorem getLsbD_markPair_self (vs temp : List Int) (b : BitVec 32) {l p : Nat} (hl : l < 4) (hp : p < 8) :
    (markPair vs temp b p).getLsbD (8 * l + p) =
      ((b.getLsbD (8 * l + p) && !pairCool vs temp p) || (pairHits vs temp p).contains l) := by
  have hn : 8 * l + p < 32 := by omega
  unfold markPair
  rw [getLsbD_foldl_or hn, any_loom_same]
  congr 1
  cases pairCool vs temp p with
  | false => simp
  | true =>
    rw [if_pos rfl, getLsbD_foldl_andNot hn, any_loom_same, List.contains_iff_mem.2 (List.mem_range.2 hl)]

theorem getLsbD_markPair_ne (vs temp : List Int) (b : BitVec 32) {l p q : Nat} (hl : l < 4) (hp : p < 8) (hq : q < 8)
    (h : q ≠ p) : (markPair vs temp b q).getLsbD (8 * l + p) = b.getLsbD (8 * l + p) := by
  have hn : 8 * l + p < 32 := by omega
  unfold markPair
  rw [getLsbD_foldl_or hn, any_loom_other _ hp hq h, Bool.or_false]
  split
  · rw [getLsbD_foldl_andNot hn, any_loom_other _ hp hq h, Bool.not_false, Bool.and_true]
  · rfl

theorem getLsbD_markPairs (vs temp : List Int) (b : BitVec 32) {l p : Nat} (hl : l < 4) (hp : p < 8) :
    ((List.range 8).foldl (markPair vs temp) b).getLsbD (8 * l + p) =
      ((b.getLsbD (8 * l + p) && !pairCool vs temp p) || (pairHits vs temp p).contains l) :=
  getLsbD_foldl_range_one (markPair vs temp) (fun x => (x && !pairCool vs temp p) || (pairHits vs temp p).contains l)
    (fun b => getLsbD_markPair_self vs temp b hl hp) (fun b _ hq h => getLsbD_markPair_ne vs temp b hl hp hq h) hp b

theorem contains_pairHits (vs temp : List Int) {p : Nat} (hp : p < 8) (l : Nat) :
    (pairHits vs temp p).contains l =
      ((decide (50 < pairDiff vs p) && (affectedLooms vs p).contains l) ||
       (decide (160 < pairDiff temp p) && (affectedLooms temp p).contains l)) := by
  have hif : ∀ (c : Bool) (ls : List Nat), (if c = true then ls else []).contains l = (c && ls.contains l) := by
    intro c ls
    cases c <;> simp
  unfold pairHits voltPairs hotPairs
  rw [getLsbD_pairMap _ hp, getLsbD_pairMap _ hp, List.contains_append, hif, hif]

/-! ### One loom after a comparison -/

/-- The first pair that affects a loom, by the map. -/
def firstPair (b : BitVec 32) (l : Nat) : Option Nat := (List.range 8).find? (fun p => b.getLsbD (8 * l + p))

theorem firstPair_eq_none {b : BitVec 32} {l : Nat} (h : ∀ p, p < 8 → b.getLsbD (8 * l + p) = false) :
    firstPair b l = none :=
  List.find?_eq_none.2 fun p hp => by simp [h p (List.mem_range.1 hp)]

theorem firstPair_eq_some {b : BitVec 32} {l p : Nat} (hp : p < 8) (h : b.getLsbD (8 * l + p) = true)
    (hlow : ∀ q, q < p → b.getLsbD (8 * l + q) = false) : firstPair b l = some p :=
  List.find?_range_eq_some.2 ⟨h, List.mem_range.2 hp, fun q hq => by simp [hlow q hq]⟩

theorem firstPair_isSome {b : BitVec 32} {l p : Nat} (hp : p < 8) (h : b.getLsbD (8 * l + p) = true) :
    ∃ q, firstPair b l = some q :=
  Option.isSome_iff_exists.1 (List.find?_isSome.2 ⟨p, List.mem_range.2 hp, h⟩)

theorem neighbourLoom_comes {b a : BitVec 32} {l p : Nat} (v : Nat → Int) (s : State) (hb : firstPair b l = none)
    (ha : firstPair a l = some p) : neighbourLoom b a v l s = alarm 0x0C (0x10 + l) 1 (v p) s := by
  unfold firstPair at ha hb
  simp only [neighbourLoom, ha, hb]

theorem neighbourLoom_goes {b a : BitVec 32} {l p : Nat} (v : Nat → Int) (s : State) (hb : firstPair b l = some p)
    (ha : firstPair a l = none) : neighbourLoom b a v l s = causeGone 0x0C (0x10 + l) s := by
  unfold firstPair at ha hb
  simp only [neighbourLoom, ha, hb]

theorem neighbourLoom_stays_free {b a : BitVec 32} {l : Nat} (v : Nat → Int) (s : State) (hb : firstPair b l = none)
    (ha : firstPair a l = none) : neighbourLoom b a v l s = s := by
  unfold firstPair at ha hb
  simp only [neighbourLoom, ha, hb]

theorem neighbourLoom_stays_held {b a : BitVec 32} {l p q : Nat} (v : Nat → Int) (s : State)
    (hb : firstPair b l = some p) (ha : firstPair a l = some q) : neighbourLoom b a v l s = s := by
  unfold firstPair at ha hb
  simp only [neighbourLoom, ha, hb]

/-! ### Central 51 mV below the four looms, and no temperature apart -/

theorem pairMap_congr {f g : Nat → Bool} (h : ∀ p, p < 8 → f p = g p) : pairMap f = pairMap g := by
  refine BitVec.eq_of_getLsbD_eq fun p hp => ?_
  rw [getLsbD_pairMap f hp, getLsbD_pairMap g hp, h p hp]

theorem hotPairs_of_near {temp : List Int} (h : ∀ p, p < 8 → pairDiff temp p ≤ 144) : hotPairs temp = 0 := by
  refine (pairMap_congr (g := fun _ => false) fun p hp => decide_eq_false ?_).trans (by decide)
  have := h p hp
  omega

/-- The supplies of that comparison. -/
def centralLow : List Nat := [850, 850, 850, 850, 799]

theorem markPairs_centralLow {temp : List Int} (h : ∀ p, p < 8 → pairDiff temp p ≤ 144) :
    (List.range 8).foldl (markPair (centralLow.map Int.ofNat) temp) 0 = 0x08040201 := by
  refine BitVec.eq_of_getLsbD_eq fun n hn => ?_
  obtain ⟨l, p, hl, hp, rfl⟩ : ∃ l p, l < 4 ∧ p < 8 ∧ n = 8 * l + p := ⟨n / 8, n % 8, by omega, by omega, by omega⟩
  have hcold : decide (160 < pairDiff temp p) = false := decide_eq_false (by have := h p hp; omega)
  rw [getLsbD_markPairs _ _ _ hl hp, contains_pairHits _ _ hp, hcold, Bool.false_and, Bool.or_false,
    show (0 : BitVec 32).getLsbD (8 * l + p) = false by simp, Bool.false_and, Bool.false_or]
  clear hcold hn
  revert p
  revert l
  decide

theorem firstPair_zero (l : Nat) : firstPair 0 l = none := firstPair_eq_none fun _ _ => by simp
theorem firstPair_centralLow {l : Nat} (hl : l < 4) : firstPair 0x08040201 l = some l := by
  revert hl; revert l; decide

theorem pairValue_centralLow (temp : List Int) {l : Nat} (hl : l < 4) :
    pairValue (centralLow.map Int.ofNat) temp l = 51 := by
  have hvolt : ∀ l, l < 4 → (voltPairs (centralLow.map Int.ofNat)).getLsbD l = true ∧
      pairDiff (centralLow.map Int.ofNat) l = 51 := by decide
  obtain ⟨hover, hdiff⟩ := hvolt l hl
  rw [pairValue, if_pos hover, hdiff]

/-! ### Ends, and the steps after a trip -/

theorem l1End_eq (t : State) :
    l1End t = { noteLevels t with tm := { t.tm with
      active := t.tm.active.filter (fun a => !a.goneAt.any (fun g => decide (g + 10000 ≤ t.now))) } } := by
  have hfilter : (fun a : L1 => match a.goneAt with
      | some g => decide (t.now < g + 10000)
      | none => true) = fun a => !a.goneAt.any (fun g => decide (g + 10000 ≤ t.now)) := by
    funext a
    cases a.goneAt with
    | none => rfl
    | some g =>
      rw [Option.any_some, Bool.eq_iff_iff, Bool.not_eq_true', decide_eq_true_iff, decide_eq_false_iff_not]
      omega
  rw [← hfilter]
  rfl

theorem pulseEnd_due {t : State} {g : Nat} (h : t.tm.pulseEnd = some g) (hg : g ≤ t.now) :
    pulseEnd t = { t with tm := { t.tm with pulseEnd := none } } := by
  simp only [pulseEnd, h, hg, if_true]

theorem lockdownZeroise_due {s : State} (hd : s.tm.zeroiseDue = true) (hf : ∀ f ∈ s.jn.flight, f.stage ≠ .closed) :
    lockdownZeroise s = zeroiseCore s := by
  have hall : s.jn.flight.all (fun f => f.stage != .closed) = true :=
    List.all_eq_true.2 fun f hm => bne_iff_ne.2 (hf f hm)
  rw [lockdownZeroise, hd, hall]
  rfl

theorem scuttleStepRow_due {n : Nat} (f : State → State) {s : State} (hp : s.clk.supply = true)
    (hl : s.glb.lifecycle = 0xFF) (hn : s.tm.scuttleStep = n) : scuttleStepRow n f s = f s := if_pos ⟨hp, hl, hn⟩

/-! ### What each sensor raises -/

theorem neighbour_centralLow (temp : List Int) {s : State} (hr : s.clk.running = true) (hn : s.tm.nbr = 0)
    (h : ∀ p, p < 8 → pairDiff temp p ≤ 144) :
    neighbour centralLow temp s = (List.range 4).foldl (fun u l => alarm 0x0C (0x10 + l) 1 51 u)
      { s with
        clk := { s.clk with
          voltOver := 0x0F, tempOver := 0
          vmeas := mset 0 (mset 0 (mset 0 (mset 0 (mset 0 s.clk.vmeas 0 850) 1 850) 2 850) 3 850) 4 799 }
        tm := { s.tm with nbr := 0x08040201 } } := by
  have hloom : ∀ l ∈ List.range 4, ∀ t, neighbourLoom s.tm.nbr 0x08040201 (pairValue (centralLow.map Int.ofNat) temp) l t =
      alarm 0x0C (0x10 + l) 1 51 t := by
    intro l hl t
    have hl4 := List.mem_range.1 hl
    rw [hn, neighbourLoom_comes _ _ (firstPair_zero l) (firstPair_centralLow hl4), pairValue_centralLow temp hl4]
  have hvolt : voltPairs (centralLow.map Int.ofNat) = 0x0F := by decide
  rw [neighbour_running centralLow temp hr _ rfl 0x08040201 (by rw [hn, markPairs_centralLow h]), hvolt, hotPairs_of_near h]
  exact List.foldl_ext _ _ _ fun t l hl => hloom l hl t

/-- Settles O60: each sensor by the lemma of its condition; the looms' map bit by bit in `getLsbD_markPairs`. -/
theorem sensorTrips : Obligations.SensorTrips := by
  unfold Obligations.SensorTrips
  refine ⟨?light, ?dark, ?tempTrip, ?tempRate, ?glitchCentral, ?glitchHeddle, ?glitchLoom, ?glitchFailing, ?islandFailing,
    ?islandLoom, ?islandCentral, ?window, ?diverging, ?envThird, ?envFew, ?envNone, ?envBattery, ?envFour, ?reserveLow,
    ?reserveBack, ?rail, ?tempRange, ?tempWarn, ?config, ?neighbourOnce, ?neighbourMap, ?loomFree, ?loomHeld, ?l1End,
    ?pulse, ?zeroise, ?s3, ?s4, ?s5⟩
  case light => intro s uw hp h; rw [exec_light, light_over hp h]
  case dark => intro s uw h; rw [exec_light, light_within h]
  case tempTrip => intro s n t hp hn ht; rw [exec_tempTrip, tempTrip_beyond hp hn ht]
  case tempRate => intro s n r hp hn hr; rw [exec_tempRate, tempRate_beyond hp hn hr]
  case glitchCentral =>
    intro s len hr hlen
    rw [exec_clockGlitch, clockGlitch_short (r := 0) (.usual len) hr rfl hlen]
    rfl
  case glitchHeddle =>
    intro s h len hr hh hlen
    rw [exec_clockGlitch, clockGlitch_short (.usual len) hr (clockRegion_heddle hh) hlen, glitchLevel, cellLevel_heddle]
    rfl
  case glitchLoom =>
    intro s l len hr hl hlen
    rw [exec_clockGlitch, clockGlitch_short (.usual len) hr (clockRegion_loom hl) hlen, glitchLevel, cellLevel_loom]
    rfl
  case glitchFailing =>
    intro s r len hr hreg hlen
    rw [exec_clockGlitch, clockGlitch_short (.failing len) hr hreg hlen]
    rfl
  case islandFailing => intro s i mv hp hi hm; rw [exec_glitchIsland, glitchIsland_out true hp hi hm]; rfl
  case islandLoom =>
    intro s l mv hp hl hm
    rw [exec_glitchIsland, glitchIsland_out false hp (by omega) hm, islandRegion_loom hl, cellLevel_loom]
    rfl
  case islandCentral => intro s mv hp hm; rw [exec_glitchIsland, glitchIsland_out false hp (by decide) hm]; rfl
  case window =>
    intro s dev osc hr hlo hhi hd
    refine ⟨?_, fun l hl => ?_, fun h hh => ?_⟩
    · rw [exec_clockWindow, clockWindow_off_frequency hr rfl hlo hhi hd]
      rfl
    · rw [exec_clockWindow, clockWindow_off_frequency hr (clockRegion_loom hl) hlo hhi hd, cellLevel_loom]
    · rw [exec_clockWindow, clockWindow_off_frequency hr (clockRegion_heddle hh) hlo hhi hd, cellLevel_heddle]
  case diverging => intro s r dev osc hr hreg ho hlo hhi; rw [exec_clockWindow, clockWindow_diverging hr hreg ho hlo hhi]
  case envThird =>
    intro s n hp hn hruns
    rw [exec_envelopeCompare, envelopeCompare_breach hp (breaches_of_third hn hruns), netsOut_single hn]
    rfl
  case envFew =>
    rintro s nets ns hp rfl hone hthree hfirst
    have hout : (netsOut nets).isEmpty = false := List.isEmpty_eq_false_iff.2 (List.ne_nil_of_length_pos hone)
    rw [exec_envelopeCompare, envelopeCompare_mismatch hp (not_breaches_of_first hthree hfirst) hout]
    rfl
  case envNone => intro s hp; rw [exec_envelopeCompare, envelopeCompare_none hp]
  case envBattery =>
    rintro s nets ns hp hc rfl hfour
    rw [exec_envelopeCompare, envelopeCompare_battery hp hc (breaches_of_four s hfour)]
    rfl
  case envFour =>
    intro s nets hp hfour
    rw [exec_envelopeCompare, envelopeCompare_breach hp (breaches_of_four s hfour)]
    rfl
  case reserveLow => intro s mv o hr hl hs; rw [exec_ballastLow, ballastLow_comes hr hl hs]
  case reserveBack => intro s mv hr hl; rw [exec_ballastLow, ballastLow_goes hr hl]
  case rail => intro s mv hp hm hs; rw [exec_supplyRange, supplyRange_nv_out hp hm hs]
  case tempRange => intro s n t hp hn ht hlo hhi hs; rw [exec_tempRange, tempRange_out hp hn ht hlo hhi hs]
  case tempWarn => intro s n t hp; rw [exec_tempWarn, tempWarnRow, if_pos hp]
  case config => intro s dt n t hr hf ht hs; rw [exec_cfgMismatch, cfgMismatchRow_stood hr hf ht hs]
  case neighbourOnce =>
    intro s temp hr hn h
    exact (exec_neighbour centralLow temp s).trans (congrArg (fun t => Host.Outcome.next (settle t)) (neighbour_centralLow temp hr hn h))
  case neighbourMap =>
    intro s mv temp hr
    refine ⟨(List.range 8).foldl (markPair (mv.map Int.ofNat) temp) s.tm.nbr, pairValue (mv.map Int.ofNat) temp,
      voltPairs (mv.map Int.ofNat), hotPairs temp, islandVolts mv s.clk.vmeas, ?_,
      fun i hi => mget_islandVolts mv _ hi, fun p hp => ⟨getLsbD_pairMap _ hp, getLsbD_pairMap _ hp, fun l hl => ?_⟩⟩
    · rw [exec_neighbour, neighbour_running mv temp hr _ rfl _ rfl]
    · rw [getLsbD_markPairs _ _ _ hl hp, contains_pairHits _ _ hp, Bool.or_comm]
      rfl
  case loomFree =>
    intro b a v l s hb
    exact ⟨fun p hp ha hlow => neighbourLoom_comes v s (firstPair_eq_none hb) (firstPair_eq_some hp ha hlow),
      fun ha => neighbourLoom_stays_free v s (firstPair_eq_none hb) (firstPair_eq_none ha)⟩
  case loomHeld =>
    intro b a v l s p hp hb
    obtain ⟨before, hbefore⟩ := firstPair_isSome hp hb
    refine ⟨fun ha => neighbourLoom_goes v s hbefore (firstPair_eq_none ha), fun q hq ha => ?_⟩
    obtain ⟨after, hafter⟩ := firstPair_isSome hq ha
    exact neighbourLoom_stays_held v s hbefore hafter
  case l1End => intro s dt; rw [exec_l1End, l1End_eq]
  case pulse => intro s dt t h ht; rw [exec_alarmPulseEnd, pulseEnd_due h ht]
  case zeroise => intro s hd hf; rw [exec_lockdownZeroiseCore, lockdownZeroise_due hd hf]; rfl
  case s3 => intro s hp hl hn; rw [exec_scuttleHelperFuses, scuttleStepRow_due s3Fuses hp hl hn]; rfl
  case s4 => intro s hp hl hn; rw [exec_scuttleAnchorWipe, scuttleStepRow_due s4Anchors hp hl hn]; rfl
  case s5 => intro s hp hl hn; rw [exec_scuttleCopyWipe, scuttleStepRow_due s5Copies hp hl hn]; rfl

end Sys2Proof.Machine
end

section
/-! The custody card bus: roll call and naming, answers, polling, block transfers (R386 to R393). -/

namespace Sys2Proof.Machine

theorem exec_cardInsertion (s : State) : exec .cardInsertion s = .next (settle (cardInsertion s)) := rfl
theorem exec_cardRemovalAll (s : State) : exec .cardRemovalAll s = .next (settle (cardRemovalAll s)) := rfl
theorem exec_cardHoldEnd (s : State) : exec .cardHoldEnd s = .next (settle (cardHoldEnd s)) := rfl
theorem exec_rollCallRound (dt : Nat) (fr : List (Nat × List Byte × List Byte)) (s : State) :
    exec (.rollCallRound dt fr) s = lapseServe dt (rollCall fr) s := rfl
theorem exec_cardPoll (dt : Nat) (answers : List (Nat × List Byte)) (s : State) :
    exec (.cardPoll dt answers) s = lapseServe dt (cardPoll answers) s := rfl
theorem exec_cardBlockTransfer (a kind : Nat) (b d : List Byte) (s : State) :
    exec (.cardBlockTransfer a kind b d) s = serve (blockTransfer a kind b d) s := rfl

@[simp] theorem namedCard_callCard (verb a arg : Nat) (s : State) (b : Nat) :
    namedCard (callCard verb a arg s) b = namedCard s b := rfl

theorem busOn_of_busUp {s : State} (h : busUp s = true) : busOn s = true := (Bool.and_eq_true_iff.1 h).1

/-- A card that is named stands at an address in use. -/
theorem mem_addrs {s : State} {a : Nat} {c : NamedCard} (h : namedCard s a = some c) : a ∈ addrs s := by
  by_contra hn
  rw [namedCard, mget_of_not_mem none hn] at h
  cases h

/-! ### Roll call (R389) -/

/-- The call that a round of roll call begins with. -/
def rollCalled (t : State) : State :=
  { callCard 0x12 0 (Config.freeValue 0x40 t.free % 256 + 256) { t with free := t.free + 1 } with
    card := { t.card with rollAt := t.now } }

theorem rollCall_due {t : State} (hup : busUp t = true) (hdue : t.card.rollDue = true) (htodo : t.card.todo = [])
    (hhold : t.card.hold = none) (fr : List (Nat × List Byte × List Byte)) :
    rollCall fr t =
      if fr = [] then setCardBus (fun b => { b with rollDue := false, rounds := 0 }) (rollCalled t)
      else
        let v := fr.foldl (fun t f => nameSlot f.1 f.2.1 f.2.2 t) (rollCalled t)
        if t.card.rounds = 15 then
          setCardBus (fun b => { b with named := [], rounds := 0, rollDue := true }) (callCard 0x11 0 0 v)
        else setCardBus (fun b => { b with rounds := b.rounds + 1, rollDue := true }) v := by
  have hgo : ¬ (busOn t = false ∨
      (t.card.rollDue || (decide ((addrs t).length < 8) && decide (t.card.rollAt + 10000 ≤ t.now))) = false ∨
      t.card.todo ≠ [] ∨ t.card.hold.isSome) := by
    simp [busOn_of_busUp hup, hdue, htodo, hhold]
  unfold rollCall
  exact if_neg hgo

/-- A frame heard whole is taken as a CARD_ID. -/
theorem nameSlot_heard (slot : Nat) {frame : List Byte} (answer : List Byte) (s : State) (hlen : frame.length = 9)
    (hcrc : crc8 (frame.take 8) = frame.getD 8 0) :
    nameSlot slot frame answer s = match freeAddr s with
      | none => logEvent 7 1 (leNats 4 (beNat (frame.take 8))) s
      | some a => match answerWord 0x13 a answer with
        | some w => if bits w 15 13 = 0 then callCard 0x13 0 (slot + 1024 * a) s
            else setNamed a (some { id := beNat (frame.take 8), word := w })
              (dropOld (beNat (frame.take 8)) (callCard 0x13 0 (slot + 1024 * a) s))
        | none => countBad answer (callCard 0x13 0 (slot + 1024 * a) s) := by
  have hgo : ¬ (frame.length ≠ 9 ∨ crc8 (frame.take 8) ≠ frame.getD 8 0) := not_or.2 ⟨not_not.2 hlen, not_not.2 hcrc⟩
  refine (if_neg hgo).trans ?_
  cases freeAddr s with
  | none => rfl
  | some a => rfl

theorem nameSlot_answered (slot : Nat) {frame answer : List Byte} {s : State} {a w : Nat} (hlen : frame.length = 9)
    (hcrc : crc8 (frame.take 8) = frame.getD 8 0) (ha : freeAddr s = some a) (hw : answerWord 0x13 a answer = some w) :
    nameSlot slot frame answer s = if bits w 15 13 = 0 then callCard 0x13 0 (slot + 1024 * a) s
      else setNamed a (some { id := beNat (frame.take 8), word := w })
        (dropOld (beNat (frame.take 8)) (callCard 0x13 0 (slot + 1024 * a) s)) := by
  rw [nameSlot_heard slot answer s hlen hcrc, ha]
  simp only [hw]

theorem nameSlot_full (slot : Nat) {frame : List Byte} (answer : List Byte) {s : State} (hlen : frame.length = 9)
    (hcrc : crc8 (frame.take 8) = frame.getD 8 0) (ha : freeAddr s = none) :
    nameSlot slot frame answer s = logEvent 7 1 (leNats 4 (beNat (frame.take 8))) s := by
  rw [nameSlot_heard slot answer s hlen hcrc, ha]

theorem namedCard_dropOld {s : State} {id b : Nat} {c : NamedCard} (hc : namedCard s b = some c) (hid : c.id = id) :
    namedCard (dropOld id s) b = none := by
  refine (namedCard_foldl_removeCard _ s b).2 (List.mem_filter.2 ⟨mem_addrs hc, ?_⟩)
  rw [hc, Option.any_some, hid, beq_self_eq_true]

theorem freeAddr_lowest {s : State} {a : Nat} (h : freeAddr s = some a) :
    1 ≤ a ∧ a ≤ 8 ∧ namedCard s a = none ∧ ∀ b, 1 ≤ b → b < a → namedCard s b ≠ none := by
  have hlist : freeAddr s = (List.range' 1 8).find? (fun a => (namedCard s a).isNone) := rfl
  rw [hlist, List.find?_range'_eq_some] at h
  obtain ⟨hfree, hmem, hbelow⟩ := h
  have hrange := List.mem_range'_1.1 hmem
  refine ⟨hrange.1, by omega, Option.isNone_iff_eq_none.1 hfree, fun b hb hba hnone => ?_⟩
  have := hbelow b hb hba
  rw [hnone] at this
  cases this

/-! ### Answers and missing ones (R386, R393) -/

theorem noAnswer_first {s : State} {a : Nat} {c : NamedCard} (hc : namedCard s a = some c) (hm : c.miss = 0) :
    noAnswer a s = setNamed a (some { c with miss := 1 }) s := by
  simp [noAnswer, hc, hm]

theorem noAnswer_second {s : State} {a : Nat} {c : NamedCard} (hc : namedCard s a = some c) (hm : 1 ≤ c.miss) :
    noAnswer a s = removeCard a s := by
  simp [noAnswer, hc, hm]

theorem todo_removeCard {s : State} {a : Nat} (h : namedCard s a ≠ none) :
    (removeCard a s).card.todo = s.card.todo.filter (fun t => t.1 ≠ a) := by
  rw [removeCard_of_named h]
  rfl

theorem takeAnswer_unnamed {verb a w : Nat} {b : List Byte} {c : NamedCard} {s : State} (hc : namedCard s a = some c)
    (hw : answerWord verb a b = some w) (hp : bits w 15 13 = 0) : takeAnswer verb a b s = (false, removeCard a s) := by
  simp [takeAnswer, hc, hw, hp]

theorem takeAnswer_answered {verb a w : Nat} {b : List Byte} {c : NamedCard} {s : State} (hc : namedCard s a = some c)
    (hw : answerWord verb a b = some w) (hp : 1 ≤ bits w 15 13) :
    takeAnswer verb a b s = (true, setNamed a (some { c with miss := 0, word := w }) s) := by
  have hp' : ¬ bits w 15 13 = 0 := by omega
  simp [takeAnswer, hc, hw, hp']

theorem takeAnswer_missing {verb a : Nat} {b : List Byte} (s : State) (hw : answerWord verb a b = none) :
    takeAnswer verb a b s = (false, noAnswer a (countBad b s)) := by
  unfold takeAnswer
  rw [hw]
  cases namedCard s a <;> rfl

theorem answerWord_form {verb a w : Nat} {b : List Byte} (h : answerWord verb a b = some w) :
    b.length = 6 ∧ (b.getD 0 0).toNat = verb + 128 ∧ (b.getD 1 0).toNat = a := by
  obtain ⟨⟨hlen, _, hverb, haddr, _, _⟩, _⟩ := Option.ite_none_right_eq_some.1 h
  exact ⟨hlen, hverb, haddr⟩

/-! ### Polling and block transfers (R390, R393) -/

theorem cardPoll_single {t : State} {a w : Nat} {c : NamedCard} {b : List Byte} (hup : busUp t = true)
    (htodo : t.card.todo = []) (hhold : t.card.hold = none) (hat : t.card.pollAt + 100 ≤ t.now)
    (hnamed : t.card.named = [(a, some c)]) (hw : answerWord 0x14 a b = some w) (hp : 1 ≤ bits w 15 13) :
    cardPoll [(a, b)] t = setNamed a (some { c with miss := 0, word := w })
      (callCard 0x14 a 0 { t with card := { t.card with pollAt := t.now } }) := by
  have hgo : ¬ (busUp t = false ∨ t.card.todo ≠ [] ∨ t.card.hold.isSome ∨ t.now < t.card.pollAt + 100) := by
    simp [hup, htodo, hhold, hat]
  have haddrs : addrs t = [a] := by rw [addrs, hnamed]; rfl
  have hc : namedCard (callCard 0x14 a 0 (setCardBus (fun b => { b with pollAt := t.now }) t)) a = some c := by
    rw [namedCard_callCard]
    simp [namedCard, setCardBus, hnamed, mget]
  have hgiven : ((([(a, b)] : List (Nat × List Byte)).find? (fun p => p.1 == a)).map Prod.snd).getD [] = b := by simp
  unfold cardPoll
  rw [if_neg hgo, haddrs, List.foldl_cons, List.foldl_nil, hgiven, takeAnswer_answered hc hw hp]
  rfl

/-- What a STATE block shows is noted beside the bus's list and the cards' names. -/
theorem noteState_frame (a kind : Nat) (s : State) :
    (noteState a kind s).card.todo = s.card.todo ∧ (noteState a kind s).card.named = s.card.named := by
  unfold noteState
  split
  · exact ⟨rfl, rfl⟩
  · exact ⟨rfl, rfl⟩

theorem blockTransfer_fetched {s : State} {a kind w : Nat} {b d : List Byte} {c : NamedCard} (hup : busUp s = true)
    (hhold : s.card.hold = none) (hhead : s.card.todo.head? = some (a, kind)) (hk : kind ≤ 0x10)
    (hc : namedCard s a = some c) (hw : answerWord 0x21 a b = some w) (hp : 1 ≤ bits w 15 13) (hlen : d.length = 136)
    (hbad : badLines d = 0) :
    blockTransfer a kind b d s = nextExchange (noteState a kind
      (setNamed a (some { c with miss := 0, word := w, blocks := mput c.blocks kind (d.take 128) })
        (setNamed a (some { c with miss := 0, word := w }) (callCard 0x21 a kind s)))) := by
  have hgo : ¬ (busUp s = false ∨ s.card.hold.isSome ∨ s.card.todo.head? ≠ some (a, kind)) := by
    simp [hup, hhold, hhead]
  have hfetch : decide (0x10 < kind) = false := decide_eq_false (by omega)
  have hanswer := takeAnswer_answered (s := callCard 0x21 a kind s) hc hw hp
  unfold blockTransfer
  rw [if_neg hgo]
  simp only [hfetch, Bool.false_eq_true, if_false, hanswer, Bool.not_true, hlen, ne_eq, not_true, hbad, Nat.lt_irrefl,
    namedCard_setNamed_self]

end Sys2Proof.Machine
end

section
/-! The card transaction (R396, R400, R402), and the custody bus as a whole. -/

namespace Sys2Proof.Machine

theorem exec_cardDebit (id : Nat) (s : State) : exec (.cardDebit id) s = serve (onCmd 0x72 id cardDebit) s := rfl
theorem exec_cardFinish (s : State) : exec .cardFinish s = serve cardFinish s := rfl
theorem exec_cardResolve (i : Nat) (s : State) : exec (.cardResolve i) s = serve (cardResolve i) s := rfl
theorem exec_approvalExpiry (dt : Nat) (s : State) : exec (.approvalExpiry dt) s = lapseServe dt approvalExpiry s := rfl

/-! ### DEBIT and FINISH (R400) -/

theorem cardDebit_waits {c : Cmd} {s : State} (hs : c.step = 2) (hd : s.jn.durable < c.held.getD 1 0) :
    cardDebit c s = s := by
  simp only [cardDebit, hs, if_true, hd]

theorem cardDebit_stores {c : Cmd} {s : State} {a : Nat} (hs : c.step = 2) (hd : c.held.getD 1 0 ≤ s.jn.durable)
    (ha : addrOf s (c.held.getD 0 0) = some a) :
    cardDebit c s = setCmd { c with step := 3 } (askBlocks [(a, 0x12), (a, 0x01)] s) := by
  simp only [cardDebit, hs, if_true, Nat.not_lt.2 hd, if_false, ha]

theorem cardFinish_stores {s : State} {i f a : Nat} (hu : s.card.use = .finish i f) (hf : f ≤ s.jn.durable)
    (hx : exchanged s = true) (ha : addrOf s i = some a) (hf0 : f ≠ 0) :
    cardFinish s = askBlocks [(a, 0x13), (a, 0x01)] (setCardBus (fun b => { b with use := .finish i 0 }) s) := by
  have hgo : ¬ (s.jn.durable < f ∨ exchanged s = false) := by simp [hf, hx]
  simp only [cardFinish, hu, hgo, if_false, ha, hf0]

theorem cardFinish_closes {s : State} {i a : Nat} {b : List Byte} (hu : s.card.use = .finish i 0)
    (hx : exchanged s = true) (ha : addrOf s i = some a) (hb : goodState s a = some b)
    (hl : stLast b s.card.txn 2 = true) : cardFinish s = freeBus (closeTxn i s) := by
  have hgo : ¬ (s.jn.durable < 0 ∨ exchanged s = false) := by simp [hx]
  simp only [cardFinish, hu, hgo, if_false, ha, if_true, hb, hl]

/-! ### Resolution (R402) -/

theorem cardResolve_begins {s : State} {i a : Nat} {x : CardTxn}
    (hx : (cardOf s.realms.live i).bind CardEntry.txn = some x) (ha : addrOf s i = some a) (hu : s.card.use = .idle)
    (hs : s.glb.service = svReady) (hup : busUp s = true) (hj : s.jn.stopped = false) :
    cardResolve i s = resolveStart i a x s := by
  have hgo : s.glb.service = svReady ∧ busUp s = true ∧ s.jn.stopped = false := ⟨hs, hup, hj⟩
  unfold cardResolve
  simp only [hx, ha, hu, if_true, hgo, and_self]

theorem cardResolve_decides {s : State} {i a st : Nat} {x : CardTxn} {b : List Byte}
    (hx : (cardOf s.realms.live i).bind CardEntry.txn = some x) (ha : addrOf s i = some a)
    (hu : s.card.use = .resolve i st) (he : exchanged s = true) (hb : goodState s a = some b) :
    cardResolve i s = resolveDecide i a st x b s := by
  have hbusy : ¬ CardUse.resolve i st = .idle := CardUse.noConfusion
  have hgo : ¬ (i ≠ i ∨ exchanged s = false) := by simp [he]
  unfold cardResolve
  simp only [hx, ha, hu, hbusy, if_false, hgo, hb]

/-- The first decision on a transaction whose COMMIT was not durable. -/
theorem resolveDecide_uncommitted (i a : Nat) {x : CardTxn} (b : List Byte) (s : State) (hc : x.committed = false) :
    resolveDecide i a 1 x b s =
      if stSeq b = x.seq then resolveEnd i s
      else if stLastSeq b x.seq 1 then resolveStore i a 0x14 2 s
      else if stLastSeq b x.seq 3 then resolveEnd i s
      else resolveOdd i x b s := by
  unfold resolveDecide
  rw [if_neg (by decide), if_neg (by decide), hc, if_neg (by decide)]

theorem resolveDecide_committed (i a : Nat) {x : CardTxn} {b : List Byte} (s : State) (hc : x.committed = true)
    (hl : stLastSeq b x.seq 1 = true) : resolveDecide i a 1 x b s = resolveStore i a 0x13 3 s := by
  unfold resolveDecide
  rw [if_neg (by decide), if_neg (by decide), if_pos hc, if_pos hl]

/-! ### The bus -/

/-- Removal of all cards leaves no presence, no roll call due and no address taken. -/
theorem cardRemovalAll_leaves (s : State) : (cardRemovalAll s).card.pres = false ∧
    (cardRemovalAll s).card.rollDue = false ∧ (cardRemovalAll s).card.rounds = 0 ∧
    (∀ a, namedCard (cardRemovalAll s) a = none) ∧
    ((addrs s).Nodup → s.card.removals + (addrs s).length ≤ 0xFFFF → (∀ a ∈ addrs s, namedCard s a ≠ none) →
      (cardRemovalAll s).card.removals = s.card.removals + (addrs s).length) :=
  ⟨rfl, rfl, rfl, namedCard_removed s, fun hnodup htop hnamed => removals_foldl_removeCard hnodup hnamed htop⟩

theorem cardRemovalAll_of_unnamed {s : State} (h : s.card.named = []) :
    cardRemovalAll s = { s with card := { s.card with pres := false, rollDue := false, rounds := 0 } } := by
  have haddrs : addrs s = [] := by rw [addrs, h]; rfl
  unfold cardRemovalAll
  rw [haddrs]
  rfl

/-- Settles O59: each row by the lemma of its condition; removals by the fold of `removeCard`. -/
theorem cardBus : Obligations.CardBus := by
  unfold Obligations.CardBus
  refine ⟨fun s => exec_cardInsertion s, ?removedUnnamed, fun s => exec_cardHoldEnd s, ?rollCall, fun _ _ _ _ => rfl,
    ?named, ?full, fun _ _ _ _ => namedCard_dropOld, fun _ _ => freeAddr_lowest, ?missing, ?unnamed, ?noAnswer, ?removed,
    ?poll, ?block, fun _ _ _ _ => answerWord_form, ?debit, ?finish, ?resolve, ?uncommitted, ?committed, ?restore,
    ?expiry⟩
  case removedUnnamed => intro s h; rw [exec_cardRemovalAll, cardRemovalAll_of_unnamed h]
  case rollCall =>
    rintro s dt t rfl halive hup hdue htodo hhold u rfl
    have row (fr : List (Nat × List Byte × List Byte)) := (exec_rollCallRound dt fr s).trans
      ((lapseServe_alive halive (rollCall fr)).trans
        (congrArg (fun t => Host.Outcome.next (settle t)) (rollCall_due hup hdue htodo hhold fr)))
    refine ⟨row [], ?_⟩
    rintro fr v hfr rfl
    refine ⟨fun hr => (row fr).trans ?_, fun hr => (row fr).trans ?_⟩
    · rw [if_neg hfr, if_neg hr]
      rfl
    · rw [if_neg hfr, if_pos hr]
      rfl
  case named =>
    intro s slot frame answer a w hlen hcrc ha hw
    rw [nameSlot_answered slot hlen hcrc ha hw]
    exact ⟨fun hp => if_neg (by omega), fun hp => if_pos hp⟩
  case full => intro s slot frame answer hlen hcrc ha; exact nameSlot_full slot answer hlen hcrc ha
  case missing =>
    intro s a c hc
    have hnamed : namedCard s a ≠ none := by rw [hc]; exact Option.some_ne_none c
    exact ⟨noAnswer_first hc, noAnswer_second hc, namedCard_removeCard_self a s, fun b hb => namedCard_removeCard_ne hb s,
      removals_removeCard hnamed, todo_removeCard hnamed⟩
  case unnamed => intro s verb a b c w hc hw hp; exact takeAnswer_unnamed hc hw hp
  case noAnswer => intro s verb a b hw; exact takeAnswer_missing s hw
  case removed => intro s; exact ⟨exec_cardRemovalAll s, cardRemovalAll_leaves s⟩
  case poll =>
    rintro s dt t a c b w rfl halive hup htodo hhold hat hnamed hw hp
    rw [exec_cardPoll, lapseServe_alive halive, cardPoll_single hup htodo hhold hat hnamed hw hp]
  case block =>
    intro s a kind b w d c r halive hup hhold htodo hk hc hw hp hlen hbad
    have hhead : s.card.todo.head? = some (a, kind) := by rw [htodo]; rfl
    rw [exec_cardBlockTransfer, serve_alive halive, blockTransfer_fetched hup hhold hhead hk hc hw hp hlen hbad]
    refine ⟨_, rfl, ?_, ?_⟩
    · exact (congrArg (List.drop 1) (noteState_frame a kind _).1).trans (congrArg (List.drop 1) htodo)
    · exact (congrArg (fun m => mget none m a) (noteState_frame a kind _).2).trans (namedCard_setNamed_self a _ _)
  case debit =>
    intro s id c h hs
    refine ⟨fun hd => ?_, fun a hd ha => ?_⟩
    · rw [exec_cardDebit, serve_onCmd h, cardDebit_waits hs hd]
    · rw [exec_cardDebit, serve_onCmd h, cardDebit_stores hs hd ha]
      rfl
  case finish =>
    intro s i f a halive hu hf hx ha
    refine ⟨fun hf0 => ?_, fun b hf0 hb hl => ?_⟩
    · rw [exec_cardFinish, serve_alive halive, cardFinish_stores hu hf hx ha hf0]
      rfl
    · rw [hf0] at hu
      rw [exec_cardFinish, serve_alive halive, cardFinish_closes hu hx ha hb hl]
  case resolve =>
    intro s i x a halive hx ha
    refine ⟨fun hu hs hup hj => ?_, fun b st hu he hb => ?_⟩
    · rw [exec_cardResolve, serve_alive halive, cardResolve_begins hx ha hu hs hup hj]
    · rw [exec_cardResolve, serve_alive halive, cardResolve_decides hx ha hu he hb]
  case uncommitted => intro s i a x b hc hq; rw [resolveDecide_uncommitted i a b s hc, if_pos hq]
  case committed => intro s i a x b hc hl; exact resolveDecide_committed i a s hc hl
  case restore => intro s i a x b hc hq hl; rw [resolveDecide_uncommitted i a b s hc, if_neg hq, if_pos hl]
  case expiry =>
    rintro s dt t rfl halive
    rw [exec_approvalExpiry, lapseServe_alive halive]
    rfl

end Sys2Proof.Machine
end

section
/-! The custody commands (R15, R273, R395 to R398). -/

namespace Sys2Proof.Machine

/-! ### CARD_APPROVE (R395, R396) -/

/-- The rows of CARD_APPROVE, one for each operation, do the same by their operation. -/
theorem exec_cardApprove {id op : Nat} {i : Instr}
    (h : op = 1 ∧ i = Instr.enrol id ∨ op = 2 ∧ i = Instr.kekLoad id ∨ op = 3 ∧ i = Instr.provision id ∨
      op = 4 ∧ i = Instr.decommission id ∨ op = 5 ∧ i = Instr.retireSlot id ∨ op = 6 ∧ i = Instr.draw id ∨
      op = 7 ∧ i = Instr.scuttlePolicy id ∨ op = 8 ∧ i = Instr.cardAdd id ∨ op = 9 ∧ i = Instr.cardRevoke id ∨
      op = 10 ∧ i = Instr.setThreshold id ∨ op = 11 ∧ i = Instr.setCustody id) (s : State) :
    exec i s = serve (onCmd 0x71 id (cardApprove op)) s := by
  rcases h with ⟨rfl, rfl⟩ | ⟨rfl, rfl⟩ | ⟨rfl, rfl⟩ | ⟨rfl, rfl⟩ | ⟨rfl, rfl⟩ | ⟨rfl, rfl⟩ | ⟨rfl, rfl⟩ | ⟨rfl, rfl⟩ |
    ⟨rfl, rfl⟩ | ⟨rfl, rfl⟩ | ⟨rfl, rfl⟩ <;> rfl

theorem cardApprove_starts {c : Cmd} {op : Nat} (s : State) (hop : wd c.words 8 = op) (hs : c.step = 0) :
    cardApprove op c s = approveStart op c s := by
  simp only [cardApprove, hop, hs, ne_eq, not_true, if_false, if_true]

theorem cardApprove_waits {c : Cmd} {op : Nat} {s : State} (hop : wd c.words 8 = op) (hs : c.step ≠ 0)
    (hx : exchanged s = false) : cardApprove op c s = s := by
  simp only [cardApprove, hop, hs, hx, ne_eq, not_true, if_false, if_true]

/-- The decision once every exchange has been made. -/
theorem cardApprove_decides {c : Cmd} {op : Nat} {s : State} (hop : wd c.words 8 = op) (hs : c.step = 1)
    (hx : exchanged s = true) :
    cardApprove op c s =
      if (approvers s).length < max 1 s.realms.live.threshold ∨ opReady s op (appArgs c) = false then
        endCustody c sNotPermitted [] s
      else approveCommit op c s := by
  have hstart : ¬ c.step = 0 := by omega
  have hdone : ¬ exchanged s = false := by simp [hx]
  unfold cardApprove
  rw [if_neg (not_not.2 hop), if_neg hstart, if_neg hdone, if_pos hs]

/-! ### CARD_ENUMERATE -/

theorem exec_cardEnumerate (id : Nat) (s : State) : exec (.cardEnumerate id) s = serve (onCmd 0x70 id cardEnumerate) s := rfl

theorem cardEnumerate_ends {c : Cmd} {s : State} (hs : c.step = 1) (hx : exchanged s = true) :
    cardEnumerate c s = finish c sOk [(addrs s).length] (outTo c 0 (enumTable s)) (freeBus s) := by
  have hstart : ¬ c.step = 0 := by omega
  have hdone : ¬ exchanged s = false := by simp [hx]
  unfold cardEnumerate
  rw [if_neg hstart, if_neg hdone]

/-! ### The quota draws (R397, R398) -/

theorem exec_quota (id : Nat) (s : State) : exec (.quota id) s = serve (onCmd 0x72 id drawQuota) s := rfl
theorem exec_share (id : Nat) (s : State) : exec (.share id) s = serve (onCmd 0x72 id drawShare) s := rfl
theorem exec_laneBind (id : Nat) (s : State) : exec (.laneBind id) s = serve (onCmd 0x72 id drawLane) s := rfl
theorem exec_heddleGrant (id : Nat) (s : State) : exec (.heddleGrant id) s = serve (onCmd 0x72 id drawHeddle) s := rfl

theorem drawWith_bad {c : Cmd} {s : State} (f : Option Nat → State) (ht : custodyTurn c s = true) :
    drawWith c true s f = finish c sBadParam [] [] s := by
  simp [drawWith, ht]

theorem drawWith_approved {c : Cmd} {s : State} {ap : Option Nat} (f : Option Nat → State) (ht : custodyTurn c s = true)
    (ha : drawApproval c s = .ok ap) : drawWith c false s f = f ap := by
  simp [drawWith, ht, ha]

theorem drawQuota_bad {c : Cmd} {s : State} (hk : wd c.words 8 % 4 = 0) (hs : c.step = 0) (ht : custodyTurn c s = true)
    (hb : quotaBad s (drawRealm c) (pairAt c.words 10) = true) : drawQuota c s = finish c sBadParam [] [] s := by
  unfold drawQuota
  rw [if_neg (not_not.2 hk), if_pos hs, hb]
  exact drawWith_bad _ ht

theorem drawQuota_undebited {c : Cmd} {s : State} {ap : Option Nat} (hk : wd c.words 8 % 4 = 0) (hs : c.step = 0)
    (ht : custodyTurn c s = true) (hb : quotaBad s (drawRealm c) (pairAt c.words 10) = false)
    (ha : drawApproval c s = .ok ap) (hd : (realmRow s (drawRealm c)).debit = false) :
    drawQuota c s = drawEnd c ap (realmEntry 1 (drawRealm c) (leNats 2 (pairAt c.words 10)) (cOrigin c) sOk) s := by
  unfold drawQuota
  rw [if_neg (not_not.2 hk), if_pos hs, hb]
  refine (drawWith_approved _ ht ha).trans ?_
  rw [hd]
  rfl

theorem drawShare_approved {c : Cmd} {s : State} {ap : Option Nat} (hk : wd c.words 8 % 4 = 1) (hs : c.step = 0)
    (ht : custodyTurn c s = true) (ha : drawApproval c s = .ok ap) (h5 : wd c.words 10 ≠ 5) (h6 : wd c.words 10 ≠ 6)
    (hsum : ((List.range 32).map (fun i =>
      if i = drawRealm c then wd c.words 11 else shareOf s i (wd c.words 10))).sum ≤ 4096) (hr : drawRealm c ≠ 0) :
    drawShare c s = (if wd c.words 11 = shareOf s (drawRealm c) (wd c.words 10) then id else capAdvance)
      (drawEnd c ap (realmEntry 4 (drawRealm c) [wd c.words 10, wd c.words 11] (cOrigin c) sOk) (noteLevels s)) := by
  have hfits := Nat.not_lt.2 hsum
  have hgo : ¬ (wd c.words 8 % 4 ≠ 1 ∨ c.step ≠ 0) := by omega
  unfold drawShare
  rw [if_neg hgo]
  simp only [hfits, hr, h5, h6, false_and, or_self, decide_false, Bool.false_and, Bool.false_or]
  exact drawWith_approved _ ht ha

theorem drawLane_bad {c : Cmd} {s : State} (hk : wd c.words 8 % 4 = 2) (hs : c.step = 0) (ht : custodyTurn c s = true)
    (hl : (getLane s (wd c.words 10 % 64)).state ≠ 0) : drawLane c s = finish c sBadParam [] [] s := by
  have hgo : ¬ (wd c.words 8 % 4 ≠ 2 ∨ c.step ≠ 0) := by omega
  unfold drawLane
  rw [if_neg hgo]
  simp only [hl, ne_eq, not_false_iff, decide_true, Bool.true_or]
  exact drawWith_bad _ ht

/-- A lane is unbound from every realm by a draw of realm 0. -/
theorem drawLane_unbinds {c : Cmd} {s : State} {ap : Option Nat} (hk : wd c.words 8 % 4 = 2) (hs : c.step = 0)
    (ht : custodyTurn c s = true) (hl : (getLane s (wd c.words 10 % 64)).state = 0) (ha : drawApproval c s = .ok ap)
    (hr : drawRealm c = 0) :
    drawLane c s = drawEnd c ap (realmEntry 9 0 [wd c.words 10 % 64, 0] (cOrigin c) sOk) s := by
  have hgo : ¬ (wd c.words 8 % 4 ≠ 2 ∨ c.step ≠ 0) := by omega
  unfold drawLane
  rw [if_neg hgo]
  simp only [hl, hr, ne_eq, not_true, decide_false, false_and, Bool.or_self]
  exact drawWith_approved _ ht ha

/-- A heddle that no realm holds is granted. -/
theorem drawHeddle_grants {c : Cmd} {s : State} {ap : Option Nat} (hk : wd c.words 8 % 4 = 3) (hs : c.step = 0)
    (ht : custodyTurn c s = true) (hg : bit (wd c.words 11) 0 = true) (hn : grantOf s (wd c.words 10) = none)
    (ha : drawApproval c s = .ok ap) (t : State) (htt : t = noteLevels s) :
    drawHeddle c s = drawEnd c ap (realmEntry 8 (drawRealm c) [wd c.words 10 + 256] (cOrigin c) sOk)
      { t with adm := { t.adm with revoked := mset none t.adm.revoked (wd c.words 10) none } } := by
  subst htt
  have hgo : ¬ (wd c.words 8 % 4 ≠ 3 ∨ c.step ≠ 0) := by omega
  unfold drawHeddle
  rw [if_neg hgo]
  simp only [hg, hn, ne_eq, not_true, false_and, decide_false, Bool.and_false]
  exact drawWith_approved _ ht ha

/-- Settles O20: each row once admitted (`serve_onCmd`), by the lemma of its condition. -/
theorem custodyCommands : Obligations.CustodyCommands := by
  unfold Obligations.CustodyCommands
  refine ⟨?approve, ?enumerate, fun s id c h hs ht => ⟨?quotaBad, ?quota, ?share, ?laneBind, ?laneBound, ?heddle⟩⟩
  case approve =>
    intro s id c i op h hop hi
    rw [exec_cardApprove hi, serve_onCmd h]
    refine ⟨fun hs => ?_, fun hs hx => ?_, fun hs hx hfew => ?_, fun hs hx hmany hready => ?_⟩
    · rw [cardApprove_starts s hop hs]
    · rw [cardApprove_waits hop hs hx]
    · rw [cardApprove_decides hop hs hx, if_pos (.inl hfew)]
    · have hgo : ¬ ((approvers s).length < max 1 s.realms.live.threshold ∨ opReady s op (appArgs c) = false) :=
        not_or.2 ⟨Nat.not_lt.2 hmany, by simp [hready]⟩
      rw [cardApprove_decides hop hs hx, if_neg hgo]
  case enumerate =>
    intro s id c h hs hx
    rw [exec_cardEnumerate, serve_onCmd h, cardEnumerate_ends hs hx]
  case quotaBad =>
    intro hk hb
    rw [exec_quota, serve_onCmd h, drawQuota_bad hk hs ht hb]
  case quota =>
    intro ap hk hb ha hd
    rw [exec_quota, serve_onCmd h, drawQuota_undebited hk hs ht hb ha hd]
  case share =>
    rintro ap v hk ha rfl h5 h6 hsum hr t rfl
    rw [exec_share, serve_onCmd h, drawShare_approved hk hs ht ha h5 h6 hsum hr]
    split <;> rfl
  case laneBind =>
    intro ap hk hl ha hr
    rw [exec_laneBind, serve_onCmd h, drawLane_unbinds hk hs ht hl ha hr]
  case laneBound =>
    intro hk hl
    rw [exec_laneBind, serve_onCmd h, drawLane_bad hk hs ht hl]
  case heddle =>
    intro ap hk hg hn ha t ht'
    rw [exec_heddleGrant, serve_onCmd h, drawHeddle_grants hk hs ht hg hn ha t ht']

end Sys2Proof.Machine
end

section
/-! A lane's frames from its station (R192, R356 to R374): the checks of R361, and what each accepted frame does. -/

namespace Sys2Proof.Machine

/-! ### Checks (R361) -/

/-- Each row of a station's frame checks its type's frames for its lane. -/
theorem exec_stationFrame {l t : Nat} {f : List Byte} {i : Instr} {act : State → State}
    (h : i = Instr.helloS l f ∧ t = 0x81 ∧ act = helloAct l f ∨ i = Instr.readyS l f ∧ t = 0x82 ∧ act = readyAct l f ∨
      i = Instr.ack l f ∧ t = 0x84 ∧ act = ackAct l ∨ i = Instr.sleep l f ∧ t = 0x86 ∧ act = sleepAct l f ∨
      i = Instr.report l f ∧ t = 0x90 ∧ act = reportAct l f ∨ i = Instr.lateFail l f ∧ t = 0x91 ∧ act = lateAct l f ∨
      i = Instr.close l f ∧ t = 7 ∧ act = closeAct l f ∨ (∃ r, i = Instr.timeEcho l r f ∧ t = 0x83 ∧ act = echoAct l r f))
    (s : State) : exec i s = serve (onRealLane l (rxFrame t l f act)) s := by
  rcases h with ⟨rfl, rfl, rfl⟩ | ⟨rfl, rfl, rfl⟩ | ⟨rfl, rfl, rfl⟩ | ⟨rfl, rfl, rfl⟩ | ⟨rfl, rfl, rfl⟩ | ⟨rfl, rfl, rfl⟩ |
    ⟨rfl, rfl, rfl⟩ | ⟨r, rfl, rfl, rfl⟩ <;> rfl

theorem exec_laneBadFrame (l : Nat) (v : List Nat) (s : State) :
    exec (.laneBadFrame l v) s = serve (onRealLane l (rxBad l v)) s := rfl

section
variable {l : Nat} {s : State} {f : List Byte}

/-- A frame that passes checks 1 and 2 is traced, and checks 3 to 5 decide. -/
theorem rxFrame_of_headGood {t : Nat} (act : State → State) (hlisten : listening (getLane s l) = true) (htype : fType f = t)
    (hcrc : crcBad f = false) (hhead : headBad (getLane s l) f = false) :
    rxFrame t l f act s =
      if macBad (getLane s l) f then
        alarm 0x0F (laneRegion l) 0 0
          (onLane l (fun x => { x with macErr := satInc x.macErr 0xFFFF }) (traceLane l 1 t (fSeq f) s))
      else if fieldsBad (getLane s l) f then endLink l 4 (traceLane l 1 t (fSeq f) s)
      else act (acceptFrame l f (traceLane l 1 t (fSeq f) s)) := by
  have hgo : ¬ (!listening (getLane s l) || fType f != t || crcBad f || headBad (getLane s l) f) = true := by
    simp [hlisten, htype, hcrc, hhead]
  exact if_neg hgo

theorem rxBad_of_crc {v : List Nat} (hlisten : listening (getLane s l) = true) (hf : f = (rxLine v).getD [])
    (hcrc : crcBad f = true) : rxBad l v s = onLane l (fun x => { x with crcErr := satInc x.crcErr 0xFFFF }) s := by
  subst hf
  simp only [rxBad, hlisten, Bool.not_true, Bool.false_eq_true, if_false, hcrc, if_true]

theorem rxBad_of_head {v : List Nat} (hlisten : listening (getLane s l) = true) (hf : f = (rxLine v).getD [])
    (hcrc : crcBad f = false) (hhead : headBad (getLane s l) f = true) :
    rxBad l v s =
      if (getLane s l).link = .up ∨ (getLane s l).link = .first then endLink l 4 s else failLink l 4 s := by
  subst hf
  simp only [rxBad, hlisten, Bool.not_true, Bool.false_eq_true, if_false, hcrc, hhead, if_true]

/-! ### Places that an ACK frees (R363) -/

theorem places_freePlacesTo (l ack : Nat) (s : State) :
    (getLane (freePlacesTo l ack s) l).places = (getLane s l).places.filter (fun p => !seqLe p.seq ack) := by
  unfold freePlacesTo
  rw [getLane_onLane_self]

/-! ### Reports (R192) -/

/-- A tag's image that waits for its outcome: the class of its report decides. -/
theorem reportVerdict_unconfirmed {r : List Word} (k : RepClass) (hst : rState r = stUnconfirmed) (htag : rTag r = true) :
    reportVerdict true (rGen r) r k = match k with
      | .confirm => (dApplied, false, some stIssued)
      | .definite => (dApplied, false, some stVoid)
      | _ => (dApplied, true, none) := by
  unfold reportVerdict
  cases k <;> simp [hst, htag]

/-! ### HELLO_S (R356, R357, R383) -/

/-- What the registers show of a HELLO_S, whatever it leads to. -/
def helloSeen (l : Nat) (p : List Byte) (s : State) : State :=
  setLane l { getLane s l with ppmSeen := (p.getD 2 0).toNat, stationId := (p.drop 8).take 8 } s

theorem helloAct_version {v : Nat} (hv : v = ((fPay f).getD 0 0).toNat)
    (hbad : v = 0 ∨ 3 < v ∨ bit (getLane s l).permit (v - 1) = false) :
    helloAct l f s = endLink l 2 (helloSeen l (fPay f) s) := by
  subst hv
  unfold helloAct
  rw [if_pos hbad]
  rfl

theorem helloAct_of_version {v g : Nat} (hv : v = ((fPay f).getD 0 0).toNat) (hg : g = ((fPay f).getD 1 0).toNat)
    (hgood : ¬ (v = 0 ∨ 3 < v ∨ bit (getLane s l).permit (v - 1) = false)) :
    (transportSlot (helloSeen l (fPay f) s) (laneRealm (helloSeen l (fPay f) s) l) g = none →
      helloAct l f s = endLink l 3 (helloSeen l (fPay f) s)) ∧
    (∀ n k ks, transportSlot (helloSeen l (fPay f) s) (laneRealm (helloSeen l (fPay f) s) l) g = some (n, k) →
      1 ≤ ((fPay f).getD 2 0).toNat → ((fPay f).getD 2 0).toNat ≤ 200 → ((fPay f).getD 3 0).toNat = 0 →
      leNat (((fPay f).drop 4).take 4) = 0 →
      ks = sessionKeys (slotKey k) (laneRealm (helloSeen l (fPay f) s) l) l v g
        (((getLane s l).helloD.drop 20).take 16) (((fPay f).drop 16).take 16) →
      helloAct l f s = laneOut l 2 0 false ((getLane s l).helloD ++ fPay f)
        (setLane l { getLane (helloSeen l (fPay f) s) l with
          link := .ready, version := v, keyD := ks.take 32, keyS := ks.drop 32, helloS := fPay f, fcntTx := 0
          fcntRx := 0, ppm := ((fPay f).getD 2 0).toNat } (helloSeen l (fPay f) s))) := by
  subst hv hg
  unfold helloAct
  rw [if_neg hgood]
  refine ⟨fun hslot => ?_, fun n k ks hslot hlo hhi hkept hrx hks => ?_⟩
  · unfold helloSeen at hslot
    simp only [hslot]
    rfl
  · subst hks
    unfold helloSeen at hslot
    have hppm : ¬ ((fPay f).getD 2 0).toNat = 0 := by omega
    simp only [hslot, hppm, Nat.not_lt.2 hhi, hkept, hrx]
    rfl

/-! ### READY_S, TIME and its echo (R357, R371) -/

theorem readyAct_of_other (h : fPay f ≠ (getLane s l).helloD ++ (getLane s l).helloS) :
    readyAct l f s = endLink l 4 s := if_pos h

theorem readyAct_of_repeat (h : fPay f = (getLane s l).helloD ++ (getLane s l).helloS) :
    readyAct l f s = sendTime l (setLane l { getLane s l with
      link := .first, linkVer := (getLane s l).version, keyGen := ((getLane s l).helloS.getD 1 0).toNat, times := 0 } s) :=
  if_neg (not_not_intro h)

theorem echoAct_unasked (r : Nat) (h : (getLane s l).echoDue = false) : echoAct l r f s = s := by
  simp [echoAct, h]

theorem echoAct_asked {r : Nat} (h : (getLane s l).echoDue = true) {t : State}
    (ht : t = setLane l { getLane s l with
      delayNs := min 0xFFFF ((r - leNat (fPay f)) / 2), echoDue := false, tSync := some (getLane s l).tMark } s) :
    echoAct l r f s = if (getLane s l).link = .first then linkUp l t else t := by
  subst ht
  simp only [echoAct, h, Bool.not_true, Bool.false_eq_true, if_false]

end

/-- A frame sent leaves of its lane all but the transmitter. -/
theorem getLane_laneOut (l type seq : Nat) (mark : Bool) (p : List Byte) (s : State) :
    ∃ rd fc line, getLane (laneOut l type seq mark p s) l =
      { getLane s l with rdTx := rd, fcntTx := fc, line := line } := by
  unfold laneOut traceLane
  dsimp only
  rw [getLane, trace_lanes, count, countN_lanes, emit_lanes, emit_lanes, ← getLane, getLane_setLane_self]
  exact ⟨_, _, _, rfl⟩

/-- Sending CAP changes neither the phase nor the state of a lane. -/
theorem getLane_sendCap (l : Nat) (s : State) : (getLane (sendCap l s) l).link = (getLane s l).link ∧
    (getLane (sendCap l s) l).tries = (getLane s l).tries ∧ (getLane (sendCap l s) l).state = (getLane s l).state := by
  unfold sendCap
  dsimp only
  obtain ⟨rd, fc, line, h⟩ := getLane_laneOut l 4 0 false _ (setLane l { getLane s l with capShown := some s.adm.change } s)
  rw [h, getLane_setLane_self]
  exact ⟨rfl, rfl, rfl⟩

theorem getLane_freePlacesTo (l ack : Nat) (s : State) : (getLane (freePlacesTo l ack s) l).link = (getLane s l).link ∧
    (getLane (freePlacesTo l ack s) l).tries = (getLane s l).tries ∧
    (getLane (freePlacesTo l ack s) l).state = (getLane s l).state := by
  unfold freePlacesTo
  rw [getLane_onLane_self]
  exact ⟨rfl, rfl, rfl⟩

end Sys2Proof.Machine
end

section
/-! A lane's link, sleep, late failures and closing by its station (R355, R358, R369, R371, R374). -/

namespace Sys2Proof.Machine

/-! ### LINKED (R355, R365) -/

/-- Frames below RX_NEXT count as acknowledged (R365). -/
def keptFreed (l : Nat) (x : Lane) (s : State) : State :=
  match keptNext x with
  | some rx => if rx = oldestSeq x then s else freePlacesTo l (if rx = 1 then 0xFFFFFFFF else rx - 1) s
  | none => s

theorem linkUp_eq (l : Nat) (s : State) : linkUp l s =
    sendCap l (onLane l (fun y => { y with sendSeq := oldestSeq y }) (keptFreed l (getLane s l)
      (setLane l { getLane s l with
        link := .up, state := if (getLane s l).state = 5 then 5 else 3
        linkups := satInc (getLane s l).linkups 0xFFFF, tries := 0, opening := false } s))) := rfl

theorem getLane_keptFreed (l : Nat) (x : Lane) (s : State) :
    (getLane (keptFreed l x s) l).link = (getLane s l).link ∧
    (getLane (keptFreed l x s) l).tries = (getLane s l).tries ∧
    (getLane (keptFreed l x s) l).state = (getLane s l).state := by
  unfold keptFreed
  split
  · split
    · exact ⟨rfl, rfl, rfl⟩
    · exact getLane_freePlacesTo l _ s
  · exact ⟨rfl, rfl, rfl⟩

theorem getLane_linkUp (l : Nat) (s : State) : (getLane (linkUp l s) l).link = .up ∧ (getLane (linkUp l s) l).tries = 0 ∧
    (getLane (linkUp l s) l).state = if (getLane s l).state = 5 then 5 else 3 := by
  obtain ⟨hlink, htries, hstate⟩ := getLane_keptFreed l (getLane s l) (setLane l { getLane s l with
    link := .up, state := if (getLane s l).state = 5 then 5 else 3
    linkups := satInc (getLane s l).linkups 0xFFFF, tries := 0, opening := false } s)
  rw [getLane_setLane_self] at hlink htries hstate
  rw [linkUp_eq]
  obtain ⟨hlink', htries', hstate'⟩ := getLane_sendCap l (onLane l (fun y => { y with sendSeq := oldestSeq y })
    (keptFreed l (getLane s l) (setLane l { getLane s l with
      link := .up, state := if (getLane s l).state = 5 then 5 else 3
      linkups := satInc (getLane s l).linkups 0xFFFF, tries := 0, opening := false } s)))
  rw [hlink', htries', hstate', getLane_onLane_self]
  exact ⟨hlink, htries, hstate⟩

/-! ### SLEEP (R374) -/

theorem laneOut_now (l type seq : Nat) (mark : Bool) (p : List Byte) (s : State) :
    (laneOut l type seq mark p s).now = s.now := by
  unfold laneOut traceLane
  dsimp only
  rw [trace_now, count, countN_now]
  rfl

theorem idleOut_now (l n : Nat) (s : State) : (idleOut l n s).now = s.now := rfl

section
variable {l : Nat} {s : State} {f : List Byte}

theorem sleepAct_malformed (h : ∃ b ∈ (fPay f).drop 6, b ≠ 0) : sleepAct l f s = endLink l 4 s := by
  obtain ⟨b, hb, hne⟩ := h
  have hany : ((fPay f).drop 6).any (fun b => b != 0) = true := List.any_eq_true.2 ⟨b, hb, bne_iff_ne.2 hne⟩
  exact if_pos hany

/-- A well-formed SLEEP is answered. -/
theorem sleepAct_answered {a r : Nat} (h : ∀ b ∈ (fPay f).drop 6, b = 0)
    (ha : sleepAnswer s (getLane s l) (leNat ((fPay f).take 6)) = (a, r)) :
    sleepAct l f s =
      if a = 1 ∧ ((getLane s l).link = .up ∨ (getLane s l).link = .first) then
        onLane l (fun x => { unlinked x with
            state := if x.state = 5 then 5 else 4, sleepAt := s.now, wakeAt := leNat ((fPay f).take 6) })
          (idleOut l 16 (laneOut l 6 0 false [BitVec.ofNat 8 a, BitVec.ofNat 8 r, 0, 0] s))
      else laneOut l 6 0 false [BitVec.ofNat 8 a, BitVec.ofNat 8 r, 0, 0] s := by
  have hany : ¬ ((fPay f).drop 6).any (fun b => b != 0) = true := by
    rw [List.any_eq_true]
    rintro ⟨b, hb, hne⟩
    exact bne_iff_ne.1 hne (h b hb)
  unfold sleepAct
  simp only [ha]
  rw [if_neg hany]

theorem sleepAnswer_accept (hp : (getLane s l).places = []) (ha : (getLane s l).acksDue = [])
    (hu : (getLane s l).unanswered = []) : sleepAnswer s (getLane s l) 0 = (1, 0) := by
  simp [sleepAnswer, hp, ha, hu]

theorem sleepAnswer_holding (w : Nat) (hp : (getLane s l).places ≠ []) : sleepAnswer s (getLane s l) w = (2, 1) :=
  if_pos hp

theorem sleepAnswer_unanswered (w : Nat) (hp : (getLane s l).places = []) (hu : (getLane s l).unanswered ≠ []) :
    sleepAnswer s (getLane s l) w = (2, 2) := by
  simp [sleepAnswer, hp, hu]

/-! ### LATE_FAIL (R369) -/

/-- A LATE_FAIL is well-formed where it names an acknowledged DATA frame, a reason of its own and nothing more. -/
theorem lateAct_noted {r : Nat} (hlink : (getLane s l).link = .up ∨ (getLane s l).link = .first)
    (hr : r = ((fPay f).getD 4 0).toNat) (hmem : leNat ((fPay f).take 4) ∈ (getLane s l).dataAcked) (hpos : 1 ≤ r)
    (hrange : r < 6 ∨ 0x80 ≤ r) (hz : ∀ b ∈ (fPay f).drop 5, b = 0) :
    lateAct l f s = sendAckUp l [(fSeq f, 4)] (failAdd l (leNat ((fPay f).take 4)) r s) := by
  subst hr
  have hany : ((fPay f).drop 5).any (fun b => b != 0) = false :=
    List.any_eq_false.2 fun b hb => by simp [hz b hb]
  have hlost : ¬ ((getLane s l).link ≠ .up ∧ (getLane s l).link ≠ .first) := fun h => hlink.elim h.1 h.2
  have hreason : ¬ (6 ≤ ((fPay f).getD 4 0).toNat ∧ ((fPay f).getD 4 0).toNat < 0x80) := by omega
  have hknown : (getLane s l).dataAcked.contains (leNat ((fPay f).take 4)) = true := List.contains_iff_mem.2 hmem
  have hzero : ¬ ((fPay f).getD 4 0).toNat = 0 := by omega
  unfold lateAct
  simp only [if_neg hlost, hknown, hany, hreason, hzero, decide_false, Bool.not_true, Bool.or_self, Bool.false_eq_true,
    if_false]
  rfl

theorem lateAct_malformed (hlink : (getLane s l).link = .up ∨ (getLane s l).link = .first)
    (hmem : leNat ((fPay f).take 4) ∉ (getLane s l).dataAcked) :
    lateAct l f s = sendAckUp l [(fSeq f, 5)] (logEvent 5 4 ([l, 0x91] ++ leNats 2 (fSeq f)) s) := by
  have hlost : ¬ ((getLane s l).link ≠ .up ∧ (getLane s l).link ≠ .first) := fun h => hlink.elim h.1 h.2
  have hknown : (getLane s l).dataAcked.contains (leNat ((fPay f).take 4)) = false :=
    Bool.eq_false_iff.2 fun h => hmem (List.contains_iff_mem.1 h)
  unfold lateAct
  simp only [if_neg hlost, hknown, Bool.not_false, Bool.true_or, if_true]
  rfl

/-! ### CLOSE (R358) -/

theorem closeAct_of_up (hup : (getLane s l).link = .up) :
    closeAct l f s = if ((fPay f).getD 0 0).toNat = 5 then startLink l false false (loseLink l s) else loseLink l s := by
  simp only [closeAct, hup]

theorem closeAct_of_bringup (hup : (getLane s l).link ≠ .up) (hoff : (getLane s l).link ≠ .off) :
    closeAct l f s = failLink l ((fPay f).getD 0 0).toNat s := by
  unfold closeAct
  split
  case h_1 h => exact absurd h hoff
  case h_2 h => exact absurd h hup
  case h_3 => rfl

end

/-- Settles O58: the checks of R361 by `rxFrame_of_headGood`; then each frame by the case of its action. -/
theorem stationFrames : Obligations.StationFrames := by
  unfold Obligations.StationFrames
  refine ⟨?frames, ?bad, ?places, ?report, ?hello, ?ready, fun _ _ => rfl, ?echo, fun s l => getLane_linkUp l s, ?sleep,
    ?late, ?close⟩
  case frames =>
    intro s l f i t act hal hl hi hlisten htype hcrc hhead
    rw [exec_stationFrame hi, serve_onRealLane hal hl, rxFrame_of_headGood act hlisten htype hcrc hhead]
    refine ⟨fun hmac hfields => ?_, fun hmac => ?_, fun hmac hfields => ?_⟩
    · rw [hmac, hfields]
      rfl
    · rw [if_pos hmac]
    · rw [hmac, if_pos hfields]
      rfl
  case bad =>
    intro s l v f hal hl hlisten hf
    rw [exec_laneBadFrame, serve_onRealLane hal hl]
    refine ⟨fun hcrc => ?_, fun hcrc hhead hlink => ?_, fun hcrc hhead hlink => ?_⟩
    · rw [rxBad_of_crc hlisten hf hcrc]
    · rw [rxBad_of_head hlisten hf hcrc hhead, if_pos hlink]
    · have hnew : ¬ ((getLane s l).link = .up ∨ (getLane s l).link = .first) := by
        rcases hlink with h | h <;> rw [h] <;> decide
      rw [rxBad_of_head hlisten hf hcrc hhead, if_neg hnew]
  case places =>
    rintro s l _ rest g _ rfl hplaces hrest hself
    have hkept : rest.filter (fun p => !seqLe p.seq g) = rest := List.filter_eq_self.2 (List.all_eq_true.1 hrest)
    rw [places_freePlacesTo, hplaces, List.filter_cons, hself, hkept]
    rfl
  case report =>
    rintro _ _ r k rfl rfl hst htag
    rw [reportVerdict_unconfirmed k hst htag]
    refine ⟨?_, ?_, ?_⟩ <;> rintro rfl <;> rfl
  case hello =>
    rintro s l f _ v g _ rfl hv hg rfl
    refine ⟨helloAct_version hv, fun hlo hhi hbit => ?_, fun n k ks hlo hhi hbit => ?_⟩
    · have hgood : ¬ (v = 0 ∨ 3 < v ∨ bit (getLane s l).permit (v - 1) = false) := by
        rw [hbit]; simp; omega
      exact (helloAct_of_version hv hg hgood).1
    · have hgood : ¬ (v = 0 ∨ 3 < v ∨ bit (getLane s l).permit (v - 1) = false) := by
        rw [hbit]; simp; omega
      exact (helloAct_of_version hv hg hgood).2 n k ks
  case ready => intro s l f; exact ⟨readyAct_of_other, readyAct_of_repeat⟩
  case echo =>
    intro s l r f
    refine ⟨echoAct_unasked r, fun t hdue ht => ?_⟩
    rw [echoAct_asked hdue ht]
    exact ⟨fun h => if_pos h, fun h => if_neg h⟩
  case sleep =>
    intro s l f
    refine ⟨sleepAct_malformed, ?_, fun hz hp => ?_, fun hz hp hu => ?_⟩
    · rintro _ hz hup hwake hp ha hu rfl
      have haccept : sleepAnswer s (getLane s l) (leNat ((fPay f).take 6)) = (1, 0) := by
        rw [hwake]; exact sleepAnswer_accept hp ha hu
      rw [sleepAct_answered hz haccept, if_pos ⟨rfl, .inl hup⟩, idleOut_now, laneOut_now, hwake]
      rfl
    · rw [sleepAct_answered hz (sleepAnswer_holding _ hp), if_neg (fun h => absurd h.1 (by decide))]
      rfl
    · rw [sleepAct_answered hz (sleepAnswer_unanswered _ hp hu), if_neg (fun h => absurd h.1 (by decide))]
      rfl
  case late =>
    intro s l f r hlink hr
    exact ⟨lateAct_noted hlink hr, lateAct_malformed hlink⟩
  case close =>
    intro s l f
    refine ⟨fun hup hr => ?_, fun hup hr => ?_, closeAct_of_bringup⟩
    · rw [closeAct_of_up hup, if_neg hr]
    · rw [closeAct_of_up hup, if_pos hr]

end Sys2Proof.Machine
end

section
/-! No step stops the machine. -/

namespace Sys2Proof.Machine

/-- Settles O2: every row is an `answer` or a `serve`, and `step` runs a row or idles. -/
theorem everyStepGoesOn : Obligations.EveryStepGoesOn := by
  unfold Obligations.EveryStepGoesOn
  refine ⟨fun s => ?_, exec_settles⟩
  obtain ⟨t, ht⟩ := step_settles s
  exact ⟨settle t, ht⟩

end Sys2Proof.Machine
end

section
/-! Journal entries (R77) and the check of a record (R27). -/

namespace Sys2Proof.Machine

/-! ### The slot that an entry names -/

theorem eKind_slotWords {kind slot : Nat} (rest : List Word) (hkind : kind < 16) (hslot : slot < slotCount) :
    eKind (slotWords kind slot ++ rest) = kind := by
  have hword : wd (slotWords kind slot ++ rest) 0 = (kind * 4096 + slot / 65536) % 65536 := rfl
  simp only [eKind, bits, hword, slotCount] at *
  omega

theorem eSlot_slotWords {kind slot : Nat} (rest : List Word) (hslot : slot < slotCount) :
    eSlot (slotWords kind slot ++ rest) = slot := by
  have hhigh : wd (slotWords kind slot ++ rest) 0 = (kind * 4096 + slot / 65536) % 65536 := rfl
  have hlow : wd (slotWords kind slot ++ rest) 1 = slot % 65536 := rfl
  simp only [eSlot, bits, hhigh, hlow, slotCount] at *
  omega

/-! ### The record that entries spell -/

theorem record_ext {r r' : List Word} (h : r.length = 16) (h' : r'.length = 16)
    (hword : ∀ i < 16, r.getD i 0 = r'.getD i 0) : r = r' := by
  refine List.ext_getElem (h.trans h'.symm) fun i hi hi' => ?_
  simpa [List.getD_eq_getElem?_getD, hi, hi'] using hword i (h ▸ hi)

theorem applyDelta_length (old e : List Word) : (applyDelta old e).length = old.length := by simp [applyDelta]

/-- The words that a DELTA carries. -/
theorem applyDelta_carried {old : List Word} (slot : Nat) (r : List Word) (o : Origin) (st : Nat) (h : old.length = 16) :
    ∀ i ∈ [0, 1, 8, 9, 10, 13, 14, 15], (applyDelta old (deltaEntry slot r o st)).getD i 0 = r.getD i 0 := by
  simp [applyDelta, deltaEntry, slotWords, h, List.getElem?_set]

/-- The words that it does not carry. -/
theorem applyDelta_kept (old e : List Word) :
    ∀ i ∈ [2, 3, 4, 5, 6, 7, 11, 12], (applyDelta old e).getD i 0 = old.getD i 0 := by
  simp [applyDelta, List.getElem?_set]

theorem applyDelta_deltaEntry {old r : List Word} (slot : Nat) (o : Origin) (st : Nat) (hold : old.length = 16)
    (hr : r.length = 16) (hkeep : ∀ i ∈ [2, 3, 4, 5, 6, 7, 11, 12], old.getD i 0 = r.getD i 0) :
    applyDelta old (deltaEntry slot r o st) = r := by
  refine record_ext ((applyDelta_length ..).trans hold) hr fun i hi => ?_
  have hsplit : i ∈ [0, 1, 8, 9, 10, 13, 14, 15] ∨ i ∈ [2, 3, 4, 5, 6, 7, 11, 12] := by simp; omega
  rcases hsplit with hcarried | hkept
  · exact applyDelta_carried slot r o st hold i hcarried
  · exact (applyDelta_kept old _ i hkept).trans (hkeep i hkept)

theorem imageOf_entries {r : List Word} (slot : Nat) (o : Origin) (st : Nat) (h : r.length = 16) :
    imageOf (headEntry slot r o st) (tailEntry slot r) = r := by
  have hhead : ((headEntry slot r o st).drop 2).take 8 = r.take 8 := by simp [headEntry, slotWords, h]
  have htail : ((tailEntry slot r).drop 2).take 7 = (r.drop 8).take 7 := by simp [tailEntry, slotWords, h]
  have hcheck : (tailEntry slot r).getD 9 0 = r[15] := by simp [tailEntry, slotWords, h]
  rw [imageOf, hhead, htail, hcheck, ← List.take_add, List.take_append_getElem]
  exact List.take_of_length_le h.le

/-! ### RECORD_CHECK -/

theorem checkOk_iff {r : List Word} : checkOk r = true ↔ r.getD 15 0 = recCheck r := decide_eq_true_iff

/-- RECORD_CHECK runs over W0 to W14, so that a write of W15 leaves it. -/
theorem recCheck_fixCheck (r : List Word) : recCheck (fixCheck r) = recCheck r := by
  simp [recCheck, fixCheck, List.take_set_of_le]

theorem fixCheck_check {r : List Word} (h : r.length = 16) : (fixCheck r).getD 15 0 = recCheck r := by
  simp [fixCheck, h]

theorem checkOk_fixCheck {r : List Word} (h : r.length = 16) : checkOk (fixCheck r) = true := by
  rw [checkOk_iff, recCheck_fixCheck, fixCheck_check h]

/-- Settles O6: an entry's first two words name its slot; a replay writes the words that the entry carries, and the
check does not look at the word that holds it. -/
theorem journalSpells : Obligations.JournalSpells := by
  unfold Obligations.JournalSpells
  refine ⟨fun slot r o st hslot => ?_, fun slot old r o st hold hr hkeep => applyDelta_deltaEntry slot o st hold hr hkeep,
    fun slot r o st hr => imageOf_entries slot o st hr, fun r hr => checkOk_fixCheck hr⟩
  exact ⟨eSlot_slotWords _ hslot, eSlot_slotWords _ hslot, eSlot_slotWords _ hslot,
    eKind_slotWords _ (by decide) hslot, eKind_slotWords _ (by decide) hslot, eKind_slotWords _ (by decide) hslot⟩

end Sys2Proof.Machine
end

section
/-! The compact credential's header: fields of fixed widths, the first in the highest bits (R51). -/

namespace Sys2Proof.Machine

/-- Bytes spell the number that they were written from. -/
theorem beNat_beBytes {n v : Nat} (h : v < 256 ^ n) : beNat (beBytes n v) = v := by
  have key : ∀ (n a : Nat), (beBytes n v).foldl (fun a b => a * 256 + b.toNat) a = a * 256 ^ n + v % 256 ^ n := by
    intro n
    induction n with
    | zero => intro a; simp [beBytes, Nat.mod_one]
    | succ n ih =>
      intro a
      rw [beBytes, List.foldl_cons, ih, BitVec.toNat_ofNat, Nat.pow_succ 256, Nat.mod_mul]
      ring
  rw [beNat, key, Nat.zero_mul, Nat.zero_add, Nat.mod_eq_of_lt h]

/-- The number whose bytes a credential's header is. -/
def headerNum (slot : Nat) (r : List Word) (auth pay : Nat) : Nat :=
  ((((((((((1 * 4 + auth) * 64 + pay) * 256 + rRealm r) * 33554432 + slot) * 65536 + rGen r)
    * 256 + rPolicy r) * 65536 + rFrom r) * 65536 + rTo r) * 256 + rKeyGen r) * 8)

theorem credHeader_eq (slot : Nat) (r : List Word) (auth pay : Nat) :
    credHeader slot r auth pay = beBytes 14 (headerNum slot r (if auth = 3 then 2 else auth) pay) := rfl

theorem bits_lt (v hi lo : Nat) : bits v hi lo < 2 ^ (hi + 1 - lo) := Nat.mod_lt _ (Nat.two_pow_pos _)
theorem wd_lt (l : List Word) (i : Nat) : wd l i < 65536 := (l.getD i 0).isLt

/-- A field of a header of 14 bytes. -/
theorem credField_beBytes {v : Nat} (h : v < 2 ^ 112) (off width : Nat) :
    credField (beBytes 14 v) off width = v / 2 ^ (112 - off - width) % 2 ^ width := by
  have hpad : padTo 14 0 (beBytes 14 v) = beBytes 14 v := padTo_of_length 0 (beBytes_length 14 v)
  rw [credField, hpad, beNat_beBytes h]

/-- Settles O9: the header's number holds each field below 2 to the power of its width, so that a division and a
remainder read it back. -/
theorem credentialHeader : Obligations.CredentialHeader := by
  unfold Obligations.CredentialHeader
  intro slot r auth pay hslot _ hrealm hauth hpay b hb
  have hgen : rGen r < 65536 := wd_lt r 0
  have hpolicy : rPolicy r < 256 := bits_lt _ 7 0
  have hfrom : rFrom r < 65536 := wd_lt r 4
  have hto : rTo r < 65536 := wd_lt r 5
  have hkey : rKeyGen r < 256 := bits_lt _ 15 8
  have hkind : (if auth = 3 then 2 else auth) < 3 := by split <;> omega
  rw [credHeader_eq] at hb
  generalize (if auth = 3 then 2 else auth) = kind at hb hkind ⊢
  have hnum : headerNum slot r kind pay < 2 ^ 112 := by
    simp only [headerNum, slotCount] at *; omega
  subst hb
  simp only [crVersion, crAuth, crPayLen, crRealm, crSlot, crGen, crPolicy, crFrom, crTo, crKeyGen, crRes,
    credField_beBytes hnum, beBytes_length]
  simp only [headerNum, slotCount] at *
  refine ⟨trivial, ?_, ?_, ?_, ?_, ?_, ?_, ?_, ?_, ?_, ?_, ?_⟩ <;> omega

end Sys2Proof.Machine
end

section
/-! CRC-16/CCITT one bit at a time (R27), and the CHECK of a reply (R162). -/

namespace Sys2Proof.Machine

/-- One bit into the CRC (R27). -/
def crcStep (c : BitVec 16) (x : Bool) : BitVec 16 :=
  if c.getLsbD 15 != x then (c <<< 1) ^^^ 0x1021#16 else c <<< 1

/-- The bits of a byte, the most significant first. -/
def msbFirst (b : Byte) : List Bool := (List.range 8).map (fun i => b.getLsbD (7 - i))

/-- A word added to the CRC gives its top bit to the step, and the rest of it moves up by one. -/
theorem crc16Bit_xor (c v : BitVec 16) : crc16Bit (c ^^^ v) = crcStep c v.msb ^^^ (v <<< 1) := by
  have hmsb : (c ^^^ v).msb = (c.getLsbD 15 != v.msb) := BitVec.msb_xor
  rw [crc16Bit, crcStep, hmsb, BitVec.shiftLeft_xor_distrib]
  split
  · ac_rfl
  · rfl

/-- Bits that are pushed in from the top of a word, one step each. -/
theorem crc16Bit_pushed (c v : BitVec 16) (n : Nat) :
    crc16Bit^[n] (c ^^^ v) = ((List.range n).map (fun i => (v <<< i).msb)).foldl crcStep c ^^^ (v <<< n) := by
  induction n with
  | zero => simp
  | succ n ih =>
    rw [Function.iterate_succ_apply', ih, crc16Bit_xor, List.range_succ, List.map_append, List.foldl_append,
      ← BitVec.shiftLeft_add]
    rfl

theorem msb_byte_shifted (b : Byte) {i : Nat} (h : i < 8) : (b.setWidth 16 <<< 8 <<< i).msb = b.getLsbD (7 - i) := by
  have hplace : 15 - i - 8 = 7 - i := by omega
  simp [BitVec.msb_eq_getLsbD_last, hplace, show i ≤ 15 by omega, show ¬ 15 - i < 8 by omega]

theorem crc16Byte_eq (c : BitVec 16) (b : Byte) : crc16Byte c b = (msbFirst b).foldl crcStep c := by
  have hpushed : crc16Byte c b = crc16Bit^[8] (c ^^^ (b.setWidth 16 <<< 8)) := rfl
  have hgone : b.setWidth 16 <<< 8 <<< 8 = 0#16 := by
    rw [← BitVec.shiftLeft_add]; exact BitVec.shiftLeft_eq_zero (by decide)
  have hbits : (List.range 8).map (fun i => (b.setWidth 16 <<< 8 <<< i).msb) = msbFirst b :=
    List.map_congr_left fun i hi => msb_byte_shifted b (List.mem_range.mp hi)
  rw [hpushed, crc16Bit_pushed, hgone, hbits, BitVec.xor_zero]

/-- A byte at a time is a bit at a time. -/
theorem crc16_eq (bs : List Byte) : crc16 bs = (bs.flatMap msbFirst).foldl crcStep 0xFFFF := by
  have key : ∀ c, bs.foldl crc16Byte c = (bs.flatMap msbFirst).foldl crcStep c := by
    induction bs with
    | nil => exact fun _ => rfl
    | cons b bs ih => intro c; rw [List.foldl_cons, ih, crc16Byte_eq, List.flatMap_cons, List.foldl_append]
  exact key _

/-! ### The CHECK of a reply -/

theorem padTo_length {α : Type} (n : Nat) (d : α) (l : List α) : (padTo n d l).length = n := by
  simp [padTo]; omega

theorem leNats_length (n v : Nat) : (leNats n v).length = n := by
  induction n generalizing v with
  | zero => rfl
  | succ n ih => simp [leNats, ih]

/-- The words of a reply before its CHECK. -/
def replyHead (r : Reply) (phase : Bool) : List Nat :=
  [r.status, r.opcode * 256 + r.pair * 16 + b2n r.head * 8 + b2n phase] ++ leNats 2 r.tag ++
    leNats 4 r.jsn ++ padTo 7 0 r.results

theorem replyWords_eq (r : Reply) (phase : Bool) :
    replyWords r phase = replyHead r phase ++ [(crc16 ((replyHead r phase).flatMap (leBytes 2))).toNat] := rfl

theorem replyHead_length (r : Reply) (phase : Bool) : (replyHead r phase).length = 15 := by
  simp [replyHead, leNats_length, padTo_length]

/-- Settles O28: the polynomial step by step, RECORD_CHECK as it is written and read, and a reply's last word. -/
theorem crcRule : Obligations.CrcRule := by
  unfold Obligations.CrcRule
  refine ⟨crc16_eq, fun r _ => checkOk_iff, fun r hr => ⟨fixCheck_check hr, by simp [fixCheck, List.take_set_of_le]⟩,
    fun r ph => .inl (by simp [replyWords_eq, replyHead_length]), fun r ph _ => ?_⟩
  have htake : (replyWords r ph).take 15 = replyHead r ph := by
    rw [replyWords_eq, ← replyHead_length r ph, List.take_left]
  rw [htake, replyWords_eq, ← replyHead_length r ph]
  simp

end Sys2Proof.Machine
end

section
/-! The record change: a committed image is read back, and every other slot reads as before (R31, R49, R53). -/

namespace Sys2Proof.Machine

/-! ### What a slot's record is read from -/

/-- What the Warp stack gives of a record: its pages, the nodes that hold their counts, and the batches whose shadow pages
serve (R59, R89). -/
def stackView (s : State) : KMap (List Byte) × KMap (List Byte) × KMap Node × KMap (Option Node) × List Batch :=
  (s.led.pages, s.led.shadowPages, s.led.l2, s.led.shadowL2, s.jn.batches)

theorem homeRec_congr {s t : State} (h : stackView t = stackView s) (n : Nat) : homeRec t n = homeRec s n := by
  simp only [stackView, Prod.mk.injEq] at h
  obtain ⟨hpages, hshadow, hl2, hshadowL2, hbatches⟩ := h
  simp only [homeRec, storedPage, shadowOf, node2, hpages, hshadow, hl2, hshadowL2, hbatches]

theorem imageAt_congr {s t : State} (hov : t.led.overlay = s.led.overlay) (hview : stackView t = stackView s) (n : Nat) :
    imageAt t n = imageAt s n := by
  simp only [imageAt, overlayOf, hov, homeRec_congr hview]

/-- A slot reads the image that was put over it last. -/
theorem imageAt_of_ovAdd_self {t : State} {slot j : Nat} {new : List Word} {m : KMap (Option OvEntry)}
    (hov : t.led.overlay = ovAdd slot new j m) : imageAt t slot = new := by
  simp only [imageAt, overlayOf, hov, ovAdd, mget_mset_self]

/-- Every other slot reads as before. -/
theorem imageAt_of_ovAdd_ne {s t : State} {slot j n : Nat} {new : List Word}
    (hov : t.led.overlay = ovAdd slot new j s.led.overlay) (hview : stackView t = stackView s) (hn : n ≠ slot) :
    imageAt t n = imageAt s n := by
  simp only [imageAt, overlayOf, hov, ovAdd, mget_mset_ne _ _ _ hn, homeRec_congr hview]

/-! ### Appending -/

@[simp] theorem closeFrame_led (b : Bool) (s : State) : (closeFrame b s).led = s.led := by
  unfold closeFrame; split <;> rfl
@[simp] theorem closeFrame_batches (b : Bool) (s : State) : (closeFrame b s).jn.batches = s.jn.batches := by
  unfold closeFrame; split <;> rfl
@[simp] theorem placeEntry_led (e : List Word) (s : State) : (placeEntry e s).led = s.led := by simp [placeEntry, count]
@[simp] theorem placeEntry_batches (e : List Word) (s : State) : (placeEntry e s).jn.batches = s.jn.batches := by
  simp [placeEntry, count]
@[simp] theorem append_led (e : List Word) (s : State) : (append e s).led = s.led := by
  rw [append_eq]; split <;> simp
@[simp] theorem append_batches (e : List Word) (s : State) : (append e s).jn.batches = s.jn.batches := by
  rw [append_eq]; split <;> simp
@[simp] theorem roomForPair_led (s : State) : (roomForPair s).led = s.led := by
  unfold roomForPair; split <;> simp
@[simp] theorem roomForPair_batches (s : State) : (roomForPair s).jn.batches = s.jn.batches := by
  unfold roomForPair; split <;> simp

/-- R80: short of 59 entries the entry takes its place in the open frame. -/
theorem append_openEntries {s : State} (e : List Word) (h : s.jn.openEntries.length < 59) :
    (append e s).jn.openEntries = s.jn.openEntries ++ [e] := by
  rw [append_eq, if_neg (by omega), placeEntry_openEntries]

/-- R72: a JSN names its frame. -/
theorem jsnFrame_nextJsn (s : State) : jsnFrame (nextJsn s) = s.jn.openNo + s.jn.openEntries.length / 64 := by
  unfold jsnFrame nextJsn; omega

/-! ### The change -/

/-- The ledger without its counts of records. -/
def uncounted (l : Led) : Led := { l with free := 0, retired := 0, held := [], agCount := [], kgCount := [], epCount := [] }

@[simp] theorem uncounted_countOut (r : List Word) (l : Led) : uncounted (countOut r l) = uncounted l := by
  unfold countOut
  split
  · rfl
  · split <;> rfl

@[simp] theorem uncounted_countIn (r : List Word) (l : Led) : uncounted (countIn r l) = uncounted l := by
  unfold countIn
  split
  · rfl
  · split <;> rfl

theorem putImage_overlay (slot : Nat) (old new : List Word) (j : Nat) (s : State) :
    (putImage slot old new j s).led.overlay = ovAdd slot new j s.led.overlay := by
  have hrest : uncounted (countIn new (countOut old s.led)) = uncounted s.led := by simp
  exact congrArg (fun l => ovAdd slot new j l.overlay) hrest

theorem stackView_putImage (slot : Nat) (old new : List Word) (j : Nat) (s : State) :
    stackView (putImage slot old new j s) = stackView s := by
  have hrest : uncounted (countIn new (countOut old s.led)) = uncounted s.led := by simp
  exact congrArg (fun l => (l.pages, l.shadowPages, l.l2, l.shadowL2, s.jn.batches)) hrest

@[simp] theorem putImage_jn (slot : Nat) (old new : List Word) (j : Nat) (s : State) :
    (putImage slot old new j s).jn = s.jn := rfl

theorem commitDelta_overlay (slot : Nat) (new : List Word) (o : Origin) (st : Nat) (s : State) :
    (commitDelta slot new o st s).2.led.overlay = ovAdd slot (fixCheck new) (nextJsn s) s.led.overlay := by
  rw [commitDelta, putImage_overlay, append_led]

theorem stackView_commitDelta (slot : Nat) (new : List Word) (o : Origin) (st : Nat) (s : State) :
    stackView (commitDelta slot new o st s).2 = stackView s := by
  rw [commitDelta, stackView_putImage, stackView, append_led, append_batches]; rfl

theorem commitImage_overlay (slot : Nat) (new : List Word) (o : Origin) (st : Nat) (s : State) :
    (commitImage slot new o st s).2.led.overlay =
      ovAdd slot (fixCheck new) (nextJsn (roomForPair s)) s.led.overlay := by
  rw [commitImage, putImage_overlay, append_led, append_led, roomForPair_led]

theorem stackView_commitImage (slot : Nat) (new : List Word) (o : Origin) (st : Nat) (s : State) :
    stackView (commitImage slot new o st s).2 = stackView s := by
  rw [commitImage, stackView_putImage, stackView]; simp [stackView]

theorem imageAt_commitDelta_self (slot : Nat) (new : List Word) (o : Origin) (st : Nat) (s : State) :
    imageAt (commitDelta slot new o st s).2 slot = fixCheck new := imageAt_of_ovAdd_self (commitDelta_overlay ..)

/-- Settles O7: either commit puts the image into the overlay under its JSN, and leaves what the Warp stack gives; the
entry takes its place in the open frame. -/
theorem commitReads : Obligations.CommitReads := by
  unfold Obligations.CommitReads
  refine ⟨fun s slot new o st => ⟨imageAt_commitDelta_self .., fun n hn => ?_, jsnFrame_nextJsn s⟩,
    fun s slot new o st hwf => ?_,
    fun s slot new o st => ⟨imageAt_of_ovAdd_self (commitImage_overlay ..), fun n hn => ?_⟩,
    fun s slot new o st h => append_openEntries _ h⟩
  · exact imageAt_of_ovAdd_ne (commitDelta_overlay ..) (stackView_commitDelta ..) hn
  · rw [commitDelta_overlay]; exact mwf_mset none _ slot _ hwf
  · exact imageAt_of_ovAdd_ne (commitImage_overlay ..) (stackView_commitImage ..) hn

end Sys2Proof.Machine
end

section
/-! LEDGER_CONFIRM, LEDGER_VOID and LEDGER_RELEASE by the state of the record (R31, R33, R38, R48). -/

namespace Sys2Proof.Machine

/-! ### The rows of the ledger's changes -/

theorem exec_ledgerConfirm (id : Nat) (s : State) :
    exec (.ledgerConfirm id) s = serve (onLooked 0x11 id ledgerConfirm) s := rfl
theorem exec_ledgerVoid (id : Nat) (s : State) : exec (.ledgerVoid id) s = serve (onLooked 0x12 id ledgerVoid) s := rfl
theorem exec_ledgerRelease (id : Nat) (s : State) :
    exec (.ledgerRelease id) s = serve (onLooked 0x15 id ledgerRelease) s := rfl

/-! ### LEDGER_CONFIRM and LEDGER_VOID -/

section
variable {c : Cmd} {s : State} {r : List Word}

/-- R31, R33, R38: what CONFIRM does to a record that passes steps 5 to 8 of R35, by its state. -/
theorem ledgerConfirm_of_none (hr : r = imageAt s (pSlot c.words))
    (hchecks : slotChecks s c.fn (pSlot c.words) (pGen c.words) = none) : ledgerConfirm c s =
      if timedOut s r then timeoutEnd c (pSlot c.words) (voidRec r (cOrigin c)) sSlotState s
      else if (rState r = stReserved ∧ rTag r = false) ∨ rState r = stUnconfirmed then
        commitEnd c (pSlot c.words) (setPair (setState r stIssued) 8 0) sOk s
      else if rState r = stIssued then endRead c (pSlot c.words) sOkAlready (stateGen r) s
      else endRead c (pSlot c.words) sSlotState (stateGen r) s := by
  subst hr; simp only [ledgerConfirm, hchecks]

theorem ledgerVoid_of_none (hr : r = imageAt s (pSlot c.words))
    (hchecks : slotChecks s c.fn (pSlot c.words) (pGen c.words) = none) : ledgerVoid c s =
      if timedOut s r then timeoutEnd c (pSlot c.words) (voidRec r (cOrigin c)) sOkAlready s
      else if 1 ≤ rState r ∧ rState r ≤ 4 then commitEnd c (pSlot c.words) (voidRec r (cOrigin c)) sOk s
      else if rState r = stVoid then endRead c (pSlot c.words) sOkAlready (stateGen r) s
      else endRead c (pSlot c.words) sSlotState (stateGen r) s := by
  subst hr; simp only [ledgerVoid, hchecks]

theorem timeoutEnd_of_left (slot : Nat) (new : List Word) (st : Nat) (h : 0 < otherLeft s) :
    timeoutEnd c slot new st s = commitEnd c slot new st (useOther 1 s) := if_neg h.ne'

theorem timeoutEnd_of_none_left (slot : Nat) (new : List Word) (st : Nat) (h : otherLeft s = 0) :
    timeoutEnd c slot new st s = s := if_pos h

end

/-! ### LEDGER_RELEASE from realms 1 to 31 -/

section
variable {c : Cmd} {s : State} {r : List Word}

/-- R31, R33: what RELEASE does to a record that passes the checks and whose timeout has not elapsed, by its state. -/
theorem ledgerRelease_of_none (hfn : c.fn ≠ 0) (hr : r = imageAt s (pSlot c.words))
    (hchecks : slotChecks s c.fn (pSlot c.words) (pGen c.words) = none) (ht : timedOut s r = false) :
    ledgerRelease c s =
      if 5 ≤ rState r ∧ rState r ≤ 7 then releaseRec c (pSlot c.words) s
      else if rState r = stFree then endRead c (pSlot c.words) sOkAlready (stateGen r) s
      else endRead c (pSlot c.words) sSlotState (stateGen r) s := by
  subst hr; simp [ledgerRelease, hfn, ledgerReleaseRealm, hchecks, ht]

/-- R31, R44: an ended record is freed while SLOT_GEN can advance. -/
theorem releaseRec_of_free {slot : Nat} (hr : r = imageAt s slot) (hgen : rGen r < 0xFFFF) : releaseRec c slot s =
    finish (withJsn c (nextJsn s)) sOk (stateGen (setState r stFree)) []
      (poolAdd slot (commitDelta slot (setState r stFree) (cOrigin c) sOk s).2) := by
  subst hr; exact if_pos hgen

/-- R31, R44: and is retired after that. -/
theorem releaseRec_of_worn {slot : Nat} (hr : r = imageAt s slot) (hgen : 0xFFFF ≤ rGen r) : releaseRec c slot s =
    finish (withJsn c (nextJsn s)) sOk (stateGen (setState r stRetired)) []
      (cutQuota (rRealm r) (jsnFrame (nextJsn s)) (commitDelta slot (setState r stRetired) (cOrigin c) sOk s).2) := by
  subst hr; exact if_neg (Nat.not_lt.mpr hgen)

end

/-! ### LEDGER_RELEASE of a quarantined slot -/

@[simp] theorem closeFrame_card (b : Bool) (s : State) : (closeFrame b s).card = s.card := by
  unfold closeFrame; split <;> rfl
@[simp] theorem append_card (e : List Word) (s : State) : (append e s).card = s.card := by
  rw [append_eq]; split <;> simp [placeEntry, count]
@[simp] theorem roomForPair_card (s : State) : (roomForPair s).card = s.card := by
  unfold roomForPair; split <;> simp

/-- R77: where the pair fits, no frame closes before it. -/
theorem roomForPair_of_room {s : State} (h : s.jn.openEntries.length < 59) : roomForPair s = s :=
  if_neg (Nat.not_le.mpr h)

/-- R77: a pair that fits stands in the open frame, its head first. -/
theorem append_pair_openEntries {s : State} (hd tl : List Word) (h : s.jn.openEntries.length < 58) :
    (append tl (append hd s)).jn.openEntries = s.jn.openEntries ++ [hd, tl] := by
  have hhead : (append hd s).jn.openEntries = s.jn.openEntries ++ [hd] := append_openEntries hd (by omega)
  rw [append_openEntries tl (by simp [hhead]; omega), hhead, List.append_assoc]
  rfl

/-- The state in which the pair of a retirement is appended: its approval is consumed, and a frame without room closes. -/
def retireFrom (a : Approval) (s : State) : State := roomForPair (dropApproval a.id s)

/-- The ledger after a slot is retired from quarantine with a new image under a JSN (R31, R46, R48). -/
def retiredLed (slot : Nat) (q : QEntry) (old new : List Word) (j : Nat) (l : Led) : Led :=
  let l0 := { l with quarantine := l.quarantine.filter (fun e => e.slot ≠ slot)
                     retiring := l.retiring ++ [(jsnFrame j, q)] }
  let l1 := if q.held then countOut old l0 else l0
  { countIn new l1 with overlay := ovAdd slot new j l1.overlay }

@[simp] theorem cutQuota_led (realm frame : Nat) (s : State) : (cutQuota realm frame s).led = s.led := rfl
@[simp] theorem cutQuota_card (realm frame : Nat) (s : State) : (cutQuota realm frame s).card = s.card := rfl
@[simp] theorem cutQuota_batches (realm frame : Nat) (s : State) :
    (cutQuota realm frame s).jn.batches = s.jn.batches := rfl
@[simp] theorem cutQuota_openEntries (realm frame : Nat) (s : State) :
    (cutQuota realm frame s).jn.openEntries = s.jn.openEntries := rfl

/-- The part after it: the pair is appended and the realm's QUOTA cut where its HELD counted the slot. -/
def retireQuar (slot : Nat) (o : Origin) (a : Approval) (q : QEntry) (new : List Word) (s : State) : State :=
  let t := append (tailEntry slot new) (append (headEntry slot new o sOk) (retireFrom a s))
  let u := { t with led := retiredLed slot q (imageAt s slot) new (nextJsn (retireFrom a s)) t.led }
  if q.held then cutQuota q.realm (jsnFrame (nextJsn (retireFrom a s))) u else u

theorem ledgerRelease_of_quar {c : Cmd} {s : State} {q : QEntry} {a : Approval} (hfn : c.fn = 0)
    (hq : quarOf s (pSlot c.words) = some q)
    (ha : approvalFor s (wd c.words 11) 5 (leNats 2 (pSlot c.words)) = some a) {new : List Word}
    (hnew : new = fixCheck (retiredQuar (imageAt s (pSlot c.words)) q.checkOk)) :
    ledgerRelease c s = finish (withJsn c (nextJsn (retireFrom a s))) sOk (stateGen new) []
      (retireQuar (pSlot c.words) (cOrigin c) a q new s) := by
  subst hnew
  simp only [ledgerRelease, hfn, if_true, ledgerReleaseQuar, hq, ha, retireQuar, retiredLed, retireFrom]

theorem ledgerRelease_of_denied {c : Cmd} {s : State} (hfn : c.fn = 0) (h : quarOf s (pSlot c.words) = none ∨
    approvalFor s (wd c.words 11) 5 (leNats 2 (pSlot c.words)) = none) :
    ledgerRelease c s = finish c sNotPermitted [] [] s := by
  simp only [ledgerRelease, hfn, if_true, ledgerReleaseQuar]
  rcases h with hq | ha
  · rw [hq]
  · rw [ha]
    split
    · contradiction
    · rfl

theorem uncounted_retiredLed (slot : Nat) (q : QEntry) (old new : List Word) (j : Nat) (l : Led) :
    uncounted (retiredLed slot q old new j l) = { uncounted l with
      quarantine := l.quarantine.filter (fun e => e.slot ≠ slot), retiring := l.retiring ++ [(jsnFrame j, q)]
      overlay := ovAdd slot new j l.overlay } := by
  unfold retiredLed
  extract_lets l0 l1
  have hout : uncounted l1 = uncounted l0 := by
    show uncounted (if q.held then countOut old l0 else l0) = _
    split <;> simp
  have hin : uncounted (countIn new l1) = uncounted l0 := (uncounted_countIn new l1).trans hout
  have hov : (uncounted l1).overlay = (uncounted l0).overlay := congrArg Led.overlay hout
  exact congrArg₂ (fun m ov => { m with overlay := ovAdd slot new j ov }) hin hov

theorem retiredLed_changes (slot : Nat) (q : QEntry) (old new : List Word) (j : Nat) (l : Led) :
    (retiredLed slot q old new j l).overlay = ovAdd slot new j l.overlay ∧
    (retiredLed slot q old new j l).quarantine = l.quarantine.filter (fun e => e.slot ≠ slot) ∧
    (retiredLed slot q old new j l).retiring = l.retiring ++ [(jsnFrame j, q)] := by
  have h := uncounted_retiredLed slot q old new j l
  exact ⟨(congrArg Led.overlay h :), (congrArg Led.quarantine h :), (congrArg Led.retiring h :)⟩

theorem retireQuar_led (slot : Nat) (o : Origin) (a : Approval) (q : QEntry) (new : List Word) (s : State) :
    (retireQuar slot o a q new s).led = retiredLed slot q (imageAt s slot) new (nextJsn (retireFrom a s)) s.led := by
  have hled : (append (tailEntry slot new) (append (headEntry slot new o sOk) (retireFrom a s))).led = s.led := by
    rw [append_led, append_led, retireFrom, roomForPair_led]; rfl
  unfold retireQuar
  dsimp only
  rw [hled]
  split <;> rfl

theorem retireQuar_batches (slot : Nat) (o : Origin) (a : Approval) (q : QEntry) (new : List Word) (s : State) :
    (retireQuar slot o a q new s).jn.batches = s.jn.batches := by
  have hkept : (append (tailEntry slot new) (append (headEntry slot new o sOk) (retireFrom a s))).jn.batches =
      s.jn.batches := by
    rw [append_batches, append_batches, retireFrom, roomForPair_batches]; rfl
  unfold retireQuar
  dsimp only
  split
  · rw [cutQuota_batches, hkept]
  · exact hkept

theorem retireQuar_approvals (slot : Nat) (o : Origin) (a : Approval) (q : QEntry) (new : List Word) (s : State) :
    (retireQuar slot o a q new s).card.approvals = s.card.approvals.filter (fun x => x.id ≠ a.id) := by
  have hcard : (append (tailEntry slot new) (append (headEntry slot new o sOk) (retireFrom a s))).card =
      (dropApproval a.id s).card := by
    rw [append_card, append_card, retireFrom, roomForPair_card]
  unfold retireQuar
  dsimp only
  split
  · rw [cutQuota_card, hcard]; rfl
  · rw [hcard]; rfl

theorem retireQuar_openEntries {s : State} (slot : Nat) (o : Origin) (a : Approval) (q : QEntry) (new : List Word)
    (h : s.jn.openEntries.length < 58) : (retireQuar slot o a q new s).jn.openEntries =
      s.jn.openEntries ++ [headEntry slot new o sOk, tailEntry slot new] := by
  have hfrom : retireFrom a s = dropApproval a.id s := roomForPair_of_room (Nat.lt_succ_of_lt h)
  have hpair := append_pair_openEntries (s := dropApproval a.id s) (headEntry slot new o sOk) (tailEntry slot new) h
  unfold retireQuar
  dsimp only
  rw [hfrom]
  split
  · rw [cutQuota_openEntries, hpair]; rfl
  · rw [hpair]; rfl

theorem stackView_retireQuar (slot : Nat) (o : Origin) (a : Approval) (q : QEntry) (new : List Word) (s : State) :
    stackView (retireQuar slot o a q new s) = stackView s := by
  have hled := uncounted_retiredLed slot q (imageAt s slot) new (nextJsn (retireFrom a s)) s.led
  rw [stackView, retireQuar_led, retireQuar_batches]
  exact congrArg (fun l => (l.pages, l.shadowPages, l.l2, l.shadowL2, s.jn.batches)) hled

theorem rState_retiredQuar (r : List Word) (keep : Bool) : rState (fixCheck (retiredQuar r keep)) = stRetired := by
  have hword : wd (retiredQuar r keep) 1 = 0x8000 := rfl
  rw [rState_fixCheck, rState, hword]
  rfl

/-- R31, R46, R48: what the retirement of a quarantined slot leaves. -/
theorem ledgerRelease_retires {s : State} {id : Nat} {c : Cmd} {q : QEntry} {a : Approval} {new : List Word}
    (hc : Admitted s 0x15 id c) (hl : c.lookupDone = true) (hfn : c.fn = 0) (hq : quarOf s (pSlot c.words) = some q)
    (ha : approvalFor s (wd c.words 11) 5 (leNats 2 (pSlot c.words)) = some a)
    (hnew : new = fixCheck (retiredQuar (imageAt s (pSlot c.words)) q.checkOk)) :
    ∃ j u, exec (.ledgerRelease id) s = .next (settle (finish (withJsn c j) sOk (stateGen new) [] u)) ∧
      imageAt u (pSlot c.words) = new ∧ (∀ n, n ≠ pSlot c.words → imageAt u n = imageAt s n) ∧
      quarOf u (pSlot c.words) = none ∧ (jsnFrame j, q) ∈ u.led.retiring ∧ rState new = stRetired ∧
      (∀ x ∈ u.card.approvals, x.id ≠ a.id) ∧
      (s.jn.openEntries.length < 58 → u.jn.openEntries = s.jn.openEntries ++
        [headEntry (pSlot c.words) new (cOrigin c) sOk, tailEntry (pSlot c.words) new]) := by
  obtain ⟨hov, hquar, hretiring⟩ := retiredLed_changes (pSlot c.words) q (imageAt s (pSlot c.words)) new
    (nextJsn (retireFrom a s)) s.led
  rw [← retireQuar_led (pSlot c.words) (cOrigin c) a q new s] at hov hquar hretiring
  refine ⟨nextJsn (retireFrom a s), retireQuar (pSlot c.words) (cOrigin c) a q new s, ?_, imageAt_of_ovAdd_self hov,
    fun n hn => imageAt_of_ovAdd_ne hov (stackView_retireQuar ..) hn, ?_, ?_, ?_, ?_, retireQuar_openEntries _ _ _ _ _⟩
  · rw [exec_ledgerRelease, serve_onLooked hc hl, ledgerRelease_of_quar hfn hq ha hnew]
  · rw [quarOf, hquar]; simp
  · rw [hretiring]; simp
  · rw [hnew]; exact rState_retiredQuar _ _
  · rw [retireQuar_approvals]; simp

/-- Settles O12: each row on its admitted command, in the case of its function that the record's state gives. -/
theorem ledgerChanges : Obligations.LedgerChanges := by
  unfold Obligations.LedgerChanges
  refine ⟨?confirm, ?void, ?release, ?unlisted, ?unapproved, fun s id c q a new hc hl hfn hq ha hnew =>
    ledgerRelease_retires hc hl hfn hq ha hnew⟩
  case confirm =>
    intro s id c r hc hl hr hchecks
    rw [exec_ledgerConfirm, serve_onLooked hc hl, ledgerConfirm_of_none hr hchecks]
    refine ⟨fun ht hst htag => ?_, fun ht hst htag => ?_, fun ht hst => ?_, fun ht hleft => ?_, fun ht hleft => ?_,
      fun ht hst => ?_⟩
    · simp [ht, hst, htag]
    · simp [ht, hst, htag, endRead, stReserved, stUnconfirmed, stIssued]
    · simp [ht, hst]
    · rw [if_pos ht, timeoutEnd_of_left _ _ _ hleft]
    · rw [if_pos ht, timeoutEnd_of_none_left _ _ _ hleft]
    · simp [ht, hst, endRead, stReserved, stUnconfirmed, stIssued]
  case void =>
    intro s id c r hc hl hr hchecks
    rw [exec_ledgerVoid, serve_onLooked hc hl, ledgerVoid_of_none hr hchecks]
    refine ⟨fun ht hlo hhi => ?_, fun ht hleft => ?_, fun ht hleft => ?_, fun ht hst => ?_, fun ht hst => ?_⟩
    · simp [ht, hlo, hhi]
    · rw [if_pos ht, timeoutEnd_of_left _ _ _ hleft]
    · rw [if_pos ht, timeoutEnd_of_none_left _ _ _ hleft]
    · simp [ht, hst, endRead, stVoid]
    · simp [ht, hst, endRead, stVoid, stExpired]
  case release =>
    intro s id c r hc hl hfn hr hchecks ht
    rw [exec_ledgerRelease, serve_onLooked hc hl, ledgerRelease_of_none hfn hr hchecks ht]
    refine ⟨fun hlo hhi hgen => ?_, fun hlo hhi hgen => ?_, fun hst => ?_⟩
    · rw [if_pos ⟨hlo, hhi⟩, releaseRec_of_free hr hgen]
    · rw [if_pos ⟨hlo, hhi⟩, releaseRec_of_worn hr hgen]
    · simp [hst, endRead, stFree]
  case unlisted =>
    intro s id c hc hl hfn hq
    rw [exec_ledgerRelease, serve_onLooked hc hl, ledgerRelease_of_denied hfn (.inl hq)]
  case unapproved =>
    intro s id c q hc hl hfn _ ha
    rw [exec_ledgerRelease, serve_onLooked hc hl, ledgerRelease_of_denied hfn (.inr ha)]

end Sys2Proof.Machine
end

section
/-! LEDGER_RESERVE: the slot that it takes and the record that it writes (R31, R46, R47, R166). -/

namespace Sys2Proof.Machine

theorem exec_ledgerReserve (id : Nat) (s : State) :
    exec (.ledgerReserve id) s = serve (onCmd 0x10 id ledgerReserve) s := rfl

/-! ### The slot -/

theorem firstGood_of_good {s : State} {n : Nat} (ns : List Nat) (h : slotGood (readSlot false n s) n = true) :
    firstGood (n :: ns) s = (some n, readSlot false n s) := if_pos h

theorem firstGood_of_bad {s : State} {n : Nat} (ns : List Nat) (h : slotGood (readSlot false n s) n = false) :
    firstGood (n :: ns) s = firstGood ns (readSlot false n s) := if_neg (by simp [h])

/-! ### The command -/

section
variable {c : Cmd} {s : State}

/-- R39, R40, R301: days out of order, or a policy without a current key, refuse the reservation. -/
theorem ledgerReserve_of_bad (h : reserveDaysBad s c = true ∨ reserveCurGen s c = 0) :
    ledgerReserve c s = finish c sBadParam [] [] s := if_pos (by simpa using h)

/-- R46: then QUOTA against HELD. -/
theorem ledgerReserve_of_full (hdays : reserveDaysBad s c = false) (hkey : reserveCurGen s c ≠ 0)
    (hquota : (realmRow s c.fn).quota ≤ heldOf s c.fn) : ledgerReserve c s = finish c sQuota [] [] s := by
  rw [ledgerReserve, if_neg (by simp [hdays, hkey]), if_pos hquota]

/-- R47: then the free pool. -/
theorem ledgerReserve_of_room (hdays : reserveDaysBad s c = false) (hkey : reserveCurGen s c ≠ 0)
    (hquota : heldOf s c.fn < (realmRow s c.fn).quota) :
    (∀ slot t, poolPick s = (some slot, t) → ∀ new, new = reservedRec t c (imageAt t slot) (reserveCurGen t c % 256) →
      ∀ u, u = commitImage slot new (cOrigin c) sOk (poolTake slot t) → ledgerReserve c s =
        finish (withJsn c u.1) sOk (leNats 2 slot ++ [wd new 0, wd new 2, wd new 12]) [] u.2) ∧
    (∀ t, poolPick s = (none, t) → ledgerReserve c s = finish c sQuota [] [] t) := by
  rw [ledgerReserve, if_neg (by simp [hdays, hkey]), if_neg (Nat.not_le.mpr hquota)]
  refine ⟨fun slot t ht new hnew u hu => ?_, fun t ht => ?_⟩
  · rw [ht, hu, hnew]
  · rw [ht]

end

/-! ### The record -/

theorem wd_reservedRec (s : State) (c : Cmd) (old : List Word) (kg : Nat) :
    wd (reservedRec s c old kg) 0 = (rGen old + 1) % 65536 ∧ wd (reservedRec s c old kg) 1 = 0x1000 ∧
    wd (reservedRec s c old kg) 3 = (c.fn * 256 + bits (wd c.words 9) 7 0) % 65536 ∧
    wd (reservedRec s c old kg) 12 = (kg * 256 + c.appGen) % 65536 := ⟨rfl, rfl, rfl, rfl⟩

theorem reservedRec_fields {old : List Word} {c : Cmd} {kg : Nat} (s : State) (hgen : rGen old + 1 < 65536)
    (hfn : c.fn < 256) (hkg : kg < 256) (happ : c.appGen < 256) :
    rState (reservedRec s c old kg) = stReserved ∧ rGen (reservedRec s c old kg) = rGen old + 1 ∧
    rRealm (reservedRec s c old kg) = c.fn ∧ rUse (reservedRec s c old kg) = 0 ∧
    rKeyGen (reservedRec s c old kg) = kg ∧ rAppGen (reservedRec s c old kg) = c.appGen := by
  obtain ⟨h0, h1, h3, h12⟩ := wd_reservedRec s c old kg
  have hpolicy : bits (wd c.words 9) 7 0 < 256 := bits_lt _ 7 0
  simp only [rState, rGen, rRealm, rUse, rKeyGen, rAppGen, h1, h3, h12]
  generalize bits (wd c.words 9) 7 0 = policy at hpolicy
  simp only [bits, stReserved]
  refine ⟨by decide, ?_, ?_, by decide, ?_, ?_⟩
  · exact h0.trans (Nat.mod_eq_of_lt hgen)
  all_goals omega

/-- Settles O13: the checks of `ledgerReserve` in their order, `firstGood` along the pool, and the record's words. -/
theorem ledgerReserves : Obligations.LedgerReserves := by
  unfold Obligations.LedgerReserves
  refine ⟨?room, ?full, ?bad, ?pick, fun s n ns => firstGood_of_good ns, fun s n ns => firstGood_of_bad ns,
    fun s c old kg hgen hfn hkg happ => reservedRec_fields s hgen hfn hkg happ⟩
  case room =>
    intro s id c hc hdays hkey hquota
    obtain ⟨hsome, hnone⟩ := ledgerReserve_of_room hdays hkey hquota
    rw [exec_ledgerReserve, serve_onCmd hc]
    exact ⟨fun slot t ht new hnew u hu => by rw [hsome slot t ht new hnew u hu], fun t ht => by rw [hnone t ht]⟩
  case full =>
    intro s id c hc hdays hkey hquota
    rw [exec_ledgerReserve, serve_onCmd hc, ledgerReserve_of_full hdays hkey hquota]
  case bad =>
    intro s id c hc h
    rw [exec_ledgerReserve, serve_onCmd hc, ledgerReserve_of_bad h]
  case pick =>
    exact fun s => ⟨fun n ns h => by rw [poolPick, h], fun h => by rw [poolPick, h]⟩

end Sys2Proof.Machine
end

section
/-! The minute window (R41), and the credential commands (R35, R36, R169, R170, R511). -/

namespace Sys2Proof.Machine

/-! ### The minute window (R41) -/

section
variable {r : List Word} (day m : Nat)

theorem windowTest_of_none (h : rWindow r = false) : windowTest r day m = 0 := by simp [windowTest, h]

/-- A window inside one day. -/
theorem windowTest_of_day (hw : rWindow r = true) (h : rStart r ≤ rEnd r) : windowTest r day m =
    if rStart r ≤ m ∧ m ≤ rEnd r then 0 else if day = rTo r ∧ rEnd r < m then 2 else 1 := by
  simp [windowTest, hw, h]

/-- A window across midnight. -/
theorem windowTest_of_night (hw : rWindow r = true) (h : rEnd r < rStart r) : windowTest r day m =
    if rStart r ≤ m ∨ m ≤ rEnd r then 0 else 1 := by
  simp [windowTest, hw, Nat.not_le.mpr h]

theorem windowTest_cases (r : List Word) : (rWindow r = false) ∨ (rWindow r = true ∧ rStart r ≤ rEnd r) ∨
    (rWindow r = true ∧ rEnd r < rStart r) := by
  rcases Bool.eq_false_or_eq_true (rWindow r) with hw | hw
  · exact .inr ((le_or_gt _ _).imp (⟨hw, ·⟩) (⟨hw, ·⟩))
  · exact .inl hw

theorem windowTest_le_two : windowTest r day m ≤ 2 := by
  rcases windowTest_cases r with hw | ⟨hw, h⟩ | ⟨hw, h⟩
  · rw [windowTest_of_none day m hw]; omega
  · rw [windowTest_of_day day m hw h]; split_ifs <;> omega
  · rw [windowTest_of_night day m hw h]; split_ifs <;> omega

/-- Only after a window of one day, on the record's last day, does the window end the record. -/
theorem windowTest_eq_two_iff : windowTest r day m = 2 ↔
    rWindow r = true ∧ day = rTo r ∧ rStart r ≤ rEnd r ∧ rEnd r < m := by
  rcases windowTest_cases r with hw | ⟨hw, h⟩ | ⟨hw, h⟩
  · simp [windowTest_of_none day m hw, hw]
  · rw [windowTest_of_day day m hw h]
    split_ifs with hin hlast
    · simp; omega
    · simp [hw, h, hlast]
    · simp; omega
  · rw [windowTest_of_night day m hw h]
    split_ifs <;> simp <;> omega

end

/-! ### Steps 5 to 13 of R35 -/

/-- Step 13 decides for a record that passes steps 5 to 12. -/
theorem judgeRecord_of_window {s : State} {c : Cmd} {b : List Byte} {r : List Word} {base day : Nat}
    (hr : r = imageAt s (crSlot b)) (hbase : base = recBase s r) (hday : day = dayE s.clk.cal base)
    (hchecks : slotChecks s c.fn (crSlot b) (crGen b) = none) (hpolicy : crPolicy b = rPolicy r) (hfrom : crFrom b = rFrom r)
    (hto : crTo b = rTo r) (hkey : crKeyGen b = rKeyGen r) (ht : timedOut s r = false)
    (hstate : rState r = stIssued ∨ rState r = stActive ∨ rState r = stUnconfirmed) (hcal : base ≤ s.clk.cal)
    (hended : ended r day = false) (hbegun : begun r day = true) :
    (windowTest r day (minuteE s.clk.cal base) = 1 → judgeRecord s c b = .fail sNotYet true) ∧
    (windowTest r day (minuteE s.clk.cal base) = 2 → judgeRecord s c b = .fail sExpired true) := by
  have hused : rState r ≠ stExhausted := by rcases hstate with h | h | h <;> rw [h] <;> decide
  have hexpired : rState r ≠ stExpired := by rcases hstate with h | h | h <;> rw [h] <;> decide
  subst hr hbase hday
  simp only [judgeRecord, hchecks, hpolicy, hfrom, hto, hkey, ht, hused, hexpired, hstate, hended, hbegun,
    Nat.not_lt.mpr hcal, ne_eq, not_true, or_self, if_false, Bool.false_eq_true, Bool.not_true]
  exact ⟨fun h => by simp only [h], fun h => by simp only [h]⟩

/-- Settles O24: the three kinds of window, and step 13 behind steps 5 to 12. -/
theorem minuteWindow : Obligations.MinuteWindow := by
  unfold Obligations.MinuteWindow
  refine ⟨fun r day m => windowTest_of_none day m, fun r day m hw h => ?_, fun r day m hw h => ?_,
    fun r day m => windowTest_eq_two_iff day m, fun r day m => windowTest_le_two day m, ?_⟩
  · rw [windowTest_of_day day m hw h]
    split_ifs with hin hlast
    · exact iff_of_true rfl hin
    · exact iff_of_false (by decide) hin
    · exact iff_of_false (by decide) hin
  · rw [windowTest_of_night day m hw h]
    split_ifs with hin
    · exact iff_of_true rfl hin
    · exact iff_of_false (by decide) hin
  · intro s c b r base day hr hbase hday hchecks hpolicy hfrom hto hkey ht hstate hcal hended hbegun
    exact judgeRecord_of_window hr hbase hday hchecks hpolicy hfrom hto hkey ht hstate hcal hended hbegun

/-! ### The rows of the credential commands -/

theorem exec_issue (id : Nat) (s : State) : exec (.issue id) s = serve (onLooked 0x20 id issueEnd) s := rfl
theorem exec_validate (id : Nat) (s : State) : exec (.validate id) s = serve (onLooked 0x21 id validateEnd) s := rfl
theorem exec_validateConsume (id : Nat) (s : State) :
    exec (.validateConsume id) s = serve (onLooked 0x22 id validateEnd) s := rfl
theorem exec_revalidate (id : Nat) (s : State) : exec (.revalidate id) s = serve (onLooked 0x23 id validateEnd) s := rfl
theorem exec_ledgerApply (id : Nat) (s : State) : exec (.ledgerApply id) s = serve (ledgerApply id) s := rfl

theorem Admitted.op {s : State} {op id : Nat} {c : Cmd} (h : Admitted s op id c) : cOp c = op := by
  obtain ⟨_, _, _, hop, _⟩ := h
  exact hop

/-- LEDGER_APPLY acts on a command whose stages are complete. -/
theorem serve_ledgerApply_issue {s : State} {id : Nat} {c : Cmd} (h : Admitted s 0x20 id c) (hstep : c.step = 1) :
    serve (ledgerApply id) s = .next (settle (issueApply c s)) := by
  obtain ⟨halive, hrun, hcmd, hop, _⟩ := h
  rw [serve_alive halive]
  simp [ledgerApply, hcmd, hrun, hstep, hop]

theorem serve_ledgerApply_consume {s : State} {id : Nat} {c : Cmd} (h : Admitted s 0x22 id c) (hstep : c.step = 1) :
    serve (ledgerApply id) s = .next (settle (consumeApply c s)) := by
  obtain ⟨halive, hrun, hcmd, hop, _⟩ := h
  rw [serve_alive halive]
  simp [ledgerApply, hcmd, hrun, hstep, hop]

/-! ### VALIDATE, VALIDATE_CONSUME and REVALIDATE -/

section
variable {c : Cmd} {s : State} {b : List Byte}

theorem checksDone_of_done {ok : Bool} {x : List Byte} (hl : c.lookupDone = true) (hb : credOf c = some b)
    (hwork : c.work = .done false ok x) : checksDone c = some (b, ok) := by
  simp [checksDone, hl, hb, hwork]

/-- R35: a credential whose authenticator is wrong, its form and realm right. -/
theorem validateEnd_of_badMac {x : List Byte} (hl : c.lookupDone = true) (hb : credOf c = some b)
    (hwork : c.work = .done false false x) (hstep : c.step = 0) (hjob : c.job ≠ .ended .lockBroken)
    (hform : credFormBad c b = false) (hrealm : crRealm b = c.fn) :
    validateEnd c s = finish c sMacMismatch [] [] s := by
  simp [validateEnd, checksDone_of_done hl hb hwork, hstep, hjob, credHeadBad, hform, hrealm]

/-- R35, R169: a credential that passes every check ends with its verdict, but for one that VALIDATE_CONSUME is to
consume. -/
theorem validateEnd_of_pass {r : List Word} {v : Nat} {a : Option (Nat × Nat)} (hl : c.lookupDone = true)
    (hb : credOf c = some b) (hwork : ∃ x, c.work = .done false true x) (hstep : c.step = 0)
    (hjob : c.job ≠ .ended .lockBroken) (hhead : credHeadBad c b true = none) (hr : r = imageAt s (crSlot b))
    (hpass : judgeRecord s c b = .pass) (hv : verdictOf s c r = .done v a) :
    validateEnd c s = if cOp c = 0x22 ∧ bit v 15 = false then setCmd { c with step := 1 } s
      else finish (needs c (imageFrame s (crSlot b))) sOk (valWords r v) [] s := by
  obtain ⟨x, hwork⟩ := hwork
  subst hr
  simp [validateEnd, checksDone_of_done hl hb hwork, hstep, hjob, hhead, hpass, hv, validateStop]

end

/-! ### LEDGER_APPLY of a VALIDATE_CONSUME (R36, R511) -/

/-- A change that VALIDATE_CONSUME commits, and its end. -/
def consumeCommit (c : Cmd) (slot : Nat) (new : List Word) (st v : Nat) (s : State) : State :=
  let u := commitDelta slot new (cOrigin c) st s
  finish (withJsn c u.1) st (valWords (imageAt u.2 slot) v) [] u.2

section
variable {c : Cmd} {s : State} {b : List Byte} {r : List Word} (hdone : checksDone c = some (b, true))
  (hjob : c.job ≠ .ended .lockBroken)
include hdone hjob

theorem consumeApply_of_expire (h : judgeRecord s c b = .expire) (hr : r = imageAt s (crSlot b)) : consumeApply c s =
    consumeCommit c (crSlot b) (setW (setState r stExpired) 10 (sourceWord (cOrigin c))) sExpired 0 s := by
  subst hr; simp only [consumeApply, hdone, if_neg hjob, h]; rfl

theorem consumeApply_of_timeout (h : judgeRecord s c b = .timeout) (hr : r = imageAt s (crSlot b)) : consumeApply c s =
    if otherLeft s = 0 then s
    else consumeCommit c (crSlot b) (voidRec r (cOrigin c)) sSlotState 0 (useOther 1 s) := by
  subst hr; simp only [consumeApply, hdone, if_neg hjob, h]; rfl

theorem consumeApply_of_fail {st : Nat} {shown : Bool} (h : judgeRecord s c b = .fail st shown)
    (hr : r = imageAt s (crSlot b)) :
    consumeApply c s = validateStop c b st (if shown = true then valWords r 0 else []) s := by
  subst hr; simp only [consumeApply, hdone, if_neg hjob, h]

theorem consumeApply_of_stop {st : Nat} (h : judgeRecord s c b = .pass) (hr : r = imageAt s (crSlot b))
    (hv : verdictOf s c r = .stop st) : consumeApply c s = validateStop c b st (valWords r 0) s := by
  subst hr; simp only [consumeApply, hdone, if_neg hjob, h, hv]

/-- A verdict with bit 15 consumes nothing. -/
theorem consumeApply_of_declined {v : Nat} {a : Option (Nat × Nat)} (h : judgeRecord s c b = .pass)
    (hr : r = imageAt s (crSlot b)) (hv : verdictOf s c r = .done v a) (hbit : bit v 15 = true) :
    consumeApply c s = validateStop c b sOk (valWords r v) s := by
  subst hr; simp only [consumeApply, hdone, if_neg hjob, h, hv, hbit, if_true]

/-- Any other verdict does, with the APP_DATA of the applet's intent where it gives one. -/
theorem consumeApply_of_consumed {v : Nat} (h : judgeRecord s c b = .pass) (hr : r = imageAt s (crSlot b))
    (hbit : bit v 15 = false) :
    (verdictOf s c r = .done v none → consumeApply c s = consumeCommit c (crSlot b) (consumed s c r) sOk v s) ∧
    (∀ lo hi, verdictOf s c r = .done v (some (lo, hi)) → consumeApply c s =
      consumeCommit c (crSlot b) (setW (setW (consumed s c r) 13 lo) 14 hi) sOk v s) := by
  subst hr
  refine ⟨fun hv => ?_, fun lo hi hv => ?_⟩ <;>
    (simp only [consumeApply, hdone, if_neg hjob, h, hv, hbit, Bool.false_eq_true, if_false]; rfl)

end

/-! ### ISSUE (R170, R181, R182) -/

section
variable {c : Cmd} {s : State}

theorem issueEnd_of_stop {st : Nat} {rs : List Nat} (hl : c.lookupDone = true) (hin : inReady c = true)
    (hstep : c.step = 0) (h : issuePlan s c = .stop st rs) :
    issueEnd c s = finish (needs c (imageFrame s (pSlot c.words))) st rs [] s := by
  simp [issueEnd, hl, hin, hstep, h]

theorem issueEnd_of_emit {bl : List Nat} {cr : List Byte} (hl : c.lookupDone = true) (hin : inReady c = true)
    (hstep : c.step = 0) (h : issuePlan s c = .emit bl cr) : issueEnd c s = setCmd { c with step := 1 } s := by
  simp [issueEnd, hl, hin, hstep, h]

theorem issueApply_of_stop {st : Nat} {rs : List Nat} (h : issuePlan s c = .stop st rs) :
    issueApply c s = finish (needs c (imageFrame s (pSlot c.words))) st rs [] s := by simp only [issueApply, h]

/-- A change that ends an ISSUE without an emission, and its end. -/
def issueVoid (c : Cmd) (st : Nat) (r : List Word) (s : State) : State :=
  let u := commitDelta (pSlot c.words) (voidRec r (cOrigin c)) (cOrigin c) st s
  finish (withJsn c u.1) st (issueWords (imageAt u.2 (pSlot c.words)) 0 0) [] u.2

theorem issueApply_of_void {st : Nat} (h : issuePlan s c = .void st) :
    issueApply c s = issueVoid c st (imageAt s (pSlot c.words)) s := by simp only [issueApply, h]; rfl

theorem issueApply_of_timeout (h : issuePlan s c = .timeout) : issueApply c s =
    if otherLeft s = 0 then s else issueVoid c sSlotState (imageAt s (pSlot c.words)) (useOther 1 s) := by
  simp only [issueApply, h]; rfl

/-- An emission to a lane waits for its frame (R366). -/
theorem issueApply_of_lane {bl : List Nat} {cr : List Byte} {l : Nat} (h : issuePlan s c = .emit bl cr)
    (hlane : laneOf c.words = some l) : issueApply c s = s := by simp [issueApply, h, hlane]

theorem issueApply_of_host {bl : List Nat} {cr : List Byte} {u : Nat × State} (h : issuePlan s c = .emit bl cr)
    (hlane : laneOf c.words = none)
    (hu : u = commitDelta (pSlot c.words) (appData (imageAt s (pSlot c.words)) bl) (cOrigin c) sOk s) :
    issueApply c s = finish (withJsn c u.1) sOk
      (issueWords (imageAt u.2 (pSlot c.words)) (issueOut c (imageAt s (pSlot c.words)) bl cr).length 0)
      (outTo c (b2n (pHasIn c.words)) (issueOut c (imageAt s (pSlot c.words)) bl cr)) u.2 := by
  subst hu
  simp only [issueApply, h, hlane, Option.isSome_none, Bool.false_eq_true, if_false]

end

/-- Settles O14: each row on its admitted command, in the case that the checks, the verdict or the plan give. -/
theorem credentialCommands : Obligations.CredentialCommands := by
  unfold Obligations.CredentialCommands
  refine ⟨?passed, ?badMac, ?consume, ?issueStop, ?issueEmit, ?issueHost, ?consumeAgain, ?issueAgain⟩
  case passed =>
    intro s id c b hl hb hwork hstep hjob hhead r hr hpass v a hv
    have hend := validateEnd_of_pass hl hb hwork hstep hjob hhead hr hpass hv
    refine ⟨fun hc => ?_, fun hc => ?_, fun hc hbit => ?_, fun hc hbit => ?_⟩
    · rw [exec_validate, serve_onLooked hc hl, hend, if_neg (by simp [hc.op])]
    · rw [exec_revalidate, serve_onLooked hc hl, hend, if_neg (by simp [hc.op])]
    · rw [exec_validateConsume, serve_onLooked hc hl, hend, if_neg (by simp [hbit])]
    · rw [exec_validateConsume, serve_onLooked hc hl, hend, if_pos ⟨hc.op, hbit⟩]
  case badMac =>
    intro s id c b x hl hb hwork hstep hjob hform hrealm
    have hend := validateEnd_of_badMac (s := s) hl hb hwork hstep hjob hform hrealm
    refine ⟨fun hc => ?_, fun hc => ?_, fun hc => ?_⟩
    · rw [exec_validate, serve_onLooked hc hl, hend]
    · rw [exec_validateConsume, serve_onLooked hc hl, hend]
    · rw [exec_revalidate, serve_onLooked hc hl, hend]
  case consume =>
    rintro s id c b hc hstep hl hb ⟨x, hwork⟩ hjob hpass v hv hbit u rfl
    rw [exec_ledgerApply, serve_ledgerApply_consume hc hstep,
      (consumeApply_of_consumed (checksDone_of_done hl hb hwork) hjob hpass rfl hbit).1 hv]
    rfl
  case issueStop =>
    intro s id c st rs hc hl hin hstep h
    rw [exec_issue, serve_onLooked hc hl, issueEnd_of_stop hl hin hstep h]
  case issueEmit =>
    intro s id c bl cr hc hl hin hstep h
    rw [exec_issue, serve_onLooked hc hl, issueEnd_of_emit hl hin hstep h]
  case issueHost =>
    intro s id c bl cr hc hstep h hlane u hu
    rw [exec_ledgerApply, serve_ledgerApply_issue hc hstep, issueApply_of_host h hlane hu]
  case consumeAgain =>
    rintro s id c b r hc hstep hl hb ⟨x, hwork⟩ hjob hr
    have hdone := checksDone_of_done hl hb hwork
    rw [exec_ledgerApply, serve_ledgerApply_consume hc hstep]
    refine ⟨fun st shown h => ?_, fun u h hu => ?_, fun u h hleft hu => ?_, fun h hleft => ?_, fun v a h hv hbit => ?_,
      fun v lo hi u h hv hbit hu => ?_, fun st h hv => ?_⟩
    · rw [consumeApply_of_fail hdone hjob h hr]; rfl
    · rw [consumeApply_of_expire hdone hjob h hr, hu]; rfl
    · rw [consumeApply_of_timeout hdone hjob h hr, if_neg hleft.ne', hu]; rfl
    · rw [consumeApply_of_timeout hdone hjob h hr, if_pos hleft]
    · rw [consumeApply_of_declined hdone hjob h hr hv hbit]; rfl
    · rw [(consumeApply_of_consumed hdone hjob h hr hbit).2 lo hi hv, hu]; rfl
    · rw [consumeApply_of_stop hdone hjob h hr hv]; rfl
  case issueAgain =>
    intro s id c hc hstep
    rw [exec_ledgerApply, serve_ledgerApply_issue hc hstep]
    refine ⟨fun st rs h => ?_, fun u h hleft hu => ?_, fun h hleft => ?_, fun st u h hu => ?_, fun bl cr l h hlane => ?_⟩
    · rw [issueApply_of_stop h]
    · rw [issueApply_of_timeout h, if_neg hleft.ne', hu]; rfl
    · rw [issueApply_of_timeout h, if_pos hleft]
    · rw [issueApply_of_void h, hu]; rfl
    · rw [issueApply_of_lane h hlane]

end Sys2Proof.Machine
end

section
/-! Lookups, held replies and the reply writer (R29, R149, R150, R152, R162, R446, R447). -/

namespace Sys2Proof.Machine

/-! ### The rows of lookups and replies -/

theorem exec_lookupRelease (dt id : Nat) (f : List Nat) (s : State) :
    exec (.lookupRelease dt id f) s = lapseServe dt (lookupRelease id f) s := rfl
theorem exec_noncommitReplyRelease (dt : Nat) (s : State) :
    exec (.noncommitReplyRelease dt) s = .next (settle (releaseHeld false (passTime dt s))) := rfl
theorem exec_keyUpdateReplyRelease (dt : Nat) (s : State) :
    exec (.keyUpdateReplyRelease dt) s = .next (settle (releaseHeld true (passTime dt s))) := rfl
theorem exec_replyWrite (s : State) : exec .replyWrite s = .next (settle (replyPass s)) := rfl

/-! ### Lookups (R29, R446) -/

section
variable {s : State} {id t : Nat} {c : Cmd} (f : List Nat) (hcmd : cmdOf s id = some c) (hat : c.lookupAt = some t)
include hcmd hat

theorem lookupRelease_of_due (hrun : s.jn.stopped = false) (hundone : c.lookupDone = false) (hdue : t + 3 ≤ s.now) :
    lookupRelease id f s = setCmd { c with lookupDone := true } ((cmdSlots c).foldl (fun u n => lookSlot f n u) s) := by
  simp [lookupRelease, hcmd, hat, hrun, hundone, Nat.not_lt.mpr hdue]

theorem lookupRelease_of_early (hearly : s.now < t + 3) : lookupRelease id f s = s := by
  simp [lookupRelease, hcmd, hat, hearly]

end

/-- An activity that changes nothing leaves the end of the command alone. -/
theorem serve_of_unchanged {s : State} {f : State → State} (h : f s = s) : serve f s = .next (settle s) := by
  rw [serve, h, ite_self]

/-! ### Held replies (R446, R447) -/

/-- One held reply at its instant. -/
def releaseOne (now : Nat) (r : Reply) : Reply := { r with held := !(r.relAt.any (fun t => decide (t ≤ now))) }

/-- A reply that a condition releases. -/
theorem release_ite {r : Reply} (hheld : r.held = true) (p : Bool) :
    (if p then { r with held := false } else r) = { r with held := !p } := by
  cases p with
  | true => rfl
  | false => exact (congrArg (fun b => { r with held := b }) hheld :)

section
variable {s : State} {r : Reply} {k : Bool} (hr : s.cmds.replies = [r])
include hr

/-- A held reply of the row's kind is released once its instant has come. -/
theorem releaseHeld_of_kind (hheld : r.held = true) (hkind : (r.opcode == 0x40) = k) :
    releaseHeld k s = { s with cmds := { s.cmds with replies :=
      [{ r with held := !(r.relAt.any (fun t => decide (t ≤ s.now))) }] } } := by
  rw [releaseHeld, hr, List.map_singleton, hheld, hkind, beq_self_eq_true, Bool.true_and, Bool.true_and,
    release_ite hheld]
  refine congrArg (fun b => { s with cmds := { s.cmds with replies := [{ r with held := !b }] } }) ?_
  cases r.relAt <;> rfl

/-- One of the other kind is not. -/
theorem releaseHeld_of_other (hkind : (r.opcode == 0x40) ≠ k) : releaseHeld k s = s := by
  rw [releaseHeld, hr, List.map_singleton, beq_eq_false_iff_ne.mpr hkind, Bool.and_false, Bool.false_and,
    if_neg (by decide), ← hr]

end

/-! ### The reply writer (R149, R150, R152, R162) -/

section
variable {s : State} {r : Reply}

/-- A reply that may be written is written, and its vector's message follows unless it is a silent OK. -/
theorem replyPass_of_ready (hr : s.cmds.replies = [r]) (hready : replyReady s r = true) : replyPass s =
    if r.silentOk = true ∧ r.status = sOk then writeReply r s
    else msixSend r.fn (getPair s r.fn r.pair).vector (writeReply r s) := by
  have hfilter : s.cmds.replies.filter (replyReady s) = [r] := by simp [hr, hready]
  simp only [replyPass, hfilter, List.foldl_cons, List.foldl_nil, insReply]
  split_ifs with hquiet
  · have hnone : [r].filter (fun r => !(r.silentOk && r.status == sOk)) = [] := by simp [hquiet]
    rw [hnone]; rfl
  · have hone : [r].filter (fun r => !(r.silentOk && r.status == sOk)) = [r] :=
      List.filter_eq_self.mpr fun x hx => by
        rw [List.mem_singleton.mp hx]; simpa [imp_iff_not_or] using hquiet
    rw [hone]; rfl

theorem replyPass_of_none_ready (h : ∀ r ∈ s.cmds.replies, replyReady s r = false) : replyPass s = s := by
  have hnone : s.cmds.replies.filter (replyReady s) = [] := List.filter_eq_nil_iff.mpr fun r hr => by simp [h r hr]
  simp [replyPass, hnone]

/-- R138: a reply of no command counts in no peak. -/
theorem notePeak_of_head (hid : r.id = none) : notePeak r s = s := if_pos (by simp [hid])

end

/-- Settles O32: the cases of `lookupRelease` by the lookup's instant, of `releaseHeld` by the reply's opcode, and of one
pass of the reply writer over one reply. -/
theorem releaseInstants : Obligations.ReleaseInstants := by
  unfold Obligations.ReleaseInstants
  refine ⟨?due, ?early, ?held, ?heldKey, ?written, ?silent, ?waiting, ?entry⟩
  case due =>
    intro s dt id c t f halive hcmd hat hrun hundone hdue
    rw [exec_lookupRelease, lapseServe_alive halive, lookupRelease_of_due f hcmd hat hrun hundone hdue]
  case early =>
    intro s dt id c t f hcmd hat hearly
    exact serve_of_unchanged (lookupRelease_of_early f hcmd hat hearly)
  case held =>
    intro s dt r hr hheld hop
    rw [exec_noncommitReplyRelease, exec_keyUpdateReplyRelease,
      releaseHeld_of_kind hr hheld (beq_eq_false_iff_ne.mpr hop), releaseHeld_of_other hr (by simp [hop])]
    exact ⟨rfl, rfl⟩
  case heldKey =>
    intro s dt r hr hheld hop
    rw [exec_noncommitReplyRelease, exec_keyUpdateReplyRelease,
      releaseHeld_of_kind hr hheld (beq_iff_eq.mpr hop), releaseHeld_of_other hr (by simp [hop])]
    exact ⟨rfl, rfl⟩
  case written =>
    intro s r hr hready hloud
    rw [exec_replyWrite, replyPass_of_ready hr hready, if_neg (by simp [hloud])]
  case silent =>
    intro s r hr hready hquiet hok
    rw [exec_replyWrite, replyPass_of_ready hr hready, if_pos ⟨hquiet, hok⟩]
  case waiting =>
    intro s h
    rw [exec_replyWrite, replyPass_of_none_ready h]
  case entry =>
    intro s r hid hloud houts
    simp only [writeReply, notePeak_of_head hid, houts, List.foldl_nil, hloud, Bool.false_eq_true, false_and, if_false,
      decide_eq_true_eq]
    rfl

end Sys2Proof.Machine
end

section
/-! The hold timer, the expiry sweep and the prefetch (R38, R45, R47, R127, R128). -/

namespace Sys2Proof.Machine

/-! ### The rows of the ledger's timers -/

theorem exec_holdTimerExpiry (dt slot : Nat) (s : State) :
    exec (.holdTimerExpiry dt slot) s = lapseServe dt (holdTimer slot) s := rfl
theorem exec_expirySweep (dt : Nat) (failed : Bool) (s : State) :
    exec (.expirySweep dt failed) s = lapseServe dt (sweepOne failed) s := rfl
theorem exec_freePoolPrefetch (failed : Bool) (s : State) :
    exec (.freePoolPrefetch failed) s = serve (prefetchOne failed) s := rfl

/-! ### The internal reserve (R127) -/

theorem lookupLeft_eq_true {s : State} : lookupLeft s = true ↔ (s.led.reserveAt = s.now → s.led.reserveUsed < 16) := by
  simp [lookupLeft, imp_iff_not_or]

theorem lookupLeft_eq_false {s : State} : lookupLeft s = false ↔ s.led.reserveAt = s.now ∧ 16 ≤ s.led.reserveUsed := by
  simp [lookupLeft]

/-! ### The hold timer (R38) -/

section
variable {s : State} {slot : Nat}

theorem holdTimer_of_timedOut (hrun : s.jn.stopped = false) (hhold : s.glb.holdupOk = true) (hservice : s.glb.service = 2)
    (hslot : slot ∈ s.led.hold) (ht : timedOut s (imageAt s slot) = true) (htick : s.jn.tickOther < 40)
    (hleft : s.led.reserveAt = s.now → s.led.reserveUsed < 16) {u : State} (hu : u = readSlot false slot (useLookup s)) :
    holdTimer slot s = if slotGood u slot = true then (applyTimeout slot (.internal 1) 0 u).2 else u := by
  have hplace : otherLeft s ≠ 0 := fun h => absurd (otherLeft_eq_zero.mp h) (Nat.not_le.mpr htick)
  subst hu
  simp [holdTimer, hrun, hhold, hservice, hslot, hplace, lookupLeft_eq_true.mpr hleft, ht, svReady]

theorem holdTimer_of_spent (h : 40 ≤ s.jn.tickOther ∨ (s.led.reserveAt = s.now ∧ 16 ≤ s.led.reserveUsed)) :
    holdTimer slot s = s := by
  rcases h with htick | hused
  · simp [holdTimer, otherLeft_eq_zero.mpr htick]
  · simp [holdTimer, lookupLeft_eq_false.mpr hused]

theorem holdTimer_of_running (h : timedOut s (imageAt s slot) = false) : holdTimer slot s = s := by
  simp [holdTimer, h]

end

/-! ### The expiry sweep (R45) -/

section
variable {s : State} {failed : Bool}

theorem sweepOne_of_spent (h : s.led.reserveAt = s.now ∧ 16 ≤ s.led.reserveUsed) : sweepOne failed s = s := by
  simp [sweepOne, lookupLeft_eq_false.mpr h]

variable {u v : State} (hrun : s.jn.stopped = false) (hservice : s.glb.service = 2)
  (hleft : s.led.reserveAt = s.now → s.led.reserveUsed < 16) (hquar : quarOf s s.led.sweep = none)
  (hu : u = readSlot failed s.led.sweep (useLookup s))
  (hv : v = { u with led := { u.led with sweep := (s.led.sweep + 1) % 33554432 } })
include hrun hservice hleft hquar hu hv

/-- A record that is not good is left behind. -/
theorem sweepOne_of_bad (hbad : slotGood u s.led.sweep = false) : sweepOne failed s = v := by
  subst hu hv
  simp [sweepOne, hrun, hservice, svReady, lookupLeft_eq_true.mpr hleft, hquar, hbad, slotCount]

/-- A good record is left behind where nothing of it has passed. -/
theorem sweepOne_of_unchanged (hgood : slotGood u s.led.sweep = true)
    (h : sweepChange u (imageAt u s.led.sweep) = none) : sweepOne failed s = v := by
  subst hu hv
  simp [sweepOne, hrun, hservice, svReady, lookupLeft_eq_true.mpr hleft, hquar, hgood, h, slotCount]

/-- And is changed where something has, in a tick that takes the entry. -/
theorem sweepOne_of_change {new : List Word} (hgood : slotGood u s.led.sweep = true)
    (h : sweepChange u (imageAt u s.led.sweep) = some new) : sweepOne failed s =
      if u.jn.tickOther < 40 then (commitDelta s.led.sweep new (.internal 0) 0 (useOther 1 v)).2 else u := by
  have hplace : u.jn.tickOther < 40 ↔ ¬ otherLeft u = 0 := by rw [otherLeft_eq_zero, Nat.not_le]
  subst hu hv
  simp only [sweepOne, hrun, hservice, svReady, lookupLeft_eq_true.mpr hleft, hquar, hgood, h, slotCount, hplace, ite_not,
    Bool.not_true, Bool.or_self, decide_true, Bool.true_or, Bool.false_eq_true, if_false, Option.isSome_none,
    ne_eq, not_true, decide_false]

end

/-- R38: an elapsed timeout is swept to VOID. -/
theorem sweepChange_of_timedOut {s : State} {r : List Word} (h : timedOut s r = true) :
    sweepChange s r = some (voidRec r (.internal 0)) := if_pos h

/-- R40, R45: an ISSUED record past its validity is swept to EXPIRED. -/
theorem sweepChange_of_ended {s : State} {r : List Word} (ht : timedOut s r = false) (hst : rState r = 3)
    (hcal : recBase s r ≤ s.clk.cal) (hended : ended r (dayE s.clk.cal (recBase s r)) = true) :
    sweepChange s r = some (setW (setState r 7) 10 0x8000) := by
  have hlive : rState r = stIssued ∨ rState r = stActive ∨ rState r = stUnconfirmed := .inl hst
  simp only [sweepChange, ht, hlive, hcal, hended, Bool.false_eq_true, if_false, and_self, if_true]
  rfl

theorem sweepChange_of_free {s : State} {r : List Word} (hst : rState r = 0) : sweepChange s r = none := by
  simp [sweepChange, timedOut, hst, stReserved, stUnconfirmed, stIssued, stActive]

/-! ### The prefetch (R47) -/

theorem prefetchOne_of_next {s : State} {failed : Bool} {n : Nat} (hrun : s.jn.stopped = false)
    (hleft : s.led.reserveAt = s.now → s.led.reserveUsed < 16)
    (hnext : (poolFirst 16 s).find? (fun n => !s.led.prefetched.contains n) = some n) {t : State}
    (ht : t = readSlot failed n (useLookup s)) : prefetchOne failed s =
      if slotGood t n = true then { t with led := { t.led with prefetched := t.led.prefetched ++ [n] } } else t := by
  have hn : prefetchNext s = some n := hnext
  subst ht
  simp only [prefetchOne, hrun, lookupLeft_eq_true.mpr hleft, hn, Bool.not_true, Bool.or_self, Bool.false_eq_true, if_false]

theorem prefetchOne_of_read {s : State} {failed : Bool} (h : ∀ n ∈ poolFirst 16 s, n ∈ s.led.prefetched) :
    prefetchOne failed s = s := by
  have hnone : prefetchNext s = none := List.find?_eq_none.mpr fun n hn => by simp [h n hn]
  simp [prefetchOne, hnone]

/-- Settles O42: each row at its instant, in the cases of the reserve that is left and of the record that is read. -/
theorem ledgerTimers : Obligations.LedgerTimers := by
  unfold Obligations.LedgerTimers
  refine ⟨?hold, ?holdRunning, ?sweep, ?sweepSpent, ?prefetch, ?prefetched⟩
  case hold =>
    rintro s dt slot t rfl halive hrun hhold hservice hslot ht
    rw [exec_holdTimerExpiry, lapseServe_alive halive]
    refine ⟨fun htick hleft u hu => ?_, fun hspent => ?_⟩
    · rw [holdTimer_of_timedOut hrun hhold hservice hslot ht htick hleft hu]
    · rw [holdTimer_of_spent hspent]
  case holdRunning =>
    rintro s dt slot t rfl halive ht
    rw [exec_holdTimerExpiry, lapseServe_alive halive, holdTimer_of_running ht]
  case sweep =>
    rintro s dt failed t rfl halive hrun hservice hleft hquar u hu v hv
    rw [exec_expirySweep, lapseServe_alive halive]
    refine ⟨fun hbad => ?_, fun hgood r hr => ⟨fun ht hst hcal hended => ?_, fun ht => ?_, fun hst => ?_⟩⟩
    · rw [sweepOne_of_bad hrun hservice hleft hquar hu hv hbad]
    all_goals subst hr
    · rw [sweepOne_of_change hrun hservice hleft hquar hu hv hgood (sweepChange_of_ended ht hst hcal hended)]
    · rw [sweepOne_of_change hrun hservice hleft hquar hu hv hgood (sweepChange_of_timedOut ht)]
    · rw [sweepOne_of_unchanged hrun hservice hleft hquar hu hv hgood (sweepChange_of_free hst)]
  case sweepSpent =>
    rintro s dt failed t rfl halive hat hused
    rw [exec_expirySweep, lapseServe_alive halive, sweepOne_of_spent ⟨hat, hused⟩]
  case prefetch =>
    intro s failed n halive hrun hleft hnext t ht
    rw [exec_freePoolPrefetch, serve_alive halive, prefetchOne_of_next hrun hleft hnext ht]
  case prefetched =>
    intro s failed halive h
    rw [exec_freePoolPrefetch, serve_alive halive, prefetchOne_of_read h]

end Sys2Proof.Machine
end

section
/-! The frame of the commands that read, compute or speak to the service, and of four that append (R31, R82). -/

namespace Sys2Proof.Machine

/-! ### What a command of this kind changes -/

/-- From s to t entries may have been appended, and of `calm` nothing else changed. -/
def Appends (s t : State) : Prop := calm t = { calm s with jn := t.jn } ∧ t.jn.batches = s.jn.batches

theorem Appends.of_calm {s t : State} (h : calm t = calm s) : Appends s t := by
  have hjn : t.jn = s.jn := congrArg Calm.jn h
  exact ⟨h.trans (by rw [hjn]; rfl), by rw [hjn]⟩

theorem Appends.trans {s t u : State} (h : Appends s t) (k : Appends t u) : Appends s u :=
  ⟨k.1.trans (by rw [h.1]), k.2.trans h.2⟩

theorem appends_closeFrame (b : Bool) (s : State) : Appends s (closeFrame b s) :=
  ⟨by unfold closeFrame; split <;> rfl, closeFrame_batches b s⟩

theorem appends_placeEntry (e : List Word) (s : State) : Appends s (placeEntry e s) :=
  ⟨by rw [placeEntry, calm_count]; simp [count]; rfl, placeEntry_batches e s⟩

theorem appends_append (e : List Word) (s : State) : Appends s (append e s) := by
  rw [append_eq]
  split
  · exact (appends_placeEntry e s).trans (appends_closeFrame false _)
  · exact appends_placeEntry e s

/-- What the frame of these commands keeps. -/
structure Framed (s t : State) : Prop where
  led : t.led = s.led
  fws : t.fws = s.fws
  clk : t.clk = s.clk
  ag : t.ag = s.ag
  pm : t.pm = s.pm
  adm : t.adm = s.adm
  start : t.start = s.start
  now : t.now = s.now
  free : t.free = s.free
  image : ∀ n, imageAt t n = imageAt s n

/-- Where no alarm waits and no lock is held, the end of the command keeps what the command kept. -/
theorem framed_settle {s u : State} (hraised : s.tm.raised = []) (hlocks : NoLocks s) (h : Appends s u) :
    Framed s (settle u) ∧ (settle u).jn = u.jn := by
  obtain ⟨hcalm, hbatches⟩ := h
  have hur : u.tm.raised = [] := (congrArg Calm.raised hcalm :).trans hraised
  have hul : NoLocks u := fun sh => (congrArg (fun c => (mget {} c.shuttles sh).lock) hcalm :).trans (hlocks sh)
  have hend := (undisturbed_settle hur hul).2
  rw [hcalm] at hend
  simp only [calm, Calm.mk.injEq, Board.mk.injEq] at hend
  obtain ⟨⟨_, hnow, hfree, hclk, hag, hfws, hpm, _⟩, hled, hjn, hadm, hstart, _⟩ := hend
  have hview : stackView (settle u) = stackView s := by rw [stackView, hled, hjn, hbatches]; rfl
  exact ⟨⟨hled, hfws, hclk, hag, hpm, hadm, hstart, hnow, hfree, imageAt_congr (by rw [hled]) hview⟩, hjn⟩

/-! ### Rows of these kinds -/

/-- A row that changes nothing of `calm`. -/
def ReadsOnly (i : Instr) : Prop := ∀ s, ∃ u, exec i s = .next (settle u) ∧ calm u = calm s

/-- A row that appends at most. -/
def AppendsOnly (i : Instr) : Prop := ∀ s, ∃ u, exec i s = .next (settle u) ∧ Appends s u

section
variable {i : Instr} {op id : Nat} {f : Cmd → State → State}

theorem onCmd_cases (op id : Nat) (f : Cmd → State → State) (s : State) :
    onCmd op id f s = s ∨ ∃ c, onCmd op id f s = f c s := by
  unfold onCmd
  split
  · split
    · exact .inr ⟨_, rfl⟩
    · exact .inl rfl
  · exact .inl rfl

theorem ReadsOnly.of_onCmd (hf : ∀ c s, calm (f c s) = calm s) (hi : ∀ s, exec i s = serve (onCmd op id f) s) :
    ReadsOnly i := by
  intro s
  refine ⟨_, hi s, ?_⟩
  split
  · rcases onCmd_cases op id f s with h | ⟨c, h⟩ <;> rw [h]
    exact hf c s
  · rfl

theorem ReadsOnly.of_onLooked (hf : ∀ c s, calm (f c s) = calm s) (hi : ∀ s, exec i s = serve (onLooked op id f) s) :
    ReadsOnly i := by
  refine .of_onCmd (fun c s => ?_) hi
  split
  · exact hf c s
  · rfl

theorem AppendsOnly.of_onCmd (hf : ∀ c s, Appends s (f c s)) (hi : ∀ s, exec i s = serve (onCmd op id f) s) :
    AppendsOnly i := by
  intro s
  refine ⟨_, hi s, ?_⟩
  split
  · rcases onCmd_cases op id f s with h | ⟨c, h⟩ <;> rw [h]
    · exact .of_calm rfl
    · exact hf c s
  · exact .of_calm rfl

end

/-! ### The commands that read, compute or speak to the service -/

theorem calm_echo (c : Cmd) (s : State) : calm (echo c s) = calm s := calm_finish ..
theorem calm_getCapability (c : Cmd) (s : State) : calm (getCapability c s) = calm s := calm_finish ..
theorem calm_ledgerRead (c : Cmd) (s : State) : calm (ledgerRead c s) = calm s := by
  unfold ledgerRead; dsimp only; split <;> simp
theorem calm_ledgerGather (c : Cmd) (s : State) : calm (ledgerGather c s) = calm s := by
  unfold ledgerGather; split
  · rfl
  · dsimp only; split <;> simp
theorem calm_txnQuery (c : Cmd) (s : State) : calm (txnQuery c s) = calm s := by
  unfold txnQuery; split
  · rfl
  · split <;> simp
theorem calm_issueEnd (c : Cmd) (s : State) : calm (issueEnd c s) = calm s := by
  unfold issueEnd; split
  · rfl
  · split <;> simp
theorem calm_validateStop (c : Cmd) (b : List Byte) (st : Nat) (rs : List Nat) (s : State) :
    calm (validateStop c b st rs s) = calm s := calm_finish ..
theorem calm_validateEnd (c : Cmd) (s : State) : calm (validateEnd c s) = calm s := by
  unfold validateEnd
  split
  · rfl
  · split
    · rfl
    · dsimp only
      split
      · exact calm_validateStop ..
      · split
        · exact calm_finish ..
        · split
          · exact calm_validateStop ..
          · split <;> simp [validateStop]
          · split <;> simp [validateStop]
          · split
            · rfl
            · exact calm_validateStop ..
            · split <;> simp [validateStop]
theorem calm_cryptoEnd (c : Cmd) (s : State) : calm (cryptoEnd c s) = calm s := by
  unfold cryptoEnd; split
  · split
    · exact calm_finish ..
    · split <;> exact calm_finish ..
  · rfl
theorem calm_keyInfo (c : Cmd) (s : State) : calm (keyInfo c s) = calm s := by
  unfold keyInfo; dsimp only; split
  · exact calm_finish ..
  · split <;> exact calm_finish ..
theorem calm_attest (c : Cmd) (s : State) : calm (attest c s) = calm s := by
  unfold attest; split
  · rfl
  · exact calm_finish ..
theorem calm_appletInfo (c : Cmd) (s : State) : calm (appletInfo c s) = calm s := calm_finish ..
theorem calm_laneStatusCmd (c : Cmd) (s : State) : calm (laneStatusCmd c s) = calm s := calm_finish ..
theorem calm_flushEnd (c : Cmd) (s : State) : calm (flushEnd c s) = calm s := calm_finish ..
theorem calm_serviceEnd (c : Cmd) (s : State) : calm (serviceEnd c s) = calm s := calm_finish ..
theorem calm_compactNow (c : Cmd) (s : State) : calm (compactNow c s) = calm s := calm_finish ..
theorem calm_countersRead (c : Cmd) (s : State) : calm (countersRead c s) = calm s := calm_finish ..
theorem calm_logRead (c : Cmd) (s : State) : calm (logRead c s) = calm s := by
  unfold logRead; dsimp only; split <;> exact calm_finish ..

theorem readsOnly_of_mem (id : Nat) : ∀ i ∈ [Instr.echo id, .getCapability id, .ledgerRead id, .ledgerGather id,
    .txnQuery id, .issue id, .validate id, .revalidate id, .macGenerate id, .macVerify id, .cipher id, .sign id,
    .sigVerify id, .digest id, .keyInfo id, .attest id, .appletInfo id, .laneStatus id, .flush id, .quiesce id, .resume id,
    .logRead id, .countersRead id], ReadsOnly i := by
  simp only [List.forall_mem_cons]
  exact ⟨.of_onCmd calm_echo (exec_echo id), .of_onCmd calm_getCapability (exec_getCapability id),
    .of_onLooked calm_ledgerRead (exec_ledgerRead id), .of_onLooked calm_ledgerGather (exec_ledgerGather id),
    .of_onCmd calm_txnQuery (exec_txnQuery id), .of_onLooked calm_issueEnd (exec_issue id),
    .of_onLooked calm_validateEnd (exec_validate id), .of_onLooked calm_validateEnd (exec_revalidate id),
    .of_onCmd calm_cryptoEnd (exec_macGenerate id), .of_onCmd calm_cryptoEnd (exec_macVerify id),
    .of_onCmd calm_cryptoEnd (exec_cipher id), .of_onCmd calm_cryptoEnd (exec_sign id),
    .of_onCmd calm_cryptoEnd (exec_sigVerify id), .of_onCmd calm_cryptoEnd (exec_digest id),
    .of_onCmd calm_keyInfo (exec_keyInfo id), .of_onCmd calm_attest (exec_attest id),
    .of_onCmd calm_appletInfo (exec_appletInfo id), .of_onCmd calm_laneStatusCmd (exec_laneStatus id),
    .of_onCmd calm_flushEnd (exec_flush id), .of_onCmd calm_serviceEnd (exec_quiesce id),
    .of_onCmd calm_serviceEnd (exec_resume id), .of_onCmd calm_logRead (exec_logRead id),
    .of_onCmd calm_countersRead (exec_countersRead id), by simp⟩

/-! ### The commands that append -/

theorem appends_finish (c : Cmd) (st : Nat) (rs : List Nat) (outs : List (Nat × List Byte)) (s : State) :
    Appends s (finish c st rs outs s) := .of_calm (calm_finish ..)
theorem appends_finish_append (c : Cmd) (st : Nat) (rs : List Nat) (outs : List (Nat × List Byte)) (e : List Word)
    (s : State) : Appends s (finish c st rs outs (append e s)) := (appends_append e s).trans (appends_finish ..)

theorem appends_realmRebase (c : Cmd) (s : State) : Appends s (realmRebase c s) := by
  rw [realmRebase_eq]
  split_ifs
  · exact appends_finish ..
  · exact appends_finish ..
  · exact appends_finish ..
  · exact appends_finish_append ..
theorem appends_appletActivate (c : Cmd) (s : State) : Appends s (appletActivate c s) := by
  unfold appletActivate; dsimp only
  split_ifs
  · exact appends_finish ..
  · exact appends_finish ..
  · exact appends_finish ..
  · exact appends_finish_append ..
theorem appends_modeArm (c : Cmd) (s : State) : Appends s (modeArm c s) := by
  unfold modeArm; dsimp only
  split_ifs
  · exact appends_finish ..
  · exact appends_finish ..
  · exact appends_finish_append ..

theorem appendsOnly_of_mem (id : Nat) :
    ∀ i ∈ [Instr.realmRebase id, .appletActivate id, .modeArm id, .compactNow id], AppendsOnly i := by
  simp only [List.forall_mem_cons]
  exact ⟨.of_onCmd appends_realmRebase (exec_realmRebase id), .of_onCmd appends_appletActivate (exec_appletActivate id),
    .of_onCmd appends_modeArm (exec_modeArm id),
    .of_onCmd (fun c s => .of_calm (calm_compactNow c s)) (exec_compactNow id), by simp⟩

/-- Settles O23: each row changes nothing of `calm`, or appends at most, and the end of the command keeps what the row
kept. -/
theorem ledgerFrame : Obligations.LedgerFrame := by
  unfold Obligations.LedgerFrame
  refine ⟨fun s id i t hraised hlocks hi ht => ?_, fun s id i t hraised hlocks hi ht => ?_⟩
  · obtain ⟨u, hu, hcalm⟩ := readsOnly_of_mem id i hi s
    obtain rfl : t = settle u := Host.Outcome.next.inj (ht.symm.trans hu)
    obtain ⟨h, hjn⟩ := framed_settle hraised hlocks (.of_calm hcalm)
    exact ⟨h.led, hjn.trans (congrArg Calm.jn hcalm), h.fws, h.clk, h.ag, h.pm, h.adm, h.start, h.now, h.free, h.image⟩
  · obtain ⟨u, hu, happends⟩ := appendsOnly_of_mem id i hi s
    obtain rfl : t = settle u := Host.Outcome.next.inj (ht.symm.trans hu)
    obtain ⟨h, _⟩ := framed_settle hraised hlocks happends
    exact ⟨h.led, h.fws, h.clk, h.ag, h.pm, h.adm, h.start, h.now, h.free, h.image⟩

end Sys2Proof.Machine
end
